-- ==== Sys2Proof/Word.lean ====
section
/-! DEFINITION. The word and byte types of the block, and their plainest arithmetic. -/

namespace Sys2Proof

/-- A register word: every register is 32 bits wide (scope chapter, "Registers and fields"). -/
abbrev Word := BitVec 32

/-- A byte of slot memory, of a frame or of a record. -/
abbrev Byte := BitVec 8

/-- A word from a natural number, modulo 2^32. -/
def w32 (n : Nat) : Word := BitVec.ofNat 32 n

end Sys2Proof
end

