-- ==== Sys2Proof/Machine/Table.lean ====
section
/-! DEFINITION. Sparse tables in one canonical form (keys strictly rising, no entry equal to what an unlisted key reads as), and the bit-field, sign and rounding helpers the meanings share. -/

namespace Sys2Proof.Machine

/-- A sparse table: what an unlisted key reads as is the argument `d` of the operations. -/
abbrev Tbl (α : Type) := List (Nat × α)

/-- The value at key `k`: the listed one, or the default `d k`. -/
def tget {α : Type} (d : Nat → α) : Tbl α → Nat → α
  | [], k => d k
  | (k', v) :: t, k => if k' = k then v else tget d t k

/-- The table without key `k`. -/
def terase {α : Type} : Tbl α → Nat → Tbl α
  | [], _ => []
  | (k', v) :: t, k => if k' = k then terase t k else (k', v) :: terase t k

/-- The table with the entry `(k, v)` put before the first larger key. -/
def tins {α : Type} : Tbl α → Nat → α → Tbl α
  | [], k, v => [(k, v)]
  | (k', v') :: t, k, v => if k < k' then (k, v) :: (k', v') :: t else (k', v') :: tins t k v

/-- The table with key `k` set to `v`; a value equal to the default leaves no entry. -/
def tset {α : Type} [DecidableEq α] (d : Nat → α) (t : Tbl α) (k : Nat) (v : α) : Tbl α :=
  if v = d k then terase t k else tins (terase t k) k v

/-- The table without the keys of `[lo, lo + n)`: that range reads as its defaults. -/
def teraseRange {α : Type} : Tbl α → Nat → Nat → Tbl α
  | [], _, _ => []
  | (k, v) :: t, lo, n => if lo ≤ k ∧ k < lo + n then teraseRange t lo n else (k, v) :: teraseRange t lo n

/-- Every key is above `b` and the keys rise strictly. -/
def trising {α : Type} : Tbl α → Option Nat → Bool
  | [], _ => true
  | (k, _) :: t, b => (match b with | none => true | some x => decide (x < k)) && trising t (some k)

/-- The canonical form: strictly rising keys and no entry equal to the default. -/
def twf {α : Type} [DecidableEq α] (d : Nat → α) (t : Tbl α) : Bool :=
  trising t none && t.all (fun p => !decide (p.2 = d p.1))

/-- The bits `[lo + w - 1 : lo]` of a word. -/
def getBits (x : Word) (lo w : Nat) : Nat := x.toNat / 2 ^ lo % 2 ^ w

/-- The word `x` with the bits `[lo + w - 1 : lo]` replaced by `v`. -/
def putBits (x : Word) (lo w v : Nat) : Word :=
  BitVec.ofNat 32 (x.toNat / 2 ^ (lo + w) * 2 ^ (lo + w) + v % 2 ^ w * 2 ^ lo + x.toNat % 2 ^ lo)

/-- The natural number `n`, taken modulo 2^w, as a two's complement number. -/
def sgn (w n : Nat) : Int := if n % 2 ^ w < 2 ^ (w - 1) then (n % 2 ^ w : Nat) else (n % 2 ^ w : Nat) - (2 ^ w : Nat)

/-- The two's complement bits of an integer in width `w`. -/
def usg (w : Nat) (i : Int) : Nat := (i % (2 ^ w : Nat)).toNat

/-- round(n / d) of R138: floor(x + 1/2); 0 for d = 0. -/
def roundDiv (n d : Nat) : Nat := (2 * n + d) / (2 * d)

/-- round(n / d) for an integer numerator. -/
def roundDivI (n : Int) (d : Nat) : Int := (2 * n + d) / (2 * d)

/-- clamp(x, lo, hi). -/
def clampI (x lo hi : Int) : Int := if x < lo then lo else if hi < x then hi else x

/-- The absolute value. -/
def absI (x : Int) : Nat := x.natAbs

/-- sign(x). -/
def signI (x : Int) : Int := if x < 0 then -1 else if x = 0 then 0 else 1

/-- Bit `i` of a natural number. -/
def bitOf (n i : Nat) : Bool := n / 2 ^ i % 2 == 1

/-- `n` with bit `i` set. -/
def bitSet (n i : Nat) : Nat := if bitOf n i then n else n + 2 ^ i

/-- `n` with bit `i` cleared. -/
def bitClr (n i : Nat) : Nat := if bitOf n i then n - 2 ^ i else n

/-- `n` with bit `i` written. -/
def bitPut (n i : Nat) (b : Bool) : Nat := if b then bitSet n i else bitClr n i

/-- The number of set bits among the lowest `w` bits. -/
def popcount (n : Nat) : Nat → Nat
  | 0 => 0
  | w + 1 => popcount n w + (if bitOf n w then 1 else 0)

/-- 1 for true, 0 for false. -/
def b2n (b : Bool) : Nat := if b then 1 else 0

/-- The little-endian number of a list of bytes (R27, R214). -/
def leNat : List Byte → Nat
  | [] => 0
  | b :: t => b.toNat + 256 * leNat t

/-- The `n` little-endian bytes of a number. -/
def leBytes : Nat → Nat → List Byte
  | 0, _ => []
  | n + 1, x => BitVec.ofNat 8 x :: leBytes n (x / 256)

/-- `n` bytes of a list from offset `o`; a byte beyond its end reads 0. -/
def slice (l : List Byte) (o : Nat) : Nat → List Byte
  | 0 => []
  | n + 1 => (l.getD o 0) :: slice l (o + 1) n

/-- The little-endian field of `n` bytes at offset `o` of a list of bytes. -/
def fieldLE (l : List Byte) (o n : Nat) : Nat := leNat (slice l o n)

/-- The list with the bytes `v` written from offset `o`. -/
def splice (l : List Byte) (o : Nat) (v : List Byte) : List Byte := l.take o ++ v ++ l.drop (o + v.length)

/-- One step of the CRC-32 of IEEE 802.3 (R214, R288), reflected form. -/
def crcBit (c : Nat) : Nat := if c % 2 = 1 then Nat.xor (c / 2) 0xEDB88320 else c / 2

/-- Eight steps of the CRC-32 over one byte. -/
def crcByte (c : Nat) (b : Byte) : Nat :=
  crcBit (crcBit (crcBit (crcBit (crcBit (crcBit (crcBit (crcBit (Nat.xor c b.toNat))))))))

/-- The frame check sequence of IEEE 802.3 over a list of bytes (R214, R288, R691). -/
def crc32 (l : List Byte) : Word := BitVec.ofNat 32 (Nat.xor (l.foldl crcByte 0xFFFFFFFF) 0xFFFFFFFF)

/-- The indices 0 to n - 1. -/
def upto (n : Nat) : List Nat := List.range n

/-- Insert `x` before the first element that `lt` puts after it; equal elements keep their order of arrival. -/
def insertBy {α : Type} (lt : α → α → Bool) (x : α) : List α → List α
  | [] => [x]
  | y :: t => if lt x y then x :: y :: t else y :: insertBy lt x t

/-- A stable insertion sort. -/
def sortBy {α : Type} (lt : α → α → Bool) (l : List α) : List α := l.foldl (fun acc x => insertBy lt x acc) []

/-- The element at `i` replaced. -/
def listSet {α : Type} : List α → Nat → α → List α
  | [], _, _ => []
  | _ :: t, 0, v => v :: t
  | x :: t, i + 1, v => x :: listSet t i v

/-- The index of the first element with the property. -/
def findIdx {α : Type} (p : α → Bool) : List α → Nat → Option Nat
  | [], _ => none
  | x :: t, i => if p x then some i else findIdx p t (i + 1)

/-- Drop the first element with the property. -/
def dropFirst {α : Type} (p : α → Bool) : List α → List α
  | [] => []
  | x :: t => if p x then t else x :: dropFirst p t

end Sys2Proof.Machine
end

