-- ==== Sys2Proof/Machine/Types.lean ====
section
/-! DEFINITION. The kinds of things the commands carry and the state holds: leg states, frames of the Golrus link, events, messages, codes. -/

namespace Sys2Proof.Machine

/-- The state of a leg (R141). -/
inductive LegState where | off | low | high
deriving DecidableEq, Repr

/-- The code of a leg state in an edge command (R225). -/
def LegState.code : LegState → Nat | .off => 0 | .low => 1 | .high => 2

/-- The leg state of a TARGET code; 3 is reserved (R226). -/
def legStateOf : Nat → Option LegState | 0 => some .off | 1 => some .low | 2 => some .high | _ => none

/-- A port of a node (R20): P faces the preferred slot. -/
inductive Lane where | portP | portQ
deriving DecidableEq, Repr

/-- The two host paths (R672). -/
inductive Path where | spi | lmp
deriving DecidableEq, Repr

/-- The bank of the slot memory (R24). -/
inductive Bank where | bankA | bankB
deriving DecidableEq, Repr

/-- What the module finds of the slot memory of its slot (R23, R65): as R23 asks; no SFDP; less than 128 MiB; every read times out; or reads of one image time out (false: FIRMWARE, true: CONFIG). -/
inductive NvFit where | good | noSfdp | small | silent | badArea (b : Bank) (config : Bool)
deriving DecidableEq, Repr

/-- The operating mode (R66). -/
inductive Mode where | load | hold | charge | run | ride | safe
deriving DecidableEq, Repr

def Mode.code : Mode → Nat | .load => 0 | .hold => 1 | .charge => 2 | .run => 3 | .ride => 4 | .safe => 5
def modeOf : Nat → Option Mode
  | 0 => some .load | 1 => some .hold | 2 => some .charge | 3 => some .run | 4 => some .ride | 5 => some .safe | _ => none

/-- The pair role, in the order of the codes of R502. -/
inductive Role where | out | solo | active | standby
deriving DecidableEq, Repr

/-- The state of a node (table after R269). -/
inductive NState where | init | listen | driven | holdover | safe
deriving DecidableEq, Repr
def NState.code : NState → Nat | .init => 0 | .listen => 1 | .driven => 2 | .holdover => 3 | .safe => 4
def nstateOf : Nat → NState | 0 => .init | 1 => .listen | 2 => .driven | 3 => .holdover | _ => .safe

/-- The state of a link port (R280). -/
inductive PState where | off | down | training | ready | token
deriving DecidableEq, Repr
def PState.code : PState → Nat | .off => 0 | .down => 1 | .training => 2 | .ready => 3 | .token => 4

/-- The cause of an error slot: the rows of the table of R719. -/
inductive SlotError where | code | crc | format
deriving DecidableEq, Repr

/-- The safe forms of a node (R273, R394). -/
inductive Form where | block | bypassLow | bypassHigh
deriving DecidableEq, Repr
def Form.code : Form → Nat | .block => 0 | .bypassLow => 1 | .bypassHigh => 2
def formOf : Nat → Form | 1 => .bypassLow | 2 => .bypassHigh | _ => .block
def Form.leg : Form → LegState | .block => .off | .bypassLow => .low | .bypassHigh => .high

/-- An edge the device has generated (R133, R225): leg code 0 to 6, target, flags, execution time in ft of the device timeline. -/
structure Edge where
  leg : Nat
  tgt : LegState
  prof : Bool
  soft : Bool
  bs : Bool
  fence : Bool
  tExec : Nat
  gen : Nat                    -- no frame that begins before this tick carries it (R233)
  dapp : Nat                   -- applied delay of its port when it was generated, ft (R246)
deriving DecidableEq, Repr

/-- The header of a report frame (R215) and the time-stamp of its start symbol at the reference plane, in 1/16 ft (R243). -/
structure RptHdr where
  seq : Fin 512
  nstate : Fin 8
  obeyedQ : Bool
  timingQ : Bool
  evtPending : Bool
  tArr : Nat
deriving DecidableEq, Repr

/-- An RPT payload (R255): sample time, page, valid mask, term, OFS, error counts, 26 values. -/
structure RptBody where
  sampleTime : Nat
  page : Nat
  valid : Nat
  nodeTerm : Nat
  ofs : Int
  errP : Nat
  errQ : Nat
  values : List Int
deriving DecidableEq, Repr

/-- An echo entry (R259). -/
structure Echo where
  leg : Nat
  state : Nat
  dir : Nat
  bs : Bool
  execErr : Int
  body : Nat
  time : Nat
deriving DecidableEq, Repr

/-- An event entry (R263): code, switch position, leg position, sequence, node time, merged count, eight data bytes. -/
structure EvtEntry where
  code : Nat
  sw : Nat
  leg : Nat
  eseq : Nat
  time : Nat
  count : Nat
  data : List Byte
deriving DecidableEq, Repr

/-- A management message (R283). -/
structure Msg where
  tid : Nat
  op : Nat
  addr : Nat
  len : Nat
  data : List Byte
deriving DecidableEq, Repr

/-- A command frame the device sends (R215, R216, R229 to R231): type, SEQ, token, term, horizon, periods, fence masks, RESUME, side bytes, repeated and new edge words. -/
structure CmdFrame where
  type : Nat
  seq : Nat
  tok : Bool
  term : Nat
  resume : Bool
  fenceNew : Nat
  fenceRep : Nat
  hor : Nat
  perAB : Nat
  perCF : Nat
  sideFirst : Bool
  sideLast : Bool
  side : List Byte
  rep : List Word
  new : List Word
deriving DecidableEq, Repr

/-- A report frame a node sends (R251 to R265). -/
inductive Report where
  | rpt (seq : Nat) (b : RptBody)
  | echo (seq : Nat) (dropped : Nat) (es : List Echo)
  | evt (seq : Nat) (lost : Nat) (es : List EvtEntry)
  | cal (seq : Nat) (ident : List Byte) (counter : Nat) (set : Bool)
deriving DecidableEq, Repr

/-- The kinds of object the consistency check covers (R120, R122), and the sub-objects with an enable of their own (R38). -/
inductive Obj where
  | device | string (i : Nat) | node (i : Nat) | loop (i : Nat) | profile (i : Nat)
  | rg (i : Nat) | aux (i : Nat) | can (i : Nat) | obj (i : Nat) | ptp | tpo (i : Nat) | trace
deriving DecidableEq, Repr

/-- The handle type of an object (R86); 0 for the device and for what has no handle. -/
def Obj.type : Obj → Nat | .string _ => 1 | .node _ => 2 | .loop _ => 3 | .profile _ => 4 | _ => 0
def Obj.idx : Obj → Nat
  | .string i => i | .node i => i | .loop i => i | .profile i => i | .rg i => i | .aux i => i | .can i => i | .obj i => i | .tpo i => i | _ => 0

/-! ### Pair, PTP, CAN and host messages -/

/-- What the peer tells of itself in the identity exchange (R503 step 4): digest of its running CONFIG header, protocol version, SLOT_ID, PREF_N asserted, role, and whether it is the one that joins. -/
structure PeerId where
  digest : BitVec 512
  version : Nat
  slot : Nat
  pref : Bool
  role : Role
  joining : Bool
deriving DecidableEq, Repr

/-- Registers with their values (R179). -/
abbrev SetV := List (Nat × Word)

/-- The dead-time state of a leg as the mirror carries it (R165, R511). -/
structure DtCopy where
  node : Nat
  leg : Nat
  dtPos : Nat
  dtNeg : Nat
  dirHigh : Nat
  dirLow : Nat
deriving DecidableEq, Repr

/-- A fault source as the bulk copy carries it (R526 STATE): state word, ticks left of its open window, kinds with an active cause. -/
structure SrcCopy where
  src : Nat
  word : Word
  win : Option Nat
  causes : List Nat
deriving DecidableEq, Repr

/-- The bulk copy of the join phase STATE and of a resync (R519, R526). -/
structure BulkCopy where
  regs : SetV                  -- configuration windows, state blocks, cell positions
  force : SetV                 -- values in force of class C registers
  slots : SetV                 -- modulation reference slots as the loops write them
  gens : List (Nat × Nat)      -- generations
  occ : List Nat               -- occupied slots
  pend : List (Nat × SetV)     -- pending sets of strings
  lat : List (Nat × SetV)      -- latched sets
  dt : List DtCopy
  srcs : List SrcCopy
  mode : Mode
  cause : Nat
  term : Nat
deriving DecidableEq, Repr

/-- A value of time as the mirror carries it (R526 TIME, R588): tick count, seconds, ns, fraction of 2^-40 ns, addend, FI, time state. -/
structure TimeCopy where
  tick : Nat
  sec : Nat
  ns : Nat
  sub : Nat
  addend : Int
  fi : Int
  state : Nat
  qualified : Bool
deriving DecidableEq, Repr

/-- What ends a join phase (R526). -/
inductive JoinEnd where
  | link
  | ident (p : PeerId)
  | time (t : TimeCopy)
  | cal
  | state (b : BulkCopy)
  | verify
deriving DecidableEq, Repr

/-- A mirrored write or mailbox command (R511). -/
inductive MirrorOp where
  | write (addr : Nat) (v : Word)
  | command (op : Nat) (args : List Word)
deriving DecidableEq, Repr

/-- The header of a PTP message received on an SG port, with its time stamp at J2: time value in 2^-16 ns (R577, R582). -/
structure PtpHdr where
  port : Fin 2
  domain : Nat
  sdo : Nat
  src : BitVec 64
  srcPort : Nat
  seq : Nat
  twoStep : Bool
  corr : Int
  logIntv : Int
  stamp : Nat
deriving DecidableEq, Repr

/-- The data set an Announce carries (R583). -/
structure AnnBody where
  prio1 : Nat
  clockClass : Nat
  accuracy : Nat
  variance : Nat
  prio2 : Nat
  gm : BitVec 64
  steps : Nat
deriving DecidableEq, Repr

/-- A PTP message that the device sends (R583): message type of IEEE 1588-2019, port (2: both), sequence number, body in 2^-16 ns or as given. -/
structure PtpOut where
  type : Nat
  port : Nat
  seq : Nat
  time : Nat
  corr : Int
  ann : Option AnnBody
deriving DecidableEq, Repr

/-- A CAN frame received (R603, R604). -/
structure CanFrame where
  id : Nat
  ide : Bool
  fdf : Bool
  brs : Bool
  esi : Bool
  rtr : Bool
  dlc : Nat
  data : List Byte
deriving DecidableEq, Repr

/-- How an attempt to send ends (R608, R609, R613). `err`: the error code of LEC, whether it arose in the data phase, whether it is a bit error that the transmitter saw after the arbitration field, and whether TEC keeps its value by the exceptions of ISO 11898-1. -/
inductive CanEnd where
  | ok
  | arbLost
  | err (lec : Nat) (dataPhase : Bool) (conflict : Bool) (noTec : Bool)
deriving DecidableEq, Repr

/-- A receive error on a bus (R610): the amount REC rises, or a protocol exception. -/
inductive CanErr where
  | error (lec : Nat) (dataPhase : Bool) (recUp : Nat)
  | exception
deriving DecidableEq, Repr

/-- The answer of a domain agent (R630). -/
inductive AgentAns where | ack | delay (ms : Nat) | refuse (reason : Nat)
deriving DecidableEq, Repr

/-- The sample a node has ready for its next RPT (R255): sample time, valid mask, values. -/
structure Sample where
  time : Nat
  valid : Nat
  values : List Int
deriving DecidableEq, Repr

/-- The header of a datagram in a session, with its tag (R682). -/
structure LmpHdr where
  sess : BitVec 16
  seq : BitVec 32
  tag : BitVec 128
deriving DecidableEq, Repr

/-- The body of an OPEN (R683), and the nonce of the challenge that its sender received. -/
structure LmpOpen where
  nonce : BitVec 256
  slot : Fin 256
  owner : BitVec 256
  x25519 : BitVec 256
  sig : BitVec 512
deriving DecidableEq, Repr

/-- The bytes a DLC stands for, by ISO 11898-1. -/
def dlcLen (dlc : Nat) (fdf : Bool) : Nat :=
  if dlc ≤ 8 then dlc else if !fdf then 8 else match dlc with | 9 => 12 | 10 => 16 | 11 => 20 | 12 => 24 | 13 => 32 | 14 => 48 | _ => 64

/-- The 32-bit word of an edge command (R225, R228), with the applied delay of its generation (R246). -/
def edgeWord (e : Edge) : Word :=
  w32 (e.leg * 2 ^ 29 + e.tgt.code * 2 ^ 27 + b2n e.prof * 2 ^ 26 + b2n e.soft * 2 ^ 25 + b2n e.bs * 2 ^ 24
    + usg 24 ((e.tExec : Int) - e.dapp))

def ewLeg (w : Word) : Nat := getBits w 29 3
def ewTgt (w : Word) : Nat := getBits w 27 2
def ewProf (w : Word) : Bool := getBits w 26 1 == 1
def ewSoft (w : Word) : Bool := getBits w 25 1 == 1
def ewBs (w : Word) : Bool := getBits w 24 1 == 1
def ewTime (w : Word) : Nat := getBits w 0 24

/-- The three header bytes of a command frame (R215). -/
def cmdHeader (f : CmdFrame) : List Byte :=
  [BitVec.ofNat 8 (f.type + 0x10), BitVec.ofNat 8 f.seq, BitVec.ofNat 8 (f.seq / 256 % 2 + 2 * b2n f.tok)]

/-- The 120 payload bytes of a CMD frame (R229 to R231). -/
def cmdPayload (f : CmdFrame) : List Byte :=
  let ctrl := f.fenceNew % 128 + 128 * b2n f.resume + 256 * (f.fenceRep % 128) + 2 ^ 16 * f.rep.length + 2 ^ 21 * f.new.length
  let side := leBytes 1 (128 * b2n f.sideFirst + 64 * b2n f.sideLast + f.side.length) ++ slice f.side 0 6
  let slots := (f.rep ++ f.new).flatMap (fun w => leBytes 4 w.toNat)
  leBytes 4 f.term ++ leBytes 4 ctrl ++ leBytes 3 f.hor ++ leBytes 3 f.perAB ++ leBytes 3 f.perCF ++ side ++ slice slots 0 96

/-- The symbols 1 to 127 of a frame: header, payload, CRC-32 (R213, R214). -/
def frameBytes (hdr payload : List Byte) : List Byte :=
  let b := hdr ++ payload
  b ++ leBytes 4 (crc32 b).toNat

/-- The 48-bit word of an echo entry (R259). -/
def echoWord (e : Echo) : Nat :=
  e.time % 2 ^ 16 + 2 ^ 16 * (e.body % 2 ^ 16) + 2 ^ 32 * usg 8 e.execErr + 2 ^ 40 * b2n e.bs + 2 ^ 41 * (e.dir % 4)
    + 2 ^ 43 * (e.state % 4) + 2 ^ 45 * (e.leg % 8)

/-- The 16 bytes of an event entry (R263). -/
def evtBytes (e : EvtEntry) : List Byte :=
  leBytes 2 e.code ++ leBytes 1 (e.sw % 16 + 16 * (e.leg % 8)) ++ leBytes 1 e.eseq ++ leBytes 3 e.time ++ leBytes 1 e.count
    ++ slice e.data 0 8

/-- The TYPE code of a report frame (R216). -/
def Report.type : Report → Nat | .rpt .. => 0x9 | .echo .. => 0xA | .evt .. => 0xB | .cal .. => 0xC
def Report.seq : Report → Nat | .rpt n _ => n | .echo n _ _ => n | .evt n _ _ => n | .cal n _ _ _ => n

/-- The header bytes of a report frame (R215) for a node in the given condition. -/
def rptHeader (type seq : Nat) (ns : NState) (obeyedQ timingQ evt : Bool) : List Byte :=
  [BitVec.ofNat 8 (type + 0x10), BitVec.ofNat 8 seq,
   BitVec.ofNat 8 (seq / 256 % 2 + 2 * ns.code + 16 * b2n obeyedQ + 32 * b2n timingQ + 64 * b2n evt)]

/-- The payload of a report frame (R255, R258, R263, R265). -/
def reportPayload : Report → List Byte
  | .rpt _ b => leBytes 3 b.sampleTime ++ leBytes 1 b.page ++ leBytes 4 b.valid ++ leBytes 4 b.nodeTerm ++ leBytes 2 (usg 16 b.ofs)
      ++ leBytes 1 b.errP ++ leBytes 1 b.errQ ++ slice (b.values.flatMap (fun v => leBytes 4 (usg 32 v))) 0 104
  | .echo _ d es => leBytes 1 d ++ leBytes 11 0
      ++ (es ++ List.replicate (18 - es.length) (Echo.mk 7 0 0 false 0 0 0)).flatMap (fun e => leBytes 6 (echoWord e))
  | .evt _ l es => leBytes 1 es.length ++ leBytes 1 l ++ leBytes 6 0 ++ slice (es.flatMap evtBytes) 0 112
  | .cal _ id c s => slice id 0 64 ++ leBytes 4 c ++ leBytes 1 (b2n s) ++ leBytes 51 0

end Sys2Proof.Machine
end

