-- ==== Sys2Proof/Syntax.lean ====
section
/-! DEFINITION. The commands of the block: one constructor for each row of the command table, with the row's operands. -/

namespace Sys2Proof

open Sys2Proof.Machine

/-- A command: a host access, a mailbox command, an event of a pin, a link, a bus or a clock, or an instant that the spec names. An operand with a default is one that a usual event leaves at it. -/
inductive Instr where
  /-- POWER_GOOD (R664). -/
  | powerGood (slot : Fin 64) (pref : Bool) (peer : Bool) (eject : Bool) (mem : NvFit := .good) (otp : Bool := true)
  /-- RESET_N_ASSERTED (R6). -/
  | resetNAsserted
  /-- CONFIG_APPLY (R36). -/
  | configApply
  /-- ENABLE_REQUESTS (R39). -/
  | enableRequests
  /-- ROLE_RESOLUTION (R503). -/
  | roleResolution
  /-- RELOAD (R57). -/
  | reload (p : Path) (a0 : Word) (a1 : Word) (a2 : Word) (a3 : Word)
  /-- BANK_ERASE (R52). -/
  | bankErase (p : Path) (a0 : Word) (a1 : Word) (a2 : Word) (a3 : Word)
  /-- BANK_WRITE (R53). -/
  | bankWrite (p : Path) (a0 : Word) (a1 : Word) (a2 : Word) (a3 : Word)
  /-- BANK_SEAL (R54). -/
  | bankSeal (p : Path) (a0 : Word) (a1 : Word) (a2 : Word) (a3 : Word)
  /-- NV_READ (R51). -/
  | nvRead (p : Path) (a0 : Word) (a1 : Word) (a2 : Word) (a3 : Word)
  /-- BACKGROUND_COMMAND_END (R51). -/
  | backgroundCommandEnd (done : Nat) (fault : Bool)
  /-- ENROL (R46). -/
  | enrol (p : Path) (a0 : Word) (a1 : Word) (a2 : Word) (a3 : Word)
  /-- REVOKE (R47). -/
  | revoke (p : Path) (a0 : Word) (a1 : Word) (a2 : Word) (a3 : Word)
  /-- ROLLBACK_COMMIT (R42). -/
  | rollbackCommit (p : Path) (a0 : Word) (a1 : Word) (a2 : Word) (a3 : Word)
  /-- ATTEST (R60). -/
  | attest (p : Path) (a0 : Word) (a1 : Word) (a2 : Word) (a3 : Word)
  /-- DEV_MODE_REQ (R76). -/
  | devModeReq (p : Path) (v : Word)
  /-- STOP_SEQUENCE_END (R74). -/
  | stopSequenceEnd
  /-- RIDE_SETTLE_ELAPSED (R69). -/
  | rideSettleElapsed
  /-- RIDE_MAX_ELAPSED (R69). -/
  | rideMaxElapsed
  /-- CHARGE_MAX_ELAPSED (R69). -/
  | chargeMaxElapsed
  /-- CHARGE_RIDE_TIMEOUT (R68). -/
  | chargeRideTimeout
  /-- CHARGE_COMPLETE (R369). -/
  | chargeComplete
  /-- DEV_MODE_CFG (R82). -/
  | devModeCfg (p : Path) (v : Word)
  /-- OBJ_CREATE (R94). -/
  | objCreate (p : Path) (a0 : Word) (a1 : Word) (a2 : Word) (a3 : Word)
  /-- OBJ_DESTROY (R99). -/
  | objDestroy (p : Path) (a0 : Word) (a1 : Word) (a2 : Word) (a3 : Word)
  /-- OBJ_LOOKUP (R94). -/
  | objLookup (p : Path) (a0 : Word) (a1 : Word) (a2 : Word) (a3 : Word)
  /-- OBJ_WRITE (R95). -/
  | objWrite (p : Path) (a0 : Word) (a1 : Word) (a2 : Word) (a3 : Word)
  /-- OBJ_READ (R94). -/
  | objRead (p : Path) (a0 : Word) (a1 : Word) (a2 : Word) (a3 : Word)
  /-- REGISTER_WRITE (R110). -/
  | registerWrite (p : Path) (a : BitVec 24) (v : Word)
  /-- DEV_WR_REASON_READ (R119). -/
  | devWrReasonRead (p : Path)
  /-- DEV_ENABLE (R128). -/
  | devEnable (p : Path) (v : Word)
  /-- STR_ENABLE (R120). -/
  | strEnable (p : Path) (i : Fin 8) (v : Word)
  /-- NODE_ENABLE (R120). -/
  | nodeEnable (p : Path) (n : Fin 96) (v : Word)
  /-- LD_CTRL_ENABLE (R346). -/
  | ldCtrlEnable (p : Path) (i : Fin 2048) (v : Word)
  /-- PROF_ENABLE (R377). -/
  | profEnable (p : Path) (i : Fin 16) (v : Word)
  /-- RG_ENABLE (R347). -/
  | rgEnable (p : Path) (g : Fin 8) (v : Word)
  /-- AUX_ENABLE (R196). -/
  | auxEnable (p : Path) (i : Fin 8) (v : Word)
  /-- CAN_ENABLE (R624). -/
  | canEnable (p : Path) (c : Fin 2) (v : Word)
  /-- OBJ_ENABLE (R602). -/
  | objEnable (p : Path) (o : Fin 512) (v : Word)
  /-- PTP_ENABLE (R583). -/
  | ptpEnable (p : Path) (v : Word)
  /-- TPO_ENABLE (R590). -/
  | tpoEnable (p : Path) (k : Fin 8) (v : Word)
  /-- TRC_ARM (R488). -/
  | trcArm (p : Path) (v : Word)
  /-- CONSISTENCY_CHECK_START (R126). -/
  | consistencyCheckStart
  /-- CONSISTENCY_CHECK_END (R121). -/
  | consistencyCheckEnd
  /-- STR_COMMIT (R180). -/
  | strCommit (p : Path) (i : Fin 8) (v : Word)
  /-- LOAD_ALL (R185). -/
  | loadAll (p : Path) (v : Word)
  /-- LATCH_INSTANT (R179). -/
  | latchInstant (i : Fin 8)
  /-- STRING_RELOAD (R179). -/
  | stringReload (i : Fin 8)
  /-- CARRIER_EVENT (R201). -/
  | carrierEvent (i : Fin 8) (centre : Bool) (ft : Fin 64)
  /-- LEG_PERIOD_GENERATE (R169). -/
  | legPeriodGenerate (n : Fin 96) (y : Fin 6)
  /-- DL_CALIBRATE (R139). -/
  | dlCalibrate (tpt : BitVec 16)
  /-- NODE_OVR (R145). -/
  | nodeOvr (p : Path) (n : Fin 96) (v : Word)
  /-- CSYNC_IN_EDGE (R192). -/
  | csyncInEdge (ft : Nat)
  /-- CSYNC_LOST (R193). -/
  | csyncLost
  /-- AUX_LATCH (R197). -/
  | auxLatch (i : Fin 8)
  /-- AUX_RELOAD (R197). -/
  | auxReload (i : Fin 8)
  /-- ECHO_DEADLINE (R166). -/
  | echoDeadline (n : Fin 96) (y : Fin 6)
  /-- CMD_FRAME_START (R218). -/
  | cmdFrameStart
  /-- RPT_FRAME (R255). -/
  | rptFrame (p : Fin 96) (h : RptHdr) (b : RptBody)
  /-- ECHO_FRAME (R262). -/
  | echoFrame (p : Fin 96) (h : RptHdr) (dropped : BitVec 8) (es : List Echo)
  /-- EVT_FRAME (R263). -/
  | evtFrame (p : Fin 96) (h : RptHdr) (lost : BitVec 8) (es : List EvtEntry)
  /-- REPORT_CAL_FRAME (R281). -/
  | reportCalFrame (p : Fin 96) (h : RptHdr) (ident : List Byte) (set : Bool)
  /-- ERROR_SLOT (R719). -/
  | errorSlot (p : Fin 96) (e : SlotError)
  /-- CAL_BLOCK_END (R246). -/
  | calBlockEnd (p : Fin 96)
  /-- PORT_UNREACHABLE (R277). -/
  | portUnreachable (p : Fin 96)
  /-- PORT_DOWN (R278). -/
  | portDown (p : Fin 96)
  /-- PORT_TRAINING (R281). -/
  | portTraining (p : Fin 96)
  /-- LNK_PCFG_WRITE (R280). -/
  | lnkPcfgWrite (p : Path) (q : Fin 96) (v : Word)
  /-- MGMT_TIMEOUT (R286). -/
  | mgmtTimeout (p : Fin 96)
  /-- NODE_CMD_FRAME (R238). -/
  | nodeCmdFrame (p : Fin 96) (l : Lane) (f : CmdFrame) (arr : Nat)
  /-- NODE_EDGE_DUE (R240). -/
  | nodeEdgeDue (p : Fin 96) (y : Fin 7) (err : Int) (body : BitVec 16) (dir : Fin 4)
  /-- COUNTER_RELOAD (R222). -/
  | counterReload (p : Fin 96)
  /-- HOLDOVER_ENTER (R270). -/
  | holdoverEnter (p : Fin 96)
  /-- SAFE_ENTER (R273). -/
  | safeEnter (p : Fin 96)
  /-- CONTACTOR_CLOSED (R273). -/
  | contactorClosed (p : Fin 96)
  /-- NODE_REPORT_SLOT (R251). -/
  | nodeReportSlot (p : Fin 96) (k : Nat) (m : Sample)
  /-- NODE_POWER_UP (R269). -/
  | nodePowerUp (p : Fin 96) (ident : List Byte)
  /-- NODE_MGMT_MESSAGE (R287). -/
  | nodeMgmtMessage (p : Fin 96) (l : Lane) (m : Msg)
  /-- NODE_SELFTEST_END (R405). -/
  | nodeSelftestEnd (p : Fin 96) (pass : BitVec 48)
  /-- SWITCH_TRIP (R393). -/
  | switchTrip (p : Fin 96) (now : Nat) (sw : Fin 12) (method : BitVec 8) (onset : Nat) (cur : BitVec 16) (tj : BitVec 8)
  /-- SHOOT_THROUGH (R397). -/
  | shootThrough (p : Fin 96) (now : Nat) (y : Fin 6) (last : Word)
  /-- GATE_FAULT (R383). -/
  | gateFault (p : Fin 96) (now : Nat) (sw : Fin 12) (atOff : Bool) (v : BitVec 16)
  /-- UVLO_FAULT (R392). -/
  | uvloFault (p : Fin 96) (now : Nat) (sw : Fin 12) (neg : Bool) (v : BitVec 16)
  /-- RG_FIRE (R297). -/
  | rgFire (g : Fin 8)
  /-- RG_LATCH (R299). -/
  | rgLatch (g : Fin 8)
  /-- RG_EVAL_DONE (R343). -/
  | rgEvalDone (g : Fin 8) (t : Nat)
  /-- RG_COMMIT_TICK (R300). -/
  | rgCommitTick (g : Fin 8)
  /-- LOOP_COMMIT (R305). -/
  | loopCommit (p : Path) (v : Word)
  /-- LOOP_THAW (R333). -/
  | loopThaw (p : Path) (i : Fin 2048) (v : Word)
  /-- CELL_OUT (R364). -/
  | cellOut (p : Path) (a0 : Word) (a1 : Word) (a2 : Word) (a3 : Word)
  /-- CELL_IN (R364). -/
  | cellIn (p : Path) (a0 : Word) (a1 : Word) (a2 : Word) (a3 : Word)
  /-- CELL_PRECHARGE (R365). -/
  | cellPrecharge (p : Path) (a0 : Word) (a1 : Word) (a2 : Word) (a3 : Word)
  /-- CELL_PRECHARGE_FAIL (R365). -/
  | cellPrechargeFail (i : Fin 8) (k : Fin 32)
  /-- CELL_SWAP (R366). -/
  | cellSwap (p : Path) (a0 : Word) (a1 : Word) (a2 : Word) (a3 : Word)
  /-- PROFILE_FIELD_WRITE (R381). -/
  | profileFieldWrite (p : Path) (i : Fin 16) (w : Fin 16) (v : Word)
  /-- DESAT_ADAPT (R387). -/
  | desatAdapt
  /-- RECOVERY_END (R390). -/
  | recoveryEnd (n : Fin 96)
  /-- PROT_SELFTEST (R404). -/
  | protSelftest (p : Path) (a0 : Word) (a1 : Word) (a2 : Word) (a3 : Word)
  /-- START_STEP (R408). -/
  | startStep (n : Fin 96)
  /-- BS_PRECHARGE_TIMEOUT (R402). -/
  | bsPrechargeTimeout (n : Fin 96)
  /-- CHARGE_STEP_TIMEOUT (R410). -/
  | chargeStepTimeout (i : Fin 8)
  /-- SAR_SAMPLE (R427). -/
  | sarSample (vs : List Int)
  /-- ADC_TRIGGER_ALIGN (R429). -/
  | adcTriggerAlign (e : Nat)
  /-- ADC_INJ_REQ (R437). -/
  | adcInjReq (p : Path) (v : Word)
  /-- ADC_INJ_RELEASE (R439). -/
  | adcInjRelease (p : Path) (v : Word)
  /-- ADC_CAL_REQ (R442). -/
  | adcCalReq (p : Path) (v : Word)
  /-- CAL_SCHEDULE (R442). -/
  | calSchedule
  /-- CAL_START (R441). -/
  | calStart
  /-- CAL_END (R444). -/
  | calEnd (ofs : BitVec 16) (gain : BitVec 16)
  /-- ADC_TDAC (R447). -/
  | adcTdac (p : Path) (v : Word)
  /-- SD_OUTPUT (R451). -/
  | sdOutput (i : Fin 24) (bits : List Bool)
  /-- SD_STUCK (R454). -/
  | sdStuck (i : Fin 24)
  /-- SD_FAST_OUTPUT (R455). -/
  | sdFastOutput (i : Fin 24) (bits : List Bool)
  /-- FAULT_WINDOW_CLOSE (R471). -/
  | faultWindowClose (n : Fin 512)
  /-- HOLDOFF_END (R483). -/
  | holdoffEnd (n : Fin 512)
  /-- FAULT_CLEAR (R496). -/
  | faultClear (p : Path) (v : Word)
  /-- FAULT_PIN_CTRL (R479). -/
  | faultPinCtrl (p : Path) (v : Word)
  /-- MINPULSE_END (R479). -/
  | minpulseEnd
  /-- FLT_FIFO_POP (R487). -/
  | fltFifoPop (p : Path) (v : Word)
  /-- FLT_TEST (R470). -/
  | fltTest (p : Path) (v : Word)
  /-- TRC_TRIG (R489). -/
  | trcTrig (p : Path) (v : Word)
  /-- TRC_DATA_READ (R490). -/
  | trcDataRead (p : Path)
  /-- PAIR_SWITCH (R528). -/
  | pairSwitch (p : Path) (a0 : Word) (a1 : Word) (a2 : Word) (a3 : Word)
  /-- PAIR_OUT (R528). -/
  | pairOut (p : Path) (a0 : Word) (a1 : Word) (a2 : Word) (a3 : Word)
  /-- PAIR_JOIN (R503). -/
  | pairJoin (p : Path) (a0 : Word) (a1 : Word) (a2 : Word) (a3 : Word)
  /-- PAIR_RESYNC (R519). -/
  | pairResync (p : Path) (a0 : Word) (a1 : Word) (a2 : Word) (a3 : Word)
  /-- HEARTBEAT_TOGGLE (R509). -/
  | heartbeatToggle
  /-- HEARTBEAT_LOST (R509). -/
  | heartbeatLost
  /-- LANE_LOST (R509). -/
  | laneLost (l : Fin 4)
  /-- MIRROR_SNAPSHOT (R512). -/
  | mirrorSnapshot (g : Fin 8) (tf : Nat) (snap : List (Nat × Word × Bool))
  /-- MIRROR_WAIT_EXPIRE (R512). -/
  | mirrorWaitExpire (g : Fin 8)
  /-- MIRROR_WRITE (R511). -/
  | mirrorWrite (x : MirrorOp)
  /-- MIRROR_MODE (R507). -/
  | mirrorMode (m : Mode) (why : BitVec 8)
  /-- MIRROR_EVENT (R514). -/
  | mirrorEvent (src : Fin 512) (kind : BitVec 16) (c : Option Bool) (severe : Bool) (form : Option Form) (hi : BitVec 32) (data : List Byte)
  /-- MIRROR_DT_LATCH (R511). -/
  | mirrorDtLatch (l : List DtCopy)
  /-- MIRROR_TOKEN_FRAME (R511). -/
  | mirrorTokenFrame (start : Nat) (hor : BitVec 24)
  /-- MIRROR_TIME (R588). -/
  | mirrorTime (add : Int) (jump : Int) (fi : Int) (st : Fin 4)
  /-- COMMIT_DIGEST (R517). -/
  | commitDigest (g : Fin 8) (tf : Nat) (d : Option (BitVec 64)) (p : BitVec 64)
  /-- REPLAY_END (R518). -/
  | replayEnd (own : BitVec 64) (peer : BitVec 64)
  /-- REPLAY_TIMEOUT (R518). -/
  | replayTimeout
  /-- RESYNC_TIMEOUT (R519). -/
  | resyncTimeout
  /-- HEALTH_REPORT (R520). -/
  | healthReport (health : BitVec 8) (elig : Bool) (severe : Bool) (role : Role) (phase : Fin 8) (dec : Option Nat) (tick : Nat := 0)
  /-- HEALTH_SELFTEST (R529). -/
  | healthSelftest (bit : Fin 8) (fail : Bool) (engine : Fin 16)
  /-- SWITCH_BOUNDARY (R522). -/
  | switchBoundary
  /-- REVERTIVE_RETURN (R524). -/
  | revertiveReturn
  /-- JOIN_PHASE_END (R526). -/
  | joinPhaseEnd (x : JoinEnd)
  /-- JOIN_PHASE_TIMEOUT (R526). -/
  | joinPhaseTimeout
  /-- REJOIN_RETRY (R526). -/
  | rejoinRetry
  /-- EJECT_REQ_TAKEN (R527). -/
  | ejectReqTaken
  /-- EJECT_RELEASED (R666). -/
  | ejectReleased (lift : Bool := false)
  /-- WITHDRAWAL (R668). -/
  | withdrawal
  /-- REF_EDGE_MISSING (R551). -/
  | refEdgeMissing (x : Fin 2)
  /-- REF_FREQ_MEASURE (R538). -/
  | refFreqMeasure (x : Fin 2) (ppb : Int)
  /-- REF_QUALIFIED (R538). -/
  | refQualified (x : Fin 2)
  /-- CLK_SEL (R539). -/
  | clkSel (p : Path) (v : Word)
  /-- CLK_APPLY (R546). -/
  | clkApply (p : Path)
  /-- CLK_SYNC_ARM (R559). -/
  | clkSyncArm (p : Path)
  /-- CLK_RELOCK (R549). -/
  | clkRelock (p : Path)
  /-- GLIDE_END (R548). -/
  | glideEnd
  /-- HOP_LOCK (R549). -/
  | hopLock (temp : BitVec 16) (found : Fin 64) (tune : Bool)
  /-- HOP_TIMEOUT (R549). -/
  | hopTimeout
  /-- BUILD_OUT (R553). -/
  | buildOut (phase : Int)
  /-- PLL_LOCKED (R554). -/
  | pllLocked (tune : Bool)
  /-- PLL_UNLOCK (R557). -/
  | pllUnlock
  /-- OVERSPEED (R542). -/
  | overspeed
  /-- CLKSYNC_IN_EDGE (R561). -/
  | clksyncInEdge (e : Int)
  /-- PTP_SYNC (R578). -/
  | ptpSync (h : PtpHdr) (origin : Nat)
  /-- PTP_FOLLOW_UP (R577). -/
  | ptpFollowUp (h : PtpHdr) (precise : Nat)
  /-- PTP_ANNOUNCE (R583). -/
  | ptpAnnounce (h : PtpHdr) (a : AnnBody)
  /-- PTP_DELAY_RESP (R577). -/
  | ptpDelayResp (h : PtpHdr) (kind : Fin 3) (time : Nat)
  /-- PTP_TC_FORWARD (R584). -/
  | ptpTcForward (h : PtpHdr) (type : Fin 16) (egress : Nat)
  /-- PTP_MASTER_SYNC (R583). -/
  | ptpMasterSync
  /-- SYNC_TIMEOUT (R575). -/
  | syncTimeout
  /-- ANNOUNCE_TIMEOUT (R575). -/
  | announceTimeout
  /-- SG_LINK_LOSS (R575). -/
  | sgLinkLoss (q : Fin 2)
  /-- HOLDOVER_MAX_ELAPSED (R571). -/
  | holdoverMaxElapsed
  /-- TB_STEP (R579). -/
  | tbStep (p : Path)
  /-- TB_NS_READ (R569). -/
  | tbNsRead (p : Path)
  /-- TPO_PULSE (R590). -/
  | tpoPulse (k : Fin 8)
  /-- CAN_RX_FRAME (R603). -/
  | canRxFrame (c : Fin 2) (f : CanFrame) (stamp : Word)
  /-- CAN_TX_START (R606). -/
  | canTxStart (c : Fin 2)
  /-- CAN_TX_END (R608). -/
  | canTxEnd (c : Fin 2) (x : CanEnd) (tdcv : Option (BitVec 7))
  /-- CAN_RECOVER (R612). -/
  | canRecover (p : Path) (c : Fin 2) (v : Word)
  /-- CAN_RECOVERY_END (R612). -/
  | canRecoveryEnd (c : Fin 2)
  /-- OBJ_CMD_REQ (R606). -/
  | objCmdReq (p : Path) (o : Fin 512) (v : Word)
  /-- OBJ_CMD_ABORT (R607). -/
  | objCmdAbort (p : Path) (o : Fin 512) (v : Word)
  /-- OBJ_DATA_WRITE (R607). -/
  | objDataWrite (p : Path) (o : Fin 512) (w : Fin 16) (v : Word)
  /-- OBJ_RXINFO_READ (R605). -/
  | objRxinfoRead (p : Path) (o : Fin 512)
  /-- PWR_REQ (R628). -/
  | pwrReq (p : Path) (v : Word)
  /-- AGENT_ANSWER (R630). -/
  | agentAnswer (x : AgentAns)
  /-- AGENT_DELAY_EXPIRED (R630). -/
  | agentDelayExpired
  /-- WAKE_EVENT (R634). -/
  | wakeEvent (code : Fin 16) (levels : List (Nat × Nat) := [])
  /-- AVS_EVALUATE (R636). -/
  | avsEvaluate (slack : BitVec 8)
  /-- SHED_STAGE_REACHED (R639). -/
  | shedStageReached (stage : Fin 6) (vhold : BitVec 16)
  /-- LAST_GASP_DONE (R29). -/
  | lastGaspDone
  /-- LG_ERASE_DONE (R645). -/
  | lgEraseDone
  /-- SHED_STAGE_END (R640). -/
  | shedStageEnd (vhold : BitVec 16)
  /-- SUPPLY_RESTART (R641). -/
  | supplyRestart
  /-- SUPPLY_INPUT (R642). -/
  | supplyInput (inp : Fin 2) (mv : BitVec 16)
  /-- MODULE_TEMP (R700). -/
  | moduleTemp (face : BitVec 8) (junc : BitVec 8)
  /-- LOCATE (R671). -/
  | locate (p : Path) (a0 : Word) (a1 : Word) (a2 : Word) (a3 : Word)
  /-- LOCATE_END (R671). -/
  | locateEnd
  /-- RESET (R693). -/
  | reset (p : Path) (a0 : Word) (a1 : Word) (a2 : Word) (a3 : Word)
  /-- SPI_STATUS (R677). -/
  | spiStatus
  /-- SPI_WRITE (R676). -/
  | spiWrite (a : BitVec 24) (ws : List Word) (part : Bool)
  /-- SPI_READ (R679). -/
  | spiRead (a : BitVec 24) (n : Nat)
  /-- SPI_READ_FIXED (R676). -/
  | spiReadFixed (a : BitVec 24) (n : Nat)
  /-- LMP_OPEN_REQ (R683). -/
  | lmpOpenReq
  /-- LMP_OPEN (R683). -/
  | lmpOpen (o : LmpOpen)
  /-- LMP_READ (R685). -/
  | lmpRead (h : LmpHdr) (a : Word) (n : BitVec 16)
  /-- LMP_READ_FIXED (R685). -/
  | lmpReadFixed (h : LmpHdr) (a : Word) (n : BitVec 16)
  /-- LMP_WRITE (R686). -/
  | lmpWrite (h : LmpHdr) (a : Word) (ws : List Word)
  /-- LMP_COMMAND (R686). -/
  | lmpCommand (h : LmpHdr) (op : BitVec 16) (a0 : Word) (a1 : Word) (a2 : Word) (a3 : Word)
  /-- LMP_SUBSCRIBE (R687). -/
  | lmpSubscribe (h : LmpHdr) (alarms : Bool) (trace : Bool)
  /-- LMP_ALARM_ACK (R687). -/
  | lmpAlarmAck (h : LmpHdr) (rseq : Word)
  /-- LMP_ALARM_REPEAT (R687). -/
  | lmpAlarmRepeat (rseq : Nat)
  /-- LMP_KEEPALIVE (R687). -/
  | lmpKeepalive (h : LmpHdr)
  /-- LMP_CLOSE (R688). -/
  | lmpClose (h : LmpHdr)
  /-- LMP_IDLE_TIMEOUT (R687). -/
  | lmpIdleTimeout (num : BitVec 16)
  /-- ARP_REQUEST (R681). -/
  | arpRequest (ip : Word)
  /-- ICMP_ECHO (R681). -/
  | icmpEcho (ip : Word) (payload : List Byte)
  /-- UVLO_RECOVERED (R392). -/
  | uvloRecovered (p : Fin 96) (sw : Fin 12) (neg : Bool := false)
  /-- PEER_PRESENT_CHANGE (R509). -/
  | peerPresentChange (here : Bool)
  /-- HB_IN_EDGE (R509). -/
  | hbInEdge
  /-- PAIR_LANE_UP (R509). -/
  | pairLaneUp (l : Fin 4)
  /-- NODE_CAL_FRAME (R266). -/
  | nodeCalFrame (p : Fin 96) (l : Lane) (seq : Fin 512) (arr : Nat)
  /-- NODE_IDLE_FRAME (R220). -/
  | nodeIdleFrame (p : Fin 96) (l : Lane) (seq : Fin 512) (arr : Nat)
  /-- NODE_ERROR_SLOT (R719). -/
  | nodeErrorSlot (p : Fin 96) (l : Lane)
  /-- SD_STUCK_END (R454). -/
  | sdStuckEnd (i : Fin 24)
  /-- CAN_ERROR_FRAME (R610). -/
  | canErrorFrame (c : Fin 2) (x : CanErr)
  /-- SG_LINK_UP (R575). -/
  | sgLinkUp (q : Fin 2)
  /-- PTP_DELAY_REQ_RX (R583). -/
  | ptpDelayReqRx (h : PtpHdr) (pdelay : Bool)
  /-- PTP_ANNOUNCE_SEND (R587). -/
  | ptpAnnounceSend
  /-- PTP_DELAY_REQ_SEND (R583). -/
  | ptpDelayReqSend
  /-- BAD_OPCODE (R106). -/
  | badOpcode (p : Path) (op : BitVec 16) (a0 : Word) (a1 : Word) (a2 : Word) (a3 : Word)
  /-- SPI_BAD_OPCODE (R676). -/
  | spiBadOpcode
  /-- COMMAND_END (R101). -/
  | commandEnd
  /-- MIRROR_CAN_ATTEMPT (R618). -/
  | mirrorCanAttempt (o : Fin 512) (x : CanEnd) (busOff : Bool)
  /-- INDICATOR_TEST_END (R670). -/
  | indicatorTestEnd
  /-- EJECT_REFUSED_FLASH_END (R670). -/
  | ejectRefusedFlashEnd
deriving DecidableEq, Repr

end Sys2Proof
end

