-- ==== Sys2Proof/Decode.lean ====
section
/-! DEFINITION. The command a word spells: the command table gives its rows no bits, so no word spells one. -/

namespace Sys2Proof

/-- No row of the command table carries bits: a word spells no command. -/
def decodeTableWord (_nbits _w : Nat) : Option Instr := none

end Sys2Proof
end

