-- ==== Sys2Proof/Config.lean ====
section
/-! DEFINITION. What an implementation fixes and the spec leaves open: opaque constants, of which nothing can be proved. -/

namespace Sys2Proof.Config

/-- The next value the spec leaves open, by the number of values drawn before it and its width. -/
opaque freeBits (n w : Nat) : BitVec w

/-- SHA-512 (R31, R516), the digest with its first byte as the most significant. -/
opaque sha512 : List Byte → BitVec 512

/-- Ed25519 verification of a message under a public key (R31, R683): key, message, signature. -/
opaque ed25519Verify : BitVec 256 → List Byte → BitVec 512 → Bool

/-- An Ed25519 signature under the module's identity key (R60, R683). -/
opaque ed25519Sign : List Byte → BitVec 512

/-- The module's ephemeral X25519 public key of a session, by the number of nonces drawn (R683). -/
opaque x25519Public : Nat → BitVec 256

/-- The X25519 shared secret of the module's ephemeral key of a session with a peer's key (R683). -/
opaque x25519 : Nat → BitVec 256 → BitVec 256

/-- HMAC-SHA-512 of a message under a key, its first byte as the most significant (R684). -/
opaque hmac : BitVec 256 → List Byte → BitVec 512

/-- Random bits of the module (R47, R683, R691), by the number of draws before. -/
opaque random (n w : Nat) : BitVec w

/-- The fixed identity of the module: the firmware key hash in OTP (R40), the identity certificate (chapter 2, Identity and attestation), the variant and step (R689), the serial (R593), what the SFDP of the slot memory gives (R61), the MAC address (R689). -/
opaque firmwareKeyHash : BitVec 256
opaque certificate : List Byte
opaque variant : BitVec 8
opaque step : BitVec 4
opaque serial : BitVec 64
opaque sfdp : BitVec 32
opaque mac : BitVec 48

/-- The Seesaw protocol version of a firmware, by its header (R503). -/
opaque seesawVersion : List Byte → Nat

/-- How many bytes the mirror takes for a snapshot of so many signals (R531, R532). -/
opaque mirrorBytes : Nat → Nat

/-- The holdover drift bound that R576 allows between two samples, in 2^-17 ps. -/
opaque driftBound : Nat

end Sys2Proof.Config
end

