-- ==== Sys2Proof/Machine/Regs.lean ====
section
/-! DEFINITION. The register map: one row per register of the register tables of spec/ (R61, R92, R202, R204, R206, R291,
R293, R313, R315, R344, R379, R421, R423, R460, R499, R530, R564, R593, R622, R647, R673, R689): offset, count, reset value, the
masks of its RW, W1C, WO and RWS bits (R6; every other bit is RO or reserved, R7) and its class (S, C, L). -/

namespace Sys2Proof.Machine

/-- The class of a register (R6 to R7 of the scope chapter, R108). -/
inductive Cls where | none | s | c | l
deriving DecidableEq, Repr

/-- One register row: byte offset in its block, number of consecutive words, reset value, bit masks, class. -/
structure RegD where
  off : Nat
  cnt : Nat
  reset : Nat
  rw : Nat
  w1c : Nat
  wo : Nat
  rws : Nat
  cls : Cls
deriving DecidableEq, Repr

/-- The register families: a window, or a numbered block of one. -/
inductive Fam where
  | dev | str | node | loopD | loopChk | loopStat | loopCom | rg | loopTab | loopS | mod | aux | lnk | port | prot | protStr | prof | sens | sd | flt | mon | fltPol | fltState | ss | clk | tb | ptpPort | tpo | can | obj | canG | pwr | img
deriving DecidableEq, Repr

/-- A family: where instance i starts (base + stride * i), how many there are, the size of a block, its registers, the number of its first instance. -/
structure FamD where
  fam : Fam
  base : Nat
  stride : Nat
  count : Nat
  size : Nat
  first : Nat
  regs : List RegD

/-- DEV_ID, DEV_INFO, DEV_STATUS, DEV_ROLE, DEV_ENABLE, DEV_CHECK, DEV_MODE, DEV_MODE_REQ, DEV_MODE_CFG, DEV_BOOT, DEV_WR_ADDR, DEV_WR_REASON, DEV_IRQ_STATUS, DEV_IRQ_MASK, CMD_ARG, CMD_OP, CMD_RESULT, LMP_CFG, LMP_IP, LMP_STATUS, LMP_MAC_LO, LMP_MAC_HI. -/
def regsDev : List RegD := [
  ⟨0x0, 1, 0x4F960D, 0x0, 0x0, 0x0, 0x0, .none⟩,
  ⟨0x4, 1, 0x0, 0x0, 0x0, 0x0, 0x0, .none⟩,
  ⟨0x8, 1, 0x0, 0x0, 0x0, 0x0, 0x0, .none⟩,
  ⟨0xC, 1, 0x0, 0x0, 0x0, 0x0, 0x0, .none⟩,
  ⟨0x10, 1, 0x0, 0x1, 0x0, 0x0, 0x0, .l⟩,
  ⟨0x14, 1, 0x0, 0x0, 0x0, 0x0, 0x0, .none⟩,
  ⟨0x18, 1, 0x0, 0x0, 0x0, 0x0, 0x0, .none⟩,
  ⟨0x1C, 1, 0x1, 0x7, 0x0, 0x0, 0x0, .l⟩,
  ⟨0x20, 1, 0x3C147D0, 0x1FFFFFFF, 0x0, 0x0, 0x0, .l⟩,
  ⟨0x24, 1, 0x0, 0x0, 0x0, 0x0, 0x0, .none⟩,
  ⟨0x28, 1, 0x0, 0x0, 0x0, 0x0, 0x0, .none⟩,
  ⟨0x2C, 1, 0x0, 0x0, 0x10000, 0x0, 0x0, .none⟩,
  ⟨0x30, 1, 0x200, 0x0, 0x7FF, 0x0, 0x0, .none⟩,
  ⟨0x34, 1, 0x200, 0x7FF, 0x0, 0x0, 0x0, .l⟩,
  ⟨0x40, 4, 0x0, 0xFFFFFFFF, 0x0, 0x0, 0x0, .l⟩,
  ⟨0x50, 1, 0x0, 0x0, 0x0, 0xFFFF, 0x0, .none⟩,
  ⟨0x54, 1, 0x0, 0x0, 0x20000, 0x0, 0x0, .none⟩,
  ⟨0x60, 1, 0x1E4B86A, 0xFFFFFFF, 0x0, 0x0, 0x0, .s⟩,
  ⟨0x64, 1, 0x0, 0xFFFFFFFF, 0x0, 0x0, 0x0, .s⟩,
  ⟨0x68, 1, 0x0, 0x0, 0x0, 0x0, 0x0, .none⟩,
  ⟨0x6C, 1, 0x0, 0x0, 0x0, 0x0, 0x0, .none⟩,
  ⟨0x70, 1, 0x0, 0x0, 0x0, 0x0, 0x0, .none⟩]

/-- STR_CFG, STR_ENABLE, STR_COMMIT, STR_CHECK, STR_COMMIT_STATUS, STR_STATUS, STR_PERIOD, STR_DAB, STR_DAB_ALPHA, STR_DAB_PHIMAX, STR_ACTIVE, STR_REF, STR_ANCHOR, STR_ANCHOR_OFS, STR_BAL_CFG, STR_BAL_BASE, STR_BAL_LEAF, STR_CELL_WIN, STR_SCALE, STR_SUBST, STR_CELL_STATUS, STR_WIN_MASK, STR_OUT_CAUSE, STR_POS_STATE, STR_MEMBER, STR_POSTERM. -/
def regsStr : List RegD := [
  ⟨0x0, 1, 0x0, 0x3F3F33, 0x0, 0x0, 0x0, .s⟩,
  ⟨0x4, 1, 0x0, 0x1, 0x0, 0x0, 0x0, .l⟩,
  ⟨0x8, 1, 0x0, 0x0, 0x0, 0x1, 0x0, .none⟩,
  ⟨0xC, 1, 0x0, 0x0, 0x0, 0x0, 0x0, .none⟩,
  ⟨0x10, 1, 0x0, 0x0, 0x1C, 0x0, 0x0, .none⟩,
  ⟨0x14, 1, 0x0, 0x0, 0x2, 0x0, 0x0, .none⟩,
  ⟨0x18, 1, 0x186A00, 0xFFFFFF, 0x0, 0x0, 0x0, .c⟩,
  ⟨0x1C, 1, 0xA, 0x37F, 0x0, 0x0, 0x0, .c⟩,
  ⟨0x20, 1, 0x0, 0xFFFFFF, 0x0, 0x0, 0x0, .c⟩,
  ⟨0x24, 1, 0x200000, 0xFFFFFF, 0x0, 0x0, 0x0, .c⟩,
  ⟨0x28, 1, 0xFFFFFFFF, 0xFFFFFFFF, 0x0, 0x0, 0x0, .c⟩,
  ⟨0x2C, 1, 0x0, 0xFF, 0x0, 0x0, 0x0, .s⟩,
  ⟨0x30, 1, 0x1000, 0xFF01, 0x0, 0x0, 0x0, .s⟩,
  ⟨0x34, 1, 0x0, 0xFFFFFF, 0x0, 0x0, 0x0, .c⟩,
  ⟨0x40, 1, 0x64140000, 0xFFFFBF3F, 0x0, 0x0, 0x0, .s⟩,
  ⟨0x44, 1, 0x1000000, 0xFFFFFFFF, 0x0, 0x0, 0x0, .s⟩,
  ⟨0x48, 1, 0x0, 0xFFFFFFFF, 0x0, 0x0, 0x0, .s⟩,
  ⟨0x4C, 1, 0x4830415, 0xFFFFFFFF, 0x0, 0x0, 0x0, .l⟩,
  ⟨0x50, 4, 0x0, 0xBFFFBFFF, 0x0, 0x0, 0x0, .s⟩,
  ⟨0x60, 1, 0x0, 0x87FFFFFF, 0x0, 0x0, 0x0, .s⟩,
  ⟨0x64, 1, 0x0, 0x0, 0xC00, 0x0, 0x0, .none⟩,
  ⟨0x68, 1, 0x0, 0x0, 0x0, 0x0, 0x0, .none⟩,
  ⟨0x6C, 1, 0x0, 0x0, 0xFFFFFFFF, 0x0, 0x0, .none⟩,
  ⟨0x70, 2, 0x0, 0x0, 0x0, 0x0, 0x0, .none⟩,
  ⟨0x80, 32, 0x0, 0xFF, 0x0, 0x0, 0x0, .s⟩,
  ⟨0x100, 32, 0x0, 0xBFFFBFFF, 0x0, 0x0, 0x0, .s⟩]

/-- NODE_CFG, NODE_ENABLE, NODE_CHECK, NODE_STATE, NODE_HOLD, NODE_LEG_MAP0, NODE_LEG_MAP1, NODE_DT, NODE_MINP, NODE_DT_LIM, NODE_DT_ADAPT, NODE_BS, NODE_OVR, NODE_DT_NOW, NODE_MOD_STATUS, NODE_ID0, NODE_ID1, NODE_ID2, NODE_ID3, NODE_ID4, NODE_LATE, NODE_PROF_PRI, NODE_PROF_ALT, NODE_PROT_STATE, NODE_SW_CAUSE, NODE_ST_RES0, NODE_ST_RES1, NODE_DESAT_NOW. -/
def regsNode : List RegD := [
  ⟨0x0, 1, 0x0, 0x37F, 0x0, 0x0, 0x0, .s⟩,
  ⟨0x4, 1, 0x0, 0x1, 0x0, 0x0, 0x0, .l⟩,
  ⟨0x8, 1, 0x0, 0x0, 0x0, 0x0, 0x0, .none⟩,
  ⟨0xC, 1, 0x0, 0x0, 0x0, 0x0, 0x0, .none⟩,
  ⟨0x10, 1, 0x1F400002, 0xFFFF070F, 0x0, 0x0, 0x0, .s⟩,
  ⟨0x100, 1, 0x0, 0xF7F7F7F7, 0x0, 0x0, 0x0, .s⟩,
  ⟨0x104, 1, 0x0, 0xF7F7, 0x0, 0x0, 0x0, .s⟩,
  ⟨0x110, 6, 0x1F40, 0xFFFF, 0x0, 0x0, 0x0, .c⟩,
  ⟨0x130, 6, 0x7D00, 0x8001FFFF, 0x0, 0x0, 0x0, .c⟩,
  ⟨0x150, 1, 0x3E800140, 0xFFFFFFFF, 0x0, 0x0, 0x0, .c⟩,
  ⟨0x154, 1, 0x2100320, 0xFFFFFFF, 0x0, 0x0, 0x0, .l⟩,
  ⟨0x160, 1, 0x0, 0xFFFF003F, 0x0, 0x0, 0x0, .c⟩,
  ⟨0x170, 1, 0x0, 0x137, 0x0, 0x0, 0x0, .l⟩,
  ⟨0x180, 6, 0x0, 0x0, 0x0, 0x0, 0x0, .none⟩,
  ⟨0x1B0, 1, 0x0, 0x0, 0x1000000, 0x0, 0x0, .none⟩,
  ⟨0x200, 1, 0x0, 0x0, 0x0, 0x0, 0x0, .none⟩,
  ⟨0x204, 1, 0x0, 0x0, 0x0, 0x0, 0x0, .none⟩,
  ⟨0x208, 1, 0x0, 0x0, 0x0, 0x0, 0x0, .none⟩,
  ⟨0x20C, 1, 0x0, 0x0, 0x0, 0x0, 0x0, .none⟩,
  ⟨0x210, 1, 0x0, 0x0, 0x0, 0x0, 0x0, .none⟩,
  ⟨0x214, 1, 0x0, 0x0, 0x0, 0x0, 0x0, .none⟩,
  ⟨0x300, 1, 0x0, 0xFFFFFF, 0x0, 0x0, 0x0, .s⟩,
  ⟨0x304, 1, 0x0, 0x3FFFFFFF, 0x0, 0x0, 0x0, .s⟩,
  ⟨0x308, 1, 0x0, 0x0, 0x0, 0x0, 0x0, .none⟩,
  ⟨0x30C, 1, 0x0, 0x0, 0x0, 0x0, 0x0, .none⟩,
  ⟨0x310, 1, 0x0, 0x0, 0x0, 0x0, 0x0, .none⟩,
  ⟨0x314, 1, 0x0, 0x0, 0x0, 0x0, 0x0, .none⟩,
  ⟨0x318, 3, 0x0, 0x0, 0x0, 0x0, 0x0, .none⟩]

/-- LD_CTRL, LD_CFG, LD_SRC01, LD_SRC23, LD_ROUTE, LD_ANGLE, LD_C, LD_SHIFT, LD_LIM_LO, LD_LIM_HI, LD_OSC. -/
def regsLoopD : List RegD := [
  ⟨0x0, 1, 0x0, 0x1, 0x0, 0x0, 0x0, .l⟩,
  ⟨0x4, 1, 0x0, 0x1FFF7F7F, 0x0, 0x0, 0x0, .s⟩,
  ⟨0x8, 1, 0x0, 0xFFFFFFFF, 0x0, 0x0, 0x0, .s⟩,
  ⟨0xC, 1, 0x0, 0xFFFFFFFF, 0x0, 0x0, 0x0, .s⟩,
  ⟨0x10, 1, 0x0, 0xFF7FF, 0x0, 0x0, 0x0, .s⟩,
  ⟨0x14, 1, 0x0, 0xFFFFFFFF, 0x0, 0x0, 0x0, .s⟩,
  ⟨0x18, 6, 0x0, 0xFFFFFFFF, 0x0, 0x0, 0x0, .c⟩,
  ⟨0x30, 1, 0x0, 0x3FFFFFFF, 0x0, 0x0, 0x0, .c⟩,
  ⟨0x34, 1, 0x80000000, 0xFFFFFFFF, 0x0, 0x0, 0x0, .l⟩,
  ⟨0x38, 1, 0x7FFFFFFF, 0xFFFFFFFF, 0x0, 0x0, 0x0, .l⟩,
  ⟨0x3C, 1, 0x0, 0xFFFFFFFF, 0x0, 0x0, 0x0, .l⟩]

/-- LOOP_CHECK. -/
def regsLoopChk : List RegD := [
  ⟨0x0, 1, 0x0, 0x0, 0x0, 0x0, 0x0, .none⟩]

/-- LOOP_STAT. -/
def regsLoopStat : List RegD := [
  ⟨0x0, 1, 0x0, 0x0, 0xE00, 0x2000, 0x0, .none⟩]

/-- LOOP_CFG, LOOP_COMMIT, LOOP_STATUS. -/
def regsLoopCom : List RegD := [
  ⟨0x0, 1, 0x401388, 0xF1FFFF, 0x0, 0x0, 0x0, .s⟩,
  ⟨0x4, 1, 0x0, 0x0, 0x0, 0xFF, 0x0, .none⟩,
  ⟨0x8, 1, 0x0, 0x0, 0x0, 0x0, 0x0, .none⟩]

/-- RG_CFG, RG_ENABLE, RG_DL, RG_PERIOD, RG_PHASE, RG_COMMITS, RG_STATUS, RG_COUNT, RG_TIMING. -/
def regsRg : List RegD := [
  ⟨0x0, 1, 0x0, 0x3FFFFFF3, 0x0, 0x0, 0x0, .s⟩,
  ⟨0x4, 1, 0x0, 0x1, 0x0, 0x0, 0x0, .l⟩,
  ⟨0x8, 1, 0xBB8, 0xFFFFFF, 0x0, 0x0, 0x0, .s⟩,
  ⟨0xC, 1, 0x61A8, 0xFFFFFF, 0x0, 0x0, 0x0, .s⟩,
  ⟨0x10, 1, 0x0, 0xFFFFFF, 0x0, 0x0, 0x0, .s⟩,
  ⟨0x14, 1, 0x0, 0xFFFF, 0x0, 0x0, 0x0, .s⟩,
  ⟨0x18, 1, 0x0, 0x0, 0x6, 0x0, 0x0, .none⟩,
  ⟨0x1C, 1, 0x0, 0x0, 0x0, 0x0, 0x0, .none⟩,
  ⟨0x20, 1, 0x0, 0x0, 0x0, 0x0, 0x0, .none⟩]

/-- LOOP_TSCALE_C, LOOP_TSCALE_L, LOOP_CONST, ENG_LOAD. -/
def regsLoopTab : List RegD := [
  ⟨0x0, 64, 0x0, 0xFFFFFFFF, 0x0, 0x0, 0x0, .s⟩,
  ⟨0x100, 64, 0x0, 0xFFFFFFFF, 0x0, 0x0, 0x0, .s⟩,
  ⟨0x400, 192, 0x0, 0xFFFFFFFF, 0x0, 0x0, 0x0, .l⟩,
  ⟨0x800, 16, 0x0, 0x0, 0x0, 0x0, 0x0, .none⟩]

/-- LS_Y, LS_YC, LS_S0L, LS_S0H, LS_S1, LS_S2, LS_ENV, LS_OSC. -/
def regsLoopS : List RegD := [
  ⟨0x0, 1, 0x0, 0xFFFFFFFF, 0x0, 0x0, 0x0, .s⟩,
  ⟨0x4, 1, 0x0, 0xFFFFFFFF, 0x0, 0x0, 0x0, .s⟩,
  ⟨0x8, 1, 0x0, 0xFFFFFFFF, 0x0, 0x0, 0x0, .s⟩,
  ⟨0xC, 1, 0x0, 0xFFFFFFFF, 0x0, 0x0, 0x0, .s⟩,
  ⟨0x10, 1, 0x0, 0xFFFFFFFF, 0x0, 0x0, 0x0, .s⟩,
  ⟨0x14, 1, 0x0, 0xFFFFFFFF, 0x0, 0x0, 0x0, .s⟩,
  ⟨0x18, 1, 0x0, 0xFFFFFFFF, 0x0, 0x0, 0x0, .s⟩,
  ⟨0x1C, 1, 0x0, 0x7FFFFF, 0x0, 0x0, 0x0, .s⟩]

/-- MOD_CFG, LOAD_ALL, MOD_DL_STATUS, CSYNC_CFG, CSYNC_DLY, CSYNC_IN_OFS, CSYNC_STATUS, MOD_REF. -/
def regsMod : List RegD := [
  ⟨0x0, 1, 0x8, 0x1F, 0x0, 0x0, 0x0, .s⟩,
  ⟨0x4, 1, 0x0, 0x0, 0x0, 0xFFFF, 0x0, .none⟩,
  ⟨0xC, 1, 0x0, 0x0, 0x20000, 0x0, 0x0, .none⟩,
  ⟨0x10, 1, 0x0, 0x17, 0x0, 0x0, 0x0, .s⟩,
  ⟨0x14, 1, 0x0, 0xFFFFFF, 0x0, 0x0, 0x0, .l⟩,
  ⟨0x18, 1, 0x0, 0xFFFFFF, 0x0, 0x0, 0x0, .l⟩,
  ⟨0x1C, 1, 0x0, 0x0, 0x2, 0x0, 0x0, .none⟩,
  ⟨0x1000, 256, 0x0, 0xFFFFFFFF, 0x0, 0x0, 0x0, .c⟩]

/-- AUX_CFG, AUX_ENABLE, AUX_PERIOD, AUX_DUTY, AUX_DUTY2, AUX_DT, AUX_MINP, AUX_STATUS. -/
def regsAux : List RegD := [
  ⟨0x0, 1, 0x0, 0xFFFF, 0x0, 0x0, 0x0, .s⟩,
  ⟨0x4, 1, 0x0, 0x1, 0x0, 0x0, 0x0, .l⟩,
  ⟨0x8, 1, 0x27100, 0xFFFFFF, 0x0, 0x0, 0x0, .c⟩,
  ⟨0xC, 1, 0x0, 0xFFFFFF, 0x0, 0x0, 0x0, .c⟩,
  ⟨0x10, 1, 0x0, 0xFFFFFF, 0x0, 0x0, 0x0, .c⟩,
  ⟨0x14, 1, 0x640, 0xFFFF, 0x0, 0x0, 0x0, .c⟩,
  ⟨0x18, 1, 0xC80, 0x1FFFF, 0x0, 0x0, 0x0, .c⟩,
  ⟨0x1C, 1, 0x0, 0x0, 0x2, 0x0, 0x0, .none⟩]

/-- LNK_CFG, LNK_READY, LNK_REACH. -/
def regsLnk : List RegD := [
  ⟨0x0, 1, 0x40030040, 0xFF0F00FF, 0x0, 0x0, 0x0, .s⟩,
  ⟨0x10, 3, 0x0, 0x0, 0x0, 0x0, 0x0, .none⟩,
  ⟨0x20, 3, 0x0, 0x0, 0x0, 0x0, 0x0, .none⟩]

/-- LNK_PCFG, LNK_ASYM, LNK_PSTATE, LNK_RTT, LNK_DDOWN, LNK_OFS, LNK_NTERM, LNK_ERR, LNK_LOSS, LNK_STICKY, LNK_DEFER, LNK_FMT, LNK_DAPP_W, LNK_DEST_W. -/
def regsPort : List RegD := [
  ⟨0x0, 1, 0x4000000, 0x1FFF0001, 0x0, 0x0, 0x0, .s⟩,
  ⟨0x4, 1, 0x0, 0xFFFF, 0x0, 0x0, 0x0, .l⟩,
  ⟨0x8, 1, 0x0, 0x0, 0x0, 0x0, 0x0, .none⟩,
  ⟨0xC, 1, 0x0, 0x0, 0x0, 0x0, 0x0, .none⟩,
  ⟨0x10, 1, 0x0, 0x0, 0x0, 0x0, 0x0, .none⟩,
  ⟨0x14, 1, 0x0, 0x0, 0x0, 0x0, 0x0, .none⟩,
  ⟨0x18, 1, 0x0, 0x0, 0x0, 0x0, 0x0, .none⟩,
  ⟨0x1C, 1, 0x0, 0x0, 0x0, 0x0, 0x0, .none⟩,
  ⟨0x20, 1, 0x0, 0x0, 0x0, 0x0, 0x0, .none⟩,
  ⟨0x24, 1, 0x0, 0x0, 0x7FF, 0x0, 0x0, .none⟩,
  ⟨0x28, 1, 0x0, 0x0, 0x0, 0x0, 0x0, .none⟩,
  ⟨0x2C, 1, 0x0, 0x0, 0x0, 0x0, 0x0, .none⟩,
  ⟨0x30, 1, 0x0, 0x0, 0x0, 0x0, 0x0, .none⟩,
  ⟨0x34, 1, 0x0, 0x0, 0x0, 0x0, 0x0, .none⟩]

/-- PROT_CFG, PROT_STATUS, PROT_TJ. -/
def regsProt : List RegD := [
  ⟨0x0, 1, 0x11141414, 0x1FFFFFFF, 0x0, 0x0, 0x0, .s⟩,
  ⟨0x4, 1, 0x0, 0x0, 0x6, 0x0, 0x0, .none⟩,
  ⟨0x8, 1, 0xAF96, 0xFFFF, 0x0, 0x0, 0x0, .l⟩]

/-- PROT_STR. -/
def regsProtStr : List RegD := [
  ⟨0x0, 1, 0x0, 0x1, 0x0, 0x0, 0x0, .s⟩]

/-- PROF_ENABLE, PROF_CHECK, PROF_ON, PROF_OFF, PROF_SOFT, PROF_HOLD, PROF_DESAT, PROF_DESAT_LIM, PROF_BLANK, PROF_OC, PROF_DIDT, PROF_UVLO, PROF_BS. -/
def regsProf : List RegD := [
  ⟨0x0, 1, 0x0, 0x1, 0x0, 0x0, 0x0, .l⟩,
  ⟨0x4, 1, 0x0, 0x0, 0x0, 0x0, 0x0, .none⟩,
  ⟨0x8, 1, 0x0, 0xFFFFFFFF, 0x0, 0x0, 0x0, .s⟩,
  ⟨0xC, 1, 0x0, 0xFFFFFFFF, 0x0, 0x0, 0x0, .s⟩,
  ⟨0x10, 1, 0x0, 0xFFFF, 0x0, 0x0, 0x0, .s⟩,
  ⟨0x14, 1, 0x0, 0x1FFFF, 0x0, 0x0, 0x0, .s⟩,
  ⟨0x18, 1, 0x0, 0x1FFFFFF, 0x0, 0x0, 0x0, .l⟩,
  ⟨0x1C, 1, 0x0, 0xFFFFFFFF, 0x0, 0x0, 0x0, .l⟩,
  ⟨0x20, 1, 0x0, 0xFF01FF, 0x0, 0x0, 0x0, .l⟩,
  ⟨0x24, 1, 0x0, 0x7FFF, 0x0, 0x0, 0x0, .l⟩,
  ⟨0x28, 1, 0x0, 0xFFFFFF, 0x0, 0x0, 0x0, .l⟩,
  ⟨0x2C, 1, 0x0, 0xFFFFFFFF, 0x0, 0x0, 0x0, .l⟩,
  ⟨0x30, 1, 0x0, 0xFFFFFF, 0x0, 0x0, 0x0, .l⟩]

/-- ADC_CFG, ADC_TRIG, ADC_CAL_CFG, ADC_CAL_REQ, ADC_CAL_STATUS, ADC_INJ_CFG, ADC_INJ_REQ, ADC_INJ_STATUS, ADC_INJ_TIME, ADC_STICKY, ADC_TDAC, ADC_RES, ADC_INJ_RES, ADC_COEF, SD_CLKDIV. -/
def regsSens : List RegD := [
  ⟨0x0, 1, 0x1FFFF, 0x3FFFF, 0x0, 0x0, 0x0, .s⟩,
  ⟨0x4, 1, 0x0, 0x3FFF1, 0x0, 0x0, 0x0, .s⟩,
  ⟨0x8, 1, 0x0, 0xFFFF003F, 0x0, 0x0, 0x0, .l⟩,
  ⟨0xC, 1, 0x0, 0x0, 0x0, 0xFFFF, 0x0, .none⟩,
  ⟨0x10, 1, 0x0, 0x0, 0x0, 0x0, 0x0, .none⟩,
  ⟨0x14, 1, 0x0, 0x3FFFF, 0x0, 0x0, 0x0, .s⟩,
  ⟨0x18, 1, 0x0, 0x0, 0x0, 0x1, 0x0, .none⟩,
  ⟨0x1C, 1, 0x0, 0x0, 0x4, 0x0, 0x0, .none⟩,
  ⟨0x20, 1, 0x0, 0x0, 0x0, 0x0, 0x0, .none⟩,
  ⟨0x24, 1, 0x0, 0x0, 0x3FFFF, 0x0, 0x0, .none⟩,
  ⟨0x28, 1, 0x800, 0x1F0FFF, 0x0, 0x0, 0x0, .l⟩,
  ⟨0x40, 16, 0x0, 0x0, 0x0, 0x0, 0x0, .none⟩,
  ⟨0x80, 16, 0x0, 0x0, 0x0, 0x0, 0x0, .none⟩,
  ⟨0xC0, 16, 0x80000000, 0x0, 0x0, 0x0, 0x0, .none⟩,
  ⟨0x800, 6, 0x14, 0x11F, 0x0, 0x0, 0x0, .s⟩]

/-- SD_CFG, SD_NOTCH, SD_FAST, SD_FAST_TH, SD_RES, SD_QUAL, SD_FAST_RES, SD_STAT. -/
def regsSd : List RegD := [
  ⟨0x0, 1, 0x404030, 0xF1FF7F, 0x0, 0x0, 0x0, .s⟩,
  ⟨0x4, 1, 0x0, 0x1FFF, 0x0, 0x0, 0x0, .s⟩,
  ⟨0x8, 1, 0x108, 0x173F, 0x0, 0x0, 0x0, .s⟩,
  ⟨0xC, 1, 0x80007FFF, 0xFFFFFFFF, 0x0, 0x0, 0x0, .l⟩,
  ⟨0x10, 1, 0x0, 0x0, 0x0, 0x0, 0x0, .none⟩,
  ⟨0x14, 1, 0x0, 0x0, 0x0, 0x0, 0x0, .none⟩,
  ⟨0x18, 1, 0x0, 0x0, 0x0, 0x0, 0x0, .none⟩,
  ⟨0x1C, 1, 0x0, 0x0, 0x3, 0x0, 0x0, .none⟩]

/-- FAULT_SUMMARY, FAULT_CLEAR, FAULT_PIN_CTRL, FAULT_PIN_CFG, FLT_FIFO_STATUS, FLT_FIFO_POP, FLT_LOST, FLT_TEST, FLT_REC, FLT_ACTIVE, FLT_SEVERE, TRC_CFG, TRC_CTRL, TRC_STATUS, TRC_START, TRC_TRIG_POS, TRC_DROPPED, TRC_READ, TRC_DATA, TRC_SIG. -/
def regsFlt : List RegD := [
  ⟨0x0, 1, 0x0, 0x0, 0x0, 0x0, 0x0, .none⟩,
  ⟨0x4, 1, 0x0, 0x0, 0x0, 0x1FFF, 0x0, .none⟩,
  ⟨0x8, 1, 0x0, 0x3, 0x0, 0x0, 0x0, .l⟩,
  ⟨0xC, 1, 0x10064, 0x103FF, 0x0, 0x0, 0x0, .l⟩,
  ⟨0x10, 1, 0x0, 0x0, 0x10000000, 0x0, 0x0, .none⟩,
  ⟨0x14, 1, 0x0, 0x0, 0x0, 0x1, 0x0, .none⟩,
  ⟨0x18, 1, 0x0, 0x0, 0x0, 0x0, 0x0, .none⟩,
  ⟨0x1C, 1, 0x0, 0x1, 0x0, 0x0, 0x0, .l⟩,
  ⟨0x40, 16, 0x0, 0x0, 0x0, 0x0, 0x0, .none⟩,
  ⟨0x100, 16, 0x0, 0x0, 0x0, 0x0, 0x0, .none⟩,
  ⟨0x140, 16, 0x0, 0x0, 0x0, 0x0, 0x0, .none⟩,
  ⟨0x200, 1, 0xC00001, 0xFF073F, 0x0, 0x0, 0x0, .s⟩,
  ⟨0x204, 1, 0x0, 0x5, 0x0, 0x2, 0x0, .l⟩,
  ⟨0x208, 1, 0x0, 0x0, 0x0, 0x0, 0x0, .none⟩,
  ⟨0x20C, 1, 0x0, 0x0, 0x0, 0x0, 0x0, .none⟩,
  ⟨0x210, 1, 0x0, 0x0, 0x0, 0x0, 0x0, .none⟩,
  ⟨0x214, 1, 0x0, 0x0, 0x0, 0x0, 0x0, .none⟩,
  ⟨0x218, 1, 0x0, 0x3FFFFF, 0x0, 0x0, 0x0, .l⟩,
  ⟨0x21C, 1, 0x0, 0x0, 0x0, 0x0, 0x0, .none⟩,
  ⟨0x240, 16, 0x0, 0xFFFFFFFF, 0x0, 0x0, 0x0, .s⟩]

/-- MON_CFG, MON_LO, MON_HI, MON_HYS. -/
def regsMon : List RegD := [
  ⟨0x0, 1, 0x0, 0xFF1FFFFF, 0x0, 0x0, 0x0, .s⟩,
  ⟨0x4, 1, 0x80000000, 0xFFFFFFFF, 0x0, 0x0, 0x0, .l⟩,
  ⟨0x8, 1, 0x7FFFFFFF, 0xFFFFFFFF, 0x0, 0x0, 0x0, .l⟩,
  ⟨0xC, 1, 0x0, 0xFFFFFFFF, 0x0, 0x0, 0x0, .l⟩]

/-- FLT_CNT, FLT_REACT. -/
def regsFltPol : List RegD := [
  ⟨0x0, 1, 0x110100, 0xF3FFFF, 0x0, 0x0, 0x0, .s⟩,
  ⟨0x4, 1, 0x0, 0x3F3737, 0x0, 0x0, 0x0, .s⟩]

/-- FLT_STATE. -/
def regsFltState : List RegD := [
  ⟨0x0, 1, 0x0, 0x0, 0x0, 0x0, 0x0, .none⟩]

/-- SS_CFG, SS_REVERT, SS_CTRL, SS_STATUS, SS_TERM, SS_CHECK, SS_HEALTH, SS_PEER_HEALTH, SS_DIVERGE, SS_VERDICT, SS_SWITCH, SS_REVERT_LEFT, SS_MIRROR. -/
def regsSs : List RegD := [
  ⟨0x0, 1, 0x12001022, 0xF3FFFF73, 0x0, 0x0, 0x0, .s⟩,
  ⟨0x4, 1, 0x400258, 0xFFFFFFFF, 0x0, 0x0, 0x0, .s⟩,
  ⟨0x8, 1, 0x0, 0x1, 0x0, 0x0, 0x0, .l⟩,
  ⟨0xC, 1, 0x0, 0x0, 0x30000, 0x0, 0x0, .none⟩,
  ⟨0x10, 1, 0x0, 0x0, 0x0, 0x0, 0x0, .none⟩,
  ⟨0x14, 1, 0x0, 0x0, 0x0, 0x0, 0x0, .none⟩,
  ⟨0x18, 1, 0x0, 0x0, 0x0, 0x0, 0x0, .none⟩,
  ⟨0x1C, 1, 0x0, 0x0, 0x0, 0x0, 0x0, .none⟩,
  ⟨0x20, 1, 0x0, 0x0, 0x0, 0x0, 0x0, .none⟩,
  ⟨0x24, 1, 0x0, 0x0, 0x0, 0x0, 0x0, .none⟩,
  ⟨0x28, 1, 0x0, 0x0, 0x0, 0x0, 0x0, .none⟩,
  ⟨0x2C, 1, 0x0, 0x0, 0x0, 0x0, 0x0, .none⟩,
  ⟨0x30, 1, 0x0, 0x0, 0x0, 0x0, 0x0, .none⟩]

/-- CLK_CFG, CLK_REFA, CLK_REFB, CLK_TCXO, CLK_SEL, CLK_QUAL, CLK_VCO_OFS, CLK_DIV, CLK_CMD, CLK_SYNC, CLK_STATUS, CLK_STICKY, CLK_MEAS, CLK_BUILDOUT, CLK_RESULT, CLK_TC, CLK_BAND. -/
def regsClk : List RegD := [
  ⟨0x0, 1, 0x6406, 0x7FF0F, 0x0, 0x0, 0x0, .s⟩,
  ⟨0x4, 1, 0x61A8, 0x17FFFFF, 0x0, 0x0, 0x0, .s⟩,
  ⟨0x8, 1, 0x61A8, 0x17FFFFF, 0x0, 0x0, 0x0, .s⟩,
  ⟨0xC, 1, 0x0, 0x7E0000, 0x0, 0x0, 0x0, .s⟩,
  ⟨0x10, 1, 0x124, 0xF3F, 0x0, 0x0, 0x0, .l⟩,
  ⟨0x14, 1, 0x40A32, 0xFFFFF, 0x0, 0x0, 0x0, .l⟩,
  ⟨0x18, 1, 0x0, 0xFFFFFFFF, 0x0, 0x0, 0x0, .c⟩,
  ⟨0x1C, 1, 0x190A0804, 0x1F, 0x0, 0x0, 0x0, .c⟩,
  ⟨0x20, 1, 0x0, 0x0, 0x0, 0x7, 0x0, .none⟩,
  ⟨0x24, 1, 0x8, 0xFFFF000F, 0x0, 0x0, 0x0, .l⟩,
  ⟨0x28, 1, 0x0, 0x0, 0x0, 0x0, 0x0, .none⟩,
  ⟨0x2C, 1, 0x0, 0x0, 0x1F, 0x0, 0x0, .none⟩,
  ⟨0x30, 1, 0x0, 0x0, 0x0, 0x0, 0x0, .none⟩,
  ⟨0x34, 1, 0x0, 0x0, 0x0, 0x0, 0x0, .none⟩,
  ⟨0x38, 1, 0x0, 0x0, 0x0, 0x0, 0x0, .none⟩,
  ⟨0x40, 1, 0x0, 0xFF, 0x0, 0x0, 0x0, .s⟩,
  ⟨0x100, 64, 0x0, 0xFFF0FFF, 0x0, 0x0, 0x0, .s⟩]

/-- TB_CFG, TB_SERVO, TB_LIMIT, TB_CTRL, TB_STEP_SEC, TB_STEP_NS, TB_STATUS, TB_STICKY, TB_NS, TB_SUBNS, TB_SEC_LO, TB_SEC_HI, TB_TICK_LO, TB_TICK_HI, TB_ADDEND, TB_FI, TB_OFS, TB_ADDEND_MAN, PTP_CFG, PTP_DS, PTP_INTV, PTP_ENABLE, PTP_STATUS, PTP_GM_ID, PTP_MPD, PTP_CLOCK_ID. -/
def regsTb : List RegD := [
  ⟨0x0, 1, 0xE100000, 0xFFFF0001, 0x0, 0x0, 0x0, .s⟩,
  ⟨0x4, 1, 0x640602, 0xFFFF1F1F, 0x0, 0x0, 0x0, .s⟩,
  ⟨0x8, 1, 0x880403E8, 0xFFFFFFFF, 0x0, 0x0, 0x0, .l⟩,
  ⟨0xC, 1, 0x0, 0x0, 0x0, 0x1, 0x0, .none⟩,
  ⟨0x10, 1, 0x0, 0xFFFFFFFF, 0x0, 0x0, 0x0, .l⟩,
  ⟨0x14, 1, 0x0, 0xFFFFFFFF, 0x0, 0x0, 0x0, .l⟩,
  ⟨0x18, 1, 0x0, 0x0, 0x0, 0x0, 0x0, .none⟩,
  ⟨0x1C, 1, 0x0, 0x0, 0x7, 0x0, 0x0, .none⟩,
  ⟨0x20, 1, 0x0, 0x0, 0x0, 0x0, 0x0, .none⟩,
  ⟨0x24, 1, 0x0, 0x0, 0x0, 0x0, 0x0, .none⟩,
  ⟨0x28, 1, 0x0, 0x0, 0x0, 0x0, 0x0, .none⟩,
  ⟨0x2C, 1, 0x0, 0x0, 0x0, 0x0, 0x0, .none⟩,
  ⟨0x30, 1, 0x0, 0x0, 0x0, 0x0, 0x0, .none⟩,
  ⟨0x34, 1, 0x0, 0x0, 0x0, 0x0, 0x0, .none⟩,
  ⟨0x38, 1, 0x0, 0x0, 0x0, 0x0, 0x0, .none⟩,
  ⟨0x3C, 1, 0x0, 0x0, 0x0, 0x0, 0x0, .none⟩,
  ⟨0x40, 1, 0x0, 0x0, 0x0, 0x0, 0x0, .none⟩,
  ⟨0x44, 1, 0x0, 0xFFFFFFFF, 0x0, 0x0, 0x0, .l⟩,
  ⟨0x100, 1, 0x10000, 0xFF17F0F, 0x0, 0x0, 0x0, .s⟩,
  ⟨0x104, 1, 0xF8F88080, 0xFFFFFFFF, 0x0, 0x0, 0x0, .s⟩,
  ⟨0x108, 1, 0x330000, 0xFFFFFF, 0x0, 0x0, 0x0, .s⟩,
  ⟨0x10C, 1, 0x0, 0x1, 0x0, 0x0, 0x0, .l⟩,
  ⟨0x110, 1, 0x0, 0x0, 0x0, 0x0, 0x0, .none⟩,
  ⟨0x114, 2, 0x0, 0x0, 0x0, 0x0, 0x0, .none⟩,
  ⟨0x11C, 1, 0x0, 0x0, 0x0, 0x0, 0x0, .none⟩,
  ⟨0x120, 2, 0x0, 0x0, 0x0, 0x0, 0x0, .none⟩]

/-- PTP_LAT_TX, PTP_LAT_RX, PTP_ASYM, PTP_PSTATUS, PTP_PDELAY. -/
def regsPtpPort : List RegD := [
  ⟨0x0, 1, 0x0, 0xFFFF, 0x0, 0x0, 0x0, .l⟩,
  ⟨0x4, 1, 0x0, 0xFFFF, 0x0, 0x0, 0x0, .l⟩,
  ⟨0x8, 1, 0x0, 0xFFFF, 0x0, 0x0, 0x0, .l⟩,
  ⟨0xC, 1, 0x0, 0x0, 0x0, 0x0, 0x0, .none⟩,
  ⟨0x10, 1, 0x0, 0x0, 0x0, 0x0, 0x0, .none⟩]

/-- TPO_CFG, TPO_ENABLE, TPO_START_SEC, TPO_START_NS, TPO_PERIOD, TPO_WIDTH, TPO_STATUS. -/
def regsTpo : List RegD := [
  ⟨0x0, 1, 0x0, 0xF, 0x0, 0x0, 0x0, .s⟩,
  ⟨0x4, 1, 0x0, 0x1, 0x0, 0x0, 0x0, .l⟩,
  ⟨0x8, 1, 0x0, 0xFFFFFFFF, 0x0, 0x0, 0x0, .s⟩,
  ⟨0xC, 1, 0x0, 0x3FFFFFFF, 0x0, 0x0, 0x0, .s⟩,
  ⟨0x10, 1, 0x3B9ACA00, 0xFFFFFFFF, 0x0, 0x0, 0x0, .s⟩,
  ⟨0x14, 1, 0x0, 0xFFFFFFFF, 0x0, 0x0, 0x0, .s⟩,
  ⟨0x18, 1, 0x0, 0x0, 0x4, 0x0, 0x0, .none⟩]

/-- CAN_CFG, CAN_ENABLE, CAN_NBT, CAN_DBT, CAN_TDC, CAN_CTRL, CAN_STATUS, CAN_STICKY, CAN_ERR, CAN_TXPEND, CAN_NEW. -/
def regsCan : List RegD := [
  ⟨0x0, 1, 0x0, 0x1F, 0x0, 0x0, 0x0, .s⟩,
  ⟨0x4, 1, 0x0, 0x1, 0x0, 0x0, 0x0, .l⟩,
  ⟨0x8, 1, 0x13134E01, 0x7F7FFF1F, 0x0, 0x0, 0x0, .s⟩,
  ⟨0xC, 1, 0x3030E00, 0xF0F1F1F, 0x0, 0x0, 0x0, .s⟩,
  ⟨0x10, 1, 0x10, 0x7F7F, 0x0, 0x0, 0x0, .s⟩,
  ⟨0x14, 1, 0x0, 0x0, 0x0, 0x1, 0x0, .none⟩,
  ⟨0x18, 1, 0x0, 0x0, 0x0, 0x0, 0x0, .none⟩,
  ⟨0x1C, 1, 0x0, 0x0, 0x3F, 0x0, 0x0, .none⟩,
  ⟨0x20, 1, 0x0, 0x0, 0x0, 0x0, 0x0, .none⟩,
  ⟨0x40, 8, 0x0, 0x0, 0x0, 0x0, 0x0, .none⟩,
  ⟨0x60, 8, 0x0, 0x0, 0x0, 0x0, 0x0, .none⟩]

/-- OBJ_ENABLE, OBJ_CFG, OBJ_ID, OBJ_MASK, OBJ_CMD, OBJ_STATUS, OBJ_TSTAMP, OBJ_RXINFO, OBJ_RXLEN, OBJ_DATA. -/
def regsObj : List RegD := [
  ⟨0x0, 1, 0x0, 0x1, 0x0, 0x0, 0x0, .l⟩,
  ⟨0x4, 1, 0x0, 0x7FF3F, 0x0, 0x0, 0x0, .s⟩,
  ⟨0x8, 1, 0x0, 0x1FFFFFFF, 0x0, 0x0, 0x0, .s⟩,
  ⟨0xC, 1, 0x0, 0x1FFFFFFF, 0x0, 0x0, 0x0, .s⟩,
  ⟨0x10, 1, 0x0, 0x0, 0x0, 0x3, 0x0, .none⟩,
  ⟨0x14, 1, 0x0, 0x0, 0x300, 0x0, 0x0, .none⟩,
  ⟨0x18, 1, 0x0, 0x0, 0x0, 0x0, 0x0, .none⟩,
  ⟨0x1C, 1, 0x0, 0x0, 0x0, 0x0, 0x0, .none⟩,
  ⟨0x20, 1, 0x0, 0x0, 0x0, 0x0, 0x0, .none⟩,
  ⟨0x40, 16, 0x0, 0xFFFFFFFF, 0x0, 0x0, 0x0, .l⟩]

/-- CAN_GCFG. -/
def regsCanG : List RegD := [
  ⟨0x0, 1, 0x0, 0x1, 0x0, 0x0, 0x0, .s⟩]

/-- PWR_REQ, PWR_STATE, PWR_AGENT, PWR_CFG, PWR_WAKE_A, PWR_WAKE_B, PWR_SHED, PWR_VIN, PWR_AVS, PWR_AVS_STATUS, PWR_STICKY, PWR_LG_STATUS. -/
def regsPwr : List RegD := [
  ⟨0x0, 1, 0x0, 0x3, 0x0, 0x0, 0x0, .l⟩,
  ⟨0x4, 1, 0x0, 0x0, 0x0, 0x0, 0x0, .none⟩,
  ⟨0x8, 1, 0x0, 0x0, 0x0, 0x0, 0x0, .none⟩,
  ⟨0xC, 1, 0xA0308, 0xFF030F, 0x0, 0x0, 0x0, .s⟩,
  ⟨0x10, 1, 0xA1478, 0xFF7FFF, 0x0, 0x0, 0x0, .l⟩,
  ⟨0x14, 1, 0xA1478, 0xFF7FFF, 0x0, 0x0, 0x0, .l⟩,
  ⟨0x18, 1, 0x0, 0x0, 0x0, 0x0, 0x0, .none⟩,
  ⟨0x1C, 1, 0x0, 0x0, 0x0, 0x0, 0x0, .none⟩,
  ⟨0x20, 1, 0x103520, 0xFFFFF1, 0x0, 0x0, 0x0, .l⟩,
  ⟨0x24, 1, 0x0, 0x0, 0x0, 0x0, 0x0, .none⟩,
  ⟨0x28, 1, 0x0, 0x0, 0x1F, 0x0, 0x0, .none⟩,
  ⟨0x2C, 1, 0x0, 0x0, 0x0, 0x0, 0x0, .none⟩]

/-- IMG_STATUS, IMG_CHECK, IMG_DETAIL, IMG_RUN_SEQ, IMG_FW_VER, IMG_BANK_A, IMG_BANK_B, OTP_STATE, IMG_NONCE, IMG_OP_STATUS, NV_INFO, IMG_BUF, IMG_CERT, IMG_ATTEST. -/
def regsImg : List RegD := [
  ⟨0x0, 1, 0x0, 0x10, 0x0, 0x0, 0x10, .none⟩,
  ⟨0x4, 1, 0x0, 0x0, 0x0, 0x0, 0x0, .none⟩,
  ⟨0x8, 1, 0x0, 0x0, 0x0, 0x0, 0x0, .none⟩,
  ⟨0xC, 1, 0x0, 0x0, 0x0, 0x0, 0x0, .none⟩,
  ⟨0x10, 1, 0x0, 0x0, 0x0, 0x0, 0x0, .none⟩,
  ⟨0x14, 1, 0x0, 0x0, 0x0, 0x0, 0x0, .none⟩,
  ⟨0x18, 1, 0x0, 0x0, 0x0, 0x0, 0x0, .none⟩,
  ⟨0x1C, 1, 0x0, 0x0, 0x0, 0x0, 0x0, .none⟩,
  ⟨0x20, 8, 0x0, 0x0, 0x0, 0x0, 0x0, .none⟩,
  ⟨0x40, 1, 0x0, 0x0, 0x6, 0x0, 0x0, .none⟩,
  ⟨0x44, 1, 0x0, 0x0, 0x0, 0x0, 0x0, .none⟩,
  ⟨0x1000, 1024, 0x0, 0xFFFFFFFF, 0x0, 0x0, 0x0, .l⟩,
  ⟨0x2000, 40, 0x0, 0x0, 0x0, 0x0, 0x0, .none⟩,
  ⟨0x2100, 64, 0x0, 0x0, 0x0, 0x0, 0x0, .none⟩]

/-- All families, in address order within their windows (R673). -/
def famTable : List FamD := [
  ⟨.dev, 0x0, 0x0, 1, 0x1000, 0, regsDev⟩,
  ⟨.str, 0x10000, 0x1000, 8, 0x1000, 0, regsStr⟩,
  ⟨.node, 0x100000, 0x1000, 96, 0x1000, 0, regsNode⟩,
  ⟨.loopD, 0x200000, 0x40, 2048, 0x40, 0, regsLoopD⟩,
  ⟨.loopChk, 0x220000, 0x4, 2048, 0x4, 0, regsLoopChk⟩,
  ⟨.loopStat, 0x230000, 0x4, 2048, 0x4, 0, regsLoopStat⟩,
  ⟨.loopCom, 0x240000, 0x0, 1, 0x100, 0, regsLoopCom⟩,
  ⟨.rg, 0x240100, 0x40, 8, 0x40, 0, regsRg⟩,
  ⟨.loopTab, 0x240400, 0x0, 1, 0xC00, 0, regsLoopTab⟩,
  ⟨.loopS, 0x280000, 0x20, 2048, 0x20, 0, regsLoopS⟩,
  ⟨.mod, 0x300000, 0x0, 1, 0x2000, 0, regsMod⟩,
  ⟨.aux, 0x302000, 0x40, 8, 0x40, 0, regsAux⟩,
  ⟨.lnk, 0x340000, 0x0, 1, 0x1000, 0, regsLnk⟩,
  ⟨.port, 0x341000, 0x40, 96, 0x40, 0, regsPort⟩,
  ⟨.prot, 0x380000, 0x0, 1, 0x100, 0, regsProt⟩,
  ⟨.protStr, 0x380100, 0x4, 8, 0x4, 0, regsProtStr⟩,
  ⟨.prof, 0x381000, 0x40, 16, 0x40, 0, regsProf⟩,
  ⟨.sens, 0x3C0000, 0x0, 1, 0x1000, 0, regsSens⟩,
  ⟨.sd, 0x3C1000, 0x20, 24, 0x20, 0, regsSd⟩,
  ⟨.flt, 0x400000, 0x0, 1, 0x400, 0, regsFlt⟩,
  ⟨.mon, 0x400400, 0x10, 16, 0x10, 0, regsMon⟩,
  ⟨.fltPol, 0x401000, 0x8, 512, 0x8, 0, regsFltPol⟩,
  ⟨.fltState, 0x402000, 0x4, 512, 0x4, 0, regsFltState⟩,
  ⟨.ss, 0x440000, 0x0, 1, 0x1000, 0, regsSs⟩,
  ⟨.clk, 0x480000, 0x0, 1, 0x1000, 0, regsClk⟩,
  ⟨.tb, 0x4C0000, 0x0, 1, 0x200, 0, regsTb⟩,
  ⟨.ptpPort, 0x4C0200, 0x20, 2, 0x20, 0, regsPtpPort⟩,
  ⟨.tpo, 0x4C0400, 0x20, 8, 0x20, 0, regsTpo⟩,
  ⟨.can, 0x500000, 0x10000, 2, 0x8000, 0, regsCan⟩,
  ⟨.obj, 0x508000, 0x80, 256, 0x80, 0, regsObj⟩,
  ⟨.obj, 0x518000, 0x80, 256, 0x80, 256, regsObj⟩,
  ⟨.canG, 0x520000, 0x0, 1, 0x10, 0, regsCanG⟩,
  ⟨.pwr, 0x540000, 0x0, 1, 0x1000, 0, regsPwr⟩,
  ⟨.img, 0x580000, 0x0, 1, 0x4000, 0, regsImg⟩]

def bDev : Nat := 0x0
def bStr (i : Nat) : Nat := 0x10000 + 0x1000 * i
def bNode (i : Nat) : Nat := 0x100000 + 0x1000 * i
def bLoopD (i : Nat) : Nat := 0x200000 + 0x40 * i
def bLoopChk (i : Nat) : Nat := 0x220000 + 0x4 * i
def bLoopStat (i : Nat) : Nat := 0x230000 + 0x4 * i
def bLoopCom : Nat := 0x240000
def bRg (i : Nat) : Nat := 0x240100 + 0x40 * i
def bLoopTab : Nat := 0x240400
def bLoopS (i : Nat) : Nat := 0x280000 + 0x20 * i
def bMod : Nat := 0x300000
def bAux (i : Nat) : Nat := 0x302000 + 0x40 * i
def bLnk : Nat := 0x340000
def bPort (i : Nat) : Nat := 0x341000 + 0x40 * i
def bProt : Nat := 0x380000
def bProtStr (i : Nat) : Nat := 0x380100 + 0x4 * i
def bProf (i : Nat) : Nat := 0x381000 + 0x40 * i
def bSens : Nat := 0x3C0000
def bSd (i : Nat) : Nat := 0x3C1000 + 0x20 * i
def bFlt : Nat := 0x400000
def bMon (i : Nat) : Nat := 0x400400 + 0x10 * i
def bFltPol (i : Nat) : Nat := 0x401000 + 0x8 * i
def bFltState (i : Nat) : Nat := 0x402000 + 0x4 * i
def bSs : Nat := 0x440000
def bClk : Nat := 0x480000
def bTb : Nat := 0x4C0000
def bPtpPort (i : Nat) : Nat := 0x4C0200 + 0x20 * i
def bTpo (i : Nat) : Nat := 0x4C0400 + 0x20 * i
def bCan (i : Nat) : Nat := 0x500000 + 0x10000 * i
def bCanG : Nat := 0x520000
def bPwr : Nat := 0x540000
def bImg : Nat := 0x580000
/-- Message object o of controller c, numbered 256 c + o (R622). -/
def bObj (i : Nat) : Nat := 0x508000 + 0x10000 * (i / 256) + 0x80 * (i % 256)

end Sys2Proof.Machine
end

