-- ==== Sys2Proof/Machine/Fields.lean ====
section
/-! DEFINITION. The fields of the register map: one constant per row of the field tables of spec/ (R80, R203, R205, R207, R292, R294, R315, R374, R380, R422, R424, R461, R500, R565, R594, R648 and the field tables of the other chapters: register offset in its block, lowest bit, width). -/

namespace Sys2Proof.Machine

/-- A field: offset of its register in the block, lowest bit, width in bits. -/
structure Fld where
  off : Nat
  lo : Nat
  w : Nat
deriving DecidableEq, Repr

namespace F

-- block dev
def DEV_ID : Fld := ⟨0x0, 0, 32⟩
def DEV_ID_PART : Fld := ⟨0x0, 0, 32⟩
def DEV_INFO : Fld := ⟨0x4, 0, 32⟩
def DEV_INFO_VARIANT : Fld := ⟨0x4, 0, 8⟩
def DEV_INFO_STEP : Fld := ⟨0x4, 8, 4⟩
def DEV_STATUS : Fld := ⟨0x8, 0, 32⟩
def DEV_STATUS_SLOT_ID : Fld := ⟨0x8, 0, 6⟩
def DEV_STATUS_PREF : Fld := ⟨0x8, 6, 1⟩
def DEV_STATUS_PRESENT : Fld := ⟨0x8, 7, 1⟩
def DEV_STATUS_EJECT : Fld := ⟨0x8, 8, 1⟩
def DEV_STATUS_PEER_PRESENT : Fld := ⟨0x8, 9, 1⟩
def DEV_STATUS_RESET_CAUSE : Fld := ⟨0x8, 16, 3⟩
def DEV_ROLE : Fld := ⟨0xC, 0, 32⟩
def DEV_ROLE_ROLE : Fld := ⟨0xC, 0, 2⟩
def DEV_ROLE_PEER_ROLE : Fld := ⟨0xC, 2, 2⟩
def DEV_ENABLE : Fld := ⟨0x10, 0, 32⟩
def DEV_ENABLE_ENABLE : Fld := ⟨0x10, 0, 1⟩
def DEV_CHECK : Fld := ⟨0x14, 0, 32⟩
def DEV_CHECK_REASON : Fld := ⟨0x14, 0, 16⟩
def DEV_CHECK_CULPRIT_INDEX : Fld := ⟨0x14, 16, 12⟩
def DEV_CHECK_CULPRIT_TYPE : Fld := ⟨0x14, 28, 4⟩
def DEV_MODE : Fld := ⟨0x18, 0, 32⟩
def DEV_MODE_MODE : Fld := ⟨0x18, 0, 3⟩
def DEV_MODE_PREV : Fld := ⟨0x18, 4, 3⟩
def DEV_MODE_TRANS : Fld := ⟨0x18, 7, 1⟩
def DEV_MODE_CHARGE_DONE : Fld := ⟨0x18, 8, 1⟩
def DEV_MODE_CAUSE : Fld := ⟨0x18, 16, 8⟩
def DEV_MODE_REQ : Fld := ⟨0x1C, 0, 32⟩
def DEV_MODE_REQ_TARGET : Fld := ⟨0x1C, 0, 3⟩
def DEV_MODE_REQ_RESULT : Fld := ⟨0x1C, 16, 16⟩
def DEV_MODE_CFG : Fld := ⟨0x20, 0, 32⟩
def DEV_MODE_CFG_RIDE_MAX : Fld := ⟨0x20, 0, 12⟩
def DEV_MODE_CFG_RIDE_SETTLE : Fld := ⟨0x20, 12, 8⟩
def DEV_MODE_CFG_CHARGE_MAX : Fld := ⟨0x20, 20, 8⟩
def DEV_MODE_CFG_AUTO_RUN : Fld := ⟨0x20, 28, 1⟩
def DEV_BOOT : Fld := ⟨0x24, 0, 32⟩
def DEV_BOOT_BOOT_ID : Fld := ⟨0x24, 0, 32⟩
def DEV_WR_ADDR : Fld := ⟨0x28, 0, 32⟩
def DEV_WR_ADDR_ADDR : Fld := ⟨0x28, 0, 32⟩
def DEV_WR_REASON : Fld := ⟨0x2C, 0, 32⟩
def DEV_WR_REASON_REASON : Fld := ⟨0x2C, 0, 16⟩
def DEV_WR_REASON_LOST : Fld := ⟨0x2C, 16, 1⟩
def DEV_IRQ_STATUS : Fld := ⟨0x30, 0, 32⟩
def DEV_IRQ_STATUS_CMD_DONE : Fld := ⟨0x30, 0, 1⟩
def DEV_IRQ_STATUS_MODE : Fld := ⟨0x30, 1, 1⟩
def DEV_IRQ_STATUS_FAULT_REC : Fld := ⟨0x30, 2, 1⟩
def DEV_IRQ_STATUS_FAULT_PIN : Fld := ⟨0x30, 3, 1⟩
def DEV_IRQ_STATUS_SEVERE : Fld := ⟨0x30, 4, 1⟩
def DEV_IRQ_STATUS_ROLE : Fld := ⟨0x30, 5, 1⟩
def DEV_IRQ_STATUS_CHECK : Fld := ⟨0x30, 6, 1⟩
def DEV_IRQ_STATUS_IMG_OP : Fld := ⟨0x30, 7, 1⟩
def DEV_IRQ_STATUS_PWR : Fld := ⟨0x30, 8, 1⟩
def DEV_IRQ_STATUS_RESET : Fld := ⟨0x30, 9, 1⟩
def DEV_IRQ_STATUS_WR_REFUSED : Fld := ⟨0x30, 10, 1⟩
def DEV_IRQ_MASK : Fld := ⟨0x34, 0, 32⟩
def DEV_IRQ_MASK_CMD_DONE : Fld := ⟨0x34, 0, 1⟩
def DEV_IRQ_MASK_MODE : Fld := ⟨0x34, 1, 1⟩
def DEV_IRQ_MASK_FAULT_REC : Fld := ⟨0x34, 2, 1⟩
def DEV_IRQ_MASK_FAULT_PIN : Fld := ⟨0x34, 3, 1⟩
def DEV_IRQ_MASK_SEVERE : Fld := ⟨0x34, 4, 1⟩
def DEV_IRQ_MASK_ROLE : Fld := ⟨0x34, 5, 1⟩
def DEV_IRQ_MASK_CHECK : Fld := ⟨0x34, 6, 1⟩
def DEV_IRQ_MASK_IMG_OP : Fld := ⟨0x34, 7, 1⟩
def DEV_IRQ_MASK_PWR : Fld := ⟨0x34, 8, 1⟩
def DEV_IRQ_MASK_RESET : Fld := ⟨0x34, 9, 1⟩
def DEV_IRQ_MASK_WR_REFUSED : Fld := ⟨0x34, 10, 1⟩
def CMD_ARG : Fld := ⟨0x40, 0, 32⟩
def CMD_ARG_ARG : Fld := ⟨0x40, 0, 32⟩
def CMD_OP : Fld := ⟨0x50, 0, 32⟩
def CMD_OP_OP : Fld := ⟨0x50, 0, 16⟩
def CMD_RESULT : Fld := ⟨0x54, 0, 32⟩
def CMD_RESULT_REASON : Fld := ⟨0x54, 0, 16⟩
def CMD_RESULT_BUSY : Fld := ⟨0x54, 16, 1⟩
def CMD_RESULT_DONE : Fld := ⟨0x54, 17, 1⟩
def CMD_RESULT_VIA_LMP : Fld := ⟨0x54, 18, 1⟩
def CMD_RESULT_OP : Fld := ⟨0x54, 24, 8⟩
def LMP_CFG : Fld := ⟨0x60, 0, 32⟩
def LMP_CFG_PORT : Fld := ⟨0x60, 0, 16⟩
def LMP_CFG_MAXSESS : Fld := ⟨0x60, 16, 4⟩
def LMP_CFG_IDLE : Fld := ⟨0x60, 20, 8⟩
def LMP_IP : Fld := ⟨0x64, 0, 32⟩
def LMP_IP_ADDR : Fld := ⟨0x64, 0, 32⟩
def LMP_STATUS : Fld := ⟨0x68, 0, 32⟩
def LMP_STATUS_SESSIONS : Fld := ⟨0x68, 0, 3⟩
def LMP_STATUS_DROPPED : Fld := ⟨0x68, 8, 8⟩
def LMP_MAC_LO : Fld := ⟨0x6C, 0, 32⟩
def LMP_MAC_HI : Fld := ⟨0x70, 0, 32⟩
-- block str
def STR_CFG : Fld := ⟨0x0, 0, 32⟩
def STR_CFG_KIND : Fld := ⟨0x0, 0, 2⟩
def STR_CFG_TAG : Fld := ⟨0x0, 4, 2⟩
def STR_CFG_SRC : Fld := ⟨0x0, 8, 1⟩
def STR_CFG_RELOAD : Fld := ⟨0x0, 9, 1⟩
def STR_CFG_ZSEQ : Fld := ⟨0x0, 10, 2⟩
def STR_CFG_TEST : Fld := ⟨0x0, 12, 1⟩
def STR_CFG_DT_ADAPT : Fld := ⟨0x0, 13, 1⟩
def STR_CFG_MEMBERS : Fld := ⟨0x0, 16, 6⟩
def STR_ENABLE : Fld := ⟨0x4, 0, 32⟩
def STR_ENABLE_ENABLE : Fld := ⟨0x4, 0, 1⟩
def STR_COMMIT : Fld := ⟨0x8, 0, 32⟩
def STR_COMMIT_GO : Fld := ⟨0x8, 0, 1⟩
def STR_CHECK : Fld := ⟨0xC, 0, 32⟩
def STR_CHECK_REASON : Fld := ⟨0xC, 0, 16⟩
def STR_CHECK_CULPRIT_INDEX : Fld := ⟨0xC, 16, 12⟩
def STR_CHECK_CULPRIT_TYPE : Fld := ⟨0xC, 28, 4⟩
def STR_COMMIT_STATUS : Fld := ⟨0x10, 0, 32⟩
def STR_COMMIT_STATUS_PENDING : Fld := ⟨0x10, 0, 1⟩
def STR_COMMIT_STATUS_LATCHED : Fld := ⟨0x10, 1, 1⟩
def STR_COMMIT_STATUS_COMMIT_LATE : Fld := ⟨0x10, 2, 1⟩
def STR_COMMIT_STATUS_REFUSED : Fld := ⟨0x10, 3, 1⟩
def STR_COMMIT_STATUS_COALESCED : Fld := ⟨0x10, 4, 1⟩
def STR_COMMIT_STATUS_REFUSED_NODE : Fld := ⟨0x10, 8, 7⟩
def STR_COMMIT_STATUS_REFUSED_REASON : Fld := ⟨0x10, 16, 16⟩
def STR_STATUS : Fld := ⟨0x14, 0, 32⟩
def STR_STATUS_RUNNING : Fld := ⟨0x14, 0, 1⟩
def STR_STATUS_SAT : Fld := ⟨0x14, 1, 1⟩
def STR_STATUS_ANCHOR_LOCK : Fld := ⟨0x14, 2, 1⟩
def STR_STATUS_RELOAD_CNT : Fld := ⟨0x14, 16, 16⟩
def STR_PERIOD : Fld := ⟨0x18, 0, 32⟩
def STR_PERIOD_PERIOD : Fld := ⟨0x18, 0, 24⟩
def STR_DAB : Fld := ⟨0x1C, 0, 32⟩
def STR_DAB_RATIO : Fld := ⟨0x1C, 0, 7⟩
def STR_DAB_SPREAD : Fld := ⟨0x1C, 8, 1⟩
def STR_DAB_EPS : Fld := ⟨0x1C, 9, 1⟩
def STR_DAB_ALPHA : Fld := ⟨0x20, 0, 32⟩
def STR_DAB_ALPHA_ALPHA : Fld := ⟨0x20, 0, 24⟩
def STR_DAB_PHIMAX : Fld := ⟨0x24, 0, 32⟩
def STR_DAB_PHIMAX_PHIMAX : Fld := ⟨0x24, 0, 24⟩
def STR_ACTIVE : Fld := ⟨0x28, 0, 32⟩
def STR_ACTIVE_MASK : Fld := ⟨0x28, 0, 32⟩
def STR_REF : Fld := ⟨0x2C, 0, 32⟩
def STR_REF_BASE : Fld := ⟨0x2C, 0, 8⟩
def STR_ANCHOR : Fld := ⟨0x30, 0, 32⟩
def STR_ANCHOR_SRC : Fld := ⟨0x30, 0, 1⟩
def STR_ANCHOR_TRIM_MAX : Fld := ⟨0x30, 8, 8⟩
def STR_ANCHOR_OFS : Fld := ⟨0x34, 0, 32⟩
def STR_ANCHOR_OFS_OFS : Fld := ⟨0x34, 0, 24⟩
def STR_BAL_CFG : Fld := ⟨0x40, 0, 32⟩
def STR_BAL_CFG_NREF : Fld := ⟨0x40, 0, 6⟩
def STR_BAL_CFG_NMIN : Fld := ⟨0x40, 8, 6⟩
def STR_BAL_CFG_SCALE_EN : Fld := ⟨0x40, 15, 1⟩
def STR_BAL_CFG_DWELL : Fld := ⟨0x40, 16, 8⟩
def STR_BAL_CFG_PRE_TMO : Fld := ⟨0x40, 24, 8⟩
def STR_BAL_BASE : Fld := ⟨0x44, 0, 32⟩
def STR_BAL_BASE_B : Fld := ⟨0x44, 0, 32⟩
def STR_BAL_LEAF : Fld := ⟨0x48, 0, 32⟩
def STR_BAL_LEAF_LEAF : Fld := ⟨0x48, 0, 32⟩
def STR_CELL_WIN : Fld := ⟨0x4C, 0, 32⟩
def STR_CELL_WIN_WIN_LO : Fld := ⟨0x4C, 0, 16⟩
def STR_CELL_WIN_WIN_HI : Fld := ⟨0x4C, 16, 16⟩
def STR_SCALE : Fld := ⟨0x50, 0, 32⟩
def STR_SCALE_ENTRY_2k : Fld := ⟨0x50, 0, 16⟩
def STR_SCALE_ENTRY_2k_1 : Fld := ⟨0x50, 16, 16⟩
def STR_SUBST : Fld := ⟨0x60, 0, 32⟩
def STR_SUBST_SIG : Fld := ⟨0x60, 0, 10⟩
def STR_SUBST_CA : Fld := ⟨0x60, 10, 3⟩
def STR_SUBST_CB : Fld := ⟨0x60, 13, 3⟩
def STR_SUBST_LOOP : Fld := ⟨0x60, 16, 11⟩
def STR_SUBST_EN : Fld := ⟨0x60, 31, 1⟩
def STR_CELL_STATUS : Fld := ⟨0x64, 0, 32⟩
def STR_CELL_STATUS_N : Fld := ⟨0x64, 0, 6⟩
def STR_CELL_STATUS_PENDING : Fld := ⟨0x64, 8, 1⟩
def STR_CELL_STATUS_IN_WINDOW : Fld := ⟨0x64, 9, 1⟩
def STR_CELL_STATUS_UNDER_MIN : Fld := ⟨0x64, 10, 1⟩
def STR_CELL_STATUS_SUBST_DONE : Fld := ⟨0x64, 11, 1⟩
def STR_CELL_STATUS_CHANGES : Fld := ⟨0x64, 16, 16⟩
def STR_WIN_MASK : Fld := ⟨0x68, 0, 32⟩
def STR_WIN_MASK_OUT : Fld := ⟨0x68, 0, 32⟩
def STR_OUT_CAUSE : Fld := ⟨0x6C, 0, 32⟩
def STR_OUT_CAUSE_REACTION : Fld := ⟨0x6C, 0, 32⟩
def STR_POS_STATE : Fld := ⟨0x70, 0, 32⟩
def STR_POS_STATE_STATE : Fld := ⟨0x70, 0, 32⟩
def STR_MEMBER : Fld := ⟨0x80, 0, 32⟩
def STR_MEMBER_NODE : Fld := ⟨0x80, 0, 7⟩
def STR_MEMBER_VALID : Fld := ⟨0x80, 7, 1⟩
def STR_POSTERM : Fld := ⟨0x100, 0, 32⟩
def STR_POSTERM_ENTRY_V : Fld := ⟨0x100, 0, 16⟩
def STR_POSTERM_ENTRY_T : Fld := ⟨0x100, 16, 16⟩
-- block node
def NODE_CFG : Fld := ⟨0x0, 0, 32⟩
def NODE_CFG_PORT : Fld := ⟨0x0, 0, 7⟩
def NODE_CFG_CLASS : Fld := ⟨0x0, 8, 2⟩
def NODE_ENABLE : Fld := ⟨0x4, 0, 32⟩
def NODE_ENABLE_ENABLE : Fld := ⟨0x4, 0, 1⟩
def NODE_CHECK : Fld := ⟨0x8, 0, 32⟩
def NODE_CHECK_REASON : Fld := ⟨0x8, 0, 16⟩
def NODE_CHECK_CULPRIT_INDEX : Fld := ⟨0x8, 16, 12⟩
def NODE_CHECK_CULPRIT_TYPE : Fld := ⟨0x8, 28, 4⟩
def NODE_STATE : Fld := ⟨0xC, 0, 32⟩
def NODE_STATE_NSTATE : Fld := ⟨0xC, 0, 3⟩
def NODE_STATE_PARAM_OK : Fld := ⟨0xC, 3, 1⟩
def NODE_STATE_REACH : Fld := ⟨0xC, 4, 1⟩
def NODE_STATE_OBEYS : Fld := ⟨0xC, 5, 1⟩
def NODE_STATE_CONTACTOR : Fld := ⟨0xC, 6, 1⟩
def NODE_STATE_HOLD_CNT : Fld := ⟨0xC, 16, 16⟩
def NODE_HOLD : Fld := ⟨0x10, 0, 32⟩
def NODE_HOLD_HOLD_PERIODS : Fld := ⟨0x10, 0, 4⟩
def NODE_HOLD_SAFE : Fld := ⟨0x10, 8, 2⟩
def NODE_HOLD_CONTACTOR : Fld := ⟨0x10, 10, 1⟩
def NODE_HOLD_SAFE_DT : Fld := ⟨0x10, 16, 16⟩
def NODE_LEG_MAP0 : Fld := ⟨0x100, 0, 32⟩
def NODE_LEG_MAP0_FUNC0 : Fld := ⟨0x100, 0, 3⟩
def NODE_LEG_MAP0_IDX0 : Fld := ⟨0x100, 4, 4⟩
def NODE_LEG_MAP0_FUNC1 : Fld := ⟨0x100, 8, 3⟩
def NODE_LEG_MAP0_IDX1 : Fld := ⟨0x100, 12, 4⟩
def NODE_LEG_MAP0_FUNC2 : Fld := ⟨0x100, 16, 3⟩
def NODE_LEG_MAP0_IDX2 : Fld := ⟨0x100, 20, 4⟩
def NODE_LEG_MAP0_FUNC3 : Fld := ⟨0x100, 24, 3⟩
def NODE_LEG_MAP0_IDX3 : Fld := ⟨0x100, 28, 4⟩
def NODE_LEG_MAP1 : Fld := ⟨0x104, 0, 32⟩
def NODE_LEG_MAP1_FUNC4 : Fld := ⟨0x104, 0, 3⟩
def NODE_LEG_MAP1_IDX4 : Fld := ⟨0x104, 4, 4⟩
def NODE_LEG_MAP1_FUNC5 : Fld := ⟨0x104, 8, 3⟩
def NODE_LEG_MAP1_IDX5 : Fld := ⟨0x104, 12, 4⟩
def NODE_DT : Fld := ⟨0x110, 0, 32⟩
def NODE_DT_FIXED : Fld := ⟨0x110, 0, 16⟩
def NODE_MINP : Fld := ⟨0x130, 0, 32⟩
def NODE_MINP_MINP : Fld := ⟨0x130, 0, 17⟩
def NODE_MINP_MODE : Fld := ⟨0x130, 31, 1⟩
def NODE_DT_LIM : Fld := ⟨0x150, 0, 32⟩
def NODE_DT_LIM_DT_MIN : Fld := ⟨0x150, 0, 16⟩
def NODE_DT_LIM_DT_MAX : Fld := ⟨0x150, 16, 16⟩
def NODE_DT_ADAPT : Fld := ⟨0x154, 0, 32⟩
def NODE_DT_ADAPT_TARGET : Fld := ⟨0x154, 0, 16⟩
def NODE_DT_ADAPT_STEP : Fld := ⟨0x154, 16, 8⟩
def NODE_DT_ADAPT_GAIN_SH : Fld := ⟨0x154, 24, 4⟩
def NODE_BS : Fld := ⟨0x160, 0, 32⟩
def NODE_BS_LEGS : Fld := ⟨0x160, 0, 6⟩
def NODE_BS_WIDTH : Fld := ⟨0x160, 16, 16⟩
def NODE_OVR : Fld := ⟨0x170, 0, 32⟩
def NODE_OVR_LEG : Fld := ⟨0x170, 0, 3⟩
def NODE_OVR_HIGH : Fld := ⟨0x170, 4, 1⟩
def NODE_OVR_LOW : Fld := ⟨0x170, 5, 1⟩
def NODE_OVR_APPLY : Fld := ⟨0x170, 8, 1⟩
def NODE_DT_NOW : Fld := ⟨0x180, 0, 32⟩
def NODE_DT_NOW_DT_POS : Fld := ⟨0x180, 0, 16⟩
def NODE_DT_NOW_DT_NEG : Fld := ⟨0x180, 16, 16⟩
def NODE_MOD_STATUS : Fld := ⟨0x1B0, 0, 32⟩
def NODE_MOD_STATUS_FALLBACK : Fld := ⟨0x1B0, 0, 6⟩
def NODE_MOD_STATUS_OVR : Fld := ⟨0x1B0, 8, 6⟩
def NODE_MOD_STATUS_BS_PENDING : Fld := ⟨0x1B0, 16, 6⟩
def NODE_MOD_STATUS_CARRY_CLAMP : Fld := ⟨0x1B0, 24, 1⟩
def NODE_ID0 : Fld := ⟨0x200, 0, 32⟩
def NODE_ID0_CONTRACT : Fld := ⟨0x200, 0, 16⟩
def NODE_ID0_CLASS : Fld := ⟨0x200, 16, 8⟩
def NODE_ID0_LEGS : Fld := ⟨0x200, 24, 6⟩
def NODE_ID1 : Fld := ⟨0x204, 0, 32⟩
def NODE_ID1_VENDOR : Fld := ⟨0x204, 0, 32⟩
def NODE_ID2 : Fld := ⟨0x208, 0, 32⟩
def NODE_ID2_SERIAL : Fld := ⟨0x208, 0, 32⟩
def NODE_ID3 : Fld := ⟨0x20C, 0, 32⟩
def NODE_ID3_SERIAL : Fld := ⟨0x20C, 0, 32⟩
def NODE_ID4 : Fld := ⟨0x210, 0, 32⟩
def NODE_ID4_ANODE : Fld := ⟨0x210, 0, 16⟩
def NODE_ID4_EXEC_TOL : Fld := ⟨0x210, 16, 16⟩
def NODE_LATE : Fld := ⟨0x214, 0, 32⟩
def NODE_LATE_LATE : Fld := ⟨0x214, 0, 16⟩
def NODE_LATE_CONFLICT : Fld := ⟨0x214, 16, 16⟩
def NODE_PROF_PRI : Fld := ⟨0x300, 0, 32⟩
def NODE_PROF_PRI_PROF : Fld := ⟨0x300, 0, 24⟩
def NODE_PROF_ALT : Fld := ⟨0x304, 0, 32⟩
def NODE_PROF_ALT_ALT_EN : Fld := ⟨0x304, 24, 6⟩
def NODE_PROF_ALT_PROF : Fld := ⟨0x304, 0, 24⟩
def NODE_PROT_STATE : Fld := ⟨0x308, 0, 32⟩
def NODE_PROT_STATE_FAULTY : Fld := ⟨0x308, 0, 12⟩
def NODE_PROT_STATE_REACT : Fld := ⟨0x308, 12, 3⟩
def NODE_PROT_STATE_UNBYPASSABLE : Fld := ⟨0x308, 15, 1⟩
def NODE_PROT_STATE_DETECT : Fld := ⟨0x308, 16, 2⟩
def NODE_PROT_STATE_RECOVERY : Fld := ⟨0x308, 18, 1⟩
def NODE_PROT_STATE_ST_PASSED : Fld := ⟨0x308, 19, 1⟩
def NODE_PROT_STATE_ST_RUN : Fld := ⟨0x308, 20, 1⟩
def NODE_PROT_STATE_UNDER_REACTION : Fld := ⟨0x308, 21, 1⟩
def NODE_SW_CAUSE : Fld := ⟨0x30C, 0, 32⟩
def NODE_SW_CAUSE_SWITCH : Fld := ⟨0x30C, 0, 4⟩
def NODE_SW_CAUSE_CAUSE : Fld := ⟨0x30C, 4, 4⟩
def NODE_SW_CAUSE_COUNT : Fld := ⟨0x30C, 16, 16⟩
def NODE_ST_RES0 : Fld := ⟨0x310, 0, 32⟩
def NODE_ST_RES0_PASS : Fld := ⟨0x310, 0, 32⟩
def NODE_ST_RES1 : Fld := ⟨0x314, 0, 32⟩
def NODE_ST_RES1_ABORTED : Fld := ⟨0x314, 16, 1⟩
def NODE_ST_RES1_PASS : Fld := ⟨0x314, 0, 16⟩
def NODE_DESAT_NOW : Fld := ⟨0x318, 0, 32⟩
def NODE_DESAT_NOW_LEG_LO : Fld := ⟨0x318, 0, 16⟩
def NODE_DESAT_NOW_LEG_HI : Fld := ⟨0x318, 16, 16⟩
-- block loopD
def LD_CTRL : Fld := ⟨0x0, 0, 32⟩
def LD_CTRL_ENABLE : Fld := ⟨0x0, 0, 1⟩
def LD_CFG : Fld := ⟨0x4, 0, 32⟩
def LD_CFG_LAW : Fld := ⟨0x4, 0, 4⟩
def LD_CFG_RG : Fld := ⟨0x4, 4, 3⟩
def LD_CFG_MODES : Fld := ⟨0x4, 8, 6⟩
def LD_CFG_STALE_HOLD : Fld := ⟨0x4, 14, 1⟩
def LD_CFG_GROUP : Fld := ⟨0x4, 16, 8⟩
def LD_CFG_ENGINE : Fld := ⟨0x4, 24, 4⟩
def LD_CFG_PIN : Fld := ⟨0x4, 28, 1⟩
def LD_SRC01 : Fld := ⟨0x8, 0, 32⟩
def LD_SRC01_SIG0 : Fld := ⟨0x8, 0, 16⟩
def LD_SRC01_SIG1 : Fld := ⟨0x8, 16, 16⟩
def LD_SRC23 : Fld := ⟨0xC, 0, 32⟩
def LD_SRC23_SIG2 : Fld := ⟨0xC, 0, 16⟩
def LD_SRC23_SIG3 : Fld := ⟨0xC, 16, 16⟩
def LD_ROUTE : Fld := ⟨0x10, 0, 32⟩
def LD_ROUTE_SLOT : Fld := ⟨0x10, 0, 8⟩
def LD_ROUTE_SLOT_EN : Fld := ⟨0x10, 8, 1⟩
def LD_ROUTE_ALPHA : Fld := ⟨0x10, 9, 1⟩
def LD_ROUTE_NORM : Fld := ⟨0x10, 10, 1⟩
def LD_ROUTE_TRK : Fld := ⟨0x10, 12, 4⟩
def LD_ROUTE_PREV : Fld := ⟨0x10, 16, 4⟩
def LD_ANGLE : Fld := ⟨0x14, 0, 32⟩
def LD_ANGLE_ANGLE : Fld := ⟨0x14, 0, 16⟩
def LD_ANGLE_PH0_PH3 : Fld := ⟨0x14, 16, 16⟩
def LD_ANGLE_PH : Fld := ⟨0x14, 16, 16⟩
def LD_C : Fld := ⟨0x18, 0, 32⟩
def LD_C_C : Fld := ⟨0x18, 0, 32⟩
def LD_SHIFT : Fld := ⟨0x30, 0, 32⟩
def LD_SHIFT_SN : Fld := ⟨0x30, 0, 30⟩
def LD_LIM_LO : Fld := ⟨0x34, 0, 32⟩
def LD_LIM_LO_LO : Fld := ⟨0x34, 0, 32⟩
def LD_LIM_HI : Fld := ⟨0x38, 0, 32⟩
def LD_LIM_HI_HI : Fld := ⟨0x38, 0, 32⟩
def LD_OSC : Fld := ⟨0x3C, 0, 32⟩
def LD_OSC_DB : Fld := ⟨0x3C, 0, 8⟩
def LD_OSC_WIN : Fld := ⟨0x3C, 8, 8⟩
def LD_OSC_NCNT : Fld := ⟨0x3C, 16, 5⟩
def LD_OSC_ACTION : Fld := ⟨0x3C, 21, 3⟩
def LD_OSC_GH_MAX : Fld := ⟨0x3C, 24, 3⟩
def LD_OSC_RESTORE : Fld := ⟨0x3C, 27, 4⟩
def LD_OSC_ENV : Fld := ⟨0x3C, 31, 1⟩
-- block loopChk
def LOOP_CHECK : Fld := ⟨0x0, 0, 32⟩
def LOOP_CHECK_REASON : Fld := ⟨0x0, 0, 16⟩
def LOOP_CHECK_CULPRIT_INDEX : Fld := ⟨0x0, 16, 12⟩
def LOOP_CHECK_CULPRIT_TYPE : Fld := ⟨0x0, 28, 4⟩
-- block loopStat
def LOOP_STAT : Fld := ⟨0x0, 0, 32⟩
def LOOP_STAT_ENGINE : Fld := ⟨0x0, 0, 4⟩
def LOOP_STAT_LEVEL : Fld := ⟨0x0, 4, 4⟩
def LOOP_STAT_WIN : Fld := ⟨0x0, 8, 1⟩
def LOOP_STAT_SAT : Fld := ⟨0x0, 9, 1⟩
def LOOP_STAT_STALE : Fld := ⟨0x0, 10, 1⟩
def LOOP_STAT_OSC : Fld := ⟨0x0, 11, 1⟩
def LOOP_STAT_FROZEN : Fld := ⟨0x0, 12, 1⟩
def LOOP_STAT_THAW : Fld := ⟨0x0, 13, 1⟩
def LOOP_STAT_SKIPPED : Fld := ⟨0x0, 14, 1⟩
def LOOP_STAT_GH : Fld := ⟨0x0, 16, 3⟩
-- block loopCom
def LOOP_CFG : Fld := ⟨0x0, 0, 32⟩
def LOOP_CFG_TSTALE : Fld := ⟨0x0, 0, 16⟩
def LOOP_CFG_PLACE : Fld := ⟨0x0, 16, 1⟩
def LOOP_CFG_MIGRATE_MAX : Fld := ⟨0x0, 20, 4⟩
def LOOP_COMMIT : Fld := ⟨0x4, 0, 32⟩
def LOOP_COMMIT_GO : Fld := ⟨0x4, 0, 8⟩
def LOOP_STATUS : Fld := ⟨0x8, 0, 32⟩
def LOOP_STATUS_ENABLED : Fld := ⟨0x8, 0, 12⟩
def LOOP_STATUS_DEPTH : Fld := ⟨0x8, 16, 4⟩
-- block rg
def RG_CFG : Fld := ⟨0x0, 0, 32⟩
def RG_CFG_SRC : Fld := ⟨0x0, 0, 2⟩
def RG_CFG_EVENT : Fld := ⟨0x0, 4, 4⟩
def RG_CFG_TRK : Fld := ⟨0x0, 8, 4⟩
def RG_CFG_DIV : Fld := ⟨0x0, 12, 10⟩
def RG_CFG_LATCH_DLY : Fld := ⟨0x0, 22, 8⟩
def RG_ENABLE : Fld := ⟨0x4, 0, 32⟩
def RG_ENABLE_ENABLE : Fld := ⟨0x4, 0, 1⟩
def RG_DL : Fld := ⟨0x8, 0, 32⟩
def RG_DL_DL : Fld := ⟨0x8, 0, 24⟩
def RG_PERIOD : Fld := ⟨0xC, 0, 32⟩
def RG_PERIOD_PERIOD : Fld := ⟨0xC, 0, 24⟩
def RG_PHASE : Fld := ⟨0x10, 0, 32⟩
def RG_PHASE_PHASE : Fld := ⟨0x10, 0, 24⟩
def RG_COMMITS : Fld := ⟨0x14, 0, 32⟩
def RG_COMMITS_STRINGS : Fld := ⟨0x14, 0, 8⟩
def RG_COMMITS_AUX : Fld := ⟨0x14, 8, 8⟩
def RG_STATUS : Fld := ⟨0x18, 0, 32⟩
def RG_STATUS_RUNNING : Fld := ⟨0x18, 0, 1⟩
def RG_STATUS_OVERRUN : Fld := ⟨0x18, 1, 1⟩
def RG_STATUS_LATE_BAND : Fld := ⟨0x18, 2, 1⟩
def RG_STATUS_CONSEC : Fld := ⟨0x18, 4, 4⟩
def RG_STATUS_CHECK : Fld := ⟨0x18, 16, 16⟩
def RG_COUNT : Fld := ⟨0x1C, 0, 32⟩
def RG_COUNT_FIRINGS : Fld := ⟨0x1C, 0, 16⟩
def RG_COUNT_OVERRUNS : Fld := ⟨0x1C, 16, 16⟩
def RG_TIMING : Fld := ⟨0x20, 0, 32⟩
def RG_TIMING_LAST : Fld := ⟨0x20, 0, 16⟩
def RG_TIMING_WORST : Fld := ⟨0x20, 16, 16⟩
-- block loopTab
def LOOP_TSCALE_C : Fld := ⟨0x0, 0, 32⟩
def LOOP_TSCALE_C_C : Fld := ⟨0x0, 0, 27⟩
def LOOP_TSCALE_C_S : Fld := ⟨0x0, 27, 5⟩
def LOOP_TSCALE_L : Fld := ⟨0x100, 0, 32⟩
def LOOP_TSCALE_L_C : Fld := ⟨0x100, 0, 27⟩
def LOOP_TSCALE_L_S : Fld := ⟨0x100, 27, 5⟩
def LOOP_CONST : Fld := ⟨0x400, 0, 32⟩
def LOOP_CONST_VALUE : Fld := ⟨0x400, 0, 32⟩
def ENG_LOAD : Fld := ⟨0x800, 0, 32⟩
def ENG_LOAD_PLACED : Fld := ⟨0x800, 0, 12⟩
def ENG_LOAD_OUT : Fld := ⟨0x800, 16, 1⟩
def ENG_LOAD_BUSY : Fld := ⟨0x800, 20, 8⟩
-- block loopS
def LS_Y : Fld := ⟨0x0, 0, 32⟩
def LS_Y_V : Fld := ⟨0x0, 0, 32⟩
def LS_YC : Fld := ⟨0x4, 0, 32⟩
def LS_YC_V : Fld := ⟨0x4, 0, 32⟩
def LS_S0L : Fld := ⟨0x8, 0, 32⟩
def LS_S0L_V : Fld := ⟨0x8, 0, 32⟩
def LS_S0H : Fld := ⟨0xC, 0, 32⟩
def LS_S0H_V : Fld := ⟨0xC, 0, 32⟩
def LS_S1 : Fld := ⟨0x10, 0, 32⟩
def LS_S1_V : Fld := ⟨0x10, 0, 32⟩
def LS_S2 : Fld := ⟨0x14, 0, 32⟩
def LS_S2_V : Fld := ⟨0x14, 0, 32⟩
def LS_ENV : Fld := ⟨0x18, 0, 32⟩
def LS_ENV_V : Fld := ⟨0x18, 0, 32⟩
def LS_OSC : Fld := ⟨0x1C, 0, 32⟩
def LS_OSC_V : Fld := ⟨0x1C, 0, 23⟩
-- block mod
def MOD_CFG : Fld := ⟨0x0, 0, 32⟩
def MOD_CFG_EXEC_DELAY : Fld := ⟨0x0, 0, 5⟩
def LOAD_ALL : Fld := ⟨0x4, 0, 32⟩
def LOAD_ALL_STRINGS : Fld := ⟨0x4, 0, 8⟩
def LOAD_ALL_AUX : Fld := ⟨0x4, 8, 8⟩
def MOD_DL_STATUS : Fld := ⟨0xC, 0, 32⟩
def MOD_DL_STATUS_TPT : Fld := ⟨0xC, 0, 11⟩
def MOD_DL_STATUS_COARSE : Fld := ⟨0xC, 16, 1⟩
def MOD_DL_STATUS_RANGE_SEEN : Fld := ⟨0xC, 17, 1⟩
def CSYNC_CFG : Fld := ⟨0x10, 0, 32⟩
def CSYNC_CFG_SRC : Fld := ⟨0x10, 0, 3⟩
def CSYNC_CFG_OUT_EN : Fld := ⟨0x10, 4, 1⟩
def CSYNC_DLY : Fld := ⟨0x14, 0, 32⟩
def CSYNC_DLY_DLY : Fld := ⟨0x14, 0, 24⟩
def CSYNC_IN_OFS : Fld := ⟨0x18, 0, 32⟩
def CSYNC_IN_OFS_OFS : Fld := ⟨0x18, 0, 24⟩
def CSYNC_STATUS : Fld := ⟨0x1C, 0, 32⟩
def CSYNC_STATUS_IN_ACTIVE : Fld := ⟨0x1C, 0, 1⟩
def CSYNC_STATUS_IN_LOST : Fld := ⟨0x1C, 1, 1⟩
def MOD_REF : Fld := ⟨0x1000, 0, 32⟩
def MOD_REF_VALUE : Fld := ⟨0x1000, 0, 32⟩
-- block aux
def AUX_CFG : Fld := ⟨0x0, 0, 32⟩
def AUX_CFG_MODE : Fld := ⟨0x0, 0, 1⟩
def AUX_CFG_HOLD_CAP : Fld := ⟨0x0, 1, 1⟩
def AUX_CFG_IDLE_MAIN : Fld := ⟨0x0, 2, 2⟩
def AUX_CFG_IDLE_SECOND : Fld := ⟨0x0, 4, 2⟩
def AUX_CFG_SRC : Fld := ⟨0x0, 6, 1⟩
def AUX_CFG_MINP_MODE : Fld := ⟨0x0, 7, 1⟩
def AUX_CFG_SLOT : Fld := ⟨0x0, 8, 8⟩
def AUX_ENABLE : Fld := ⟨0x4, 0, 32⟩
def AUX_ENABLE_ENABLE : Fld := ⟨0x4, 0, 1⟩
def AUX_PERIOD : Fld := ⟨0x8, 0, 32⟩
def AUX_PERIOD_PERIOD : Fld := ⟨0x8, 0, 24⟩
def AUX_DUTY : Fld := ⟨0xC, 0, 32⟩
def AUX_DUTY_DUTY : Fld := ⟨0xC, 0, 24⟩
def AUX_DUTY2 : Fld := ⟨0x10, 0, 32⟩
def AUX_DUTY2_DUTY2 : Fld := ⟨0x10, 0, 24⟩
def AUX_DT : Fld := ⟨0x14, 0, 32⟩
def AUX_DT_DT : Fld := ⟨0x14, 0, 16⟩
def AUX_MINP : Fld := ⟨0x18, 0, 32⟩
def AUX_MINP_MINP : Fld := ⟨0x18, 0, 17⟩
def AUX_STATUS : Fld := ⟨0x1C, 0, 32⟩
def AUX_STATUS_RUNNING : Fld := ⟨0x1C, 0, 1⟩
def AUX_STATUS_COMMIT_LATE : Fld := ⟨0x1C, 1, 1⟩
def AUX_STATUS_CHECK : Fld := ⟨0x1C, 16, 16⟩
-- block lnk
def LNK_CFG : Fld := ⟨0x0, 0, 32⟩
def LNK_CFG_MGMT_TIMEOUT : Fld := ⟨0x0, 0, 8⟩
def LNK_CFG_MGMT_RETRY : Fld := ⟨0x0, 16, 4⟩
def LNK_CFG_OUTLIER : Fld := ⟨0x0, 24, 8⟩
def LNK_READY : Fld := ⟨0x10, 0, 32⟩
def LNK_READY_PORTS : Fld := ⟨0x10, 0, 32⟩
def LNK_REACH : Fld := ⟨0x20, 0, 32⟩
def LNK_REACH_PORTS : Fld := ⟨0x20, 0, 32⟩
-- block port
def LNK_PCFG : Fld := ⟨0x0, 0, 32⟩
def LNK_PCFG_EN : Fld := ⟨0x0, 0, 1⟩
def LNK_PCFG_DMAX : Fld := ⟨0x0, 16, 13⟩
def LNK_ASYM : Fld := ⟨0x4, 0, 32⟩
def LNK_ASYM_APORT : Fld := ⟨0x4, 0, 16⟩
def LNK_PSTATE : Fld := ⟨0x8, 0, 32⟩
def LNK_PSTATE_STATE : Fld := ⟨0x8, 0, 3⟩
def LNK_PSTATE_NSTATE : Fld := ⟨0x8, 4, 3⟩
def LNK_PSTATE_OBEYS_THIS : Fld := ⟨0x8, 7, 1⟩
def LNK_PSTATE_TIMING_THIS : Fld := ⟨0x8, 8, 1⟩
def LNK_PSTATE_CALIBRATED : Fld := ⟨0x8, 9, 1⟩
def LNK_PSTATE_ID_VALID : Fld := ⟨0x8, 10, 1⟩
def LNK_RTT : Fld := ⟨0xC, 0, 32⟩
def LNK_RTT_RTT : Fld := ⟨0xC, 0, 28⟩
def LNK_DDOWN : Fld := ⟨0x10, 0, 32⟩
def LNK_DDOWN_DAPP : Fld := ⟨0x10, 0, 16⟩
def LNK_DDOWN_DEST : Fld := ⟨0x10, 16, 16⟩
def LNK_OFS : Fld := ⟨0x14, 0, 32⟩
def LNK_OFS_OFS : Fld := ⟨0x14, 0, 16⟩
def LNK_NTERM : Fld := ⟨0x18, 0, 32⟩
def LNK_NTERM_TERM : Fld := ⟨0x18, 0, 32⟩
def LNK_ERR : Fld := ⟨0x1C, 0, 32⟩
def LNK_ERR_CRC : Fld := ⟨0x1C, 0, 16⟩
def LNK_ERR_CODE : Fld := ⟨0x1C, 16, 16⟩
def LNK_LOSS : Fld := ⟨0x20, 0, 32⟩
def LNK_LOSS_LOST : Fld := ⟨0x20, 0, 16⟩
def LNK_LOSS_OUTLIERS : Fld := ⟨0x20, 16, 16⟩
def LNK_STICKY : Fld := ⟨0x24, 0, 32⟩
def LNK_STICKY_LOS : Fld := ⟨0x24, 0, 1⟩
def LNK_STICKY_CAL_UNSTABLE : Fld := ⟨0x24, 1, 1⟩
def LNK_STICKY_DELAY_HIGH : Fld := ⟨0x24, 2, 1⟩
def LNK_STICKY_LEAD_SHORT : Fld := ⟨0x24, 3, 1⟩
def LNK_STICKY_COUNTER_RELOAD : Fld := ⟨0x24, 4, 1⟩
def LNK_STICKY_LATE_EDGE : Fld := ⟨0x24, 5, 1⟩
def LNK_STICKY_PORT_CHANGE : Fld := ⟨0x24, 6, 1⟩
def LNK_STICKY_TERM_TIE : Fld := ⟨0x24, 7, 1⟩
def LNK_STICKY_MGMT_TIMEOUT : Fld := ⟨0x24, 8, 1⟩
def LNK_STICKY_ECHO_DROP : Fld := ⟨0x24, 9, 1⟩
def LNK_STICKY_EVT_LOST : Fld := ⟨0x24, 10, 1⟩
def LNK_DEFER : Fld := ⟨0x28, 0, 32⟩
def LNK_DEFER_DEFER : Fld := ⟨0x28, 0, 16⟩
def LNK_FMT : Fld := ⟨0x2C, 0, 32⟩
def LNK_FMT_FORMAT : Fld := ⟨0x2C, 0, 16⟩
def LNK_DAPP_W : Fld := ⟨0x30, 0, 32⟩
def LNK_DAPP_W_DAPP : Fld := ⟨0x30, 0, 24⟩
def LNK_DEST_W : Fld := ⟨0x34, 0, 32⟩
def LNK_DEST_W_DEST : Fld := ⟨0x34, 0, 24⟩
-- block prot
def PROT_CFG : Fld := ⟨0x0, 0, 32⟩
def PROT_CFG_RECOV : Fld := ⟨0x0, 0, 8⟩
def PROT_CFG_STEP_TMO : Fld := ⟨0x0, 8, 8⟩
def PROT_CFG_BS_PRE : Fld := ⟨0x0, 16, 8⟩
def PROT_CFG_ADAPT_MS : Fld := ⟨0x0, 24, 4⟩
def PROT_CFG_ST_AUTO : Fld := ⟨0x0, 28, 1⟩
def PROT_STATUS : Fld := ⟨0x4, 0, 32⟩
def PROT_STATUS_STEPS_DONE : Fld := ⟨0x4, 0, 1⟩
def PROT_STATUS_ST_FAIL : Fld := ⟨0x4, 1, 1⟩
def PROT_STATUS_BS_FAIL : Fld := ⟨0x4, 2, 1⟩
def PROT_STATUS_NODES_OPEN : Fld := ⟨0x4, 8, 7⟩
def PROT_TJ : Fld := ⟨0x8, 0, 32⟩
def PROT_TJ_TJ_WARN : Fld := ⟨0x8, 0, 8⟩
def PROT_TJ_TJ_TRIP : Fld := ⟨0x8, 8, 8⟩
-- block protStr
def PROT_STR : Fld := ⟨0x0, 0, 32⟩
def PROT_STR_SAFE_FORM : Fld := ⟨0x0, 0, 1⟩
-- block prof
def PROF_ENABLE : Fld := ⟨0x0, 0, 32⟩
def PROF_ENABLE_ENABLE : Fld := ⟨0x0, 0, 1⟩
def PROF_CHECK : Fld := ⟨0x4, 0, 32⟩
def PROF_CHECK_REASON : Fld := ⟨0x4, 0, 16⟩
def PROF_CHECK_CULPRIT_INDEX : Fld := ⟨0x4, 16, 12⟩
def PROF_CHECK_CULPRIT_TYPE : Fld := ⟨0x4, 28, 4⟩
def PROF_ON : Fld := ⟨0x8, 0, 32⟩
def PROF_ON_PRE_I : Fld := ⟨0x8, 0, 8⟩
def PROF_ON_PRE_T : Fld := ⟨0x8, 8, 8⟩
def PROF_ON_PLAT_I : Fld := ⟨0x8, 16, 8⟩
def PROF_ON_PLAT_T : Fld := ⟨0x8, 24, 8⟩
def PROF_OFF : Fld := ⟨0xC, 0, 32⟩
def PROF_OFF_PRE_I : Fld := ⟨0xC, 0, 8⟩
def PROF_OFF_PRE_T : Fld := ⟨0xC, 8, 8⟩
def PROF_OFF_PLAT_I : Fld := ⟨0xC, 16, 8⟩
def PROF_OFF_PLAT_T : Fld := ⟨0xC, 24, 8⟩
def PROF_SOFT : Fld := ⟨0x10, 0, 32⟩
def PROF_SOFT_SOFT_I : Fld := ⟨0x10, 0, 8⟩
def PROF_SOFT_SOFT_T : Fld := ⟨0x10, 8, 8⟩
def PROF_HOLD : Fld := ⟨0x14, 0, 32⟩
def PROF_HOLD_VON : Fld := ⟨0x14, 0, 8⟩
def PROF_HOLD_VOFF : Fld := ⟨0x14, 8, 8⟩
def PROF_HOLD_CLAMP : Fld := ⟨0x14, 16, 1⟩
def PROF_DESAT : Fld := ⟨0x18, 0, 32⟩
def PROF_DESAT_V25 : Fld := ⟨0x18, 0, 16⟩
def PROF_DESAT_TC : Fld := ⟨0x18, 16, 8⟩
def PROF_DESAT_ADAPT : Fld := ⟨0x18, 24, 1⟩
def PROF_DESAT_LIM : Fld := ⟨0x1C, 0, 32⟩
def PROF_DESAT_LIM_VMIN : Fld := ⟨0x1C, 0, 16⟩
def PROF_DESAT_LIM_VMAX : Fld := ⟨0x1C, 16, 16⟩
def PROF_BLANK : Fld := ⟨0x20, 0, 32⟩
def PROF_BLANK_BLANK : Fld := ⟨0x20, 0, 9⟩
def PROF_BLANK_STEP : Fld := ⟨0x20, 16, 8⟩
def PROF_OC : Fld := ⟨0x24, 0, 32⟩
def PROF_OC_I_TRIP : Fld := ⟨0x24, 0, 15⟩
def PROF_DIDT : Fld := ⟨0x28, 0, 32⟩
def PROF_DIDT_DIDT_TH : Fld := ⟨0x28, 0, 16⟩
def PROF_DIDT_DIDT_WIN : Fld := ⟨0x28, 16, 8⟩
def PROF_UVLO : Fld := ⟨0x2C, 0, 32⟩
def PROF_UVLO_VPOS_LO : Fld := ⟨0x2C, 0, 8⟩
def PROF_UVLO_VPOS_HYS : Fld := ⟨0x2C, 8, 8⟩
def PROF_UVLO_VNEG_LO : Fld := ⟨0x2C, 16, 8⟩
def PROF_UVLO_UV_FILT : Fld := ⟨0x2C, 24, 8⟩
def PROF_BS : Fld := ⟨0x30, 0, 32⟩
def PROF_BS_BS_MIN : Fld := ⟨0x30, 0, 8⟩
def PROF_BS_BS_AGE : Fld := ⟨0x30, 8, 16⟩
-- block sens
def ADC_CFG : Fld := ⟨0x0, 0, 32⟩
def ADC_CFG_CH_EN : Fld := ⟨0x0, 0, 16⟩
def ADC_CFG_DIST_INVALID : Fld := ⟨0x0, 16, 1⟩
def ADC_CFG_INJ_PREEMPT_CAL : Fld := ⟨0x0, 17, 1⟩
def ADC_TRIG : Fld := ⟨0x4, 0, 32⟩
def ADC_TRIG_SRC : Fld := ⟨0x4, 0, 1⟩
def ADC_TRIG_EVENT : Fld := ⟨0x4, 4, 4⟩
def ADC_TRIG_DIV : Fld := ⟨0x4, 8, 10⟩
def ADC_CAL_CFG : Fld := ⟨0x8, 0, 32⟩
def ADC_CAL_CFG_MODES : Fld := ⟨0x8, 0, 6⟩
def ADC_CAL_CFG_INTERVAL : Fld := ⟨0x8, 16, 16⟩
def ADC_CAL_REQ : Fld := ⟨0xC, 0, 32⟩
def ADC_CAL_REQ_CH : Fld := ⟨0xC, 0, 16⟩
def ADC_CAL_STATUS : Fld := ⟨0x10, 0, 32⟩
def ADC_CAL_STATUS_QUEUED : Fld := ⟨0x10, 0, 16⟩
def ADC_CAL_STATUS_CURRENT : Fld := ⟨0x10, 16, 4⟩
def ADC_CAL_STATUS_BUSY : Fld := ⟨0x10, 20, 1⟩
def ADC_INJ_CFG : Fld := ⟨0x14, 0, 32⟩
def ADC_INJ_CFG_MASK : Fld := ⟨0x14, 0, 16⟩
def ADC_INJ_CFG_TRIG_FASTOC : Fld := ⟨0x14, 16, 1⟩
def ADC_INJ_CFG_TRIG_SAFE : Fld := ⟨0x14, 17, 1⟩
def ADC_INJ_REQ : Fld := ⟨0x18, 0, 32⟩
def ADC_INJ_REQ_GO : Fld := ⟨0x18, 0, 1⟩
def ADC_INJ_STATUS : Fld := ⟨0x1C, 0, 32⟩
def ADC_INJ_STATUS_PENDING : Fld := ⟨0x1C, 0, 1⟩
def ADC_INJ_STATUS_QUEUED : Fld := ⟨0x1C, 1, 1⟩
def ADC_INJ_STATUS_FULL : Fld := ⟨0x1C, 2, 1⟩
def ADC_INJ_STATUS_LOST : Fld := ⟨0x1C, 8, 8⟩
def ADC_INJ_TIME : Fld := ⟨0x20, 0, 32⟩
def ADC_INJ_TIME_TIME : Fld := ⟨0x20, 0, 32⟩
def ADC_STICKY : Fld := ⟨0x24, 0, 32⟩
def ADC_STICKY_OVR : Fld := ⟨0x24, 0, 16⟩
def ADC_STICKY_CAL_FAIL : Fld := ⟨0x24, 16, 1⟩
def ADC_STICKY_CAL_ABORT : Fld := ⟨0x24, 17, 1⟩
def ADC_TDAC : Fld := ⟨0x28, 0, 32⟩
def ADC_TDAC_CODE : Fld := ⟨0x28, 0, 12⟩
def ADC_TDAC_CH : Fld := ⟨0x28, 16, 4⟩
def ADC_TDAC_EN : Fld := ⟨0x28, 20, 1⟩
def ADC_RES : Fld := ⟨0x40, 0, 32⟩
def ADC_RES_CODE : Fld := ⟨0x40, 0, 16⟩
def ADC_RES_QUAL : Fld := ⟨0x40, 16, 8⟩
def ADC_INJ_RES : Fld := ⟨0x80, 0, 32⟩
def ADC_INJ_RES_CODE : Fld := ⟨0x80, 0, 16⟩
def ADC_INJ_RES_QUAL : Fld := ⟨0x80, 16, 8⟩
def ADC_COEF : Fld := ⟨0xC0, 0, 32⟩
def ADC_COEF_OFS : Fld := ⟨0xC0, 0, 16⟩
def ADC_COEF_GAIN : Fld := ⟨0xC0, 16, 16⟩
def SD_CLKDIV : Fld := ⟨0x800, 0, 32⟩
def SD_CLKDIV_DIV : Fld := ⟨0x800, 0, 5⟩
def SD_CLKDIV_EN : Fld := ⟨0x800, 8, 1⟩
-- block sd
def SD_CFG : Fld := ⟨0x0, 0, 32⟩
def SD_CFG_CLK : Fld := ⟨0x0, 0, 3⟩
def SD_CFG_EN : Fld := ⟨0x0, 3, 1⟩
def SD_CFG_ORDER : Fld := ⟨0x0, 4, 3⟩
def SD_CFG_DECIM : Fld := ⟨0x0, 8, 9⟩
def SD_CFG_SDLY : Fld := ⟨0x0, 20, 4⟩
def SD_NOTCH : Fld := ⟨0x4, 0, 32⟩
def SD_NOTCH_LEN : Fld := ⟨0x4, 0, 13⟩
def SD_FAST : Fld := ⟨0x8, 0, 32⟩
def SD_FAST_FR : Fld := ⟨0x8, 0, 6⟩
def SD_FAST_FCNT : Fld := ⟨0x8, 8, 3⟩
def SD_FAST_FEN : Fld := ⟨0x8, 12, 1⟩
def SD_FAST_TH : Fld := ⟨0xC, 0, 32⟩
def SD_FAST_TH_HI : Fld := ⟨0xC, 0, 16⟩
def SD_FAST_TH_LO : Fld := ⟨0xC, 16, 16⟩
def SD_RES : Fld := ⟨0x10, 0, 32⟩
def SD_RES_VALUE : Fld := ⟨0x10, 0, 32⟩
def SD_QUAL : Fld := ⟨0x14, 0, 32⟩
def SD_QUAL_QUAL : Fld := ⟨0x14, 0, 8⟩
def SD_QUAL_COUNT : Fld := ⟨0x14, 16, 16⟩
def SD_FAST_RES : Fld := ⟨0x18, 0, 32⟩
def SD_FAST_RES_FAST : Fld := ⟨0x18, 0, 16⟩
def SD_STAT : Fld := ⟨0x1C, 0, 32⟩
def SD_STAT_STUCK : Fld := ⟨0x1C, 0, 1⟩
def SD_STAT_FAST_TRIP : Fld := ⟨0x1C, 1, 1⟩
-- block flt
def FAULT_SUMMARY : Fld := ⟨0x0, 0, 32⟩
def FAULT_SUMMARY_N_ACTIVE : Fld := ⟨0x0, 0, 10⟩
def FAULT_SUMMARY_N_SEVERE : Fld := ⟨0x0, 10, 10⟩
def FAULT_SUMMARY_RIDE : Fld := ⟨0x0, 20, 1⟩
def FAULT_SUMMARY_SAFE_HELD : Fld := ⟨0x0, 21, 1⟩
def FAULT_SUMMARY_HALTED : Fld := ⟨0x0, 24, 8⟩
def FAULT_CLEAR : Fld := ⟨0x4, 0, 32⟩
def FAULT_CLEAR_SOURCE : Fld := ⟨0x4, 0, 9⟩
def FAULT_CLEAR_ALL : Fld := ⟨0x4, 9, 1⟩
def FAULT_CLEAR_TARGET : Fld := ⟨0x4, 10, 2⟩
def FAULT_CLEAR_GO : Fld := ⟨0x4, 12, 1⟩
def FAULT_CLEAR_BUSY : Fld := ⟨0x4, 13, 1⟩
def FAULT_CLEAR_RESULT : Fld := ⟨0x4, 16, 16⟩
def FAULT_PIN_CTRL : Fld := ⟨0x8, 0, 32⟩
def FAULT_PIN_CTRL_CTRL : Fld := ⟨0x8, 0, 2⟩
def FAULT_PIN_CTRL_WRITTEN : Fld := ⟨0x8, 8, 1⟩
def FAULT_PIN_CTRL_PIN : Fld := ⟨0x8, 9, 1⟩
def FAULT_PIN_CFG : Fld := ⟨0xC, 0, 32⟩
def FAULT_PIN_CFG_MINPULSE : Fld := ⟨0xC, 0, 10⟩
def FAULT_PIN_CFG_ON_SAFE : Fld := ⟨0xC, 16, 1⟩
def FLT_FIFO_STATUS : Fld := ⟨0x10, 0, 32⟩
def FLT_FIFO_STATUS_LEVEL : Fld := ⟨0x10, 0, 12⟩
def FLT_FIFO_STATUS_SEVERE : Fld := ⟨0x10, 16, 12⟩
def FLT_FIFO_STATUS_OVERFLOWED : Fld := ⟨0x10, 28, 1⟩
def FLT_FIFO_POP : Fld := ⟨0x14, 0, 32⟩
def FLT_FIFO_POP_POP : Fld := ⟨0x14, 0, 1⟩
def FLT_LOST : Fld := ⟨0x18, 0, 32⟩
def FLT_LOST_RECORDS : Fld := ⟨0x18, 0, 16⟩
def FLT_LOST_ALARMS : Fld := ⟨0x18, 16, 16⟩
def FLT_TEST : Fld := ⟨0x1C, 0, 32⟩
def FLT_TEST_CAUSE : Fld := ⟨0x1C, 0, 1⟩
def FLT_REC : Fld := ⟨0x40, 0, 32⟩
def FLT_REC_WORD : Fld := ⟨0x40, 0, 32⟩
def FLT_ACTIVE : Fld := ⟨0x100, 0, 32⟩
def FLT_ACTIVE_SOURCES : Fld := ⟨0x100, 0, 32⟩
def FLT_SEVERE : Fld := ⟨0x140, 0, 32⟩
def FLT_SEVERE_SOURCES : Fld := ⟨0x140, 0, 32⟩
def TRC_CFG : Fld := ⟨0x200, 0, 32⟩
def TRC_CFG_NSIG : Fld := ⟨0x200, 0, 6⟩
def TRC_CFG_RG : Fld := ⟨0x200, 8, 3⟩
def TRC_CFG_PRE : Fld := ⟨0x200, 16, 8⟩
def TRC_CTRL : Fld := ⟨0x204, 0, 32⟩
def TRC_CTRL_ARM : Fld := ⟨0x204, 0, 1⟩
def TRC_CTRL_TRIG : Fld := ⟨0x204, 1, 1⟩
def TRC_CTRL_STREAM : Fld := ⟨0x204, 2, 1⟩
def TRC_STATUS : Fld := ⟨0x208, 0, 32⟩
def TRC_STATUS_STATE : Fld := ⟨0x208, 0, 2⟩
def TRC_STATUS_PAUSED : Fld := ⟨0x208, 2, 1⟩
def TRC_STATUS_TRIG_SRC : Fld := ⟨0x208, 4, 9⟩
def TRC_STATUS_TRIG_HOST : Fld := ⟨0x208, 13, 1⟩
def TRC_START : Fld := ⟨0x20C, 0, 32⟩
def TRC_START_OFS : Fld := ⟨0x20C, 0, 22⟩
def TRC_TRIG_POS : Fld := ⟨0x210, 0, 32⟩
def TRC_TRIG_POS_OFS : Fld := ⟨0x210, 0, 22⟩
def TRC_DROPPED : Fld := ⟨0x214, 0, 32⟩
def TRC_DROPPED_COUNT : Fld := ⟨0x214, 0, 32⟩
def TRC_READ : Fld := ⟨0x218, 0, 32⟩
def TRC_READ_ADDR : Fld := ⟨0x218, 0, 22⟩
def TRC_DATA : Fld := ⟨0x21C, 0, 32⟩
def TRC_DATA_DATA : Fld := ⟨0x21C, 0, 32⟩
def TRC_SIG : Fld := ⟨0x240, 0, 32⟩
def TRC_SIG_SIG_2k : Fld := ⟨0x240, 0, 16⟩
def TRC_SIG_SIG_2k_1 : Fld := ⟨0x240, 16, 16⟩
-- block mon
def MON_CFG : Fld := ⟨0x0, 0, 32⟩
def MON_CFG_SIG : Fld := ⟨0x0, 0, 16⟩
def MON_CFG_RG : Fld := ⟨0x0, 16, 3⟩
def MON_CFG_EN : Fld := ⟨0x0, 19, 1⟩
def MON_CFG_STALE_OUT : Fld := ⟨0x0, 20, 1⟩
def MON_CFG_FILT : Fld := ⟨0x0, 24, 4⟩
def MON_CFG_CLR : Fld := ⟨0x0, 28, 4⟩
def MON_LO : Fld := ⟨0x4, 0, 32⟩
def MON_LO_VALUE : Fld := ⟨0x4, 0, 32⟩
def MON_HI : Fld := ⟨0x8, 0, 32⟩
def MON_HI_VALUE : Fld := ⟨0x8, 0, 32⟩
def MON_HYS : Fld := ⟨0xC, 0, 32⟩
def MON_HYS_VALUE : Fld := ⟨0xC, 0, 32⟩
-- block fltPol
def FLT_CNT : Fld := ⟨0x0, 0, 32⟩
def FLT_CNT_N : Fld := ⟨0x0, 0, 8⟩
def FLT_CNT_WIN : Fld := ⟨0x0, 8, 8⟩
def FLT_CNT_WUNIT : Fld := ⟨0x0, 16, 2⟩
def FLT_CNT_HOLDOFF : Fld := ⟨0x0, 20, 4⟩
def FLT_REACT : Fld := ⟨0x4, 0, 32⟩
def FLT_REACT_NODE_A : Fld := ⟨0x4, 0, 2⟩
def FLT_REACT_STR_A : Fld := ⟨0x4, 2, 1⟩
def FLT_REACT_MODE_A : Fld := ⟨0x4, 4, 2⟩
def FLT_REACT_NODE_S : Fld := ⟨0x4, 8, 2⟩
def FLT_REACT_STR_S : Fld := ⟨0x4, 10, 1⟩
def FLT_REACT_MODE_S : Fld := ⟨0x4, 12, 2⟩
def FLT_REACT_FPIN : Fld := ⟨0x4, 16, 1⟩
def FLT_REACT_ALERT : Fld := ⟨0x4, 17, 1⟩
def FLT_REACT_TRACE : Fld := ⟨0x4, 18, 1⟩
def FLT_REACT_ALARM_CAN : Fld := ⟨0x4, 19, 1⟩
def FLT_REACT_ALARM_LMP : Fld := ⟨0x4, 20, 1⟩
def FLT_REACT_NOREC : Fld := ⟨0x4, 21, 1⟩
-- block fltState
def FLT_STATE : Fld := ⟨0x0, 0, 32⟩
def FLT_STATE_STATE : Fld := ⟨0x0, 0, 2⟩
def FLT_STATE_CAUSE : Fld := ⟨0x0, 2, 1⟩
def FLT_STATE_COUNT : Fld := ⟨0x0, 8, 8⟩
def FLT_STATE_EVENTS : Fld := ⟨0x0, 16, 16⟩
-- block ss
def SS_CFG : Fld := ⟨0x0, 0, 32⟩
def SS_CFG_PAIR_EN : Fld := ⟨0x0, 0, 1⟩
def SS_CFG_REVERT_EN : Fld := ⟨0x0, 1, 1⟩
def SS_CFG_MIN_LANES : Fld := ⟨0x0, 4, 3⟩
def SS_CFG_NVERIFY : Fld := ⟨0x0, 8, 8⟩
def SS_CFG_MWAIT : Fld := ⟨0x0, 16, 10⟩
def SS_CFG_REPLAY_MAX : Fld := ⟨0x0, 28, 4⟩
def SS_REVERT : Fld := ⟨0x4, 0, 32⟩
def SS_REVERT_HOLD : Fld := ⟨0x4, 0, 16⟩
def SS_REVERT_IN_TOL : Fld := ⟨0x4, 16, 16⟩
def SS_CTRL : Fld := ⟨0x8, 0, 32⟩
def SS_CTRL_NO_REVERT : Fld := ⟨0x8, 0, 1⟩
def SS_STATUS : Fld := ⟨0xC, 0, 32⟩
def SS_STATUS_ROLE : Fld := ⟨0xC, 0, 2⟩
def SS_STATUS_PEER_ROLE : Fld := ⟨0xC, 2, 2⟩
def SS_STATUS_SYNC : Fld := ⟨0xC, 4, 3⟩
def SS_STATUS_ELIGIBLE : Fld := ⟨0xC, 8, 1⟩
def SS_STATUS_PEER_ELIGIBLE : Fld := ⟨0xC, 9, 1⟩
def SS_STATUS_PREF : Fld := ⟨0xC, 10, 1⟩
def SS_STATUS_PREF_CONFLICT : Fld := ⟨0xC, 11, 1⟩
def SS_STATUS_HB_OK : Fld := ⟨0xC, 12, 1⟩
def SS_STATUS_LANES : Fld := ⟨0xC, 13, 3⟩
def SS_STATUS_EJECT_REFUSED : Fld := ⟨0xC, 16, 1⟩
def SS_STATUS_REVERT_BLOCK : Fld := ⟨0xC, 17, 1⟩
def SS_STATUS_REPLAY : Fld := ⟨0xC, 18, 1⟩
def SS_TERM : Fld := ⟨0x10, 0, 32⟩
def SS_TERM_TERM : Fld := ⟨0x10, 0, 32⟩
def SS_CHECK : Fld := ⟨0x14, 0, 32⟩
def SS_CHECK_REASON : Fld := ⟨0x14, 0, 16⟩
def SS_HEALTH : Fld := ⟨0x18, 0, 32⟩
def SS_HEALTH_ENGINE : Fld := ⟨0x18, 0, 1⟩
def SS_HEALTH_MEMORY : Fld := ⟨0x18, 1, 1⟩
def SS_HEALTH_LOCKSTEP : Fld := ⟨0x18, 2, 1⟩
def SS_HEALTH_CLOCK : Fld := ⟨0x18, 3, 1⟩
def SS_HEALTH_DELAY_LINE : Fld := ⟨0x18, 4, 1⟩
def SS_HEALTH_LANES : Fld := ⟨0x18, 5, 1⟩
def SS_HEALTH_TEMP : Fld := ⟨0x18, 6, 1⟩
def SS_HEALTH_SUPPLY : Fld := ⟨0x18, 7, 1⟩
def SS_PEER_HEALTH : Fld := ⟨0x1C, 0, 32⟩
def SS_PEER_HEALTH_ENGINE : Fld := ⟨0x1C, 0, 1⟩
def SS_PEER_HEALTH_MEMORY : Fld := ⟨0x1C, 1, 1⟩
def SS_PEER_HEALTH_LOCKSTEP : Fld := ⟨0x1C, 2, 1⟩
def SS_PEER_HEALTH_CLOCK : Fld := ⟨0x1C, 3, 1⟩
def SS_PEER_HEALTH_DELAY_LINE : Fld := ⟨0x1C, 4, 1⟩
def SS_PEER_HEALTH_LANES : Fld := ⟨0x1C, 5, 1⟩
def SS_PEER_HEALTH_TEMP : Fld := ⟨0x1C, 6, 1⟩
def SS_PEER_HEALTH_SUPPLY : Fld := ⟨0x1C, 7, 1⟩
def SS_DIVERGE : Fld := ⟨0x20, 0, 32⟩
def SS_DIVERGE_MISMATCH : Fld := ⟨0x20, 0, 16⟩
def SS_DIVERGE_UNCOMPARED : Fld := ⟨0x20, 16, 16⟩
def SS_VERDICT : Fld := ⟨0x24, 0, 32⟩
def SS_VERDICT_VERDICT : Fld := ⟨0x24, 0, 3⟩
def SS_VERDICT_RG : Fld := ⟨0x24, 4, 3⟩
def SS_VERDICT_REPLAYS : Fld := ⟨0x24, 16, 16⟩
def SS_SWITCH : Fld := ⟨0x28, 0, 32⟩
def SS_SWITCH_COUNT : Fld := ⟨0x28, 0, 16⟩
def SS_SWITCH_LAST_GAP : Fld := ⟨0x28, 16, 16⟩
def SS_REVERT_LEFT : Fld := ⟨0x2C, 0, 32⟩
def SS_REVERT_LEFT_SECONDS : Fld := ⟨0x2C, 0, 16⟩
def SS_MIRROR : Fld := ⟨0x30, 0, 32⟩
def SS_MIRROR_BYTES : Fld := ⟨0x30, 0, 16⟩
def SS_MIRROR_IN_DISAGREE : Fld := ⟨0x30, 16, 16⟩
-- block clk
def CLK_CFG : Fld := ⟨0x0, 0, 32⟩
def CLK_CFG_LOOP : Fld := ⟨0x0, 0, 1⟩
def CLK_CFG_BW : Fld := ⟨0x0, 1, 3⟩
def CLK_CFG_GLIDE_RATE : Fld := ⟨0x0, 8, 8⟩
def CLK_CFG_REFOUT : Fld := ⟨0x0, 16, 2⟩
def CLK_CFG_SYNC_IN_EN : Fld := ⟨0x0, 18, 1⟩
def CLK_REFA : Fld := ⟨0x4, 0, 32⟩
def CLK_REFA_FREQ : Fld := ⟨0x4, 0, 17⟩
def CLK_REFA_PREDIV : Fld := ⟨0x4, 17, 4⟩
def CLK_REFA_MULT : Fld := ⟨0x4, 21, 2⟩
def CLK_REFA_EN : Fld := ⟨0x4, 24, 1⟩
def CLK_REFB : Fld := ⟨0x8, 0, 32⟩
def CLK_REFB_FREQ : Fld := ⟨0x8, 0, 17⟩
def CLK_REFB_PREDIV : Fld := ⟨0x8, 17, 4⟩
def CLK_REFB_MULT : Fld := ⟨0x8, 21, 2⟩
def CLK_REFB_EN : Fld := ⟨0x8, 24, 1⟩
def CLK_TCXO : Fld := ⟨0xC, 0, 32⟩
def CLK_TCXO_PREDIV : Fld := ⟨0xC, 17, 4⟩
def CLK_TCXO_MULT : Fld := ⟨0xC, 21, 2⟩
def CLK_SEL : Fld := ⟨0x10, 0, 32⟩
def CLK_SEL_PRI0 : Fld := ⟨0x10, 0, 2⟩
def CLK_SEL_PRI1 : Fld := ⟨0x10, 2, 2⟩
def CLK_SEL_PRI2 : Fld := ⟨0x10, 4, 2⟩
def CLK_SEL_REVERT : Fld := ⟨0x10, 8, 1⟩
def CLK_SEL_FORCE_EN : Fld := ⟨0x10, 9, 1⟩
def CLK_SEL_FORCE : Fld := ⟨0x10, 10, 2⟩
def CLK_QUAL : Fld := ⟨0x14, 0, 32⟩
def CLK_QUAL_TOL : Fld := ⟨0x14, 0, 8⟩
def CLK_QUAL_QUAL : Fld := ⟨0x14, 8, 8⟩
def CLK_QUAL_MISS : Fld := ⟨0x14, 16, 4⟩
def CLK_VCO_OFS : Fld := ⟨0x18, 0, 32⟩
def CLK_VCO_OFS_OFS : Fld := ⟨0x18, 0, 32⟩
def CLK_DIV : Fld := ⟨0x1C, 0, 32⟩
def CLK_DIV_CORE : Fld := ⟨0x1C, 0, 5⟩
def CLK_DIV_LINK : Fld := ⟨0x1C, 8, 5⟩
def CLK_DIV_TIME : Fld := ⟨0x1C, 16, 5⟩
def CLK_DIV_PER : Fld := ⟨0x1C, 24, 5⟩
def CLK_CMD : Fld := ⟨0x20, 0, 32⟩
def CLK_CMD_APPLY : Fld := ⟨0x20, 0, 1⟩
def CLK_CMD_SYNC_ARM : Fld := ⟨0x20, 1, 1⟩
def CLK_CMD_RELOCK : Fld := ⟨0x20, 2, 1⟩
def CLK_SYNC : Fld := ⟨0x24, 0, 32⟩
def CLK_SYNC_SHIFT : Fld := ⟨0x24, 0, 4⟩
def CLK_SYNC_IN_DLY : Fld := ⟨0x24, 16, 16⟩
def CLK_STATUS : Fld := ⟨0x28, 0, 32⟩
def CLK_STATUS_STATE : Fld := ⟨0x28, 0, 3⟩
def CLK_STATUS_SRC : Fld := ⟨0x28, 4, 2⟩
def CLK_STATUS_ON_ONYX : Fld := ⟨0x28, 6, 1⟩
def CLK_STATUS_INJECT : Fld := ⟨0x28, 7, 1⟩
def CLK_STATUS_GLIDING : Fld := ⟨0x28, 8, 1⟩
def CLK_STATUS_WAIT_RIDE : Fld := ⟨0x28, 9, 1⟩
def CLK_STATUS_TUNE_MARGIN : Fld := ⟨0x28, 10, 1⟩
def CLK_STATUS_BAND : Fld := ⟨0x28, 11, 6⟩
def CLK_STATUS_SYNC_DONE : Fld := ⟨0x28, 17, 1⟩
def CLK_STATUS_QUALIFIED : Fld := ⟨0x28, 18, 3⟩
def CLK_STICKY : Fld := ⟨0x2C, 0, 32⟩
def CLK_STICKY_REFA_LOST : Fld := ⟨0x2C, 0, 1⟩
def CLK_STICKY_REFB_LOST : Fld := ⟨0x2C, 1, 1⟩
def CLK_STICKY_UNLOCK : Fld := ⟨0x2C, 2, 1⟩
def CLK_STICKY_OVERSPEED : Fld := ⟨0x2C, 3, 1⟩
def CLK_STICKY_PEER_PHASE : Fld := ⟨0x2C, 4, 1⟩
def CLK_MEAS : Fld := ⟨0x30, 0, 32⟩
def CLK_MEAS_PPB : Fld := ⟨0x30, 0, 32⟩
def CLK_BUILDOUT : Fld := ⟨0x34, 0, 32⟩
def CLK_BUILDOUT_PHASE : Fld := ⟨0x34, 0, 32⟩
def CLK_RESULT : Fld := ⟨0x38, 0, 32⟩
def CLK_RESULT_REASON : Fld := ⟨0x38, 0, 16⟩
def CLK_RESULT_BUSY : Fld := ⟨0x38, 16, 1⟩
def CLK_TC : Fld := ⟨0x40, 0, 32⟩
def CLK_TC_TC : Fld := ⟨0x40, 0, 8⟩
def CLK_BAND : Fld := ⟨0x100, 0, 32⟩
def CLK_BAND_F_LO : Fld := ⟨0x100, 0, 12⟩
def CLK_BAND_F_HI : Fld := ⟨0x100, 16, 12⟩
-- block tb
def TB_CFG : Fld := ⟨0x0, 0, 32⟩
def TB_CFG_SRC : Fld := ⟨0x0, 0, 1⟩
def TB_CFG_HO_MAX : Fld := ⟨0x0, 16, 16⟩
def TB_SERVO : Fld := ⟨0x4, 0, 32⟩
def TB_SERVO_KP_SH : Fld := ⟨0x4, 0, 5⟩
def TB_SERVO_KI_SH : Fld := ⟨0x4, 8, 5⟩
def TB_SERVO_FI_STEP : Fld := ⟨0x4, 16, 16⟩
def TB_LIMIT : Fld := ⟨0x8, 0, 32⟩
def TB_LIMIT_SLEW_MAX : Fld := ⟨0x8, 0, 16⟩
def TB_LIMIT_LOCK_TH : Fld := ⟨0x8, 16, 8⟩
def TB_LIMIT_LOCK_N : Fld := ⟨0x8, 24, 4⟩
def TB_LIMIT_QUAL_N : Fld := ⟨0x8, 28, 4⟩
def TB_CTRL : Fld := ⟨0xC, 0, 32⟩
def TB_CTRL_STEP : Fld := ⟨0xC, 0, 1⟩
def TB_STEP_SEC : Fld := ⟨0x10, 0, 32⟩
def TB_STEP_SEC_SEC : Fld := ⟨0x10, 0, 32⟩
def TB_STEP_NS : Fld := ⟨0x14, 0, 32⟩
def TB_STEP_NS_NS : Fld := ⟨0x14, 0, 32⟩
def TB_STATUS : Fld := ⟨0x18, 0, 32⟩
def TB_STATUS_STATE : Fld := ⟨0x18, 0, 2⟩
def TB_STATUS_EVER_LOCKED : Fld := ⟨0x18, 2, 1⟩
def TB_STATUS_QUALIFIED : Fld := ⟨0x18, 3, 1⟩
def TB_STATUS_WAIT_RIDE : Fld := ⟨0x18, 4, 1⟩
def TB_STATUS_RESULT : Fld := ⟨0x18, 16, 16⟩
def TB_STICKY : Fld := ⟨0x1C, 0, 32⟩
def TB_STICKY_LOSS : Fld := ⟨0x1C, 0, 1⟩
def TB_STICKY_STEPPED : Fld := ⟨0x1C, 1, 1⟩
def TB_STICKY_SLEW_LIMIT : Fld := ⟨0x1C, 2, 1⟩
def TB_NS : Fld := ⟨0x20, 0, 32⟩
def TB_NS_NS : Fld := ⟨0x20, 0, 30⟩
def TB_SUBNS : Fld := ⟨0x24, 0, 32⟩
def TB_SUBNS_SUBNS : Fld := ⟨0x24, 0, 16⟩
def TB_SEC_LO : Fld := ⟨0x28, 0, 32⟩
def TB_SEC_LO_SEC : Fld := ⟨0x28, 0, 32⟩
def TB_SEC_HI : Fld := ⟨0x2C, 0, 32⟩
def TB_SEC_HI_SEC : Fld := ⟨0x2C, 0, 16⟩
def TB_TICK_LO : Fld := ⟨0x30, 0, 32⟩
def TB_TICK_LO_TICK : Fld := ⟨0x30, 0, 32⟩
def TB_TICK_HI : Fld := ⟨0x34, 0, 32⟩
def TB_TICK_HI_TICK : Fld := ⟨0x34, 0, 32⟩
def TB_ADDEND : Fld := ⟨0x38, 0, 32⟩
def TB_ADDEND_ADDEND : Fld := ⟨0x38, 0, 32⟩
def TB_FI : Fld := ⟨0x3C, 0, 32⟩
def TB_FI_FI : Fld := ⟨0x3C, 0, 32⟩
def TB_OFS : Fld := ⟨0x40, 0, 32⟩
def TB_OFS_OFS : Fld := ⟨0x40, 0, 32⟩
def TB_ADDEND_MAN : Fld := ⟨0x44, 0, 32⟩
def TB_ADDEND_MAN_ADDEND : Fld := ⟨0x44, 0, 32⟩
def PTP_CFG : Fld := ⟨0x100, 0, 32⟩
def PTP_CFG_PROFILE : Fld := ⟨0x100, 0, 1⟩
def PTP_CFG_DELAY : Fld := ⟨0x100, 1, 1⟩
def PTP_CFG_TRANSPORT : Fld := ⟨0x100, 2, 1⟩
def PTP_CFG_SLAVE_ONLY : Fld := ⟨0x100, 3, 1⟩
def PTP_CFG_DOMAIN : Fld := ⟨0x100, 8, 7⟩
def PTP_CFG_TC_EN : Fld := ⟨0x100, 16, 1⟩
def PTP_CFG_SDO : Fld := ⟨0x100, 20, 8⟩
def PTP_DS : Fld := ⟨0x104, 0, 32⟩
def PTP_DS_PRIORITY1 : Fld := ⟨0x104, 0, 8⟩
def PTP_DS_PRIORITY2 : Fld := ⟨0x104, 8, 8⟩
def PTP_DS_CLASS_FREE : Fld := ⟨0x104, 16, 8⟩
def PTP_DS_CLASS_HO : Fld := ⟨0x104, 24, 8⟩
def PTP_INTV : Fld := ⟨0x108, 0, 32⟩
def PTP_INTV_LOG_SYNC : Fld := ⟨0x108, 0, 4⟩
def PTP_INTV_LOG_ANN : Fld := ⟨0x108, 4, 4⟩
def PTP_INTV_LOG_PDELAY : Fld := ⟨0x108, 8, 4⟩
def PTP_INTV_LOG_DREQ : Fld := ⟨0x108, 12, 4⟩
def PTP_INTV_ANN_TMO : Fld := ⟨0x108, 16, 4⟩
def PTP_INTV_SYNC_TMO : Fld := ⟨0x108, 20, 4⟩
def PTP_ENABLE : Fld := ⟨0x10C, 0, 32⟩
def PTP_ENABLE_ENABLE : Fld := ⟨0x10C, 0, 1⟩
def PTP_STATUS : Fld := ⟨0x110, 0, 32⟩
def PTP_STATUS_OC_STATE : Fld := ⟨0x110, 0, 4⟩
def PTP_STATUS_SLAVE_PORT : Fld := ⟨0x110, 4, 1⟩
def PTP_STATUS_CHECK : Fld := ⟨0x110, 16, 16⟩
def PTP_GM_ID : Fld := ⟨0x114, 0, 32⟩
def PTP_GM_ID_ID : Fld := ⟨0x114, 0, 32⟩
def PTP_MPD : Fld := ⟨0x11C, 0, 32⟩
def PTP_MPD_DELAY : Fld := ⟨0x11C, 0, 32⟩
def PTP_CLOCK_ID : Fld := ⟨0x120, 0, 32⟩
def PTP_CLOCK_ID_ID : Fld := ⟨0x120, 0, 32⟩
-- block ptpPort
def PTP_LAT_TX : Fld := ⟨0x0, 0, 32⟩
def PTP_LAT_TX_LAT : Fld := ⟨0x0, 0, 16⟩
def PTP_LAT_RX : Fld := ⟨0x4, 0, 32⟩
def PTP_LAT_RX_LAT : Fld := ⟨0x4, 0, 16⟩
def PTP_ASYM : Fld := ⟨0x8, 0, 32⟩
def PTP_ASYM_ASYM : Fld := ⟨0x8, 0, 16⟩
def PTP_PSTATUS : Fld := ⟨0xC, 0, 32⟩
def PTP_PSTATUS_LINK : Fld := ⟨0xC, 0, 1⟩
def PTP_PSTATUS_PEER_OK : Fld := ⟨0xC, 1, 1⟩
def PTP_PDELAY : Fld := ⟨0x10, 0, 32⟩
def PTP_PDELAY_DELAY : Fld := ⟨0x10, 0, 32⟩
-- block tpo
def TPO_CFG : Fld := ⟨0x0, 0, 32⟩
def TPO_CFG_MODE : Fld := ⟨0x0, 0, 1⟩
def TPO_CFG_IDLE : Fld := ⟨0x0, 1, 2⟩
def TPO_CFG_INVERT : Fld := ⟨0x0, 3, 1⟩
def TPO_ENABLE : Fld := ⟨0x4, 0, 32⟩
def TPO_ENABLE_ENABLE : Fld := ⟨0x4, 0, 1⟩
def TPO_START_SEC : Fld := ⟨0x8, 0, 32⟩
def TPO_START_SEC_SEC : Fld := ⟨0x8, 0, 32⟩
def TPO_START_NS : Fld := ⟨0xC, 0, 32⟩
def TPO_START_NS_NS : Fld := ⟨0xC, 0, 30⟩
def TPO_PERIOD : Fld := ⟨0x10, 0, 32⟩
def TPO_PERIOD_PERIOD : Fld := ⟨0x10, 0, 32⟩
def TPO_WIDTH : Fld := ⟨0x14, 0, 32⟩
def TPO_WIDTH_WIDTH : Fld := ⟨0x14, 0, 32⟩
def TPO_STATUS : Fld := ⟨0x18, 0, 32⟩
def TPO_STATUS_RUNNING : Fld := ⟨0x18, 0, 1⟩
def TPO_STATUS_DONE : Fld := ⟨0x18, 1, 1⟩
def TPO_STATUS_MISSED : Fld := ⟨0x18, 2, 1⟩
def TPO_STATUS_CHECK : Fld := ⟨0x18, 16, 16⟩
-- block can
def CAN_CFG : Fld := ⟨0x0, 0, 32⟩
def CAN_CFG_FD_EN : Fld := ⟨0x0, 0, 1⟩
def CAN_CFG_AUTO_RECOV : Fld := ⟨0x0, 1, 1⟩
def CAN_CFG_ARB_RETRY_LIMIT : Fld := ⟨0x0, 2, 1⟩
def CAN_CFG_PXHD : Fld := ⟨0x0, 3, 1⟩
def CAN_CFG_TDC_EN : Fld := ⟨0x0, 4, 1⟩
def CAN_ENABLE : Fld := ⟨0x4, 0, 32⟩
def CAN_ENABLE_ENABLE : Fld := ⟨0x4, 0, 1⟩
def CAN_NBT : Fld := ⟨0x8, 0, 32⟩
def CAN_NBT_NBRP : Fld := ⟨0x8, 0, 5⟩
def CAN_NBT_NTSEG1 : Fld := ⟨0x8, 8, 8⟩
def CAN_NBT_NTSEG2 : Fld := ⟨0x8, 16, 7⟩
def CAN_NBT_NSJW : Fld := ⟨0x8, 24, 7⟩
def CAN_DBT : Fld := ⟨0xC, 0, 32⟩
def CAN_DBT_DBRP : Fld := ⟨0xC, 0, 5⟩
def CAN_DBT_DTSEG1 : Fld := ⟨0xC, 8, 5⟩
def CAN_DBT_DTSEG2 : Fld := ⟨0xC, 16, 4⟩
def CAN_DBT_DSJW : Fld := ⟨0xC, 24, 4⟩
def CAN_TDC : Fld := ⟨0x10, 0, 32⟩
def CAN_TDC_TDCO : Fld := ⟨0x10, 0, 7⟩
def CAN_TDC_TDCF : Fld := ⟨0x10, 8, 7⟩
def CAN_CTRL : Fld := ⟨0x14, 0, 32⟩
def CAN_CTRL_RECOVER : Fld := ⟨0x14, 0, 1⟩
def CAN_STATUS : Fld := ⟨0x18, 0, 32⟩
def CAN_STATUS_STATE : Fld := ⟨0x18, 0, 3⟩
def CAN_STATUS_TEC : Fld := ⟨0x18, 8, 8⟩
def CAN_STATUS_REC : Fld := ⟨0x18, 16, 8⟩
def CAN_STATUS_TDCV : Fld := ⟨0x18, 24, 7⟩
def CAN_STICKY : Fld := ⟨0x1C, 0, 32⟩
def CAN_STICKY_BUS_OFF : Fld := ⟨0x1C, 0, 1⟩
def CAN_STICKY_ERR_PASSIVE : Fld := ⟨0x1C, 1, 1⟩
def CAN_STICKY_TX_FAIL : Fld := ⟨0x1C, 2, 1⟩
def CAN_STICKY_ID_CONFLICT : Fld := ⟨0x1C, 3, 1⟩
def CAN_STICKY_RX_OVERRUN : Fld := ⟨0x1C, 4, 1⟩
def CAN_STICKY_PXE : Fld := ⟨0x1C, 5, 1⟩
def CAN_ERR : Fld := ⟨0x20, 0, 32⟩
def CAN_ERR_LEC : Fld := ⟨0x20, 0, 3⟩
def CAN_ERR_LEC_DATA : Fld := ⟨0x20, 3, 1⟩
def CAN_ERR_RX_UNMATCHED : Fld := ⟨0x20, 8, 8⟩
def CAN_ERR_CHECK : Fld := ⟨0x20, 16, 16⟩
def CAN_TXPEND : Fld := ⟨0x40, 0, 32⟩
def CAN_TXPEND_OBJECTS : Fld := ⟨0x40, 0, 32⟩
def CAN_NEW : Fld := ⟨0x60, 0, 32⟩
def CAN_NEW_OBJECTS : Fld := ⟨0x60, 0, 32⟩
-- block obj
def OBJ_ENABLE : Fld := ⟨0x0, 0, 32⟩
def OBJ_ENABLE_ENABLE : Fld := ⟨0x0, 0, 1⟩
def OBJ_CFG : Fld := ⟨0x4, 0, 32⟩
def OBJ_CFG_DIR : Fld := ⟨0x4, 0, 2⟩
def OBJ_CFG_FMT : Fld := ⟨0x4, 2, 2⟩
def OBJ_CFG_BRS : Fld := ⟨0x4, 4, 1⟩
def OBJ_CFG_IDE : Fld := ⟨0x4, 5, 1⟩
def OBJ_CFG_DLC : Fld := ⟨0x4, 8, 4⟩
def OBJ_CFG_RETRY : Fld := ⟨0x4, 12, 4⟩
def OBJ_CFG_SAFETY : Fld := ⟨0x4, 16, 1⟩
def OBJ_CFG_ALARM : Fld := ⟨0x4, 17, 1⟩
def OBJ_CFG_OVERWRITE : Fld := ⟨0x4, 18, 1⟩
def OBJ_ID : Fld := ⟨0x8, 0, 32⟩
def OBJ_ID_ID : Fld := ⟨0x8, 0, 29⟩
def OBJ_MASK : Fld := ⟨0xC, 0, 32⟩
def OBJ_MASK_MASK : Fld := ⟨0xC, 0, 29⟩
def OBJ_CMD : Fld := ⟨0x10, 0, 32⟩
def OBJ_CMD_REQ : Fld := ⟨0x10, 0, 1⟩
def OBJ_CMD_ABORT : Fld := ⟨0x10, 1, 1⟩
def OBJ_STATUS : Fld := ⟨0x14, 0, 32⟩
def OBJ_STATUS_STATE : Fld := ⟨0x14, 0, 3⟩
def OBJ_STATUS_NEW : Fld := ⟨0x14, 8, 1⟩
def OBJ_STATUS_OVERRUN : Fld := ⟨0x14, 9, 1⟩
def OBJ_STATUS_RETRIES : Fld := ⟨0x14, 16, 4⟩
def OBJ_STATUS_CONFLICTS : Fld := ⟨0x14, 20, 4⟩
def OBJ_STATUS_ARB_LOST : Fld := ⟨0x14, 24, 8⟩
def OBJ_TSTAMP : Fld := ⟨0x18, 0, 32⟩
def OBJ_TSTAMP_TIME : Fld := ⟨0x18, 0, 32⟩
def OBJ_RXINFO : Fld := ⟨0x1C, 0, 32⟩
def OBJ_RXINFO_ID : Fld := ⟨0x1C, 0, 29⟩
def OBJ_RXINFO_FDF : Fld := ⟨0x1C, 29, 1⟩
def OBJ_RXINFO_BRS : Fld := ⟨0x1C, 30, 1⟩
def OBJ_RXINFO_ESI : Fld := ⟨0x1C, 31, 1⟩
def OBJ_RXLEN : Fld := ⟨0x20, 0, 32⟩
def OBJ_RXLEN_DLC : Fld := ⟨0x20, 0, 4⟩
def OBJ_RXLEN_LEN : Fld := ⟨0x20, 16, 7⟩
def OBJ_DATA : Fld := ⟨0x40, 0, 32⟩
def OBJ_DATA_DATA : Fld := ⟨0x40, 0, 32⟩
-- block canG
def CAN_GCFG : Fld := ⟨0x0, 0, 32⟩
def CAN_GCFG_ALARM_DUAL : Fld := ⟨0x0, 0, 1⟩
-- block pwr
def PWR_REQ : Fld := ⟨0x0, 0, 32⟩
def PWR_REQ_TARGET : Fld := ⟨0x0, 0, 2⟩
def PWR_STATE : Fld := ⟨0x4, 0, 32⟩
def PWR_STATE_STATE : Fld := ⟨0x4, 0, 2⟩
def PWR_STATE_TRANS : Fld := ⟨0x4, 2, 1⟩
def PWR_STATE_IN_PROGRESS : Fld := ⟨0x4, 3, 2⟩
def PWR_STATE_PEND_VALID : Fld := ⟨0x4, 5, 1⟩
def PWR_STATE_PENDING : Fld := ⟨0x4, 6, 2⟩
def PWR_STATE_WAKE_CAUSE : Fld := ⟨0x4, 8, 3⟩
def PWR_STATE_RESULT : Fld := ⟨0x4, 16, 16⟩
def PWR_AGENT : Fld := ⟨0x8, 0, 32⟩
def PWR_AGENT_DELAYING : Fld := ⟨0x8, 12, 3⟩
def PWR_AGENT_DELAY_MS : Fld := ⟨0x8, 16, 8⟩
def PWR_AGENT_DROPPED : Fld := ⟨0x8, 24, 8⟩
def PWR_AGENT_RESP : Fld := ⟨0x8, 0, 12⟩
def PWR_CFG : Fld := ⟨0xC, 0, 32⟩
def PWR_CFG_WAKE_A_EN : Fld := ⟨0xC, 0, 1⟩
def PWR_CFG_WAKE_B_EN : Fld := ⟨0xC, 1, 1⟩
def PWR_CFG_WAKE_LMP : Fld := ⟨0xC, 2, 1⟩
def PWR_CFG_WAKE_EJECT : Fld := ⟨0xC, 3, 1⟩
def PWR_CFG_VIN_A_MON : Fld := ⟨0xC, 8, 1⟩
def PWR_CFG_VIN_B_MON : Fld := ⟨0xC, 9, 1⟩
def PWR_CFG_RECOVER : Fld := ⟨0xC, 16, 8⟩
def PWR_WAKE_A : Fld := ⟨0x10, 0, 32⟩
def PWR_WAKE_A_THRESH : Fld := ⟨0x10, 0, 8⟩
def PWR_WAKE_A_HYS : Fld := ⟨0x10, 8, 6⟩
def PWR_WAKE_A_EDGE : Fld := ⟨0x10, 14, 1⟩
def PWR_WAKE_A_FILT : Fld := ⟨0x10, 16, 8⟩
def PWR_WAKE_B : Fld := ⟨0x14, 0, 32⟩
def PWR_WAKE_B_THRESH : Fld := ⟨0x14, 0, 8⟩
def PWR_WAKE_B_HYS : Fld := ⟨0x14, 8, 6⟩
def PWR_WAKE_B_EDGE : Fld := ⟨0x14, 14, 1⟩
def PWR_WAKE_B_FILT : Fld := ⟨0x14, 16, 8⟩
def PWR_SHED : Fld := ⟨0x18, 0, 32⟩
def PWR_SHED_STAGE : Fld := ⟨0x18, 0, 3⟩
def PWR_SHED_VHOLD : Fld := ⟨0x18, 16, 16⟩
def PWR_VIN : Fld := ⟨0x1C, 0, 32⟩
def PWR_VIN_VIN_A : Fld := ⟨0x1C, 0, 16⟩
def PWR_VIN_VIN_B : Fld := ⟨0x1C, 16, 16⟩
def PWR_AVS : Fld := ⟨0x20, 0, 32⟩
def PWR_AVS_MODE : Fld := ⟨0x20, 0, 1⟩
def PWR_AVS_VFIX : Fld := ⟨0x20, 4, 12⟩
def PWR_AVS_MARGIN : Fld := ⟨0x20, 16, 8⟩
def PWR_AVS_STATUS : Fld := ⟨0x24, 0, 32⟩
def PWR_AVS_STATUS_VDD_CORE : Fld := ⟨0x24, 0, 10⟩
def PWR_AVS_STATUS_SLACK : Fld := ⟨0x24, 16, 8⟩
def PWR_STICKY : Fld := ⟨0x28, 0, 32⟩
def PWR_STICKY_SHED_SEEN : Fld := ⟨0x28, 0, 1⟩
def PWR_STICKY_AVS_CEIL : Fld := ⟨0x28, 1, 1⟩
def PWR_STICKY_INPUT_A : Fld := ⟨0x28, 2, 1⟩
def PWR_STICKY_INPUT_B : Fld := ⟨0x28, 3, 1⟩
def PWR_STICKY_LG_SKIPPED : Fld := ⟨0x28, 4, 1⟩
def PWR_LG_STATUS : Fld := ⟨0x2C, 0, 32⟩
def PWR_LG_STATUS_READY : Fld := ⟨0x2C, 0, 1⟩
def PWR_LG_STATUS_SECTOR : Fld := ⟨0x2C, 8, 8⟩
def PWR_LG_STATUS_LGSEQ : Fld := ⟨0x2C, 16, 16⟩
-- block img
def IMG_STATUS : Fld := ⟨0x0, 0, 32⟩
def IMG_STATUS_RUN_BANK : Fld := ⟨0x0, 0, 1⟩
def IMG_STATUS_ROM_HOLD : Fld := ⟨0x0, 1, 1⟩
def IMG_STATUS_CFG_APPLIED : Fld := ⟨0x0, 2, 1⟩
def IMG_STATUS_SKIP_HALF_USED : Fld := ⟨0x0, 3, 1⟩
def IMG_STATUS_WARM_RESET : Fld := ⟨0x0, 4, 1⟩
def IMG_CHECK : Fld := ⟨0x4, 0, 32⟩
def IMG_CHECK_REASON : Fld := ⟨0x4, 0, 16⟩
def IMG_DETAIL : Fld := ⟨0x8, 0, 32⟩
def IMG_DETAIL_TARGET_REASON : Fld := ⟨0x8, 0, 16⟩
def IMG_DETAIL_SECTION : Fld := ⟨0x8, 16, 16⟩
def IMG_RUN_SEQ : Fld := ⟨0xC, 0, 32⟩
def IMG_RUN_SEQ_SEQ : Fld := ⟨0xC, 0, 32⟩
def IMG_FW_VER : Fld := ⟨0x10, 0, 32⟩
def IMG_FW_VER_VERSION : Fld := ⟨0x10, 0, 32⟩
def IMG_BANK_A : Fld := ⟨0x14, 0, 32⟩
def IMG_BANK_A_STATE : Fld := ⟨0x14, 0, 2⟩
def IMG_BANK_A_FW_OK : Fld := ⟨0x14, 2, 1⟩
def IMG_BANK_A_CFG_OK : Fld := ⟨0x14, 3, 1⟩
def IMG_BANK_A_REASON : Fld := ⟨0x14, 16, 16⟩
def IMG_BANK_B : Fld := ⟨0x18, 0, 32⟩
def IMG_BANK_B_STATE : Fld := ⟨0x18, 0, 2⟩
def IMG_BANK_B_FW_OK : Fld := ⟨0x18, 2, 1⟩
def IMG_BANK_B_CFG_OK : Fld := ⟨0x18, 3, 1⟩
def IMG_BANK_B_REASON : Fld := ⟨0x18, 16, 16⟩
def OTP_STATE : Fld := ⟨0x1C, 0, 32⟩
def OTP_STATE_ANCHOR : Fld := ⟨0x1C, 0, 8⟩
def OTP_STATE_ROLLBACK : Fld := ⟨0x1C, 8, 7⟩
def IMG_NONCE : Fld := ⟨0x20, 0, 32⟩
def IMG_OP_STATUS : Fld := ⟨0x40, 0, 32⟩
def IMG_OP_STATUS_BUSY : Fld := ⟨0x40, 0, 1⟩
def IMG_OP_STATUS_DONE : Fld := ⟨0x40, 1, 1⟩
def IMG_OP_STATUS_STOPPED : Fld := ⟨0x40, 2, 1⟩
def IMG_OP_STATUS_RESULT : Fld := ⟨0x40, 16, 16⟩
def NV_INFO : Fld := ⟨0x44, 0, 32⟩
def IMG_BUF : Fld := ⟨0x1000, 0, 32⟩
def IMG_BUF_V : Fld := ⟨0x1000, 0, 32⟩
def IMG_CERT : Fld := ⟨0x2000, 0, 32⟩
def IMG_ATTEST : Fld := ⟨0x2100, 0, 32⟩

end F
end Sys2Proof.Machine
end

