-- ==== Sys2Proof/Machine/State.lean ====
section
/-! DEFINITION. The state of the module as plain data: slot memory and OTP, the register file, the internal state of every unit, and the queue of commands; and the state after reset. -/

namespace Sys2Proof.Machine


/-! ### Non-volatile state (R24, R40) -/

/-- The state of an owner-anchor slot (R40). -/
inductive Anchor where | empty | enrolled | revoked
deriving DecidableEq, Repr

/-- The module's OTP, what the commands of R40 write in it; the firmware key hash, identity key and certificate are constants of Config. -/
structure Otp where
  anchor : Tbl Anchor
  anchorHash : Tbl (BitVec 256)
  rollback : Nat
  sound : Bool                 -- programming succeeds (R65, 0x021C); POWER_GOOD brings it
deriving DecidableEq, Repr

/-- What keeps its value through every reset: the slot memory (R23, R24) and the OTP (R40). -/
structure Nv where
  mem : List Host.Cell
  otp : Otp
  fit : NvFit                  -- what the module finds of the slot memory; POWER_GOOD brings it
deriving DecidableEq, Repr

/-! ### Images, start and mailbox (R26 to R107) -/

/-- The background commands (R51). -/
inductive BgOp where
  | erase (b : Bank) | write (b : Bank) (off len : Nat) | seal (b : Bank) | read (addr len : Nat)
deriving DecidableEq, Repr

/-- What the start of the device has done so far: bank chosen and headers of the running images (R48), enable requests (R38), start mode (R70). -/
structure ImgSt where
  applyBank : Option Bank      -- the bank whose CONFIG is to be applied
  runFw : List Byte            -- header of the running FIRMWARE image
  runCfg : List Byte           -- header of the running CONFIG image
  requests : List Obj          -- enable requests of R38 and R35
  startCharge : Bool           -- start mode CHARGE of the CONFIG image
  enableRefused : Bool         -- an enable of R39 was refused
  resolving : Bool             -- LOAD has ended and role resolution has not (R70)
  skipHalf : Bool              -- SKIP_HALF in force for the next choice (R57)
  bg : Option BgOp             -- the background command that runs
  bgStop : Bool                -- it stops after the page or sector in progress (R56, R669)
  bgSag : Bool                 -- it is R56 that stops it
  lockAt : Option Nat          -- tick at which the root PLL first locked since the reset (R39)
  zero : Int                   -- the tick count at the last reset, moved when the tick count is set (R60)
  nonces : Nat                 -- how many nonces have been drawn, through every reset (R47)
  boots : Nat                  -- how many BOOT_ID values have been drawn (R691)
deriving DecidableEq, Repr

/-- The mailbox command that executes (R104). -/
structure CmdRun where
  op : Nat
  lmp : Bool
  reason : Nat
  res : List (Nat × Word)      -- argument registers written on success
  lock : Option Obj            -- the slot an object command holds (R101)
  sess : Option (BitVec 16)    -- LMP session that waits for the reply (R685)
  args : List Word             -- the four arguments as submitted
deriving DecidableEq, Repr

/-- Modes, objects and checks (R66 to R130). -/
structure ModeSt where
  entered : Nat                -- tick of entry to the current mode
  stop : Option Nat            -- echo deadline tick of the stop sequence in progress (R73)
  rideFrom : Option Nat        -- beginning of the RIDE interval in CHARGE (R68)
  settleFrom : Option Nat      -- instant from which no RIDE source has been active (R69)
  changed : Bool               -- a fault reaction or shed action changed the mode in this tick (R76)
  gens : Tbl Nat               -- slot generation counters (R88), keyed type * 4096 + index
  occ : Tbl Bool               -- occupied slots, same keys
  checking : Option Obj        -- the check that runs (R126)
  checks : List Obj            -- the checks that wait
  cmd : Option CmdRun
  wrRead : Bool                -- the refused-write record has been read (R119)
  adaptAt : Nat                -- tick of the last adaptation of the DESAT thresholds (R387)
deriving DecidableEq, Repr

/-! ### Modulator (R133 to R201) -/

/-- A cell change (R354 to R363): positions that leave, positions that enter, those that leave by a node reaction. -/
structure Chg where
  leave : Nat
  enter : Nat
  react : Nat
  latched : Bool               -- past its change latch (R355)
  asked : Nat                  -- tick of its first request, or of the commit after which it waits for a latch (R355, R359)
deriving DecidableEq, Repr

/-- The positions that a committed cell change moves (R355, R361). -/
structure Moves where
  outs : Nat                   -- positions that leave by CELL_OUT
  ins : Nat                    -- positions that enter
  drops : Nat                  -- positions that leave by a node reaction
deriving DecidableEq, Repr

/-- A carrier event to come (R201): its instant in execution time in ft, whether it is a period centre, its ordinal since the string's start (R297). -/
structure CarEv where
  at_ : Nat
  centre : Bool
  ord : Nat
deriving DecidableEq, Repr

/-- A string at run time. -/
structure StrSt where
  started : Bool               -- R187
  startTick : Nat
  waitFirst : Bool             -- the first reload has not come
  stepsOpen : Bool             -- start steps of R408 not complete
  timedOut : Bool              -- CHARGE_STEP_TIMEOUT raised at this start
  ready : Bool                 -- a reload has come since the start steps were completed (R408)
  pend : Option SetV
  lat : Option SetV
  perStart : Nat               -- execution time of the newest period start, ft
  perLen : Nat
  perBase : Nat                -- the length to which the fractions of that period refer (R189, R190)
  set0 : SetV                  -- the set in force at the newest period start (R156, R184)
  atCentre : Bool              -- the next reload is the one at the centre
  chg : Option Chg
  chg2 : Option Chg            -- a change formed after the change latch of chg (R359)
  pendMv : Moves               -- what the pending set moves
  latMv : Moves                -- what the latched set moves
  latchAt : Option Nat         -- tick of the last latch instant taken (R179)
  reloadAt : Option Nat        -- tick of the last reload taken (R181)
  evs : List CarEv             -- the carrier events of the periods scheduled, not yet come
  ord : Nat                    -- period starts since the string's start
  evS : Option (Nat × Nat)     -- the last period-start event: its tick and its ordinal
  evC : Option (Nat × Nat)     -- the last period-centre event
  perNew : Bool                -- a new P or OFS has come into force since that period start (R190)
deriving DecidableEq, Repr

/-- A period of a leg of which the part before its centre is generated (R156, R184): its start, the length its fractions refer to, the half-width before the centre, and, for a pulse that has begun, the instant of its rise after the start. -/
structure Half where
  t0 : Nat
  per : Nat
  h1 : Nat
  on : Option Nat
deriving DecidableEq, Repr

/-- A leg of a node channel at the modulator (R163 to R176). -/
structure LegSt where
  cmd : LegState               -- state last commanded
  carry : Int                  -- E of R169
  dtPos : Nat
  dtNeg : Nat
  latPos : Nat
  latNeg : Nat
  dirHigh : Nat                -- direction of the latest echo into HIGH: 0 unknown, 1 +, 2 −
  dirLow : Nat
  latHigh : Nat
  latLow : Nat
  miss : Nat                   -- consecutive transitions without echo (R166)
  lastLow : Nat                -- execution tick at which a LOW interval of WIDTH last ended (R400)
  genTo : Nat                  -- execution time to which the leg's pattern is generated
  genFor : Option Nat          -- period start for which it was last generated
  half : Option Half           -- a period of which the part from its centre on is still to be generated
  off0 : Nat                   -- offset of the leg's periods (R155, R160)
  blocked : Bool               -- a command of R147 holds the leg; no pattern edges
  release : Bool               -- override released, waiting for the next reload (R146)
deriving DecidableEq, Repr

/-- An auxiliary pair at run time (R195 to R200). -/
structure AuxSt where
  pend : Option SetV
  lat : Option SetV
  start : Nat                  -- next period start, ft
  carry : Int
  latchAt : Option Nat         -- tick of the last latch instant taken (R197)
  reloadAt : Option Nat        -- tick of the last period start taken
  main : List (Nat × Nat)      -- the intervals of the newest period in which the main output is HIGH, ft
  sec : List (Nat × Nat)       -- those of the second output
  live : Bool                  -- a period has begun since the pair runs
  secFrom : Option Nat         -- COMPLEMENTARY: the second output is HIGH from this instant until the next pulse
  mainHi : Option Bool         -- idle level of the main output while the pair does not run; none: high impedance
  secHi : Option Bool
  mainFrom : Nat               -- instant from which an idle HIGH is driven, ft (R199)
  secIdle : Nat
deriving DecidableEq, Repr

/-- The delay line, CSYNC and the modulator as a whole. -/
structure ModSt where
  taps : List Nat              -- the 64-entry fine-tick table (R139)
  csEdge : Option Nat          -- time stamp of the last CSYNC_IN edge, ft
  csOut : List Nat             -- starts of the CSYNC_OUT pulses that have not ended, ft
  lastEvent : Option (Nat × Nat) -- the last carrier event: code and execution time, ft
deriving DecidableEq, Repr

/-! ### Golrus link, device side (R213 to R290) -/

/-- A receiver of a lane (R217, R719). -/
structure RxSt where
  locked : Bool
  was : Bool                   -- it has been locked and lost lock
  run : Nat                    -- consecutive well-formed frames while seeking
  seq : Nat                    -- SEQ of the last well-formed frame (seeking) or the last valid one (locked)
  gap : Nat                    -- frame positions since that frame
  bad : Nat                    -- consecutive positions without a valid frame
  seqRun : Nat                 -- consecutive frames that break only the SEQ condition
  seqLast : Nat
deriving DecidableEq, Repr

/-- An edge carried, not yet matched by an echo (R262). -/
structure Sent where
  leg : Nat
  time16 : Nat
  tgt : LegState
  tExec : Nat
  late : Bool                  -- its echo deadline has passed (R166)
  adapt : Bool                 -- a transition that R166 counts
deriving DecidableEq, Repr

/-- A management transaction outstanding (R285, R286): the message, frames waited, resends made, bytes not yet sent. -/
structure MsgOut where
  msg : Msg
  waited : Nat
  retries : Nat
  first : Bool
  left : List Byte
  src : Option Nat             -- the fault source whose clear it serves (R498)
deriving DecidableEq, Repr

/-- A link port at the device. -/
structure PortSt where
  st : PState
  rx : RxSt
  vrun : Nat                   -- consecutive valid report frames (R281)
  miss : Nat                   -- report slots since the last valid frame
  reach : Bool
  everReach : Bool
  sum : Nat                    -- exact sum of the block's samples, 1/16 ft
  cnt : Nat
  disc : Nat
  est : Option (Nat × Nat)     -- rtt of the last block as sum and count
  first : Bool                 -- no block has ended since training began
  dapp : Nat                   -- applied delay, ft
  dappNew : Nat                -- value for the next CMD frame start (R246)
  dest : Nat                   -- round(d_est / 16)
  prevDest : Option Nat
  ident : List Byte            -- identity delivered by report CAL
  obeyedQ : Bool
  nstate : NState              -- last reported
  rptSeen : Bool               -- a valid report frame has come since enable
  slots : Nat                  -- report slots of the error-rate window (R465)
  errs : Nat
  high : Bool                  -- LINK_DELAY_HIGH condition found at the last measurement
  short : Bool                 -- LEAD_SHORT condition
  tok : Bool                   -- the port carries the token (R278, R282)
  wait : List (Edge × Bool)    -- generated, not carried; true when a frame has passed it over
  rep : List (Word × Bool)     -- carried once, repeated in the next CMD frame, with the fence mark
  sent : List Sent
  resume : Nat                 -- CMD frames that still carry RESUME (R242)
  resumeNext : Bool            -- RESUME begins with the next frame that carries pattern edges
  mq : List (Msg × Option Nat)
  mo : Option MsgOut
  tid : Nat
  crcNode : Word               -- PARAM_CRC the node last gave
  dl : Bool                    -- a download of R290 is in progress
  dlFail : Bool                -- it ended in MGMT_TIMEOUT or a bad status (0x050B)
  dlOld : Bool                 -- the outstanding message belongs to a download since begun anew
  eseq : Option Nat            -- ESEQ of the last event entry
  tx : Option CmdFrame         -- the frame last sent
deriving DecidableEq, Repr

/-- A node channel at the device: protection, balancing and start steps (R377 to R424). -/
structure NodeSt where
  swNode : Nat                 -- switches the node has latched
  swDev : Nat                  -- switches the device has marked (R406, R413)
  react : Option Form          -- form of the node reaction in force
  holds : List Nat             -- fault sources that hold a node reaction
  contactor : Bool             -- CONTACTOR_CLOSED reported
  params : Bool                -- PARAM_OK
  powerUp : Bool               -- SAFE_ENTER with cause power-up since the last commit
  stRun : Option (Nat × Nat)   -- self-test running: switch and comparator masks
  stWait : Nat                 -- switches still to be tested by R407
  stPass : Nat                 -- switches whose latest self-test passed, since power-up
  stDone : Bool                -- SELFTEST_RESULT has come since step 3 began (R408)
  step : Nat                   -- start step: 0 none, 1 to 4 open, 5 complete
  detAck : Bool                -- step 2: DETECT acknowledged
  setAck : Bool                -- step 2: DESAT_SET acknowledged
  bsTry : Nat                  -- pre-charges sent at this start
  bsOff : Nat                  -- execution tick of the pre-charge's OFF edge
  blk : Tbl Nat                -- consecutive periods with UVLO_BLOCKED, per leg
  recov : Option Nat           -- end tick of the recovery (R390)
  desat : List Nat             -- thresholds acknowledged, six; empty until the first
  desatTx : List Nat           -- thresholds sent, not acknowledged
  jWarn : Bool                 -- JUNCTION_WARN condition at the last measurement
  jTrip : Bool
  winOut : Bool                -- CELL_V_WINDOW condition
  inWin : Option (Nat × Nat)   -- quantity 0 fresh and in its window since that tick; the newest value's instant in ft (R369)
  preFrom : Option Nat         -- start of a pre-charge of R365
  stopAwait : List (Nat × Nat) -- leg code and execution time of the safe-state edges whose echo has not come (R74)
  detTx : Nat                  -- method of the last DETECT sent: 0 none, 1 DESAT, 2 DIDT (R391)
  det : Nat                    -- method last acknowledged
  kept : SetV                  -- slot values the node keeps after a refusal (R174); empty: those in force
  kept0 : SetV                 -- the same at the newest period start
deriving DecidableEq, Repr

/-- A telemetry value (R256, R308): value in SI × 2^16, sample time on the device timeline in ft, arrival tick. -/
structure Tele where
  val : Int
  time : Nat
  tick : Nat
  ok : Bool
  pval : Int                   -- the value before, for a latch in the tick of arrival (R307)
  ptime : Nat
  pok : Bool
deriving DecidableEq, Repr

/-! ### The node at the far end of a port (R220 to R290, R382 to R420) -/

/-- An edge a node holds (R237, R238): word, due time in ft of the node counter, port it came from. -/
structure Held where
  word : Word
  due : Nat
  lane : Lane
  fence : Bool
deriving DecidableEq, Repr

/-- A management message on its way to a node (R284): none, the bytes of one in progress, or of one complete. -/
inductive Gather where | none | part (b : List Byte) | whole (b : List Byte)
deriving DecidableEq, Repr

/-- The gate of a switch at a node (R382): the state it was last driven to, by which profile, softly or not, and since when, in ft. -/
structure Gate where
  on : Bool
  alt : Bool
  soft : Bool
  at_ : Nat
deriving DecidableEq, Repr

/-- A leg at the node. -/
structure FLeg where
  st : LegState
  left : Nat                   -- instant at which it last left an on-state
  leftSt : LegState            -- that on-state
deriving DecidableEq, Repr

/-- A node. -/
structure FarSt where
  ns : NState
  set : Bool                   -- counter set
  now : Nat                    -- latest node time known, ft
  rxP : RxSt
  rxQ : RxSt
  tHi : Nat
  obeys : Option Lane
  timing : Lane
  agree : Nat                  -- consecutive frames that agree on a new counter phase (R222)
  agreeAt : Option (Int)
  ofsP : Int
  ofsQ : Int
  held : List Held
  legs : Tbl FLeg
  hist : List (Nat × Nat × LegState) -- executed edges: time, leg, state (R271)
  hor : Nat
  perAB : Nat
  perCF : Nat
  unserved : Nat
  served : Bool                -- the running slot is served
  repFrom : Nat                -- t_end of the hold-over entered last, with its periods (R271)
  repAB : Nat
  repCF : Nat
  stop : Nat                   -- legs that go on repeating after that hold-over (R275), mask
  seen : List Word             -- edge words of the last token frame whose edges were received (R238)
  swFrom : Tbl Bool            -- legs that have received an edge from the new port (R269 step 3)
  echoes : List Echo
  fenceEcho : Nat              -- fence edges executed, not yet echoed
  dropped : Nat
  events : List EvtEntry
  lost : Nat
  eseq : Nat
  oweCal : Bool
  rpts : Nat
  oweRpt : Nat                 -- RPT frames delayed by R251
  errP : Nat
  errQ : Nat
  stale : Nat
  params : Tbl Nat             -- committed parameter bytes
  staged : Tbl Nat
  crc : Word
  msgP : Gather                -- message arriving on port P
  msgQ : Gather
  lastTid : Option Nat
  lastAck : List Byte
  latched : Nat                -- faulty switches
  uvlo : Nat                   -- rails below lock-out: bit s the positive rail of switch s, bit 12 + s the negative one
  gates : Tbl Gate             -- by switch code
  closing : Bool               -- the node has closed its contactor (R273, R396)
  contactor : Bool
  form : Form
  method : Nat                 -- detection method: 1 DESAT, 2 DIDT
  armed : Nat                  -- switches that have taken it, mask
  desat : List Nat
  selfTest : Option (Nat × Nat)
  stAbort : Bool
  ident : List Byte
  report : Option Report       -- last report frame sent on both ports
  rhdr : List Byte             -- its header bytes (R215)
  slotAt : Nat                 -- start of the running slot, ft
deriving DecidableEq, Repr

/-! ### Fault collection (R463 to R498) -/

/-- A fault record (R481) without its CRC. -/
structure Rec where
  type : Nat
  severe : Bool
  cause : Bool
  mark : Bool
  source : Nat
  kind : Nat
  state : Nat
  react : Nat
  time : Nat
  rseq : Nat
  count : Nat
  supp : Nat
  lost : Nat
  mode : Nat
  role : Nat
  inst : Nat
  data : List Byte
  first : Nat
deriving DecidableEq, Repr

/-- A fault source at run time (R470, R471, R483). -/
structure SrcSt where
  win : Option Nat             -- end tick of the open window
  causes : List Nat            -- kinds whose cause is active
  hold : Option Nat            -- end tick of the holdoff
  supp : Nat                   -- events since the previous record that none carries
  last : Option Rec            -- latest suppressed event
  first : Nat                  -- FIRST_RSEQ
  floors : Nat × Nat × Nat     -- floors of the kinds raised: node, string, mode
deriving DecidableEq, Repr

/-- A fault clear that waits for its acknowledgements (R498). -/
structure ClearSt where
  target : Nat
  named : List Nat
  wait : Nat                   -- acknowledgements outstanding
  failed : Bool
deriving DecidableEq, Repr


/-- An alarm on the LMP path (R493, R687): the record, the sessions that have not acknowledged it, the tick it was first sent, the tick it was last sent. -/
structure Alarm where
  fr : Rec
  waits : List (BitVec 16)
  since : Nat
  sent : Nat
deriving DecidableEq, Repr

/-- Records, alarms, trace and pins of fault collection. -/
structure FltSt where
  fifo : List Rec              -- oldest first
  rseq : Nat
  gap : Nat                    -- records lost since the last one written
  halts : List (Nat × Nat)     -- string HALTs in force: string and source
  clear : Option ClearSt
  pinMin : Option Nat          -- end tick of T_MINPULSE
  canQ : List Rec              -- alarms waiting for CAN
  lmpQ : List Alarm            -- alarms waiting for LMP
  ring : List (List Word)      -- trace samples, oldest first
  ringPos : Nat                -- samples written since the ring was emptied
  postLeft : Nat               -- samples still to write after the trigger
  trigPos : Nat                -- number of the trigger sample
  txTrace : Option (List Word) -- sample last streamed
  severeRec : Option Rec       -- the newest severe record (R646)
  mons : Tbl (Nat × Nat × Nat) -- per monitor: consecutive outs, consecutive ins, active kind
deriving DecidableEq, Repr

/-- An event or the end of a cause that a unit has raised and fault collection has still to take (R463, R470, R477). -/
structure Ev where
  src : Nat
  kind : Nat
  cause : Option Bool          -- none: an occurrence; some true: a cause becomes active; some false: it ends
  severe : Bool                -- severe whatever the counting parameters
  safe : Bool                  -- the floor of the mode field is SAFE
  form : Option Form           -- form that a node reaction commands
  time : Option Nat            -- TIME of a node event, ft
  hi : Nat                     -- upper half of INSTANCE
  data : List Byte
  mute : Bool := false         -- the mode reaction is not taken (R558)
  mirror : Bool := false       -- it came over the mirror (R514)
deriving DecidableEq, Repr

/-- Work that one unit hands to another within a command. -/
inductive Due where
  | event (e : Ev)
  | mode (m : Mode) (cause : Nat)
  | react (src : Nat)
  | ride
deriving DecidableEq, Repr


/-! ### Host paths (R672 to R688) -/

/-- A datagram the device sends over LMP (R682, R685): destination session (none before OPEN_ACK), type, sequence number, body. -/
structure LmpOut where
  sess : Option (BitVec 16)
  type : Nat
  seq : Nat
  body : List Byte
deriving DecidableEq, Repr

/-- An open LMP session (R683, R684, R687). -/
structure Sess where
  num : BitVec 16
  slot : Nat
  key : BitVec 256
  seqIn : Nat                  -- last SEQ accepted
  seqOut : Nat                 -- last SEQ sent
  cache : Option LmpOut
  alarms : Bool
  trace : Bool
  heard : Nat                  -- tick of the last datagram accepted
deriving DecidableEq, Repr

structure HostSt where
  refused : Bool               -- LAST_REFUSED of the status byte (R678)
  addrErr : Bool
  spiOut : List Word           -- words the last SPI transaction returned
  spiStatus : Nat              -- status byte the last SPI transaction returned
  sess : List Sess             -- oldest first
  traceTo : Option (BitVec 16) -- session that most recently subscribed to trace
  chal : List (BitVec 256 × Nat) -- nonces of challenges outstanding, each with its tick
  out : List LmpOut            -- datagrams the last LMP command sent
  netOut : Option (List Byte)  -- ARP or ICMP answer last sent
  later : List (Nat × Word)    -- register writes that have come over LMP while an SPI write to the same register waits (R118), oldest first
deriving DecidableEq, Repr
def hostSt0 : HostSt :=
  { refused := false, addrErr := false, spiOut := [], spiStatus := 0, sess := [], traceTo := none, chal := [], out := [], netOut := none, later := [] }



/-! ### Sensing (R426 to R459) -/

/-- A result of a SAR channel: the tick and instant (ft) of its sample, its code, its qualifier bits (R458) without bit 0, the count of results. -/
structure SarRes where
  tick : Nat
  code : Int
  qual : Nat
  count : Nat
deriving DecidableEq, Repr

/-- A SAR channel. -/
structure SarSt where
  hist : List SarRes           -- latest results, newest first
  count : Nat
  ovr  : Bool                  -- the last sample was overranged
  lastOver : Option Nat        -- instant of the last overranged sample, ft
  backAt : Option Nat          -- s_r of R433, ft
deriving DecidableEq, Repr

/-- A result of a sigma-delta input: output tick, value, qualifier bits without bit 0, count. -/
structure SdRes where
  tick : Nat
  val : Int
  qual : Nat
  count : Nat
deriving DecidableEq, Repr

/-- A sigma-delta input. -/
structure SdSt where
  bits : List Bool             -- bits of the main filter's window, newest first
  fbits : List Bool            -- bits of the fast filter's window, newest first
  hist : List SdRes
  count : Nat
  since : Nat                  -- tick from which settling is counted (R453)
  fastFrom : Nat               -- tick from which the fast path compares (R456)
  stuck : Bool
  run : Nat                    -- consecutive fast outputs beyond a threshold
  fast : Int
deriving DecidableEq, Repr

/-- The sample grid, injected conversions and calibration. -/
structure SensSt where
  ref : Nat                    -- reference instant of R427, ft
  last : Option Nat            -- last sample instant
  trig : Option Nat            -- aligned trigger instant e of R429
  inj : Option Nat             -- injected sample instant i of R437
  chans : Tbl SarSt
  sds : Tbl SdSt
  calRot : Nat                 -- channel after which the schedule goes on (R442)
  restart : Option Nat         -- instant of the last restart of the ADC domain, ft (R458)
  calFrom : Nat                -- tick at which the latest calibration began (R440)
  schedAt : Nat                -- tick of the last turn of the calibration schedule (R442)
deriving DecidableEq, Repr

def sarSt0 : SarSt := { hist := [], count := 0, ovr := false, lastOver := none, backAt := none }
def sdSt0 : SdSt := { bits := [], fbits := [], hist := [], count := 0, since := 0, fastFrom := 0, stuck := false, run := 0, fast := 0 }
def sensSt0 : SensSt :=
  { ref := 0, last := none, trig := none, inj := none, chans := [], sds := [], calRot := 15, restart := none, calFrom := 0, schedAt := 0 }

/-! ### Loop engines (R296 to R348) -/

/-- What the evaluation of a loop leaves for publication (R300): new registers, events, whether it was evaluated. -/
structure LoopRes where
  loop : Nat
  regs : List (Nat × Word)     -- state block and slot values to publish
  sat : Bool
  stale : Bool
  skipped : Bool
  held : Bool                  -- skipped by STALE_HOLD (R309)
  osc : List Nat               -- kinds the oscillation detector raises (R331)
  win : Bool
  y : Int
  trk : Option (Int × Int × Int) -- angle, increment, amplitude (R324)
deriving DecidableEq, Repr

/-- A firing in progress (R299). -/
structure Firing where
  tf : Nat
  since : Nat                  -- N: ticks since the previous firing (0x2809)
  latched : Bool
  latch : Nat                  -- tick of the latch instant
  snap : List (Nat × Word × Bool) -- the snapshot: signal, value, stale
  regs : Tbl Word              -- registers and values in force at the latch instant (R337)
  force : Tbl Word
  mode : Nat
  res : List LoopRes
  done : Bool
  compared : Bool              -- evaluated on the mirrored snapshot (R512)
  wait : Bool := false         -- a standby still waits for the mirrored snapshot
deriving DecidableEq, Repr

/-- A rate group. -/
structure RgSt where
  fir : Option Firing
  lastTf : Option Nat
  firedAt : Option Nat         -- tick of the last firing instant taken, or, in a GRID group, of the first angle it saw (R303, R325)
  sector : Option Nat          -- sector recorded by a GRID group (R325)
  band : Bool                  -- the last commit fell in a late band (R347)
  commitFrom : Option Nat      -- LOOP_COMMIT waits for a latch instant after this tick (R305)
  commitLast : Option Nat      -- tick of the newest LOOP_COMMIT
  thaw : List Nat              -- loops to thaw at the next latch instant (R333)
  boundary : Bool              -- the next firing is a wheel boundary (R341, R342)
deriving DecidableEq, Repr

/-- What a GRID_PLL loop publishes on a tracker (R324): θ, Δ, t_k and N_k. -/
structure TrkPub where
  angle : Nat
  delta : Int
  tick : Nat
  n : Nat
deriving DecidableEq, Repr

/-- A grid angle tracker (R324, R325). -/
structure TrkSt where
  pub : Bool
  amp : Int
  now : TrkPub                 -- the last publication
  was : TrkPub                 -- the one before it
  since : Nat                  -- commit tick of the last publication
deriving DecidableEq, Repr

def rgSt0 : RgSt :=
  { fir := none, lastTf := none, firedAt := none, sector := none, band := false, commitFrom := none, commitLast := none, thaw := [], boundary := false }
def trkPub0 : TrkPub := { angle := 0, delta := 0, tick := 0, n := 0 }
def trkSt0 : TrkSt := { pub := false, amp := 0, now := trkPub0, was := trkPub0, since := 0 }


/-! ### Time base, PTP and timed outputs (R567 to R592) -/

/-- The sender of an accepted message: clockIdentity and port number. -/
structure Master where
  id : BitVec 64
  portNo : Nat
  sg : Nat                     -- SG port it is heard on
deriving DecidableEq, Repr

/-- A foreign master heard of (R583). -/
structure Foreign where
  m : Master
  ann : AnnBody
  logIntv : Int
  heard : Nat                  -- tick of the last Announce
  seq : Nat
  count : Nat                  -- Announce messages heard within the foreign master window
deriving DecidableEq, Repr

/-- A two-step Sync that waits for its Follow_Up (R577). -/
structure SyncWait where
  m : Master
  seq : Nat
  t2 : Int
  corr : Int
deriving DecidableEq, Repr

structure TbSt where
  sec : Nat
  ns : Nat
  sub : Nat                    -- fraction of a nanosecond, 40 bits
  fi : Int                     -- FI in 1/256 ppb
  hist : List Int              -- FI at the last 64 accepted samples, newest first
  lastO : Option Int           -- last offset sample of the selected master, 2^-17 ps
  qual : Nat                   -- consecutive samples towards qualification
  good : Nat                   -- consecutive samples within LOCK_TH
  hoFrom : Nat                 -- tick of the last entry to HOLDOVER
  syncAt : Nat                 -- tick of the last accepted Sync of the selected master, or of its selection (R575)
  annAt : Nat                  -- tick of its last Announce, or at which the announce receipt timeout last began (R575)
  lossCause : Bool             -- the cause of TIME_LOSS is active
  master : Option Master
  foreign : List Foreign
  wait : Option SyncWait
  mpd : Int                    -- mean path delay, 2^-17 ps
  dreq : Option (Nat × Int)    -- outstanding Delay_Req: sequence, t3
  t12 : Option Int             -- t2 - t1 of the last Sync, corrected
  pdreq : List (Nat × Nat × Int) -- outstanding Pdelay_Req: port, sequence, t1
  pdwait : List (Nat × Nat × Int × Int) -- Pdelay_Resp that waits for its follow-up: port, sequence, t4 - t1 and correction, t2
  seqSync : Nat
  seqAnn : Nat
  seqDreq : Nat
  out : List PtpOut            -- messages sent by the last command
  fwd : Option (Nat × Int)     -- port and correctionField of the message last forwarded
deriving DecidableEq, Repr
def tbSt0 : TbSt :=
  { sec := 0, ns := 0, sub := 0, fi := 0, hist := [], lastO := none, qual := 0, good := 0, hoFrom := 0, syncAt := 0, annAt := 0, lossCause := false, master := none,
    foreign := [], wait := none, mpd := 0, dreq := none, t12 := none, pdreq := [], pdwait := [], seqSync := 0, seqAnn := 0, seqDreq := 0,
    out := [], fwd := none }

/-- A timed output at run time (R590, R591). -/
structure TpoSt where
  armed : Bool
  next : Nat                   -- number of the next pulse
  pulse : Option (Int × Int)   -- last pulse: time value of its start and end, in 2^-40 ns of the low 32 bits of the seconds; a step moves both
deriving DecidableEq, Repr
def tpoSt0 : TpoSt := { armed := false, next := 0, pulse := none }

/-! ### Reference, root PLL and clock tree (R534 to R563) -/

/-- A clock operation in progress (R546 to R549, R559). -/
inductive ClkOp where
  | glide (cmd : Bool) (ofs : Int)   -- towards an offset in ppb; `cmd`: an APPLY (a return glides too)
  | hop (ofs : Int) (t0 : Nat)
  | arm
deriving DecidableEq, Repr

structure ClkSt where
  op : Option ClkOp
  meas : List Int              -- measurements of the source in use against the TCXO over the last 64 ms, ppb, newest first
  ofs : Int                    -- offset of f_t at which the VCO runs, ppb
  lastRef : Nat                -- source in use before holdover
  guard : Nat                  -- tick until which LINK_LOS is not raised (R550)
  eRun : Nat                   -- consecutive CLKSYNC_IN stamps beyond 32 ft (R562)
  word : Nat                   -- feedback word: N and F as N * 2^32 + F (R536)
  goodA : Nat                  -- tick from which REF_A has met its conditions of R538 without a break
  goodB : Nat
deriving DecidableEq, Repr
def clkSt0 : ClkSt := { op := none, meas := [], ofs := 0, lastRef := 3, guard := 0, eRun := 0, word := 0, goodA := 0, goodB := 0 }

/-! ### Pair (R502 to R529) -/

/-- A switch-over decided (R521). -/
structure SwitchSt where
  decided : Nat
  first : Nat
  take : Bool                  -- this module becomes ACTIVE at the boundary
  out : Bool                   -- the former active module becomes OUT
  tests : Bool                 -- it becomes OUT if its health self-tests fail then (R518, ACTIVE_FAULT)
deriving DecidableEq, Repr

/-- A firing retained for a replay (R518). -/
structure Kept where
  g : Nat
  tf : Nat
  snap : List (Nat × Word × Bool)
  before : SetV                -- state blocks, outputs and slot values before the firing
  p : BitVec 64
  d : Option (BitVec 64)       -- none: not committed
  compared : Bool
deriving DecidableEq, Repr

/-- A replay in progress (R518): the firing and the digests of the peer. -/
structure Replay where
  g : Nat
  tf : Nat
  since : Nat                  -- tick at which it began
  own : Option (BitVec 64) × BitVec 64
  peer : Option (BitVec 64) × BitVec 64
deriving DecidableEq, Repr

structure PairSt where
  hbOut : Bool
  hbAt : Nat                   -- tick of the last toggle of HB_OUT
  hbIn : Nat                   -- tick of the last edge on HB_IN
  lanes : Nat                  -- lanes in use, a mask
  lostLanes : Nat              -- lanes lost since they were last in use, a mask (SS_HEALTH.LANES)
  failed : Bool                -- the peer is presumed failed (R509)
  linkFault : Bool             -- exactly one of heartbeat and pair link is lost
  phaseFrom : Nat
  retry : Option Nat           -- R503 runs again at this tick (R526)
  peer : Option PeerId
  peerSync : Nat
  peerSevere : Bool            -- a source of the peer is SEVERE (R525)
  sw : Option SwitchSt
  held : Bool                  -- a coordinated trigger waits for an eligible standby
  tookAt : Option Nat          -- T_first of the last take-over by this module
  replay : Option Replay
  resync : Option Nat          -- a resync runs since this tick
  eligFrom : Option Nat        -- eligible without a break since
  ejected : Bool               -- OUT by EJECT_REQ, or held OUT by it at the end of LOAD
  ejectTaken : Bool
  ejectAt : Option Int         -- tick at which EJECT_REQ had been held for 10 ms (R44, R527)
  ejectFree : Option Int       -- tick at which the lever left the request position (R44, R666)
  withdrawn : Bool
  healthFails : Nat            -- health self-test failures since reset (R60)
  kept : List Kept             -- newest first
  snaps : List (Nat × Nat × List (Nat × Word × Bool)) -- mirrored snapshots of firings not yet evaluated
  disagree : Tbl Nat           -- consecutive firings of a group whose inputs disagree (R515)
  verify : Tbl Nat             -- consecutive equal firings of a group (R526)
  rptRun : Nat                 -- consecutive RPT frames that meet R510
  lastTok : Option (Nat × Nat) -- start tick and HOR of the last mirrored token frame
deriving DecidableEq, Repr
def pairSt0 : PairSt :=
  { hbOut := false, hbAt := 0, hbIn := 0, lanes := 0, lostLanes := 0, failed := false, linkFault := false, phaseFrom := 0, retry := none, peer := none, peerSync := 0, peerSevere := false, sw := none,
    held := false, tookAt := none, replay := none, resync := none, eligFrom := none, ejected := false, ejectTaken := false, ejectAt := none, ejectFree := none, withdrawn := false, healthFails := 0,
    kept := [], snaps := [], disagree := [], verify := [], rptRun := 0, lastTok := none }

/-! ### CAN FD controllers (R596 to R620) -/

structure CanSt where
  tec : Nat
  recc : Nat                   -- REC
  cur : Option Nat             -- object in transmission
  first : Option Nat           -- the TX_HELD object that goes before any other (R612)
  gone : List Nat              -- RSEQ of the alarms of the queue that this controller has sent (R615)
deriving DecidableEq, Repr
def canSt0 : CanSt := { tec := 0, recc := 0, cur := none, first := none, gone := [] }

structure ObjSt where
  data : List Word             -- stored frame: 16 data words
  info : Word
  len : Word
  stamp : Word
  prev : Nat                   -- state before SUSPENDED
  abort : Bool                 -- an ABORT waits for the end of the attempt
  alarm : Option Nat           -- RSEQ of the alarm it sends
  sent : List Byte             -- data of the frame last sent
deriving DecidableEq, Repr
def objSt0 : ObjSt := { data := [], info := 0#32, len := 0#32, stamp := 0#32, prev := 0, abort := false, alarm := none, sent := [] }

/-! ### Power and module (R625 to R671) -/

/-- A wake comparator (R633): its output, and for how many ticks it has held true since a change from false that is no wake event yet. -/
structure Cmp where
  out : Bool
  run : Option Nat
deriving DecidableEq, Repr

structure PwrSt where
  agents : List Nat            -- agents still to answer, the first one asked (R630)
  done : List Nat              -- agents that have answered ACK
  until_ : Option Nat          -- tick at which the DELAY of the agent asked ends
  vdd : Nat                    -- VDD_CORE in 0.5 mV
  wide : Option Nat            -- SLACK above MARGIN + 8 without a break since (R636)
  lgSeq : Nat                  -- LGSEQ of the newest last-gasp record
  lgBusy : Bool                -- a record is being programmed
  lgRec : List Byte            -- that record
  lgErase : Bool               -- the target sector is being erased
  hotOut : Nat                 -- temperature sensors beyond their level: bit 0 face, bit 1 junction (R700)
  vinOut : Nat                 -- inputs outside 18 to 36 V that are monitored, mask
  shedAt : Nat                 -- tick at which VHOLD was last found less than 0.3 V above the threshold of the deepest stage (R640)
  cmpA : Cmp                   -- the comparator of WAKE_A
  cmpB : Cmp
deriving DecidableEq, Repr
def pwrSt0 : PwrSt :=
  { agents := [], done := [], until_ := none, vdd := 1700, wide := none, lgSeq := 0, lgBusy := false, lgRec := [], lgErase := false, hotOut := 0, vinOut := 0, shedAt := 0,
    cmpA := { out := false, run := none }, cmpB := { out := false, run := none } }

structure BoxSt where
  powered : Bool               -- power-good has come
  locate : Option Nat          -- end tick of LOCATE
  lamp : Bool                  -- the four indicators light together (R670)
  refusedFlash : Option Nat    -- tick at which REMOVE stops flashing at 4 Hz (R670)
  pwrGone : Bool               -- reset by shed stage S5
deriving DecidableEq, Repr
def boxSt0 : BoxSt := { powered := false, locate := none, lamp := false, refusedFlash := none, pwrGone := false }


/-! ### The module -/

/-- The whole volatile state of the module and of the nodes on its links. -/
structure Dev where
  tick : Nat                   -- device time in ticks of 4 ns (R4)
  regs : Tbl Word              -- every register that is not at its reset value
  force : Tbl Word             -- values in force of class C registers (R112)
  slotVals : Tbl Word          -- modulation reference slots as the loops write them (R148)
  plan : List (Nat × Edge)     -- generated edges whose schedule instant has not come: node channel, edge
  img : ImgSt
  ms : ModeSt
  ml : ModSt
  flt : FltSt
  tb : TbSt
  tpos : Tbl TpoSt
  clk : ClkSt
  pair : PairSt
  cans : Tbl CanSt
  objs : Tbl ObjSt
  pwr : PwrSt
  box : BoxSt
  hs : HostSt
  sens : SensSt
  rgs : Tbl RgSt
  trks : Tbl TrkSt
  busy : List (Nat × Nat × Nat) -- evaluations of the last millisecond: latch tick, engine, number (R345)
  strs : Tbl StrSt
  legs : Tbl LegSt
  auxs : Tbl AuxSt
  ports : Tbl PortSt
  nodes : Tbl NodeSt
  fars : Tbl FarSt
  srcs : Tbl SrcSt
  teles : Tbl Tele
  due : List Due               -- events raised and not yet taken; empty between commands
  free : Nat                   -- how many free values have been drawn: the model's own counter
deriving DecidableEq, Repr

/-- The state of the block: the commands that wait, the non-volatile memories, the module. -/
structure State where
  pending : List Instr
  nv : Nv
  d : Dev
deriving DecidableEq, Repr

/-- Why the machine stops. -/
inductive Fault where
  /-- Raised by a command whose operands describe no event the hardware can see (a frame field outside its width, a list longer than its frame). Safe: the machine stops. -/
  | malformedOperand
deriving DecidableEq, Repr

/-- Why a command has no meaning. -/
inductive Refusal where
  /-- Answered by an arm of the dispatch for a command the model does not model yet. Safe: the machine stops. -/
  | notModelled (mnemonic : String)
deriving DecidableEq, Repr

/-! ### Defaults of the tables: what an unlisted entry holds -/

def moves0 : Moves := { outs := 0, ins := 0, drops := 0 }

def strSt0 : StrSt :=
  { started := false, startTick := 0, waitFirst := false, stepsOpen := false, timedOut := false, ready := false, pend := none, lat := none,
    perStart := 0, perLen := 0, perBase := 0, set0 := [], atCentre := false, chg := none, chg2 := none,
    pendMv := moves0, latMv := moves0, latchAt := none, reloadAt := none, evs := [], ord := 0, evS := none, evC := none, perNew := false }

def legSt0 : LegSt :=
  { cmd := .off, carry := 0, dtPos := 0, dtNeg := 0, latPos := 0, latNeg := 0, dirHigh := 0, dirLow := 0, latHigh := 0, latLow := 0,
    miss := 0, lastLow := 0, genTo := 0, genFor := none, half := none, off0 := 0, blocked := false, release := false }

def auxSt0 : AuxSt :=
  { pend := none, lat := none, start := 0, carry := 0, latchAt := none, reloadAt := none, main := [], sec := [], live := false, secFrom := none,
    mainHi := none, secHi := none, mainFrom := 0, secIdle := 0 }

def rxSt0 : RxSt := { locked := false, was := false, run := 0, seq := 0, gap := 0, bad := 0, seqRun := 0, seqLast := 0 }

def portSt0 : PortSt :=
  { st := .off, rx := rxSt0, vrun := 0, miss := 0, reach := false, everReach := false, sum := 0, cnt := 0, disc := 0, est := none, first := true,
    dapp := 0, dappNew := 0, dest := 0, prevDest := none, ident := [], obeyedQ := false, nstate := .init, rptSeen := false, slots := 0,
    errs := 0, high := false, short := false, tok := false, wait := [], rep := [], sent := [], resume := 0, resumeNext := false, mq := [],
    mo := none, tid := 0, crcNode := 0#32, dl := false, dlFail := false, dlOld := false, eseq := none, tx := none }

def nodeSt0 : NodeSt :=
  { swNode := 0, swDev := 0, react := none, holds := [], contactor := false, params := false, powerUp := false, stRun := none, stWait := 0,
    stPass := 0, stDone := false, step := 0, detAck := false, setAck := false, bsTry := 0, bsOff := 0, blk := [], recov := none, desat := [],
    desatTx := [], jWarn := false, jTrip := false, winOut := false, inWin := none, preFrom := none, stopAwait := [], detTx := 0, det := 0, kept := [], kept0 := [] }

def tele0 : Tele := { val := 0, time := 0, tick := 0, ok := false, pval := 0, ptime := 0, pok := false }

def flegSt0 : FLeg := { st := .off, left := 0, leftSt := .off }

def gate0 : Gate := { on := false, alt := false, soft := false, at_ := 0 }

def farSt0 : FarSt :=
  { ns := .init, set := false, now := 0, rxP := rxSt0, rxQ := rxSt0, tHi := 0, obeys := none, timing := .portP, agree := 0, agreeAt := none,
    ofsP := 0, ofsQ := 0, held := [], legs := [], hist := [], hor := 0, perAB := 0, perCF := 0, unserved := 0, served := false, repFrom := 0, repAB := 0,
    repCF := 0, stop := 0, seen := [], swFrom := [], echoes := [], fenceEcho := 0, dropped := 0, events := [], lost := 0, eseq := 0, oweCal := false, rpts := 0,
    oweRpt := 0, errP := 0, errQ := 0, stale := 0, params := [], staged := [], crc := 0#32, msgP := .none, msgQ := .none,
    lastTid := none, lastAck := [], latched := 0, uvlo := 0, gates := [], closing := false, contactor := false, form := .block, method := 2, armed := 4095, desat := [],
    selfTest := none, stAbort := false, ident := [], report := none, rhdr := [], slotAt := 0 }

def srcSt0 : SrcSt := { win := none, causes := [], hold := none, supp := 0, last := none, first := 0, floors := (0, 0, 0) }

def imgSt0 : ImgSt :=
  { applyBank := none, runFw := [], runCfg := [], requests := [], startCharge := false, enableRefused := false, resolving := false,
    skipHalf := false, bg := none, bgStop := false, bgSag := false, lockAt := none, zero := 0, nonces := 0, boots := 0 }

def modeSt0 : ModeSt :=
  { entered := 0, stop := none, rideFrom := none, settleFrom := none, changed := false, gens := [], occ := [], checking := none, checks := [],
    cmd := none, wrRead := true, adaptAt := 0 }

def fltSt0 : FltSt :=
  { fifo := [], rseq := 1, gap := 0, halts := [], clear := none, pinMin := none, canQ := [], lmpQ := [], ring := [], ringPos := 0,
    postLeft := 0, trigPos := 0, txTrace := none, severeRec := none, mons := [] }

def modSt0 : ModSt := { taps := [], csEdge := none, csOut := [], lastEvent := none }

/-- The module right after power-on: every register at its reset value, every unit at rest. -/
def Dev.reset : Dev :=
  { tick := 0, regs := [], force := [], slotVals := [], plan := [], img := imgSt0, ms := modeSt0, ml := modSt0, flt := fltSt0, tb := tbSt0, tpos := [], clk := clkSt0, pair := pairSt0, cans := [], objs := [], pwr := pwrSt0, box := boxSt0, hs := hostSt0, sens := sensSt0, rgs := [], trks := [], busy := [],
    strs := [], legs := [], auxs := [], ports := [], nodes := [], fars := [], srcs := [], teles := [], due := [], free := 0 }

/-- The non-volatile memories of a module that has never been written: every byte of slot memory erased (an unlisted byte reads 0xFF), no anchor enrolled, rollback counter 0. -/
def Nv.blank : Nv := { mem := [], otp := { anchor := [], anchorHash := [], rollback := 0, sound := true }, fit := .good }

/-- The block right after reset. -/
def State.reset : State := { pending := [], nv := Nv.blank, d := Dev.reset }

end Sys2Proof.Machine
end

