-- ==== Sys2Proof/Machine/Ops.lean ====
section
/-! DEFINITION. The named operations over registers, tables and the small status bits that every meaning shares. -/

namespace Sys2Proof.Machine

/-! ### The register map -/

/-- Which instance and offset of a family the address names. -/
def famHit (f : FamD) (a : Nat) : Option (Nat × Nat) :=
  if a < f.base then none
  else if f.stride = 0 then (if a - f.base < f.size then some (f.first, a - f.base) else none)
  else
    let i := (a - f.base) / f.stride
    let o := (a - f.base) % f.stride
    if i < f.count ∧ o < f.size then some (f.first + i, o) else none

/-- The register row at an offset of a block, with its number in the row. -/
def regHit (l : List RegD) (o : Nat) : Option (RegD × Nat) :=
  match l with
  | [] => none
  | r :: t => if r.off ≤ o ∧ o < r.off + 4 * r.cnt then some (r, (o - r.off) / 4) else regHit t o

/-- The place of an address in the register map (R673). -/
structure Loc where
  fam : Fam
  idx : Nat
  off : Nat
  reg : Option RegD
deriving DecidableEq, Repr

/-- Find the family block, and the register in it, of an address; the first block that holds a register there wins. -/
def locIn (l : List FamD) (a : Nat) : Option Loc :=
  match l with
  | [] => none
  | f :: t =>
    match famHit f a with
    | none => locIn t a
    | some (i, o) =>
      match regHit f.regs o with
      | some (r, _) => some ⟨f.fam, i, o, some r⟩
      | none => match locIn t a with
        | some ⟨g, j, o', some r⟩ => some ⟨g, j, o', some r⟩
        | _ => some ⟨f.fam, i, o, none⟩

def locate (a : Nat) : Option Loc := locIn famTable a

/-- What a register holds after reset, and what an unlisted one holds (the reset columns of the register tables). -/
def regReset (a : Nat) : Word :=
  match locate a with
  | some ⟨_, _, _, some r⟩ => w32 r.reset
  | _ => 0#32

/-! ### Registers of the module -/

/-- The stored word of a register. -/
def Dev.rd (s : Dev) (a : Nat) : Word := tget regReset s.regs a

/-- Store a word in a register. -/
def Dev.wr (s : Dev) (a : Nat) (v : Word) : Dev := { s with regs := tset regReset s.regs a v }

/-- The value in force of a class C register (R112). -/
def Dev.rdF (s : Dev) (a : Nat) : Word := tget regReset s.force a

/-- Set the value in force of a class C register. -/
def Dev.wrF (s : Dev) (a : Nat) (v : Word) : Dev := { s with force := tset regReset s.force a v }

/-- The field `f` moved to word `k` of an array of registers. -/
def Fld.at (f : Fld) (k : Nat) : Fld := { f with off := f.off + 4 * k }

/-- Read a field of the block at `b`. -/
def Dev.g (s : Dev) (b : Nat) (f : Fld) : Nat := getBits (s.rd (b + f.off)) f.lo f.w

/-- Read a field as a bit. -/
def Dev.gb (s : Dev) (b : Nat) (f : Fld) : Bool := s.g b f != 0

/-- Read a field as a two's complement number. -/
def Dev.gi (s : Dev) (b : Nat) (f : Fld) : Int := sgn f.w (s.g b f)

/-- Read a field of the values in force. -/
def Dev.gF (s : Dev) (b : Nat) (f : Fld) : Nat := getBits (s.rdF (b + f.off)) f.lo f.w

/-- Write a field of the block at `b`. -/
def Dev.p (s : Dev) (b : Nat) (f : Fld) (v : Nat) : Dev := s.wr (b + f.off) (putBits (s.rd (b + f.off)) f.lo f.w v)

/-- Write a field as a two's complement number. -/
def Dev.pi (s : Dev) (b : Nat) (f : Fld) (v : Int) : Dev := s.p b f (usg f.w v)

/-- Set a field of one bit. -/
def Dev.pb (s : Dev) (b : Nat) (f : Fld) (v : Bool) : Dev := s.p b f (b2n v)

/-- Add to a field, modulo its width. -/
def Dev.inc (s : Dev) (b : Nat) (f : Fld) (n : Nat := 1) : Dev := s.p b f (s.g b f + n)

/-- Apply a change only when the condition holds. -/
def Dev.on (s : Dev) (c : Bool) (f : Dev → Dev) : Dev := if c then f s else s

/-- Apply a change for each element of a list, in order. -/
def Dev.each {α : Type} (s : Dev) (l : List α) (f : α → Dev → Dev) : Dev := l.foldl (fun d x => f x d) s

/-- Return a range of registers, and their values in force, to the reset values. -/
def Dev.clearRange (s : Dev) (a n : Nat) : Dev := { s with regs := teraseRange s.regs a n, force := teraseRange s.force a n }

/-! ### Tables of the internal state -/

def Dev.str (s : Dev) (i : Nat) : StrSt := tget (fun _ => strSt0) s.strs i
def Dev.setStr (s : Dev) (i : Nat) (f : StrSt → StrSt) : Dev := { s with strs := tset (fun _ => strSt0) s.strs i (f (s.str i)) }
def Dev.leg (s : Dev) (n y : Nat) : LegSt := tget (fun _ => legSt0) s.legs (n * 6 + y)
def Dev.setLeg (s : Dev) (n y : Nat) (f : LegSt → LegSt) : Dev :=
  { s with legs := tset (fun _ => legSt0) s.legs (n * 6 + y) (f (s.leg n y)) }
def Dev.auxp (s : Dev) (i : Nat) : AuxSt := tget (fun _ => auxSt0) s.auxs i
def Dev.setAux (s : Dev) (i : Nat) (f : AuxSt → AuxSt) : Dev := { s with auxs := tset (fun _ => auxSt0) s.auxs i (f (s.auxp i)) }
def Dev.port (s : Dev) (i : Nat) : PortSt := tget (fun _ => portSt0) s.ports i
def Dev.setPort (s : Dev) (i : Nat) (f : PortSt → PortSt) : Dev := { s with ports := tset (fun _ => portSt0) s.ports i (f (s.port i)) }
def Dev.node (s : Dev) (i : Nat) : NodeSt := tget (fun _ => nodeSt0) s.nodes i
def Dev.setNode (s : Dev) (i : Nat) (f : NodeSt → NodeSt) : Dev := { s with nodes := tset (fun _ => nodeSt0) s.nodes i (f (s.node i)) }
def Dev.far (s : Dev) (i : Nat) : FarSt := tget (fun _ => farSt0) s.fars i
def Dev.setFar (s : Dev) (i : Nat) (f : FarSt → FarSt) : Dev := { s with fars := tset (fun _ => farSt0) s.fars i (f (s.far i)) }
def Dev.src (s : Dev) (i : Nat) : SrcSt := tget (fun _ => srcSt0) s.srcs i
def Dev.setSrc (s : Dev) (i : Nat) (f : SrcSt → SrcSt) : Dev := { s with srcs := tset (fun _ => srcSt0) s.srcs i (f (s.src i)) }

/-- The latest telemetry value of quantity q of node channel n (R256). -/
def Dev.tele (s : Dev) (n q : Nat) : Tele := tget (fun _ => tele0) s.teles (n * 64 + q)
def Dev.setTele (s : Dev) (n q : Nat) (v : Tele) : Dev := { s with teles := tset (fun _ => tele0) s.teles (n * 64 + q) v }

/-! ### Free values -/

/-- Take the next free value of a width: a value the spec leaves open. -/
def Dev.draw (s : Dev) (w : Nat) : BitVec w × Dev := (Sys2Proof.Config.freeBits s.free w, { s with free := s.free + 1 })

/-! ### Mode, role, enables -/

/-- The mode in force (R66), as DEV_MODE.MODE holds it. -/
def Dev.mode (s : Dev) : Mode := (modeOf (s.g bDev F.DEV_MODE_MODE)).getD .load

/-- The pair role (R502), as SS_STATUS.ROLE holds it. -/
def Dev.role (s : Dev) : Role :=
  match s.g bSs F.SS_STATUS_ROLE with | 0 => .out | 1 => .solo | 2 => .active | _ => .standby

def Role.code : Role → Nat | .out => 0 | .solo => 1 | .active => 2 | .standby => 3

/-- The role sends the token: SOLO or ACTIVE. -/
def Dev.owns (s : Dev) : Bool := s.role == .solo || s.role == .active

/-- The module follows an active one: role STANDBY, or in the join phases in which it evaluates mirrored firings (R502, R519, R526). -/
def Dev.follows (s : Dev) : Bool := s.role == .standby || s.g bSs F.SS_STATUS_SYNC ≥ 6

/-- The mode is one in which the links send CMD with token (R66): CHARGE, RUN, RIDE, SAFE. -/
def Dev.cmdMode (s : Dev) : Bool := s.mode == .charge || s.mode == .run || s.mode == .ride || s.mode == .safe

/-- CHARGE, RUN or RIDE. -/
def Dev.driveMode (s : Dev) : Bool := s.mode == .charge || s.mode == .run || s.mode == .ride

/-- A stop sequence or another transition is in progress (R78). -/
def Dev.trans (s : Dev) : Bool := s.gb bDev F.DEV_MODE_TRANS

/-- Raise an interrupt condition (R690). -/
def Dev.irq (s : Dev) (f : Fld) : Dev := s.p bDev f 1

/-- The key of a slot in the generation and occupancy tables. -/
def slotKey (o : Obj) : Nat := o.type * 4096 + o.idx

/-- The slot holds an object; the device and sub-objects always exist (R92). -/
def Dev.occupied (s : Dev) (o : Obj) : Bool :=
  if o.type = 0 then true else tget (fun _ => false) s.ms.occ (slotKey o)

/-- Where the enable bit of an object lies: always bit 0 of its register (R38). -/
def enableReg : Obj → Nat
  | .device => bDev + F.DEV_ENABLE.off
  | .string i => bStr i + F.STR_ENABLE.off
  | .node i => bNode i + F.NODE_ENABLE.off
  | .loop i => bLoopD i + F.LD_CTRL.off
  | .profile i => bProf i + F.PROF_ENABLE.off
  | .rg i => bRg i + F.RG_ENABLE.off
  | .aux i => bAux i + F.AUX_ENABLE.off
  | .can i => bCan i + F.CAN_ENABLE.off
  | .obj i => bObj i + F.OBJ_ENABLE.off
  | .ptp => bTb + F.PTP_ENABLE.off
  | .tpo i => bTpo i + F.TPO_ENABLE.off
  | .trace => bFlt + F.TRC_CTRL.off

/-- The object is enabled. -/
def Dev.enabled (s : Dev) (o : Obj) : Bool := s.occupied o && getBits (s.rd (enableReg o)) 0 1 == 1

def Dev.setEnabled (s : Dev) (o : Obj) (b : Bool) : Dev := s.wr (enableReg o) (putBits (s.rd (enableReg o)) 0 1 (b2n b))

/-- The check of the object runs or waits (R121, R126). -/
def Dev.checkOpen (s : Dev) (o : Obj) : Bool := s.ms.checking == some o || s.ms.checks.contains o

/-! ### Strings, members, ports -/

/-- The members of a string: position and node channel (R17, STR_MEMBERk). -/
def Dev.members (s : Dev) (i : Nat) : List (Nat × Nat) :=
  (upto (min 32 (s.g (bStr i) F.STR_CFG_MEMBERS))).filterMap (fun k =>
    if s.gb (bStr i) (F.STR_MEMBER_VALID.at k) then some (k, s.g (bStr i) (F.STR_MEMBER_NODE.at k)) else none)

def Dev.kind (s : Dev) (i : Nat) : Nat := s.g (bStr i) F.STR_CFG_KIND

/-- The enabled string that holds a node channel, with the position. Where one string names the node at two positions, which the spec neither refuses nor gives a meaning, the first is the node's (DESIGN CHOICE, log entry 100). -/
def Dev.stringOf (s : Dev) (n : Nat) : Option (Nat × Nat) :=
  (upto 8).findSome? (fun i => if s.enabled (.string i) then ((s.members i).find? (fun m => m.2 == n)).map (fun m => (i, m.1)) else none)

/-- The link port of a node channel. -/
def Dev.portOf (s : Dev) (n : Nat) : Nat := s.g (bNode n) F.NODE_CFG_PORT

/-- The occupied node channel bound to a port; an enabled one first (R19). -/
def Dev.nodeAt (s : Dev) (p : Nat) : Option Nat :=
  ((upto 96).find? (fun n => s.enabled (.node n) && s.portOf n == p)).or
    ((upto 96).find? (fun n => s.occupied (.node n) && s.portOf n == p))

/-- A cell node (NODE_CFG.CLASS = 1). -/
def Dev.isCell (s : Dev) (n : Nat) : Bool := s.g (bNode n) F.NODE_CFG_CLASS == 1

/-- The function of a leg (R159), from NODE_LEG_MAP0 and NODE_LEG_MAP1. -/
def Dev.func (s : Dev) (n y : Nat) : Nat :=
  if y < 4 then s.g (bNode n) ⟨F.NODE_LEG_MAP0.off, 8 * y, 3⟩ else s.g (bNode n) ⟨F.NODE_LEG_MAP1.off, 8 * (y - 4), 3⟩
def Dev.ilv (s : Dev) (n y : Nat) : Nat :=
  if y < 4 then s.g (bNode n) ⟨F.NODE_LEG_MAP0.off, 8 * y + 4, 4⟩ else s.g (bNode n) ⟨F.NODE_LEG_MAP1.off, 8 * (y - 4) + 4, 4⟩

/-- The used legs of a node channel (R10, R12, R717): the others stay OFF. -/
def Dev.usedLegs (s : Dev) (n : Nat) : List Nat :=
  (upto 6).filter (fun y => s.g (bNode n) F.NODE_CFG_CLASS == 1 || (s.g (bNode n) F.NODE_CFG_CLASS == 2 && s.func n y != 0))

/-- The primary profile of a leg (R378). -/
def Dev.profOf (s : Dev) (n y : Nat) : Nat := s.g (bNode n) ⟨F.NODE_PROF_PRI.off, 4 * y, 4⟩

/-- A string is under HALT (R476). -/
def Dev.halted (s : Dev) (i : Nat) : Bool := s.flt.halts.any (fun h => h.1 == i)

/-- The execution delay D in ticks (R133). -/
def Dev.dly (s : Dev) : Nat := s.g bMod F.MOD_CFG_EXEC_DELAY * 512

/-- The device time base in ft: T of R188. -/
def Dev.tFt (s : Dev) : Nat := (s.tb.sec * 1000000000 + s.tb.ns) * 16 + s.tb.sub * 16 / 65536 / 16777216

/-- The start tick of the CMD frame that begins next: the first multiple of 512 after the present tick (R218). -/
def Dev.nextFrame (s : Dev) : Nat := (s.tick / 512 + 1) * 512

/-! ### Power state and domains (R625) -/

def pwrState (s : Dev) : Nat := s.g bPwr F.PWR_STATE_STATE
def pwrTrans (s : Dev) : Bool := s.gb bPwr F.PWR_STATE_TRANS
def pwrTarget (s : Dev) : Nat := s.g bPwr F.PWR_STATE_IN_PROGRESS

/-- What an agent's domain does in a power state (R625), as a code that differs where the domain changes; 2 is off, or retention. Agents: 1 CORE, 2 LINK, 3 NET, 4 ADC, 5 MGMT. -/
def domain (agent st : Nat) : Nat :=
  let t : List Nat := match agent with
    | 1 => [0, 0, 1, 2] | 2 => [0, 1, 2, 2] | 3 => [0, 1, 0, 2] | 4 => [0, 1, 2, 2] | _ => [0, 1, 0, 2]
  t.getD st 0

/-- An agent's domain is on now: in a transition, as the state gives that it has reached (R630). -/
def domOn (s : Dev) (agent : Nat) : Bool :=
  domain agent (if pwrTrans s && s.pwr.done.contains agent then pwrTarget s else pwrState s) != 2

def coreOn (s : Dev) : Bool := domOn s 1
def linkOn (s : Dev) : Bool := domOn s 2
def netOn (s : Dev) : Bool := domOn s 3
def adcOn (s : Dev) : Bool := domOn s 4
def mgmtOn (s : Dev) : Bool := domOn s 5

/-- The outputs of J1 and J2, in the order of the table of R660. -/
inductive Out where
  | lnkTx | ssTx | sgTx | auxPwm | csyncOut | tpo | hbOut | canTxd | gpio | sdClkOut | refOut | hsIo | hsIrqN | nvBus | faultN | alertN | canStby | ejectReq | nvVdd
deriving DecidableEq, Repr

/-- The domain that powers an output (R660): 0 is AON, the others as `domain` numbers them. -/
def Out.domain : Out → Nat
  | .lnkTx | .ssTx | .auxPwm | .csyncOut | .tpo => 2
  | .sgTx => 3
  | .hbOut | .canTxd | .gpio => 1
  | .sdClkOut | .refOut => 4
  | .hsIo | .hsIrqN | .nvBus => 5
  | .faultN | .alertN | .canStby | .ejectReq | .nvVdd => 0

/-- The tick before T_first at the module that gives up the role ACTIVE (R522): it drives its modulator and time outputs no longer. -/
def handsOver (s : Dev) : Bool := s.pair.sw.any (fun w => !w.take && w.first ≤ s.tick + 1)

/-- An output floats: before power-good, after shed stage S5, while its domain is off or in retention (R627, R660), and between two drivers of AUXPWM, TPO and CSYNC_OUT (R522). -/
def floats (s : Dev) (o : Out) : Bool :=
  !s.box.powered || s.box.pwrGone || (o.domain != 0 && !domOn s o.domain) || (handsOver s && (o == .auxPwm || o == .tpo || o == .csyncOut))

end Sys2Proof.Machine
end

