-- ==== Sys2Proof/Machine/Arrival.lean ====
section
/-! DEFINITION. Which registers the SPI writes of a command reach: R118 orders them before LMP writes of the same tick. -/

namespace Sys2Proof.Machine

/-- The addresses that a command writes over the host SPI, outside the mailbox, which LMP does not write (R103). -/
def spiWrites : Instr → List Nat
  | .devModeReq .spi _ => [bDev + F.DEV_MODE_REQ.off]
  | .devModeCfg .spi _ => [bDev + F.DEV_MODE_CFG.off]
  | .registerWrite .spi a _ => [a.toNat]
  | .devEnable .spi _ => [bDev + F.DEV_ENABLE.off]
  | .strEnable .spi i _ => [bStr i.val + F.STR_ENABLE.off]
  | .nodeEnable .spi n _ => [bNode n.val + F.NODE_ENABLE.off]
  | .ldCtrlEnable .spi i _ => [bLoopD i.val + F.LD_CTRL.off]
  | .profEnable .spi i _ => [bProf i.val + F.PROF_ENABLE.off]
  | .rgEnable .spi g _ => [bRg g.val + F.RG_ENABLE.off]
  | .auxEnable .spi i _ => [bAux i.val + F.AUX_ENABLE.off]
  | .canEnable .spi c _ => [bCan c.val + F.CAN_ENABLE.off]
  | .objEnable .spi o _ => [bObj o.val + F.OBJ_ENABLE.off]
  | .ptpEnable .spi _ => [bTb + F.PTP_ENABLE.off]
  | .tpoEnable .spi k _ => [bTpo k.val + F.TPO_ENABLE.off]
  | .trcArm .spi _ => [bFlt + F.TRC_CTRL.off]
  | .strCommit .spi i _ => [bStr i.val + F.STR_COMMIT.off]
  | .loadAll .spi _ => [bMod + F.LOAD_ALL.off]
  | .nodeOvr .spi n _ => [bNode n.val + F.NODE_OVR.off]
  | .lnkPcfgWrite .spi q _ => [bPort q.val + F.LNK_PCFG.off]
  | .loopCommit .spi _ => [bLoopCom + F.LOOP_COMMIT.off]
  | .loopThaw .spi i _ => [bLoopStat i.val + F.LOOP_STAT.off]
  | .profileFieldWrite .spi i w _ => [bProf i.val + 4 * w.val]
  | .adcInjReq .spi _ => [bSens + F.ADC_INJ_REQ.off]
  | .adcInjRelease .spi _ => [bSens + F.ADC_INJ_STATUS.off]
  | .adcCalReq .spi _ => [bSens + F.ADC_CAL_REQ.off]
  | .adcTdac .spi _ => [bSens + F.ADC_TDAC.off]
  | .faultClear .spi _ => [bFlt + F.FAULT_CLEAR.off]
  | .faultPinCtrl .spi _ => [bFlt + F.FAULT_PIN_CTRL.off]
  | .fltFifoPop .spi _ => [bFlt + F.FLT_FIFO_POP.off]
  | .fltTest .spi _ => [bFlt + F.FLT_TEST.off]
  | .trcTrig .spi _ => [bFlt + F.TRC_CTRL.off]
  | .clkSel .spi _ => [bClk + F.CLK_SEL.off]
  | .clkApply .spi => [bClk + F.CLK_CMD.off]
  | .clkSyncArm .spi => [bClk + F.CLK_CMD.off]
  | .clkRelock .spi => [bClk + F.CLK_CMD.off]
  | .tbStep .spi => [bTb + F.TB_CTRL.off]
  | .canRecover .spi c _ => [bCan c.val + F.CAN_CTRL.off]
  | .objCmdReq .spi o _ => [bObj o.val + F.OBJ_CMD.off]
  | .objCmdAbort .spi o _ => [bObj o.val + F.OBJ_CMD.off]
  | .objDataWrite .spi o w _ => [bObj o.val + F.OBJ_DATA.off + 4 * w.val]
  | .pwrReq .spi _ => [bPwr + F.PWR_REQ.off]
  | .spiWrite a ws _ => (upto ws.length).map (fun k => a.toNat + 4 * k)
  | _ => []

/-- An SPI write to an address is among the commands that wait, all of which fall into the present tick. -/
def spiWaits (l : List Instr) (a : Nat) : Bool := l.any (fun c => (spiWrites c).contains a)

end Sys2Proof.Machine
end

