-- ==== Sys2Proof/Machine/Arith.lean ====
section
/-! DEFINITION. The arithmetic of the loop engines and of the sensing paths (R310 to R312, R322, R430, R451): exact integers, one rounding, explicit saturation. -/

namespace Sys2Proof.Machine

/-- rnd(v, n) of R310: to nearest, ties away from zero. -/
def rnd (v : Int) (n : Nat) : Int :=
  if n = 0 then v else signI v * (((absI v + 2 ^ (n - 1)) / 2 ^ n : Nat) : Int)

/-- sat32 of R310. -/
def sat32 (v : Int) : Int := clampI v (-2147483648) 2147483647

/-- sat72 of R310. -/
def sat72 (v : Int) : Int := clampI v (-2361183241434822606848) 2361183241434822606847

/-- The nearest integer to v / d, ties away from zero (R451). -/
def rndDiv (v : Int) (d : Nat) : Int := signI v * (((2 * absI v + d) / (2 * d) : Nat) : Int)

/-- term(X, C, S) of R311, in units of 2^-32 pu; 0 for a shift beyond 31 (R318). -/
def term (x c : Int) (sh : Nat) : Int :=
  if sh > 31 then 0 else if sh ≤ 8 then x * c * (2 ^ (8 - sh) : Nat) else rnd (x * c) (sh - 8)

/-- val(C, S) of R312. -/
def valC (c : Int) (sh : Nat) : Int := term 16777216 c sh

/-- π × 2^96, rounded. -/
def pi96 : Nat := 248902613312231085230521944622

/-- The Taylor sum of a cosine in 96-bit fixed point: `k` terms are left, `acc` is the sum so far, `t` the last term's magnitude. -/
def cosSum (t2 : Nat) : Nat → Nat → Nat → Int → Int
  | 0, _, _, acc => acc
  | f + 1, j, t, acc =>
    let t' := t * t2 / 2 ^ 96 / ((2 * j + 1) * (2 * j + 2))
    cosSum t2 f (j + 1) t' (if j % 2 = 0 then acc - t' else acc + t')

/-- cos of r × 2^-32 turns for r in [0, 2^30], as the integer nearest to 2^24 times it. -/
def cosQuarter (r : Nat) : Int :=
  let t := r * pi96 / 2 ^ 31
  rnd (cosSum (t * t / 2 ^ 96) 20 0 (2 ^ 96) ((2 ^ 96 : Nat) : Int)) 72

/-- COS(φ) of R322 for a word φ in units of 2^-32 turns. -/
def cosW (p : Nat) : Int :=
  let x := p % 4294967296
  let r := x % 1073741824
  match x / 1073741824 with
  | 0 => cosQuarter r
  | 1 => -cosQuarter (1073741824 - r)
  | 2 => -cosQuarter r
  | _ => cosQuarter (1073741824 - r)

/-- SIN(φ) of R322. -/
def sinW (p : Nat) : Int := cosW (p + 3221225472)

/-- The threshold of a shed stage on VHOLD, in mV (R639). -/
def shedThreshold : Nat → Nat | 1 => 17000 | 2 => 15500 | 3 => 14000 | 4 => 12500 | 5 => 11000 | _ => 0

end Sys2Proof.Machine
end

