-- ==== Sys2Proof/Machine/EdgeRate.lean ====
section
/-! DEFINITION. The edge commands that one frame can need (R162, R234): the most schedule instants that any interval of 512 ticks holds, over every value of the quantities that move them. -/

namespace Sys2Proof.Machine

/-- The length of the interval of R234, in ft. -/
def frameFt : Nat := 32768

/-- A change of a leg: it happens at `base + p`, or `base - p` with `neg`, for a parameter p from `lo` to `hi`, and takes an edge there and an edge `dt` later (R142). -/
structure ChangePt where
  neg : Bool
  base : Int
  dt : Nat
  lo : Int
  hi : Int
deriving DecidableEq, Repr

/-- Changes that one parameter moves together. -/
abbrev ChangeGrp := List ChangePt

/-- A change at a fixed instant. -/
def fixedPt (base : Int) (dt : Nat) : ChangeGrp := [⟨false, base, dt, 0, 0⟩]

/-- The instant lies in the interval that begins at `q`, in a pattern of period `per`: 1, else 0. -/
def hit (per : Nat) (q x : Int) : Nat := if (x - q) % (per : Int) < (frameFt : Int) then 1 else 0

/-- The edges of a change inside the interval that begins at `q`. -/
def ptHits (per : Nat) (q p : Int) (c : ChangePt) : Nat :=
  if p < c.lo || c.hi < p then 0
  else let x := if c.neg then c.base - p else c.base + p; hit per q x + hit per q (x + c.dt)

/-- Some value of the parameter brings an edge of the change into the interval. -/
def reaches (per : Nat) (q : Int) (c : ChangePt) : Bool :=
  let d := ((if c.neg then c.base - c.hi else c.base + c.lo) - q) % (per : Int)
  c.lo ≤ c.hi && (d < (frameFt : Int) || (per : Int) ≤ d + (c.hi - c.lo) + c.dt)

/-- The values of the parameter at which an edge of the change touches an end of the interval, and the ends of its range. -/
def ptCands (per : Nat) (q : Int) (c : ChangePt) : List Int :=
  c.lo :: c.hi :: ([q, q + frameFt - 1].flatMap (fun e => [(0 : Int), c.dt].map (fun d =>
    let r := if c.neg then c.base + d - e else e - c.base - d
    c.lo + (r - c.lo) % (per : Int)))).filter (fun p => p ≤ c.hi)

/-- The most edges of a group inside the interval that begins at `q`. -/
def grpHits (per : Nat) (q : Int) (g : ChangeGrp) : Nat :=
  let near := g.filter (reaches per q)
  (near.flatMap (ptCands per q)).foldl (fun m p => max m (near.foldl (fun a c => a + ptHits per q p c) 0)) 0

/-- The beginnings of intervals among which a fullest one lies: those at whose end an edge of a group comes in, alone or with one that the parameter moves the other way. -/
def grpStarts (per : Nat) (g : ChangeGrp) : List Int :=
  let last : Int := frameFt - 1
  let ends := g.flatMap (fun c => [c.lo, c.hi].flatMap (fun p => [(0 : Int), c.dt].map (fun d => (if c.neg then c.base - p else c.base + p) + d - last)))
  let pairs := (g.filter (fun c => !c.neg)).flatMap (fun a => (g.filter (·.neg)).flatMap (fun b =>
    [(0 : Int), a.dt].flatMap (fun d => [(0 : Int), b.dt].flatMap (fun e =>
      let m := (a.base + d + b.base + e + 1) / 2 - last
      [m, m + per / 2]))))
  ends ++ pairs

/-- The most edge commands of a pattern of period `per` in 512 ticks of schedule time (R234). -/
def mostEdges (per : Nat) (gs : List ChangeGrp) : Nat :=
  (gs.flatMap (grpStarts per)).foldl (fun m q => max m (gs.foldl (fun a g => a + grpHits per q g) 0)) 0

end Sys2Proof.Machine
end

