-- ==== Sys2Proof/Machine/Link.lean ====
section
/-! DEFINITION. The device side of the Golrus link: edge queues and command frames (R218, R228 to R242, R280 to R286, R718), the receiver of a lane (R217, R719), delay calibration (R243 to R250), management messages and the parameter image of a node (R283 to R290, R419). -/

namespace Sys2Proof.Machine

/-! ### Receiver of a lane -/

/-- What a well-formed frame does to a receiver: the new state, whether the frame is valid, and whether its position is an error slot of the third row (R217, R719). -/
def rxFrame (r : RxSt) (seq : Nat) : RxSt × Bool × Bool :=
  if r.locked then
    if seq = (r.seq + r.gap + 1) % 512 then ({ r with seq := seq, gap := 0, bad := 0, seqRun := 0 }, true, false)
    else
      let run := if r.seqRun > 0 ∧ seq = (r.seqLast + 1) % 512 then r.seqRun + 1 else 1
      if run ≥ 4 then ({ r with seq := seq, gap := 0, bad := 0, seqRun := 0 }, true, false)
      else if r.bad + 1 ≥ 4 then
        ({ r with locked := false, was := true, run := 0, gap := 0, bad := 0, seqRun := run, seqLast := seq }, false, true)
      else ({ r with gap := r.gap + 1, bad := r.bad + 1, seqRun := run, seqLast := seq }, false, true)
  else
    let run := if r.run > 0 ∧ r.gap = 0 ∧ seq = (r.seq + 1) % 512 then r.run + 1 else 1
    if run ≥ 4 then ({ r with locked := true, was := false, run := 0, seq := seq, gap := 0, bad := 0, seqRun := 0 }, true, false)
    else ({ r with run := run, seq := seq, gap := 0 }, false, false)

/-- What a position without a well-formed frame does to a receiver: the new state, whether it is an error slot, whether it passes while lock is sought after a loss (R719). -/
def rxError (r : RxSt) : RxSt × Bool × Bool :=
  if r.locked then
    if r.bad + 1 ≥ 4 then ({ r with locked := false, was := true, run := 0, gap := 0, bad := 0, seqRun := 0 }, true, false)
    else ({ r with gap := r.gap + 1, bad := r.bad + 1, seqRun := 0 }, true, false)
  else ({ r with run := 0, gap := 0 }, false, r.was)

/-! ### Edge queues -/

/-- The leg code `y` is touched by a fence of leg code `x` (R241). -/
def fenceCovers (x y : Nat) : Bool := x == y || (x == 6 && (y == 0 || y == 1))

/-- The fence is due before the edge, which it therefore cancels (R147, R233). -/
def cancels (f e : Edge) : Bool := fenceCovers f.leg e.leg && f.tExec < e.tExec

/-- Pass a generated edge to its port (R135), with the delay applied from then on (R246); a port that sends no CMD frame with token carries none (R718). A standby keeps what it generates for a take-over (R522) and drops what is past. -/
def sendEdge (p : Nat) (e : Edge) (s : Dev) : Dev :=
  let e := { e with dapp := (s.port p).dapp }
  if s.role == .standby then
    s.setPort p (fun q => { q with wait := q.wait.filter (fun w => s.tick * 64 ≤ w.1.tExec) ++ [(e, false)] })
  else if (s.port p).tok then
    s.setPort p (fun q => { q with wait := (if e.fence then q.wait.filter (fun w => !cancels e w.1) else q.wait) ++ [(e, false)] })
  else s

/-- Discard what a port has not carried when it stops sending CMD frames with token (R718). -/
def stopSending (p : Nat) (s : Dev) : Dev := s.setPort p (fun q => { q with tok := false, wait := [], rep := [], resume := 0, resumeNext := false })

/-- Put a fence before the first edge that is due later or has its leg code (R231). -/
def placeFence (f : Edge) : List Edge → List Edge
  | [] => [f]
  | e :: t => if f.tExec < e.tExec || e.leg == f.leg then f :: e :: t else e :: placeFence f t

/-- The order of a group of edges in a frame (R231). -/
def frameOrder (l : List Edge) : List Edge :=
  (sortBy (fun a b => a.tExec < b.tExec) (l.filter (·.fence))).foldl (fun acc f => placeFence f acc)
    (sortBy (fun a b => a.tExec < b.tExec) (l.filter (fun e => !e.fence)))

/-- Choose the fences of a frame: at most one per leg code, in order of arrival, while there is room (R233). -/
def pickFences : List (Edge × Bool) → Nat → List Nat → List (Edge × Bool) × List (Edge × Bool)
  | [], _, _ => ([], [])
  | w :: t, room, used =>
    if w.1.fence && room > 0 && !used.contains w.1.leg then
      let r := pickFences t (room - 1) (w.1.leg :: used)
      (w :: r.1, r.2)
    else
      let r := pickFences t room used
      (r.1, w :: r.2)

/-- The edges a frame with `room` free slots takes, and those it leaves (R233). -/
def pickEdges (l : List (Edge × Bool)) (room : Nat) : List (Edge × Bool) × List (Edge × Bool) :=
  let f := pickFences l room []
  let plain := sortBy (fun a b => a.1.tExec < b.1.tExec) (f.2.filter (fun w => !w.1.fence))
  let n := room - f.1.length
  (f.1 ++ plain.take n, f.2.filter (·.1.fence) ++ plain.drop n)

/-- The mask of the leg codes that have a fence in the group (R230). -/
def fenceMask (l : List (Nat × Bool)) : Nat := l.foldl (fun m w => if w.2 then bitSet m w.1 else m) 0

/-! ### Management messages (R283 to R286) -/

/-- The bytes of a message (R283). -/
def msgBytes (m : Msg) : List Byte := leBytes 1 m.tid ++ leBytes 1 m.op ++ leBytes 2 m.len ++ leBytes 4 m.addr ++ m.data

/-- Queue a message for the node of a port; `src` is the fault source whose clear it serves, if any. A standby sends READ only (R502). -/
def mgmtSend (p op addr len : Nat) (data : List Byte) (src : Option Nat) (s : Dev) : Dev :=
  if s.role == .standby && op != 2 then s else s.setPort p (fun q => { q with mq := q.mq ++ [(⟨0, op, addr, len, data⟩, src)] })

/-- Take the next message when none is outstanding (R285); a standby sends READ only (R502). -/
def mgmtNext (p : Nat) (s : Dev) : Dev :=
  let q := s.port p
  match q.mo, q.mq with
  | none, (m, src) :: t =>
    if s.role == .standby && m.op != 2 then s
    else
      let m' := { m with tid := q.tid }
      s.setPort p (fun q => { q with mo := some ⟨m', 0, 0, true, msgBytes m', src⟩, mq := t, tid := (q.tid + 1) % 256 })
  | _, _ => s

/-- The piece of the outstanding message a frame with room for `n` bytes carries: FIRST, LAST, bytes (R284). -/
def mgmtPiece (p n : Nat) (s : Dev) : (Bool × Bool × List Byte) × Dev :=
  match (s.port p).mo with
  | none => ((false, false, []), s)
  | some o =>
    if o.left.isEmpty then ((false, false, []), s.setPort p (fun q => { q with mo := some { o with waited := o.waited + 1 } }))
    else
      ((o.first, o.left.length ≤ n, o.left.take n),
       s.setPort p (fun q => { q with mo := some { o with first := false, left := o.left.drop n } }))

/-! ### Parameter image of a node (R289, R419) -/

/-- The 44 bytes of a profile image: PROF_ON to PROF_BS. -/
def profImage (s : Dev) (p : Nat) : List Byte := (upto 11).flatMap (fun k => leBytes 4 (s.rd (bProf p + 8 + 4 * k)).toNat)

/-- The pieces the device downloads: address and bytes. A leg that is not used has zero images (R717). -/
def paramPieces (s : Dev) (n : Nat) : List (Nat × List Byte) :=
  let b := bNode n
  let alt := s.g b F.NODE_PROF_ALT_ALT_EN
  let used := s.usedLegs n
  let legs := (upto 6).map (fun y =>
    (0x400 + 0x80 * y,
     (if used.contains y then profImage s (s.profOf n y) else List.replicate 44 0) ++ List.replicate 20 0
       ++ (if used.contains y && bitOf alt y then profImage s (s.g b ⟨F.NODE_PROF_ALT.off, 4 * y, 4⟩) else List.replicate 44 0)))
  (0x200, leBytes 1 (s.g b F.NODE_HOLD_SAFE) ++ leBytes 1 (s.g b F.NODE_HOLD_HOLD_PERIODS) ++ leBytes 2 (s.g b F.NODE_HOLD_SAFE_DT)
      ++ leBytes 1 (s.g b F.NODE_HOLD_CONTACTOR))
    :: legs ++ [(0x700, leBytes 1 (s.gF b F.NODE_BS_LEGS) ++ leBytes 1 alt)]

/-- The bytes 0x0200 to 0x0FFF of what the device would download. -/
def paramImage (s : Dev) (n : Nat) : List Byte :=
  (paramPieces s n).foldl (fun acc w => splice acc (w.1 - 0x200) w.2) (List.replicate 0xE00 0)

/-- The CRC of what the device would download (R288, R290). -/
def paramCrc (s : Dev) (n : Nat) : Word := crc32 (paramImage s n)

/-- NODE_STATE.PARAM_OK as the device holds it. -/
def setParamOk (n : Nat) (b : Bool) (s : Dev) : Dev := (s.setNode n (fun x => { x with params := b })).pb (bNode n) F.NODE_STATE_PARAM_OK b

/-- The port is READY or TOKEN. -/
def portUp (s : Dev) (p : Nat) : Bool := (s.port p).st == .ready || (s.port p).st == .token

/-- The module may write to the node of a port (R287, R502): it is not standby, and the node does not report that it obeys its other port. -/
def mayWrite (s : Dev) (p : Nat) : Bool :=
  let q := s.port p
  s.role != .standby && !((q.nstate == .driven || q.nstate == .holdover) && q.obeyedQ == s.gb bSs F.SS_STATUS_PREF)

/-- Start the download of R290 for a node channel: the parameter writes and COMMIT, or, for a module that may not write (R287), a READ of PARAM_CRC. What is still outstanding of an earlier download no longer counts. -/
def download (n : Nat) (s : Dev) : Dev :=
  let p := s.portOf n
  let s := setParamOk n false s
  if portUp s p then
    let s := s.setPort p (fun q => { q with
      mq := q.mq.filter (fun m => m.1.op != 1 && m.1.op != 5), dlOld := q.mo.any (fun o => o.msg.op == 1 || o.msg.op == 5) })
    if !mayWrite s p then mgmtSend p 2 0x18 4 [] none s
    else
      let s := s.setPort p (fun q => { q with dl := true, dlFail := false })
      let s := s.each (paramPieces s n) (fun w d => mgmtSend p 1 w.1 w.2.length w.2 none d)
      mgmtSend p 5 0 0 [] none s
  else s

/-- Download the parameters of every listed node channel whose parameters differ from those of an earlier state (R290, R381). -/
def redownload (ns : List Nat) (old s : Dev) : Dev :=
  s.each (ns.filter (fun n => s.occupied (.node n) && paramPieces s n != paramPieces old n)) download

/-- Send an EXEC to the node of channel n (R419). -/
def execNode (n addr : Nat) (data : List Byte) (src : Option Nat) (s : Dev) : Dev := mgmtSend (s.portOf n) 3 addr data.length data src s

/-! ### Detection method (R391) -/

/-- Send DETECT to a node: 1 DESAT, 2 DIDT. -/
def sendDetect (n m : Nat) (s : Dev) : Dev := (execNode n 0xF00 (leBytes 1 m) none s).setNode n (fun x => { x with detTx := m })

/-- Send DETECT with method DESAT to the node where R391 asks for it. -/
def detectDesat (n : Nat) (s : Dev) : Dev :=
  if (s.mode == .run || s.mode == .ride) && s.enabled (.node n) && (s.node n).recov.isNone && (s.port (s.portOf n)).st == .token
      && (s.node n).detTx != 1 then sendDetect n 1 s
  else s

/-! ### Port states and token -/

/-- Set the state of a port and what it shows in LNK_PSTATE. -/
def setPState (p : Nat) (st : PState) (s : Dev) : Dev := (s.setPort p (fun q => { q with st := st })).p (bPort p) F.LNK_PSTATE_STATE st.code

/-- The port should carry the token: its node channel is enabled and the module owns the token in a mode that sends CMD (R66, R282). -/
def wantsToken (s : Dev) (p : Nat) : Bool :=
  s.owns && s.cmdMode && (match s.nodeAt p with | some n => s.enabled (.node n) | none => false)

/-- Bring a port into or out of TOKEN (R278, R280, R282, R391, R718). -/
def refreshToken (p : Nat) (s : Dev) : Dev :=
  let q := s.port p
  let w := wantsToken s p
  if q.st == .ready && w then
    let s := setPState p .token (s.setPort p (fun q => { q with tok := true }))
    match s.nodeAt p with | some n => detectDesat n s | none => s
  else if q.st == .token && !w then setPState p .ready (stopSending p s)
  else if q.tok && !w then stopSending p s
  else s

/-- Bring every port into line with mode, role and enables. -/
def refreshTokens (s : Dev) : Dev := s.each (upto 96) refreshToken

/-- The edge-time budget of R136 in ticks: D − 3,072. -/
def leadBudget (s : Dev) : Nat := s.dly - 3072

/-! ### The command frame of one port at a frame start (R218 to R236, R280) -/

/-- The period in ft that PER_AB and PER_CF carry for the node on a port (R236). -/
def framePeriods (s : Dev) (n : Nat) : Nat × Nat :=
  match s.stringOf n with
  | none => (0, 0)
  | some (i, _) =>
    let per := s.gF (bStr i) F.STR_PERIOD_PERIOD
    (per, if s.kind i = 1 then per / s.gF (bStr i) F.STR_DAB_RATIO else 0)

/-- The frame a port that carries the token sends, and what it leaves behind. In the first 16 token frames after a take-over it carries at most 12 new edges (R522). -/
def cmdFrame (p : Nat) (s : Dev) : Dev :=
  let q := s.port p
  let seq := s.tick / 512 % 512
  let young := match s.pair.tookAt with | some t => decide (s.tick < t + 16 * 512) | none => false
  let later := q.wait.filter (fun w => s.tick < w.1.gen)
  let picked := pickEdges (q.wait.filter (fun w => w.1.gen ≤ s.tick)) (if young then min 12 (24 - q.rep.length) else 24 - q.rep.length)
  let new := frameOrder (picked.1.map (·.1))
  let pattern := new.any (fun e => !e.fence)
  let resume := if q.resumeNext && pattern then 4 else q.resume
  let bs := new.any (·.bs) || q.rep.any (fun w => ewBs w.1)
  let words := new.map (fun e => (edgeWord e, e.fence))
  let n := s.nodeAt p
  let per := match n with | some n => framePeriods s n | none => (0, 0)
  let s := mgmtNext p s
  let piece := mgmtPiece p 6 s
  let f : CmdFrame :=
    { type := 1, seq := seq, tok := true, term := s.g bSs F.SS_TERM_TERM, resume := resume > 0 || bs,
      fenceNew := fenceMask (words.map (fun w => (ewLeg w.1, w.2))), fenceRep := fenceMask (q.rep.map (fun w => (ewLeg w.1, w.2))),
      hor := usg 24 (((s.tick + s.dly) * 64 : Nat) - (q.dapp : Int)), perAB := per.1, perCF := per.2,
      sideFirst := piece.1.1, sideLast := piece.1.2.1, side := piece.1.2.2, rep := q.rep.map (·.1), new := words.map (·.1) }
  let sentNew := new.map (fun e => (⟨e.leg, usg 24 ((e.tExec : Int) - e.dapp) % 65536, e.tgt, e.tExec, false, !e.fence⟩ : Sent))
  let defer := (picked.1.filter (·.2)).length
  (piece.2.setPort p (fun q => { q with
      wait := picked.2.map (fun w => (w.1, true)) ++ later, rep := words, sent := q.sent ++ sentNew,
      resume := resume - 1, resumeNext := q.resumeNext && !pattern, tx := some f })).inc (bPort p) F.LNK_DEFER_DEFER defer

/-- An empty command frame of a type. -/
def plainFrame (type seq : Nat) : CmdFrame :=
  { type := type, seq := seq, tok := false, term := 0, resume := false, fenceNew := 0, fenceRep := 0, hor := 0, perAB := 0, perCF := 0,
    sideFirst := false, sideLast := false, side := [], rep := [], new := [] }

/-- What a port sends at a frame start (R66, R280). A command CAL carries port, slot and preference (R265). -/
def portFrame (p : Nat) (s : Dev) : Dev :=
  let q := s.port p
  let s := s.setPort p (fun q => { q with dapp := q.dappNew })
  let seq := s.tick / 512 % 512
  match q.st with
  | .off => s.setPort p (fun q => { q with tx := none })
  | .token => cmdFrame p s
  | .down => if q.tok then cmdFrame p s else s.setPort p (fun q => { q with tx := some (plainFrame 4 seq) })
  | .training =>
    if seq % 8 = 0 then s.setPort p (fun q => { q with tx := some { plainFrame 2 seq with
      side := leBytes 1 p ++ leBytes 1 (s.g bDev F.DEV_STATUS_SLOT_ID) ++ leBytes 1 (s.g bSs F.SS_STATUS_PREF) } })
    else s.setPort p (fun q => { q with tx := some (plainFrame 4 seq) })
  | .ready =>
    let s := mgmtNext p s
    let piece := mgmtPiece p 118 s
    if piece.1.2.2.isEmpty then piece.2.setPort p (fun q => { q with tx := some (plainFrame 4 seq) })
    else piece.2.setPort p (fun q => { q with tx := some { plainFrame 3 seq with
      sideFirst := piece.1.1, sideLast := piece.1.2.1, side := piece.1.2.2 } })

/-! ### Delay calibration (R243 to R250) -/

/-- The round-trip sample of a report frame (R243): N_L is the latest multiple of 512 ticks at or before the arrival whose index is the SEQ; everything in 1/16 ft. -/
def rttSample (tArr seq : Nat) : Nat :=
  let frames := tArr / (512 * 1024)
  let back := (frames + 512 - seq % 512) % 512
  tArr - (frames - back) * (512 * 1024)

/-- d_est of R245 over 32 as a rounded number of ft: round(d_est / 16), held between 0 and 16,777,215 (R246). The sum of `cnt` samples is in 1/16 ft; asymmetries in ps (62.5 ps to the ft, so 16 * ps / 62.5 = 32 * ps / 125). -/
def destOf (sum cnt : Nat) (asym : Int) : Nat :=
  let num : Int := (sum : Int) * 125 + 32 * asym * cnt
  (clampI (roundDivI num (125 * cnt * 32)) 0 16777215).toNat

end Sys2Proof.Machine
end

