-- ==== Sys2Proof/Machine/Modulator.lean ====
section
/-! DEFINITION. The modulator: conversion of slot values (R148 to R153, R161), carrier offsets and patterns (R155 to R160, R362, R720), dead time (R142, R143, R163 to R166), minimum pulse and carry (R168 to R170), bootstrap refresh (R176), the tests of a set (R162, R172 to R175), commit, latch and reload (R178 to R187), anchoring (R188 to R193) and the auxiliary pairs (R195 to R200). -/

namespace Sys2Proof.Machine

/-- A view of the class C registers: the values in force, or a set laid over them. -/
abbrev View := Nat → Word

def viewOf (s : Dev) (set : SetV) : View := fun a => tget (fun a => s.rdF a) set a
def vg (v : View) (b : Nat) (f : Fld) : Nat := getBits (v (b + f.off)) f.lo f.w

/-- 1.0 in Q7.24 and in Q1.23. -/
def q24one : Int := 16777216
def q23one : Nat := 8388608

/-- The string legs in order (R148): member, leg, function. -/
def qLegs (s : Dev) (i : Nat) : List (Nat × Nat × Nat) :=
  (s.members i).flatMap (fun m => (upto 6).filterMap (fun y => if s.func m.2 y != 0 then some (m.2, y, s.func m.2 y) else none))

/-- The slot range of a string (R148): first slot and length. -/
def slotRange (s : Dev) (i : Nat) : Nat × Nat :=
  let b := s.g (bStr i) F.STR_REF_BASE
  match s.kind i with
  | 1 => (b, 2 + 2 * s.g (bStr i) F.STR_CFG_MEMBERS)
  | 2 => (b, 4 + (qLegs s i).length)
  | 3 => (b, 1 + (qLegs s i).length)
  | _ => (b, 0)

/-- The register address of a modulation reference slot. -/
def refAddr (j : Nat) : Nat := bMod + F.MOD_REF.off + 4 * j

/-- The slot value j of the string in a view, signed Q7.24. -/
def slotV (s : Dev) (i : Nat) (v : View) (j : Nat) : Int := sgn 32 (v (refAddr (s.g (bStr i) F.STR_REF_BASE + j))).toNat

/-- The positions that are members and set in the mask, in order (R155). -/
def activePos (s : Dev) (i mask : Nat) : List Nat := ((s.members i).filter (fun m => bitOf mask m.1)).map (·.1)

/-- The rank of a position among the active ones (R155). -/
def rankOf (l : List Nat) (k : Nat) : Nat := (l.filter (fun x => x < k)).length

/-- A Q7.24 number, times `num` over `den`, as a Q1.23 fraction. -/
def toQ23 (x : Int) (den : Nat) : Nat := (roundDivI x den).toNat

/-- Duty of an AFE leg (R151): leg 0 takes (1 + m) / 2, leg 1 takes (1 − m) / 2; the flag says that a clamp changed a value. -/
def afeDuty (s : Dev) (i : Nat) (v : View) (k y : Nat) : Nat × Bool :=
  let m0 := slotV s i v 0 + slotV s i v (2 + 2 * k)
  let m := clampI m0 (-q24one) q24one
  (toQ23 (if y = 0 then q24one + m else q24one - m) 4, m != m0)

/-- Phase of a position as a signed fraction in Q1.23 (R151). -/
def dabPhase (s : Dev) (i : Nat) (v : View) (k : Nat) : Int × Bool :=
  let lim : Int := 2 * vg v (bStr i) F.STR_DAB_PHIMAX_PHIMAX
  let f0 := slotV s i v 1 + slotV s i v (3 + 2 * k)
  let f := clampI f0 (-lim) lim
  (roundDivI f 2, f != f0)

/-- Twice the offset v_0 of R161, in Q7.24. -/
def zseq2 (s : Dev) (i : Nat) (v : View) : Int :=
  if s.g (bStr i) F.STR_CFG_ZSEQ = 1 then
    let refs := [slotV s i v 0, slotV s i v 1, slotV s i v 2]
      ++ (if (qLegs s i).any (fun q => q.2.2 == 4) then [slotV s i v 3] else [])
    0 - (refs.foldl max (slotV s i v 0) + refs.foldl min (slotV s i v 0))
  else 0

/-- Duty of a leg of an LV_GROUP or DC_PORT string (R151). -/
def lvDuty (s : Dev) (i : Nat) (v : View) (n y : Nat) : Nat × Bool :=
  let q := ((findIdx (fun (w : Nat × Nat × Nat) => w.1 == n && w.2.1 == y) (qLegs s i) 0).getD 0)
  if s.kind i = 2 then
    let x0 := 2 * (q24one + slotV s i v (s.func n y - 1) + slotV s i v (4 + q)) + zseq2 s i v
    let x := clampI x0 0 (4 * q24one)
    (toQ23 x 8, x != x0)
  else
    let x0 := slotV s i v 0 + slotV s i v (1 + q)
    let x := clampI x0 0 q24one
    (toQ23 x 2, x != x0)

/-- The duty of a leg that R168 covers. -/
def legDuty (s : Dev) (i : Nat) (v : View) (k n y : Nat) : Nat × Bool := if s.kind i = 1 then afeDuty s i v k y else lvDuty s i v n y

/-- R168 covers the leg: an AFE leg, or a leg of an LV string. -/
def pulseLeg (s : Dev) (i y : Nat) : Bool := s.kind i != 1 || y < 2

/-- The half-width h of R156 and R160. -/
def halfWidth (d per : Nat) : Nat := roundDiv (d * per) (2 * q23one)

/-- The offset of the periods of a leg from the period starts of the reference carrier (R155, R160). -/
def legOffset (s : Dev) (i : Nat) (v : View) (k n y per : Nat) : Nat :=
  if s.kind i = 1 then
    let a := activePos s i (vg v (bStr i) F.STR_ACTIVE_MASK)
    roundDiv (rankOf a k * per) (2 * a.length)
  else roundDiv (s.ilv n y * per) ((qLegs s i).filter (fun q => q.2.2 == s.func n y)).length

/-- The offset of the DAB periods of a position (R158). -/
def dabOffset (s : Dev) (i : Nat) (v : View) (k pd : Nat) : Nat :=
  if vg v (bStr i) F.STR_DAB_SPREAD = 1 then
    let a := activePos s i (vg v (bStr i) F.STR_ACTIVE_MASK)
    roundDiv (rankOf a k * pd) a.length
  else 0

/-! ### Dead time (R143, R163, R165) -/

/-- Adaptation runs for the leg (R163). -/
def adapting (s : Dev) (i n y : Nat) : Bool :=
  s.gb (bStr i) F.STR_CFG_DT_ADAPT && (s.mode == .run || s.mode == .ride) && !bitOf (s.g (bNode n) F.NODE_MOD_STATUS_OVR) y

/-- A dead time in force is never below the interlock floor of the node, 320 ft (R143). -/
def dtFloor (x : Nat) : Nat := max 320 x

/-- The dead time of a transition into `t` of a leg (R142, R143, R163 to R166), with FIXED from a view. -/
def deadTime (s : Dev) (v : View) (i n y : Nat) (t : LegState) : Nat :=
  let l := s.leg n y
  let fixed := vg v (bNode n) (F.NODE_DT_FIXED.at y)
  dtFloor <| if adapting s i n y && !bitOf (s.g (bNode n) F.NODE_MOD_STATUS_FALLBACK) y then
    match (if t == .high then l.latHigh else l.latLow) with
    | 1 => l.latPos
    | 2 => l.latNeg
    | _ => fixed
  else fixed

/-- The PROF bit of an edge of a leg (R378); LEG 6 needs both legs. -/
def profBit (s : Dev) (n y : Nat) : Bool :=
  let alt := s.g (bNode n) F.NODE_PROF_ALT_ALT_EN
  (if y = 6 then bitOf alt 0 && bitOf alt 1 else bitOf alt y) && (s.mode == .charge || (s.node n).recov.isSome)

/-- The edges of a change of a leg at a reference instant (R142): to OFF, then to the target a dead time later. -/
def changeEdges (s : Dev) (v : View) (i n y : Nat) (t : LegState) (tref : Nat) (bs : Bool) : List Edge :=
  let l := s.leg n y
  let e : Edge := ⟨y, t, profBit s n y, false, bs, false, tref + deadTime s v i n y t, 0, 0⟩
  if l.cmd == t then []
  else if l.cmd == .off then [e]
  else [{ e with tgt := .off, tExec := tref }, e]

/-- Plan edges for a node: they pass to the link port when their schedule instant comes (R135). -/
def planEdges (n : Nat) (es : List Edge) (s : Dev) : Dev := { s with plan := s.plan ++ es.map (fun e => (n, e)) }

/-- Plan one change of a leg. -/
def planChange (v : View) (i n y : Nat) (t : LegState) (tref : Nat) (bs : Bool) (s : Dev) : Dev :=
  (planEdges n (changeEdges s v i n y t tref bs) s).setLeg n y (fun l => { l with cmd := t })

/-- Move the planned edges whose schedule instant lies before the frame start to their ports (R133, R135). -/
def releasePlan (s : Dev) : Dev :=
  let due (w : Nat × Edge) : Bool := w.2.tExec < (s.tick + s.dly) * 64
  let now := s.plan.filter due
  ({ s with plan := s.plan.filter (fun w => !due w) }).each now (fun w d => sendEdge (d.portOf w.1) w.2 d)

/-- Stop the pattern of legs of a node: nothing planned for them is sent (R147). -/
def cutLegs (n : Nat) (ys : List Nat) (fromFt : Nat) (s : Dev) : Dev :=
  { s with plan := s.plan.filter (fun w => !(w.1 == n && ys.contains w.2.leg && fromFt ≤ w.2.tExec)) }

/-! ### Minimum pulse and carry (R169) -/

/-- The pulse of a period: width and new carry, and whether the carry was clamped. -/
def pulse (w0 : Int) (per minp : Nat) (stretch : Bool) : Int × Int × Bool :=
  let (w, e) : Int × Int := if w0 < 0 then (0, w0) else (w0, 0)
  let (w, e) : Int × Int := if w > per then (per, w - per) else (w, e)
  let (w, e) : Int × Int :=
    if 0 < w ∧ w < minp then (if stretch then (minp, e + w - minp) else (0, e + w)) else (w, e)
  let (w, e) : Int × Int :=
    if 0 < per - w ∧ per - w < minp then (if stretch then (per - minp, e + w - (per - minp)) else (per, e - (per - w))) else (w, e)
  if absI e > minp then (w, signI e * minp, true) else (w, e, false)

/-- R176 in a period whose rise lies at `on`: whether a refresh moves the rise to WIDTH, and the module with the request served. -/
def serveRefresh (v : View) (n y on : Nat) (s : Dev) : Bool × Dev :=
  let b := bNode n
  let pend := s.g b F.NODE_MOD_STATUS_BS_PENDING
  let asked := bitOf pend y && bitOf (vg v b F.NODE_BS_LEGS) y
  (asked && on < vg v b F.NODE_BS_WIDTH, s.on asked (fun s => s.p b F.NODE_MOD_STATUS_BS_PENDING (bitClr pend y)))

/-- A leg's LOW interval from `t0` that ends at `t0 + on`, and its rise there; none where `on` is 0 (R169). -/
def planRise (v : View) (i n y t0 on : Nat) (bs : Bool) (s : Dev) : Dev :=
  if on = 0 then planChange v i n y .high t0 bs s
  else
    let s := planChange v i n y .low t0 bs s
    let s := s.on (vg v (bNode n) F.NODE_BS_WIDTH ≤ on) (fun s => s.setLeg n y (fun l => { l with lastLow := (t0 + on) / 64 }))
    planChange v i n y .high (t0 + on) bs s

/-- MINP and the mode of a leg's minimum-pulse rule in a view. -/
def minpOf (v : View) (n y : Nat) : Nat × Bool := (vg v (bNode n) (F.NODE_MINP_MINP.at y), vg v (bNode n) (F.NODE_MINP_MODE.at y) == 1)

/-- Set the carry of a leg, and CARRY_CLAMP where R169 clamped it. -/
def setCarry (n y : Nat) (e : Int) (clamped : Bool) (s : Dev) : Dev :=
  (s.on clamped (fun s => s.p (bNode n) F.NODE_MOD_STATUS_CARRY_CLAMP 1)).setLeg n y (fun l => { l with carry := e })

/-- One period of a leg that R168 covers, without a reload at its centre (R156, R160, R169, R176): `t0` is its start, `per` the period its fractions refer to, `d` its duty. -/
def pulsePeriod (v : View) (i n y t0 per d : Nat) (s : Dev) : Dev :=
  let m := minpOf v n y
  let (w, e, cl) := pulse ((2 * halfWidth d per : Nat) + (s.leg n y).carry) per m.1 m.2
  let wn := w.toNat
  let on0 := per / 2 - wn / 2
  let off := min (on0 + wn) per
  let r := serveRefresh v n y on0 s
  let on := if r.1 then vg v (bNode n) F.NODE_BS_WIDTH else on0
  let s := r.2.setLeg n y (fun l => { l with genTo := t0 + per })
  if wn = 0 then (setCarry n y e cl (planChange v i n y .low t0 r.1 s)).setLeg n y (fun l => { l with lastLow := (t0 + per) / 64 })
  else if wn = per && !r.1 then setCarry n y e cl (planChange v i n y .high t0 false s)
  else
    let s := setCarry n y (e + wn - ((off - on : Nat) : Int)) cl s
    if off ≤ on then planChange v i n y .low t0 r.1 s
    else (planRise v i n y t0 on r.1 s).on (off < per) (planChange v i n y .low (t0 + off) false)

/-- The part of a period before its centre with RELOAD = 1 (R156). The rise is decided as if the half-width after the centre were the one before it (DESIGN CHOICE, log entry 95). -/
def firstHalf (v : View) (i n y t0 per d : Nat) (s : Dev) : Dev :=
  let m := minpOf v n y
  let h1 := halfWidth d per
  let wn := (pulse ((2 * h1 : Nat) + (s.leg n y).carry) per m.1 m.2).1.toNat
  let on0 := if wn = 0 then per / 2 else if wn = per then 0 else ((per / 2 : Nat) - (h1 : Nat) : Int).toNat
  let r := serveRefresh v n y on0 s
  let on := if r.1 then vg v (bNode n) F.NODE_BS_WIDTH else on0
  let half (x : Option Nat) (s : Dev) : Dev := s.setLeg n y (fun l => { l with genTo := t0 + per, half := some ⟨t0, per, h1, x⟩ })
  if wn = 0 then half none (planChange v i n y .low t0 r.1 r.2) else half (some on) (planRise v i n y t0 on r.1 r.2)

/-- The part from the centre on (R156, R169): the width with the half-width that the duty in force at the centre gives; the carry takes what the pulse falls short of it. A period in which no pulse has begun has none (DESIGN CHOICE, log entry 95). -/
def secondHalf (v : View) (i n y d : Nat) (h : Half) (s : Dev) : Dev :=
  let m := minpOf v n y
  let w0 : Int := (h.h1 + halfWidth d h.per : Nat) + (s.leg n y).carry
  let (w, e, cl) := pulse w0 h.per m.1 m.2
  let c := h.per / 2
  let s := s.setLeg n y (fun l => { l with half := none })
  match h.on with
  | none => (setCarry n y (clampI w0 (-m.1) m.1) (absI w0 > m.1) s).setLeg n y (fun l => { l with lastLow := (h.t0 + h.per) / 64 })
  | some on =>
    let off := if w.toNat = h.per then h.per else max (max c on) (min ((c : Int) - h.h1 + w) h.per).toNat
    (setCarry n y (e + w - ((off - on : Nat) : Int)) cl s).on (off < h.per) (planChange v i n y .low (h.t0 + off) false)

/-- The HIGH interval of a DAB leg modulo P_D (R158): rise and fall. -/
def dabInterval (pd a : Nat) (p : Int) (y : Nat) : Nat × Nat :=
  let half := pd / 2
  let m (x : Int) : Nat := (x % (pd : Int)).toNat
  match y with
  | 2 => (0, half % pd)
  | 3 => (m ((half : Int) - a), m ((pd : Int) - a))
  | 4 => (m p, m (p + half))
  | _ => (m (p + half), m (p + pd))

/-- One DAB period of a leg that starts at `t0`; changes at or after `stop` are not sent (R720). -/
def dabPeriod (v : View) (i n y t0 pd a : Nat) (p : Int) (stop : Nat) (s : Dev) : Dev :=
  let (r, f) := dabInterval pd a p y
  let start : LegState := if r = 0 || f < r && f ≠ 0 then .high else .low
  let ch (o : Nat) (t : LegState) (s : Dev) : Dev := s.on (t0 + o < stop) (planChange v i n y t (t0 + o) false)
  let s := ch 0 start s
  if r ≤ f then (ch f .low (ch r .high s)) else (ch r .high (ch f .low s))

/-- The leg has been generated to beyond the instant. -/
def legBusy (s : Dev) (n y t0 : Nat) : Bool := t0 < (s.leg n y).genTo

/-- Where the command to a state begins among planned edges in order: at the OFF edge before it, or before them all. -/
def beginOf (t : LegState) (t0 : Nat) : List Edge → Option Nat
  | a :: b :: r => if a.tgt == .off && b.tgt == t then some a.tExec else if a.tgt == t then some t0 else beginOf t t0 (b :: r)
  | [a] => if a.tgt == t then some t0 else none
  | [] => none

/-- Adjust a leg to a new offset (R362): edges planned at or after the new period start are not sent, and for a pulse leg the width removed enters the carry. -/
def moveOffset (n y t0 : Nat) (carry : Bool) (s : Dev) : Dev :=
  let gone := (s.plan.filter (fun w => w.1 == n && w.2.leg == y && t0 ≤ w.2.tExec)).map Prod.snd
  match gone with
  | [] => s
  | a :: r =>
    let removed : Int := match beginOf .low t0 gone with
      | none => 0
      | some o => (o : Int) - ((beginOf .high t0 gone).getD t0 : Nat)
    let before : LegState :=
      if a.tgt != .off then .off
      else match r with
        | b :: _ => if b.tgt == .low then .high else .low
        | [] => (s.leg n y).cmd
    (cutLegs n [y] t0 s).setLeg n y (fun l => { l with cmd := before, carry := if carry then l.carry + removed else l.carry, genTo := t0 })

/-! ### Tests of a set (R162, R172, R173, R234) -/

/-- The dead time the tests of R173 take for a leg. -/
def testDT (s : Dev) (i : Nat) (v : View) (n y : Nat) : Nat :=
  if s.gb (bStr i) F.STR_CFG_DT_ADAPT then vg v (bNode n) F.NODE_DT_LIM_DT_MAX else vg v (bNode n) (F.NODE_DT_FIXED.at y)

/-- The legs of a node the string drives. -/
def drivenLegs (s : Dev) (i n : Nat) : List Nat := if s.kind i = 1 then upto 6 else (upto 6).filter (fun y => s.func n y != 0)

/-- The widths of `n` periods in succession, from a carry on (R169). -/
def widthsFrom (w2 : Nat) (per minp : Nat) (stretch : Bool) : Nat → Int → List Int
  | 0, _ => []
  | n + 1, e => let r := pulse (w2 + e) per minp stretch; r.1 :: widthsFrom w2 per minp stretch n r.2.1

/-- The narrowest pulse that the carry makes of an intended width below MINP (R169). -/
def leastPulse (w2 minp : Nat) (stretch : Bool) : Nat := if 0 < w2 ∧ w2 < minp then (if stretch then minp else (minp + w2 - 1) / w2 * w2) else w2

/-- The widths that the test of R173 takes for a leg: those of the next periods from the present carry, and the narrowest pulses that the carry makes of this set's width in the long run. -/
def testWidths (w2 per minp : Nat) (stretch : Bool) (carry : Int) : List Int :=
  [(leastPulse w2 minp stretch : Int), (per : Int) - (leastPulse (per - w2) minp stretch : Nat)] ++ widthsFrom w2 per minp stretch 16 carry

/-- R173: a state interval after dead time would be shorter than 320 ft, in a period of one of the widths or in one with a refresh of R176. -/
def edgeOutside (s : Dev) (i : Nat) (v : View) (k n : Nat) : Bool :=
  let per := vg v (bStr i) F.STR_PERIOD_PERIOD
  let width := vg v (bNode n) F.NODE_BS_WIDTH
  (drivenLegs s i n).any (fun y =>
    let least := (testDT s i v n y + 320 : Nat)
    if pulseLeg s i y then
      let m := minpOf v n y
      (testWidths (min (2 * halfWidth (legDuty s i v k n y).1 per) per) per m.1 m.2 (s.leg n y).carry).any (fun w =>
        let on := per / 2 - w.toNat / 2
        (0 < w && w < per && (w < least || (per : Int) - w < least))
          || (0 < w && bitOf (vg v (bNode n) F.NODE_BS_LEGS) y && on < width && (width < least || min (on + w.toNat) per < width + least)))
    else per / vg v (bStr i) F.STR_DAB_RATIO / 2 < least)

/-- R172: a HOST set gives a pulse below MINP on a leg in DROP mode. -/
def pulseShort (s : Dev) (i : Nat) (v : View) (k n : Nat) : Bool :=
  let per := vg v (bStr i) F.STR_PERIOD_PERIOD
  s.g (bStr i) F.STR_CFG_SRC == 1 && (drivenLegs s i n).any (fun y =>
    pulseLeg s i y && vg v (bNode n) (F.NODE_MINP_MODE.at y) == 0 &&
      (let w := 2 * halfWidth (legDuty s i v k n y).1 per
       let m := vg v (bNode n) (F.NODE_MINP_MINP.at y)
       (0 < w && w < m) || (w < per && per - w < m)))

/-- The changes of a leg that R168 covers, of a period that starts at `o`: its duty moves the rise and the fall against each other; a pulse is at least MINP wide (R169). -/
def pulsePts (v : View) (n y o per : Nat) : ChangeGrp :=
  let m : Int := (minpOf v n y).1
  let c := per / 2
  let pt (neg : Bool) (base : Int) : ChangePt := ⟨neg, base, dtFloor (vg v (bNode n) (F.NODE_DT_FIXED.at y)), (m + 1) / 2, c - (m + 1) / 2⟩
  [pt false o, pt true (o + per)]

/-- The changes of leg B, whose duty is what leg A leaves (R151): rise and fall in terms of the rise of leg A. -/
def mirrorPts (v : View) (n o per : Nat) : ChangeGrp :=
  (pulsePts v n 1 o per).map (fun c => { c with base := o + per / 2, neg := !c.neg })

/-- The changes of a node's pattern in the worst case over what the slots can hold (R162): a refresh adds the LOW that begins its period. -/
def patternGroups (s : Dev) (i : Nat) (v : View) (n : Nat) : List ChangeGrp :=
  let per := vg v (bStr i) F.STR_PERIOD_PERIOD
  let k := (((s.members i).find? (fun m => m.2 == n)).map (·.1)).getD 0
  let dt (y : Nat) : Nat := dtFloor (vg v (bNode n) (F.NODE_DT_FIXED.at y))
  let off (y : Nat) : Nat := legOffset s i v k n y per
  let bs := ((drivenLegs s i n).filter (fun y => pulseLeg s i y && bitOf (vg v (bNode n) F.NODE_BS_LEGS) y)).map (fun y => fixedPt (off y) (dt y))
  if s.kind i = 1 then
    if !bitOf (vg v (bStr i) F.STR_ACTIVE_MASK) k then []
    else
      let ratio := vg v (bStr i) F.STR_DAB_RATIO
      let pd := per / ratio
      let od := dabOffset s i v k pd
      let half := pd / 2
      let a := if vg v (bStr i) F.STR_DAB_EPS = 1 then roundDiv (vg v (bStr i) F.STR_DAB_ALPHA_ALPHA * pd) q23one else 0
      let pm := roundDiv (vg v (bStr i) F.STR_DAB_PHIMAX_PHIMAX * pd) q23one
      let starts : List Nat := (upto ratio).map (fun j => od + j * pd)
      let at_ (t y : Nat) (back : Nat) : ChangeGrp := fixedPt ((t : Int) - back) (dt y)
      let cd := starts.flatMap (fun t => [at_ t 2 0, at_ (t + half) 2 0, at_ (t + half) 3 a, at_ (t + pd) 3 a])
      let ef := starts.flatMap (fun t => [4, 5].flatMap (fun y => [t, t + half].map (fun x => (⟨false, x, dt y, -pm, pm⟩ : ChangePt))))
      (pulsePts v n 0 (off 0) per ++ mirrorPts v n (off 0) per) :: ef :: cd ++ bs
  else (drivenLegs s i n).map (fun y => pulsePts v n y (off y) per) ++ bs

/-- The most edge commands of a node in 512 ticks of schedule time (R162, R234). The dead time of an adaptive leg is taken as FIXED (DEDUCED, log entry 96). -/
def worstEdges (s : Dev) (i : Nat) (v : View) (n : Nat) : Nat := mostEdges (vg v (bStr i) F.STR_PERIOD_PERIOD) (patternGroups s i v n)

/-- The reason with which a set refuses a node, if any (R162, R172, R173). -/
def refuseNode (s : Dev) (i : Nat) (v : View) (k n : Nat) : Nat :=
  if s.kind i = 1 && !bitOf (vg v (bStr i) F.STR_ACTIVE_MASK) k then 0
  else if edgeOutside s i v k n then 0x0406
  else if pulseShort s i v k n then 0x0407
  else if (s.members i).length > 1 && worstEdges s i v n > 12 then 0x0413
  else 0

/-! ### Sets: capture, latch, reload (R178 to R187) -/

/-- The addresses of the class C fields of the string block (R174). -/
def stringAddrs (i : Nat) : List Nat :=
  [F.STR_PERIOD, F.STR_DAB, F.STR_DAB_ALPHA, F.STR_DAB_PHIMAX, F.STR_ACTIVE, F.STR_ANCHOR_OFS].map (fun f => bStr i + f.off)

/-- The addresses of the class C fields of a node channel. -/
def nodeAddrs (n : Nat) : List Nat :=
  (upto 6).map (fun y => bNode n + F.NODE_DT.off + 4 * y) ++ (upto 6).map (fun y => bNode n + F.NODE_MINP.off + 4 * y)
    ++ [bNode n + F.NODE_DT_LIM.off, bNode n + F.NODE_BS.off]

/-- The slots of a position, or of a member of an LV string, relative to the base. -/
def nodeSlots (s : Dev) (i k n : Nat) : List Nat :=
  match s.kind i with
  | 1 => [2 + 2 * k, 3 + 2 * k]
  | kd => ((upto (qLegs s i).length).zip (qLegs s i)).filterMap (fun w =>
      if w.2.1 == n then some ((if kd = 2 then 4 else 1) + w.1) else none)

/-- The set a commit of the string copies (R149, R180): every shadow of the scope, and the slot values in force. -/
def captureSet (s : Dev) (i : Nat) : SetV :=
  let r := slotRange s i
  (stringAddrs i ++ (s.members i).flatMap (fun m => nodeAddrs m.2)).map (fun a => (a, s.rd a))
    ++ (upto r.2).map (fun j =>
        (refAddr (r.1 + j), if s.gb (bStr i) F.STR_CFG_SRC then s.rd (refAddr (r.1 + j)) else tget (fun _ => 0#32) s.slotVals (r.1 + j)))

/-- Record the refusal of a set (R175). -/
def noteRefusal (i node reason : Nat) (s : Dev) : Dev :=
  ((s.p (bStr i) F.STR_COMMIT_STATUS_REFUSED 1).p (bStr i) F.STR_COMMIT_STATUS_REFUSED_NODE node).p (bStr i) F.STR_COMMIT_STATUS_REFUSED_REASON reason

/-- The phase error of the reference carrier at execution time `t`, folded (R188, R189, R192, R193): where phase 0 lies against the anchor, if the anchor can be used. -/
def anchorErr (s : Dev) (v : View) (i t per : Nat) : Option Int :=
  let b := bStr i
  let fold (x : Int) : Int := let m := x % (per : Int); if 2 * m > per then m - per else m
  if s.gb b F.STR_ANCHOR_SRC then
    if s.gb bMod F.CSYNC_STATUS_IN_ACTIVE then
      s.ml.csEdge.map (fun e => fold ((t : Int) - e - s.g bMod F.CSYNC_IN_OFS_OFS))
    else none
  else some (fold ((s.tFt : Int) + ((t : Int) - s.tick * 64) - vg v b F.STR_ANCHOR_OFS_OFS))

/-- The distance from execution time `t` to the next anchor instant, in `[0, per)`. -/
def toAnchor (s : Dev) (v : View) (i t per : Nat) : Nat :=
  match anchorErr s v i t per with
  | none => 0
  | some e => ((-e) % (per : Int)).toNat

/-- The execution time that the next reload of a string that runs brings into force: the centre of its newest period, or the next period start (R178). -/
def nextReload (st : StrSt) : Nat := if st.atCentre then st.perStart + st.perBase / 2 else st.perStart + st.perLen

/-- The set that the first reload of a string brings into force (R187): the latched set, else the pending one, over what is in force. -/
def firstView (s : Dev) (i : Nat) : View := viewOf s (((s.str i).lat.or (s.str i).pend).getD [])

/-- The next reload instant of the string lies in the tick `ahead` ticks from now (R134, R178, R187). The first is anchored; without an edge of CSYNC_IN it comes 16 ticks after the start (DESIGN CHOICE, log entry 97). -/
def reloadIn (s : Dev) (i ahead : Nat) : Bool :=
  let st := s.str i
  let t := s.tick + ahead + s.dly
  if !st.started then false
  else if st.waitFirst then
    let v := firstView s i
    let per := vg v (bStr i) F.STR_PERIOD_PERIOD
    match anchorErr s v i (t * 64) per with
    | none => s.tick + ahead == st.startTick + 16
    | some _ => st.startTick + 16 ≤ s.tick + ahead && toAnchor s v i (t * 64) per < 64
  else nextReload st / 64 == t

/-- What the latch instant does (R165, R172 to R175, R179): the dead times of the adapting legs, and the pending set, whole, in part or not at all. The positions that it moves go with it. -/
def latchNow (i : Nat) (s : Dev) : Dev :=
  let b := bStr i
  let st := s.str i
  let s := s.setStr i (fun x => { x with latchAt := some s.tick })
  let s := s.each ((s.members i).flatMap (fun m => (upto 6).map (fun y => (m.2, y)))) (fun w d =>
    d.on (adapting d i w.1 w.2) (fun d => d.setLeg w.1 w.2 (fun l =>
      { l with latPos := l.dtPos, latNeg := l.dtNeg, latHigh := l.dirHigh, latLow := l.dirLow })))
  match st.pend with
  | none => s
  | some set =>
    let s := (s.setStr i (fun x => { x with pend := none })).p b F.STR_COMMIT_STATUS_PENDING 0
    let v := viewOf s set
    let bad := (s.members i).filterMap (fun m => let r := refuseNode s i v m.1 m.2; if r = 0 then none else some (m.1, m.2, r))
    let latch (set : SetV) (s : Dev) : Dev :=
      (s.setStr i (fun x => { x with lat := some set, latMv := x.pendMv, pendMv := moves0 })).p b F.STR_COMMIT_STATUS_LATCHED 1
    match bad.getLast? with
    | none => latch set s
    | some (_, n, r) =>
      if (stringAddrs i).any (fun a => v a != s.rdF a) then noteRefusal i 0x7F r s
      else
        let drop := bad.flatMap (fun w => nodeAddrs w.2.1 ++ (nodeSlots s i w.1 w.2.1).map (fun j => refAddr ((slotRange s i).1 + j)))
        latch (set.filter (fun w => !drop.contains w.1)) (noteRefusal i n r s)

/-- The latch instant of a reload, 8 ticks before it (R179); what completes in that tick finds it past (R181). -/
def latchString (i : Nat) (s : Dev) : Dev := if reloadIn s i 8 && (s.str i).latchAt != some s.tick then latchNow i s else s

/-- A commit that completes now is late: at or after the latch instant of a reload and no later than the reload tick (R181). -/
def lateNow (s : Dev) (i : Nat) : Bool := ((s.str i).started && (s.str i).reloadAt == some s.tick) || (upto 9).any (reloadIn s i)

/-- A commit of the string completes (R181, R182). -/
def commitString (i : Nat) (s : Dev) : Dev :=
  let b := bStr i
  let s := latchString i s
  let st := s.str i
  let s := s.on (lateNow s i) (fun s => s.p b F.STR_COMMIT_STATUS_COMMIT_LATE 1)
  let s := s.on st.pend.isSome (fun s => s.p b F.STR_COMMIT_STATUS_COALESCED 1)
  let set := captureSet s i
  (s.setStr i (fun x => { x with pend := some set })).p b F.STR_COMMIT_STATUS_PENDING 1

/-- Bring a latched set into force (R179, R183). -/
def applySet (set : SetV) (s : Dev) : Dev := s.each set (fun w d => d.wrF w.1 w.2)

/-- The set of the string in force: the class C fields of the string and of its members, and its slots. -/
def setNow (s : Dev) (i : Nat) : SetV :=
  (stringAddrs i ++ (s.members i).flatMap (fun m => nodeAddrs m.2)
    ++ (upto (slotRange s i).2).map (fun j => refAddr ((slotRange s i).1 + j))).map (fun a => (a, s.rdF a))

/-- The leg is under an override (R146). -/
def overridden (s : Dev) (n y : Nat) : Bool := bitOf (s.g (bNode n) F.NODE_MOD_STATUS_OVR) y

/-- Start a string (R187): its start steps and its first anchored reload come next. A leg under an override stays under it (R146). -/
def startString (i : Nat) (s : Dev) : Dev :=
  let s := s.setStr i (fun x =>
    { x with
      started := true, startTick := s.tick, waitFirst := true, stepsOpen := true, timedOut := false, ready := false, atCentre := false, lat := none,
      latchAt := none, reloadAt := none, evs := [], ord := 0, evS := none, evC := none, perNew := false })
  let s := s.each (s.members i) (fun m d =>
    (d.setNode m.2 (fun x => { x with step := 1, detAck := false, setAck := false, bsTry := 0, kept := [], kept0 := [] })).each (upto 6) (fun y d =>
      let fixed := d.gF (bNode m.2) (F.NODE_DT_FIXED.at y)
      let ovr := overridden d m.2 y
      d.setLeg m.2 y (fun l => { l with
        carry := 0, genTo := 0, genFor := none, half := none, blocked := ovr, dtPos := fixed, dtNeg := fixed, latPos := fixed, latNeg := fixed,
        dirHigh := 0, dirLow := 0, latHigh := 0, latLow := 0, miss := 0 })))
  ((s.p (bStr i) F.STR_STATUS_RELOAD_CNT 0).p (bStr i) F.STR_COMMIT_STATUS_LATCHED 0)

/-- Stop a string: no reload, no pattern. -/
def stopString (i : Nat) (s : Dev) : Dev :=
  let s := s.each (s.members i) (fun m d => cutLegs m.2 (upto 7) 0 (d.setNode m.2 (fun x => { x with step := 0 })))
  (s.setStr i (fun x => { x with started := false, waitFirst := false, stepsOpen := false, lat := none, evs := [], evS := none, evC := none })).p
    (bStr i) F.STR_COMMIT_STATUS_LATCHED 0

/-- The string produces edges (R203): it has started, its start steps and its first reload are past, and neither mode, stop sequence nor HALT holds it. -/
def stringRuns (s : Dev) (i : Nat) : Bool :=
  let st := s.str i
  st.started && !st.waitFirst && st.ready && s.driveMode && s.ms.stop.isNone && !s.halted i

/-! ### Auxiliary pairs (R195 to R200) -/

/-- The pair runs in the current mode and role (R66, R196, R502). -/
def auxRuns (s : Dev) (i : Nat) : Bool :=
  s.enabled (.aux i) && s.owns && (s.driveMode || ((s.mode == .hold || s.mode == .safe) && s.gb (bAux i) F.AUX_CFG_HOLD_CAP))

/-- An idle level: 0 LOW, 1 HIGH, 2 high impedance (AUX_CFG). -/
def idleLevel (n : Nat) : Option Bool := match n with | 0 => some false | 1 => some true | _ => none

/-- An instant in ft lies in one of the intervals. -/
def inAny (l : List (Nat × Nat)) (t : Nat) : Bool := l.any (fun w => w.1 ≤ t && t < w.2)

/-- The level of AUXPWM[2i], the main output, `ft` fine ticks into the present tick (R195, R199); none: high impedance. -/
def auxMain (s : Dev) (i ft : Nat) : Option Bool :=
  let x := s.auxp i
  let t := s.tick * 64 + ft
  if floats s .auxPwm then none
  else if auxRuns s i && x.live then some (inAny x.main t)
  else match x.mainHi with | some true => some (decide (x.mainFrom ≤ t)) | l => l

/-- The level of AUXPWM[2i + 1], the second output. -/
def auxSecond (s : Dev) (i ft : Nat) : Option Bool :=
  let x := s.auxp i
  let t := s.tick * 64 + ft
  if floats s .auxPwm then none
  else if auxRuns s i && x.live then some (inAny x.sec t)
  else match x.secHi with | some true => some (decide (x.secIdle ≤ t)) | l => l

/-- The levels a pair drives while it does not run: high impedance in LOAD and for a role that does not drive, else idle (R66, R199, R502). Where it has just stopped, an output with idle level HIGH rises AUX_DT after the other has left HIGH. -/
def auxIdle (i : Nat) (s : Dev) : Dev :=
  let b := bAux i
  let x := s.auxp i
  let z := s.mode == .load || !s.owns
  let now := s.tick * 64
  let was := s.gb b F.AUX_STATUS_RUNNING && x.live
  let left (on : Bool) (idle : Nat) : Nat := if was && on && idle != 1 then now + s.gF b F.AUX_DT_DT else now
  let a := s.g b F.AUX_CFG_IDLE_MAIN
  let c := s.g b F.AUX_CFG_IDLE_SECOND
  (s.setAux i (fun x => { x with
    live := false,
    mainHi := if z then none else idleLevel a,
    secHi := if z then none else idleLevel c,
    mainFrom := if was then left (inAny x.sec now) c else x.mainFrom,
    secIdle := if was then left (inAny x.main now) a else x.secIdle })).p b F.AUX_STATUS_RUNNING 0

/-- Bring every pair into line with mode, role and enables. -/
def refreshAux (s : Dev) : Dev :=
  s.each (upto 8) (fun i d => if auxRuns d i then d.p (bAux i) F.AUX_STATUS_RUNNING 1 else auxIdle i d)

/-- The class C fields of a pair and, with SRC = SLOT, the value of its slot (R198). -/
def auxCapture (s : Dev) (i : Nat) : SetV :=
  [F.AUX_PERIOD, F.AUX_DUTY, F.AUX_DUTY2, F.AUX_DT, F.AUX_MINP].map (fun f => (bAux i + f.off, s.rd (bAux i + f.off)))
    ++ (if s.gb (bAux i) F.AUX_CFG_SRC then
          let j := s.g (bAux i) F.AUX_CFG_SLOT; [(refAddr j, tget (fun _ => 0#32) s.slotVals j)] else [])

/-- The latch instant of an auxiliary pair, 8 ticks before its period start (R197). -/
def auxLatch (i : Nat) (s : Dev) : Dev :=
  let x := s.auxp i
  if s.enabled (.aux i) && s.tick + 8 == x.start / 64 && x.latchAt != some s.tick then
    s.setAux i (fun x => { x with latchAt := some s.tick, lat := x.pend, pend := none })
  else s

/-- A commit of the pair that completes now is late (R181, R197). -/
def auxLate (s : Dev) (i : Nat) : Bool :=
  let x := s.auxp i
  s.enabled (.aux i) && (x.reloadAt == some s.tick || (s.tick ≤ x.start / 64 && x.start / 64 ≤ s.tick + 8))

/-- A commit of an auxiliary pair (R197 with R181, R182). -/
def commitAux (i : Nat) (s : Dev) : Dev :=
  let s := auxLatch i s
  let s := s.on (auxLate s i) (fun s => s.p (bAux i) F.AUX_STATUS_COMMIT_LATE 1)
  let set := auxCapture s i
  s.setAux i (fun x => { x with pend := some set })

/-- A device-side edge instant: on whole ticks while the delay line is out of range (R138 to R140). -/
def placed (s : Dev) (t : Nat) : Nat := if s.gb bMod F.MOD_DL_STATUS_COARSE then roundDiv t 64 * 64 else t

/-- A pulse of width `w` centred in a period of `per` ft that starts at `t` (R195). -/
def centred (t per w : Nat) : Nat × Nat := (t + (per / 2 - w / 2), t + (per / 2 - w / 2) + w)

/-- The intervals that are not empty. -/
def spans (l : List (Nat × Nat)) : List (Nat × Nat) := l.filter (fun w => decide (w.1 < w.2))

/-- One period of a COMPLEMENTARY pair (R195): the intervals in which the main and the second output are HIGH, and from when the second one is HIGH again. `rise`: from when it is HIGH as the period begins; none: the main output is. A main pulse that begins before the second output can have been LOW for AUX_DT waits for it (DEDUCED, log entry 98). -/
def complement (t per w dt : Nat) (rise : Option Nat) : List (Nat × Nat) × List (Nat × Nat) × Option Nat :=
  let fin := t + per
  let from_ := rise.getD (t + dt)
  if w = 0 then ([], spans [(max from_ t, fin)], some from_)
  else
    let m := if w = per then (t, fin) else centred t per w
    let begins := if from_ ≤ t && m.1 < t + dt then t + dt else m.1
    let again := m.2 + dt
    (spans [(begins, m.2)], spans ((max from_ t, begins - dt) :: (if w = per then [] else [(again, fin)])), if w = per then none else some again)

/-- A period start of an auxiliary pair (R195 to R198). -/
def auxReload (i : Nat) (s : Dev) : Dev :=
  let x := s.auxp i
  let s := match x.lat with | none => s | some set => applySet set s
  let b := bAux i
  let per := s.gF b F.AUX_PERIOD_PERIOD
  let t := x.start
  let next (s : Dev) : Dev := s.setAux i (fun y => { y with lat := none, start := t + per, reloadAt := some s.tick })
  if !auxRuns s i then next s
  else
    let duty := if s.gb b F.AUX_CFG_SRC then toQ23 (clampI (sgn 32 (s.rdF (refAddr (s.g b F.AUX_CFG_SLOT))).toNat) 0 q24one) 2
      else s.gF b F.AUX_DUTY_DUTY
    let width (d : Nat) : Nat := roundDiv (d * per) q23one
    let (w, e, _) := pulse ((width duty : Nat) + x.carry) per (s.gF b F.AUX_MINP_MINP) (s.gb b F.AUX_CFG_MINP_MODE)
    let dt := s.gF b F.AUX_DT_DT
    let (main, sec, again) : List (Nat × Nat) × List (Nat × Nat) × Option Nat :=
      if s.gb b F.AUX_CFG_MODE then (spans [centred t per w.toNat], spans [centred t per (width (s.gF b F.AUX_DUTY2_DUTY2))], none)
      else complement t per w.toNat dt (if x.live then x.secFrom else some (if x.mainHi == some true then t + dt else t))
    let place (l : List (Nat × Nat)) : List (Nat × Nat) := l.map (fun v => (placed s v.1, placed s v.2))
    next (s.setAux i (fun y => { y with live := true, carry := e, main := place main, sec := place sec, secFrom := again }))

end Sys2Proof.Machine
end

