-- ==== Sys2Proof/Machine/Records.lean ====
section
/-! DEFINITION. Fault records, the record FIFO, alarms, the fault pins and the trace trigger (R463 to R495): what an event writes, before any reaction. -/

namespace Sys2Proof.Machine

/-! ### Sources (R464, R466) -/

/-- The number names a source (R464, R466). -/
def srcExists (n : Nat) : Bool :=
  n ≤ 0x16F || (0x180 ≤ n && n ≤ 0x18A) || n == 0x18C || n == 0x18D || (0x190 ≤ n && n ≤ 0x192) || n == 0x1FF

/-- The instance of a source (R464); 0 for a device source. -/
def srcInst (n : Nat) : Nat :=
  if n < 0x60 then n else if n < 0xC0 then n - 0x60 else if n < 0x120 then n - 0xC0 else if n < 0x128 then n - 0x120
  else if n < 0x130 then n - 0x128 else if n < 0x138 then n - 0x130 else if n < 0x148 then n - 0x138
  else if n < 0x160 then n - 0x148 else if n < 0x170 then n - 0x160 else 0

/-- The node channel a source concerns: its instance, or the node bound to its port (R474). -/
def srcNode (s : Dev) (n : Nat) : Option Nat :=
  if n < 0x60 then some n else if n < 0xC0 then some (n - 0x60) else if n < 0x120 then s.nodeAt (n - 0xC0) else none

/-- The string a source concerns: its instance, or the string of its node. -/
def srcString (s : Dev) (n : Nat) : Option Nat :=
  if 0x120 ≤ n ∧ n < 0x128 then some (n - 0x120) else (srcNode s n).bind (fun c => (s.stringOf c).map (·.1))

/-- The state of a source: 0 IDLE, 1 ACTIVE, 2 SEVERE (R471). -/
def Dev.srcState (s : Dev) (n : Nat) : Nat := s.g (bFltState n) F.FLT_STATE_STATE

def srcSevere (s : Dev) (n : Nat) : Bool := s.srcState n == 2

/-- The sources that are not at rest, in order. -/
def liveSrcs (s : Dev) : List Nat := (s.regs.filter (fun w => bFltState 0 ≤ w.1 && w.1 < bFltState 512)).map (fun w => (w.1 - bFltState 0) / 4)

def anySevere (s : Dev) : Bool := (liveSrcs s).any (srcSevere s)

/-- ALERT_N is asserted (R480). -/
def Dev.alertN (s : Dev) : Bool := (liveSrcs s).any (fun n => s.srcState n != 0 && s.gb (bFltPol n) F.FLT_REACT_ALERT)

/-! ### The record FIFO (R481 to R487) -/

/-- The bytes of a record (R481). -/
def recBytes (r : Rec) : List Byte :=
  let b := leBytes 1 r.type ++ leBytes 1 (b2n r.severe + 2 * b2n r.cause + 4 * b2n r.mark) ++ leBytes 2 r.source ++ leBytes 2 r.kind
    ++ leBytes 1 r.state ++ leBytes 1 r.react ++ leBytes 8 r.time ++ leBytes 4 r.rseq ++ leBytes 2 r.count ++ leBytes 2 r.supp
    ++ leBytes 2 r.lost ++ leBytes 1 r.mode ++ leBytes 1 r.role ++ leBytes 4 r.inst ++ slice r.data 0 16 ++ leBytes 4 r.first ++ leBytes 8 0
  b ++ leBytes 4 (crc32 b).toNat

/-- Severe records held. -/
def severeHeld (s : Dev) : Nat := (s.flt.fifo.filter (·.severe)).length

/-- Take the newest record that is not severe out of a FIFO given newest first, and mark the gap in its successor (R484, R485); the number is the gap that the next record must still carry. -/
def displaceAt : List Rec → Option (List Rec × Nat)
  | [] => none
  | r :: older =>
    if !r.severe then some (older, r.lost + 1)
    else
      match older with
      | x :: rest =>
        if !x.severe then some ({ r with mark := true, lost := min (r.lost + x.lost + 1) 65535 } :: rest, 0)
        else (displaceAt (x :: rest)).map (fun w => (r :: w.1, w.2))
      | [] => none

/-- Count a lost record (R484). -/
def lostRec (s : Dev) : Dev := (s.inc bFlt F.FLT_LOST_RECORDS).p bFlt F.FLT_FIFO_STATUS_OVERFLOWED 1

/-- Put a generated record into the FIFO, or lose one (R482 to R485); the answer also gives the record as numbered. -/
def pushRec (r : Rec) (s : Dev) : Dev :=
  let f := s.flt
  let r := { r with rseq := f.rseq % 4294967296 }
  let keep (l : List Rec) (gap : Nat) (s : Dev) : Dev :=
    let s := s.on l.isEmpty (fun s => s.irq F.DEV_IRQ_STATUS_FAULT_REC)
    { s with flt := { f with rseq := f.rseq + 1, gap := 0, fifo := l ++ [{ r with mark := gap > 0, lost := min gap 65535 }] } }
  if r.severe then
    let f := { f with severeRec := some r }
    let keep (l : List Rec) (gap : Nat) (s : Dev) : Dev := let s := keep l gap s; { s with flt := { s.flt with severeRec := f.severeRec } }
    if f.fifo.length < 2048 then keep f.fifo f.gap s
    else
      match displaceAt f.fifo.reverse with
      | some (l, n) => lostRec (keep l.reverse (f.gap + n) s)
      | none => keep f.fifo f.gap s
  else if f.fifo.length < 1920 then keep f.fifo f.gap s
  else lostRec { s with flt := { f with rseq := f.rseq + 1, gap := f.gap + 1 } }

/-! ### Alarms (R492 to R494) -/

/-- Put an alarm into a full or not full queue of `cap`: the queue and whether one is lost (R494). -/
def alarmInto {α : Type} (cap : Nat) (sev : α → Bool) (x : α) (q : List α) : List α × Bool :=
  if q.length < cap then (q ++ [x], false)
  else if sev x then
    match findIdx (fun y => !sev y) q.reverse 0 with
    | some k => ((q.reverse.eraseIdx k).reverse ++ [x], true)
    | none => (q, true)
  else (q, true)

/-- Send a datagram to an open session, with the next SEQ of its direction (R684). -/
def lmpPush (num : BitVec 16) (type : Nat) (body : List Byte) (s : Dev) : Dev :=
  match s.hs.sess.find? (fun x => x.num == num) with
  | none => s
  | some x =>
    { s with hs := { s.hs with
        sess := s.hs.sess.map (fun y => if y.num == num then { y with seqOut := y.seqOut + 1 } else y),
        out := s.hs.out ++ [{ sess := some num, type := type, seq := x.seqOut + 1, body := body }] } }

/-- Close sessions (R493, R687, R688): their alarms count as received. -/
def closeSess (p : Sess → Bool) (s : Dev) : Dev :=
  let nums := (s.hs.sess.filter p).map (·.num)
  let gone (n : BitVec 16) : Bool := nums.contains n
  let q := (s.flt.lmpQ.map (fun a => { a with waits := a.waits.filter (fun n => !gone n) })).filter (fun a => !a.waits.isEmpty)
  { s with flt := { s.flt with lmpQ := q },
           hs := { s.hs with sess := s.hs.sess.filter (fun x => !p x), traceTo := s.hs.traceTo.bind (fun n => if gone n then none else some n) } }

/-- Send a record on the alarm paths its source selects (R492, R493); for CAN only while the role is ACTIVE or SOLO (R616). -/
def pushAlarm (r : Rec) (s : Dev) : Dev :=
  let lost (b : Bool) (s : Dev) : Dev := s.on b (fun s => s.inc bFlt F.FLT_LOST_ALARMS)
  let can := s.owns && s.gb (bFltPol r.source) F.FLT_REACT_ALARM_CAN
  let lmp := s.gb (bFltPol r.source) F.FLT_REACT_ALARM_LMP
  let subs := (s.hs.sess.filter (·.alarms)).map (·.num)
  let s := s.on can (fun s =>
    let w := alarmInto 32 (·.severe) r s.flt.canQ
    lost w.2 { s with flt := { s.flt with canQ := w.1 } })
  s.on (lmp && !subs.isEmpty) (fun s =>
    let w := alarmInto 64 (·.fr.severe) { fr := r, waits := subs, since := s.tick, sent := s.tick : Alarm } s.flt.lmpQ
    (lost w.2 { s with flt := { s.flt with lmpQ := w.1 } }).each subs (fun n d => lmpPush n 0x21 (recBytes r) d))

/-! ### FAULT_N (R478, R479) -/

/-- FAULT_N is asserted (R479). The stored PIN bit says that an assertion of R478 has come that no RELEASE has ended; a read of PIN shows the level of the pin. -/
def Dev.pinN (s : Dev) : Bool :=
  let held := s.gb bFlt F.FAULT_PIN_CTRL_PIN
  s.flt.pinMin.isSome ||
    (if !s.gb bFlt F.FAULT_PIN_CTRL_WRITTEN then held
     else match s.g bFlt F.FAULT_PIN_CTRL_CTRL with
      | 1 => anySevere s || s.mode == .safe
      | 2 => false
      | _ => held)

/-- Assert FAULT_N (R478). -/
def assertPin (s : Dev) : Dev :=
  let s := (s.p bFlt F.FAULT_PIN_CTRL_WRITTEN 0).p bFlt F.FAULT_PIN_CTRL_PIN 1
  let s := s.irq F.DEV_IRQ_STATUS_FAULT_PIN
  { s with flt := { s.flt with pinMin := some (s.tick + s.g bFlt F.FAULT_PIN_CFG_MINPULSE * 2500) } }

/-- RELEASE takes effect once it is written and T_MINPULSE has ended (R479): no assertion is left. -/
def releasePin (s : Dev) : Dev :=
  s.on (s.flt.pinMin.isNone && s.gb bFlt F.FAULT_PIN_CTRL_WRITTEN && s.g bFlt F.FAULT_PIN_CTRL_CTRL == 2) (fun s => s.p bFlt F.FAULT_PIN_CTRL_PIN 0)

/-! ### Trace trigger (R489) -/

/-- Words of a trace sample, and samples the ring holds (R488). -/
def traceWords (s : Dev) : Nat := 1 + s.g bFlt F.TRC_CFG_NSIG
def traceCap (s : Dev) : Nat := 4194304 / (4 * traceWords s)

/-- A trigger of the trace (R489); none: by the host. -/
def traceTrigger (src : Option Nat) (s : Dev) : Dev :=
  if s.g bFlt F.TRC_STATUS_STATE = 1 then
    let cap := traceCap s
    let s := s.p bFlt F.TRC_STATUS_STATE 2
    let s := match src with
      | some n => (s.p bFlt F.TRC_STATUS_TRIG_SRC n).p bFlt F.TRC_STATUS_TRIG_HOST 0
      | none => s.p bFlt F.TRC_STATUS_TRIG_HOST 1
    { s with flt := { s.flt with postLeft := cap - cap * s.g bFlt F.TRC_CFG_PRE / 256, trigPos := s.flt.ringPos } }
  else s

/-! ### Counting and records of one source (R469 to R473, R483) -/

/-- The window of a source in ticks (R471). -/
def windowTicks (s : Dev) (n : Nat) : Nat :=
  s.g (bFltPol n) F.FLT_CNT_WIN * (match s.g (bFltPol n) F.FLT_CNT_WUNIT with | 0 => 2500 | 1 => 250000 | 2 => 25000000 | _ => 2500000000)

/-- Begin a holdoff after a record of the source (R483). -/
def beginHold (n : Nat) (s : Dev) : Dev :=
  let h := s.g (bFltPol n) F.FLT_CNT_HOLDOFF
  s.setSrc n (fun x => { x with hold := if h = 0 then none else some (s.tick + 2 ^ (h - 1) * 25000) })

/-- The fields of a record of a source as it stands (R481). -/
def srcRec (s : Dev) (type n kind react : Nat) (e : Ev) : Rec :=
  { type := type, severe := type == 2, cause := s.gb (bFltState n) F.FLT_STATE_CAUSE, mark := false, source := n, kind := kind,
    state := s.srcState n, react := react, time := e.time.getD s.tFt, rseq := 0, count := s.g (bFltState n) F.FLT_STATE_COUNT, supp := 0,
    lost := 0, mode := s.mode.code, role := s.role.code, inst := srcInst n + 65536 * e.hi, data := e.data, first := (s.src n).first }

/-- Write a record of a source: it carries the suppressed count, and begins a holdoff. -/
def writeSrc (r : Rec) (s : Dev) : Dev :=
  let x := s.src r.source
  let s := pushRec { r with supp := min x.supp 65535 } s
  beginHold r.source (s.setSrc r.source (fun x => { x with supp := 0, last := none }))

/-- Write an EVENT or CAUSE_END record, or suppress it (R483); `first` says that the event made the source ACTIVE. -/
def softRec (r : Rec) (first : Bool) (s : Dev) : Dev :=
  let n := r.source
  if s.gb (bFltPol n) F.FLT_REACT_NOREC then s.setSrc n (fun x => { x with supp := x.supp + 1 })
  else if (s.src n).hold.isSome then s.setSrc n (fun x => { x with supp := x.supp + 1, last := some r })
  else
    let num := s.flt.rseq
    let s := writeSrc r s
    s.on (first && r.type == 1) (pushAlarm { r with rseq := num % 4294967296 })

/-- Write a record that is never suppressed, with its alarm (R482, R492). -/
def hardRec (r : Rec) (s : Dev) : Dev :=
  let num := s.flt.rseq
  pushAlarm { r with rseq := num % 4294967296 } (writeSrc r s)

/-- The end of a holdoff (R483). -/
def endHold (n : Nat) (s : Dev) : Dev :=
  let x := s.src n
  if !x.hold.any (· ≤ s.tick) then s
  else
    let s := s.setSrc n (fun x => { x with hold := none })
    match x.last with
    | none => s
    | some r =>
      writeSrc { r with type := 3, severe := false, state := s.srcState n } (s.setSrc n (fun x => { x with supp := x.supp - 1 }))

/-- The close of a counting window (R471). -/
def closeWindow (n : Nat) (s : Dev) : Dev :=
  if !(s.src n).win.any (· ≤ s.tick) then s
  else
    let s := (s.setSrc n (fun x => { x with win := none })).p (bFltState n) F.FLT_STATE_COUNT 0
    s.on (s.srcState n == 1 && !s.gb (bFltState n) F.FLT_STATE_CAUSE) (fun s => s.p (bFltState n) F.FLT_STATE_STATE 0)

/-- A MODE record (R481, R482). -/
def modeRec (new old cause : Nat) (s : Dev) : Dev :=
  pushRec { type := 6, severe := false, cause := false, mark := false, source := 0xFFFF, kind := 0, state := 0, react := 0, time := s.tFt,
            rseq := 0, count := 0, supp := 0, lost := 0, mode := new, role := s.role.code, inst := cause + 256 * old, data := [], first := 0 } s

end Sys2Proof.Machine
end

