-- ==== Sys2Proof/Machine/Cells.lean ====
section
/-! DEFINITION. Cell positions, the bypass form and the cell change (R352 to R363, R394, R412), and the fence commands that reactions, cell commands and the stop sequence send (R147, R412). -/

namespace Sys2Proof.Machine

/-! ### Work handed to fault collection and to the mode machine -/

def Dev.post (s : Dev) (w : Due) : Dev := { s with due := s.due ++ [w] }

/-- An event of the device against a source (R463). -/
def raise (src kind : Nat) (s : Dev) : Dev :=
  s.post (.event { src := src, kind := kind, cause := none, severe := false, safe := false, form := none, time := none, hi := 0, data := [] })

/-- A cause begins or ends (R470). -/
def cause (src kind : Nat) (b : Bool) (s : Dev) : Dev :=
  s.post (.event { src := src, kind := kind, cause := some b, severe := false, safe := false, form := none, time := none, hi := 0, data := [] })

/-! ### Position states (R352) -/

def posFld (k : Nat) : Fld := ⟨F.STR_POS_STATE.off + 4 * (k / 16), 2 * (k % 16), 2⟩

/-- The state of position k: 0 ACTIVE, 1 BYPASSED, 2 CHARGING. -/
def posState (s : Dev) (i k : Nat) : Nat := s.g (bStr i) (posFld k)
def setPos (i k v : Nat) (s : Dev) : Dev := s.p (bStr i) (posFld k) v

/-- The position of a cell node in its enabled MV_PHASE string. -/
def cellPos (s : Dev) (n : Nat) : Option (Nat × Nat) :=
  (s.stringOf n).bind (fun w => if s.kind w.1 = 1 && s.isCell n then some w else none)

/-- The node channel at a position of a string. -/
def memberAt (s : Dev) (i k : Nat) : Nat := s.g (bStr i) (F.STR_MEMBER_NODE.at k)

/-- NMIN, where 0 acts as 1 (R374). -/
def nmin (s : Dev) (i : Nat) : Nat := max 1 (s.g (bStr i) F.STR_BAL_CFG_NMIN)

/-! ### Forms (R353, R394) -/

/-- The switches known as faulty, by the node or by the device (R417). -/
def faulty (s : Dev) (n : Nat) : Nat := Nat.lor (s.node n).swNode (s.node n).swDev

/-- The form R394 gives for a set of faulty switches (codes AL 0, AH 1, BL 2, BH 3); none: no switch among them is faulty. -/
def formOfFaults (m : Nat) : Option Form :=
  let low := bitOf m 0 || bitOf m 2
  let high := bitOf m 1 || bitOf m 3
  if low && high then some .block else if low then some .bypassHigh else if high then some .bypassLow else none

/-- The bypass form of a position (R353): a switch fault overrides, then the reaction, then NODE_HOLD.SAFE, then BYPASS_LOW. -/
def bypassForm (s : Dev) (n : Nat) : Form :=
  match formOfFaults (faulty s n) with
  | some f => f
  | none =>
    match (s.node n).react with
    | some f => f
    | none => match s.g (bNode n) F.NODE_HOLD_SAFE with | 1 => .bypassLow | 2 => .bypassHigh | _ => .bypassLow

/-- The cell is un-bypassable (R394). -/
def unbypassable (s : Dev) (n : Nat) : Bool := s.isCell n && formOfFaults (faulty s n) == some .block

/-! ### Fence commands (R147, R412) -/

/-- The earliest execution time that the lead rule allows a reaction command, in ft (R412). -/
def earliest (s : Dev) (p : Nat) : Nat := (s.nextFrame + 2560) * 64 + (s.port p).dappNew

/-- The legs a leg code stands for (R14). -/
def legsOf (y : Nat) : List Nat := if y = 6 then [0, 1] else [y]

/-- Send fence edges to a node: the legs concerned get no further pattern edges (R147), and nothing planned for them from `fromFt` of a leg on. -/
def sendFencesFrom (n : Nat) (es : List Edge) (fromFt : Nat → Nat) (s : Dev) : Dev :=
  let p := s.portOf n
  let s := s.each (6 :: es.flatMap (fun e => legsOf e.leg)) (fun y d => cutLegs n [y] (fromFt y) d)
  s.each es (fun e d =>
    (sendEdge p e d).each (legsOf e.leg) (fun y d => d.setLeg n y (fun l => { l with cmd := e.tgt, blocked := true, half := none })))

/-- Send fence edges to a node at once. -/
def sendFences (n : Nat) (es : List Edge) (s : Dev) : Dev := sendFencesFrom n es (fun _ => 0) s

/-- A fence edge of a node. -/
def fence (s : Dev) (n y : Nat) (t : LegState) (soft : Bool) (tExec : Nat) : Edge :=
  { leg := y, tgt := t, prof := profBit s n y, soft := soft && t == .off, bs := false, fence := true, tExec := tExec, gen := s.tick + 1, dapp := 0 }

/-- The dead time between the two edges of a LEG 6 command (R361). -/
def pairDead (s : Dev) (n : Nat) : Nat := dtFloor (max (s.gF (bNode n) (F.NODE_DT_FIXED.at 0)) (s.gF (bNode n) (F.NODE_DT_FIXED.at 1)))

/-- The commands that bring a node into a state from time t: legs A and B into the form through OFF, legs C to F OFF; an LV node every used leg OFF. -/
def formEdges (s : Dev) (n : Nat) (f : Form) (soft : Bool) (t : Nat) : List Edge :=
  if s.isCell n then
    [fence s n 6 .off soft t] ++ (if f == .block then [] else [fence s n 6 f.leg false (t + pairDead s n)])
      ++ [2, 3, 4, 5].map (fun y => fence s n y .off soft t)
  else (s.usedLegs n).map (fun y => fence s n y .off soft t)

/-- Send a node the state a reaction gives (R412). A node in NSTATE SAFE is already in its safe state (R415). -/
def sendForm (n : Nat) (f : Form) (s : Dev) : Dev :=
  if (s.port (s.portOf n)).nstate == .safe then s
  else sendFences n (formEdges s n f true (earliest s (s.portOf n))) s

/-- Legs A and B, which are OFF, into the bypass form (R365). -/
def sendBypass (n : Nat) (f : Form) (s : Dev) : Dev :=
  if f == .block then s else sendFences n [fence s n 6 f.leg false (earliest s (s.portOf n))] s

/-! ### Coefficients of a cell change (R355, R356) -/

/-- Write a coefficient of a loop, to the shadow and to the value in force. -/
def writeCoef (loop c : Nat) (v : Word) (s : Dev) : Dev :=
  let a := bLoopD loop + F.LD_C.off + 4 * c
  (s.wr a v).wrF a v

/-- Write the coefficient a 16-bit entry names, when it is enabled (R374). -/
def writeEntry (e : Nat) (v : Word) (s : Dev) : Dev :=
  if bitOf e 15 && e / 2048 % 8 < 6 then writeCoef (e % 2048) (e / 2048 % 8) v s else s

/-- The scaled value of R356 for base b, reference nref and n active positions. -/
def scaled (b : Int) (nref n : Nat) : Int :=
  clampI (signI b * (((absI b * nref + n / 2) / n : Nat) : Int)) (-2147483648) 2147483647

/-- Steps 2 and 3 of R355: the coefficients of the positions that leave and enter, and the scaled ones. -/
def changeCoefs (i leave enter n : Nat) (s : Dev) : Dev :=
  let b := bStr i
  let leaf := s.rd (b + F.STR_BAL_LEAF.off)
  let s := s.each (upto 32) (fun k d =>
    let both (v : Word) (d : Dev) : Dev := writeEntry (d.g b (F.STR_POSTERM_ENTRY_T.at k)) v (writeEntry (d.g b (F.STR_POSTERM_ENTRY_V.at k)) v d)
    if bitOf leave k then both 0#32 d else if bitOf enter k then both leaf d else d)
  s.on (s.gb b F.STR_BAL_CFG_SCALE_EN && n > 0) (fun s =>
    let v := BitVec.ofInt 32 (scaled (s.gi b F.STR_BAL_BASE_B) (s.g b F.STR_BAL_CFG_NREF) n)
    s.each (upto 4) (fun k d => writeEntry (d.g b (F.STR_SCALE_ENTRY_2k_1.at k)) v (writeEntry (d.g b (F.STR_SCALE_ENTRY_2k.at k)) v d)))

/-! ### The cell change (R354 to R363) -/

/-- The new mask of a string after a change. -/
def changeMask (mask leave enter : Nat) : Nat := Nat.lor (Nat.land mask (Nat.xor 0xFFFFFFFF leave)) enter

/-- The number of ACTIVE positions of a mask. -/
def activeCount (s : Dev) (i mask : Nat) : Nat := (activePos s i mask).length

/-- R363: a change that leaves too few positions. -/
def checkMin (i n : Nat) (s : Dev) : Dev :=
  s.on (n < nmin s i) (fun s => raise (0x120 + i) 0x1020 (s.p (bStr i) F.STR_CELL_STATUS_UNDER_MIN 1))

/-- Set STR_ACTIVE, its shadow only or both. -/
def setActive (i mask : Nat) (both : Bool) (s : Dev) : Dev :=
  let a := bStr i + F.STR_ACTIVE.off
  (s.wr a (w32 mask)).on both (fun s => s.wrF a (w32 mask))

/-- A cell change takes effect in whole, in HOLD and SAFE (R360). -/
def changeWhole (i leave enter : Nat) (s : Dev) : Dev :=
  let mask := changeMask (s.g (bStr i) F.STR_ACTIVE_MASK) leave enter
  let n := activeCount s i mask
  let s := changeCoefs i leave enter n (setActive i mask true s)
  let s := s.each (upto 32) (fun k d => if bitOf leave k then setPos i k 1 d else if bitOf enter k then setPos i k 0 d else d)
  checkMin i n ((s.p (bStr i) F.STR_CELL_STATUS_N n).inc (bStr i) F.STR_CELL_STATUS_CHANGES)

/-- Request a cell change (R354, R357, R359, R360). -/
def requestChange (i leave enter react : Nat) (s : Dev) : Dev :=
  if s.driveMode then
    let join (c : Option Chg) : Chg := match c with
      | none => { leave := leave, enter := enter, react := react, latched := false, asked := s.tick }
      | some c => { c with leave := Nat.lor c.leave leave, enter := Nat.lor (Nat.land c.enter (Nat.xor 0xFFFFFFFF leave)) enter,
                           react := Nat.lor c.react react }
    let late := match (s.str i).chg with | some c => c.latched | none => false
    (s.setStr i (fun x => if late then { x with chg2 := some (join x.chg2) } else { x with chg := some (join x.chg) })).p
      (bStr i) F.STR_CELL_STATUS_PENDING 1
  else changeWhole i leave enter s

/-- The mode becomes HOLD or SAFE while a change is not yet in force: it takes effect in whole (DEDUCED from R360, log entry 20). -/
def settleChange (i : Nat) (s : Dev) : Dev :=
  let x := s.str i
  let moved := x.pendMv != moves0 || x.latMv != moves0
  let whole (c : Option Chg) (s : Dev) : Dev := match c with
    | some c => if c.latched then s.inc (bStr i) F.STR_CELL_STATUS_CHANGES else changeWhole i c.leave c.enter s
    | none => s
  if x.chg.isNone && x.chg2.isNone && !moved then s
  else
    let s := whole x.chg2 (whole x.chg s)
    let mask := s.g (bStr i) F.STR_ACTIVE_MASK
    let s := s.each (s.members i) (fun m d => if bitOf mask m.1 then setPos i m.1 0 d else if posState d i m.1 == 0 then setPos i m.1 1 d else d)
    (((setActive i mask true s).setStr i (fun y => { y with chg := none, chg2 := none, pendMv := moves0, latMv := moves0 })).p
      (bStr i) F.STR_CELL_STATUS_PENDING 0).p (bStr i) F.STR_CELL_STATUS_N (activeCount s i mask)

/-- The change latch of a string (R355, steps 1 to 3). -/
def latchChange (i : Nat) (s : Dev) : Dev :=
  match (s.str i).chg with
  | some c =>
    if c.latched || s.tick ≤ c.asked then s
    else
      let mask := changeMask (s.g (bStr i) F.STR_ACTIVE_MASK) c.leave c.enter
      let n := activeCount s i mask
      let s := changeCoefs i c.leave c.enter n (setActive i mask false s)
      checkMin i n (s.setStr i (fun x => { x with chg := some { c with latched := true } }))
  | none => s

/-- What a committed change adds to the moves of the pending set. -/
def Moves.join (m : Moves) (c : Chg) : Moves :=
  { outs := Nat.lor m.outs (Nat.land c.leave (Nat.xor 0xFFFFFFFF c.react)), ins := Nat.lor (Nat.land m.ins (Nat.xor 0xFFFFFFFF c.leave)) c.enter,
    drops := Nat.lor m.drops (Nat.land c.leave c.react) }

/-- The commit that carries a latched change (R357, R359): its positions change state at the reload that brings the committed set into force (R355, R181). A change formed meanwhile waits for a latch after this commit tick (R359). -/
def commitChange (i : Nat) (s : Dev) : Dev :=
  match (s.str i).chg with
  | some c =>
    if c.latched then
      let next := (s.str i).chg2.map (fun n => { n with asked := s.tick })
      ((s.setStr i (fun x => { x with chg := next, chg2 := none, pendMv := x.pendMv.join c })).p
        (bStr i) F.STR_CELL_STATUS_PENDING (b2n next.isSome)).inc (bStr i) F.STR_CELL_STATUS_CHANGES
    else s
  | none => s

/-! ### Recovery (R390) -/

/-- Begin the recovery of a node (R390, R391). -/
def beginRecovery (n : Nat) (s : Dev) : Dev :=
  let r := s.g bProt F.PROT_CFG_RECOV
  if r = 0 then s else sendDetect n 2 (s.setNode n (fun x => { x with recov := some (s.tick + r * 250000) }))

/-- The enabled node channels. -/
def enabledNodes (s : Dev) : List Nat := (upto 96).filter (fun n => s.enabled (.node n))

/-- A used leg's switches, and the used switches of a node (R14). -/
def usedSwitches (s : Dev) (n : Nat) : Nat := (s.usedLegs n).foldl (fun m y => bitSet (bitSet m (2 * y)) (2 * y + 1)) 0

/-! ### Self-tests (R404, R407) -/

/-- The switches of a mask, in order. -/
def switchesOf (m : Nat) : List Nat := (upto 12).filter (fun k => bitOf m k)

/-- The device is not driving the leg of a switch (R404). -/
def notDriven (s : Dev) (n sw : Nat) : Bool :=
  let y := sw / 2
  s.mode == .hold || s.mode == .safe || !(s.usedLegs n).contains y
    || (match s.stringOf n with
        | none => true
        | some (i, k) => (s.str i).stepsOpen || (s.kind i == 1 && posState s i k == 1 && y ≥ 2))

/-- Start a self-test of switches and comparators of a node (R404). -/
def runSelfTest (n sw comp : Nat) (s : Dev) : Dev :=
  let s := execNode n 0xF10 (leBytes 4 (sw + 65536 * comp)) none s
  s.setNode n (fun x => { x with stRun := some (sw, comp), stWait := Nat.land x.stWait (Nat.xor 4095 sw) })

/-- Test the switches that wait, as far as R404 allows it now (R407). -/
def serveSelfTest (n : Nat) (s : Dev) : Dev :=
  let x := s.node n
  let m := (switchesOf x.stWait).foldl (fun m k => if notDriven s n k then bitSet m k else m) 0
  if m != 0 && x.stRun.isNone && portUp s (s.portOf n) && s.role != .standby then runSelfTest n m 15 s else s

/-- The switches that R407 has left waiting are tested at the first instant that R404 allows. -/
def serveSelfTests (ns : List Nat) (s : Dev) : Dev := s.each (ns.filter (fun n => (s.node n).stWait != 0)) serveSelfTest

/-! ### Reactions at a node and a string (R413 to R417, R474 to R476) -/

/-- The node channel is under a fault reaction (R417). -/
def underReaction (s : Dev) (n : Nat) : Bool :=
  faulty s n != 0 || (s.node n).react.isSome
    || (s.gb bProt F.PROT_CFG_ST_AUTO && Nat.land (usedSwitches s n) (s.node n).stPass != usedSwitches s n)

/-- Strength of a form (R415). -/
def Form.strength : Form → Nat | .block => 2 | _ => 1

/-- End a pre-charge of a cell (R365). -/
def endPrecharge (i k n : Nat) (failed : Bool) (s : Dev) : Dev :=
  let s := setPos i k 1 (s.setNode n (fun x => { x with preFrom := none }))
  let s := s.on (s.mode != .safe) (fun s => sendBypass n (bypassForm s n) s)
  s.on failed (raise (0x60 + n) 0x101B)

/-- A node reaction on a cell node at position k of string i (R354, R359, R361, R413, R414). -/
def reactCell (src i k n : Nat) (f : Form) (s : Dev) : Dev :=
  let old := (s.node n).react
  let best := match old with | some g => if g.strength < f.strength then f else (match formOfFaults (faulty s n) with | some h => h | none => g) | none => f
  let s := s.setNode n (fun x => { x with react := some best, holds := if x.holds.contains src then x.holds else x.holds ++ [src] })
  match posState s i k with
  | 0 =>
    let s := sendForm n best (s.p (bStr i) F.STR_OUT_CAUSE_REACTION (bitSet (s.g (bStr i) F.STR_OUT_CAUSE_REACTION) k))
    requestChange i (2 ^ k) 0 (2 ^ k) s
  | 2 => endPrecharge i k n true s
  | _ => if old == some best then s else sendForm n best s

/-- A string HALT of an LV string (R412, R416, R476). -/
def haltString (src i : Nat) (s : Dev) : Dev :=
  let s := { s with flt := { s.flt with halts := if s.flt.halts.contains (i, src) then s.flt.halts else s.flt.halts ++ [(i, src)] } }
  s.each (s.members i) (fun m d => sendForm m.2 .block d)

/-- The states every member of an enabled string takes in SAFE (R416). -/
def safeStates (s : Dev) : Dev :=
  s.each ((upto 8).filter (fun i => s.enabled (.string i))) (fun i d =>
    d.each (d.members i) (fun m d =>
      let n := m.2
      let f := match (d.node n).react with
        | some f => f
        | none => if d.kind i != 1 || !d.gb (bProtStr i) F.PROT_STR_SAFE_FORM then .block else bypassForm d n
      sendForm n f d))

end Sys2Proof.Machine
end

