-- ==== Sys2Proof/Machine/Sensing.lean ====
section
/-! DEFINITION. SAR converters, injected conversions, calibration and sigma-delta inputs (R426 to R459). -/

namespace Sys2Proof.Machine

def Dev.sar (s : Dev) (k : Nat) : SarSt := tget (fun _ => sarSt0) s.sens.chans k
def Dev.setSar (s : Dev) (k : Nat) (f : SarSt → SarSt) : Dev :=
  { s with sens := { s.sens with chans := tset (fun _ => sarSt0) s.sens.chans k (f (s.sar k)) } }
def Dev.sd (s : Dev) (i : Nat) : SdSt := tget (fun _ => sdSt0) s.sens.sds i
def Dev.setSd (s : Dev) (i : Nat) (f : SdSt → SdSt) : Dev :=
  { s with sens := { s.sens with sds := tset (fun _ => sdSt0) s.sens.sds i (f (s.sd i)) } }

/-! ### The sample grid (R427, R429, R437) -/

/-- The first sample instant of the grid at or after an instant, after the last one taken, in ft (R427, R429). -/
def gridFrom (s : Dev) (at_ : Nat) : Nat :=
  let low := match s.sens.last with | some l => max (l + 1) at_ | none => at_
  let free := if low ≤ s.sens.ref then s.sens.ref else s.sens.ref + (low - s.sens.ref + 3999) / 4000 * 4000
  match s.sens.trig with
  | none => free
  | some e =>
    if free ≤ e - 8000 then free
    else
      let room := match s.sens.last with | some l => l + 4000 ≤ e - 4000 | none => true
      if room && decide (low ≤ e - 4000) then e - 4000 else e

/-- The next sample instant, in ft: of the grid, or an injected one before it (R437). -/
def nextSample (s : Dev) : Nat :=
  let n := gridFrom s (s.tick * 64)
  match s.sens.inj with | some i => min n i | none => n

/-- `e` is a trigger event that a running string has scheduled, and its alignment is decided in the present tick, 8,000 ft before it (R429). -/
def alignDue (s : Dev) (e : Nat) : Bool :=
  let code := s.g bSens F.ADC_TRIG_EVENT
  let st := s.str (code / 2)
  s.gb bSens F.ADC_TRIG_SRC && st.started && s.tick * 64 ≤ e - 8000 && e - 8000 < (s.tick + 1) * 64
    && st.evs.any (fun v => v.at_ == e && v.centre == (code % 2 == 1) && v.ord % (s.g bSens F.ADC_TRIG_DIV + 1) == 0)

/-- A trigger alignment is decided (R429): the next instants lead up to e. -/
def alignTrigger (e : Nat) (s : Dev) : Dev := if alignDue s e then { s with sens := { s.sens with trig := some e } } else s

/-! ### Codes (R426, R430 to R435, R446) -/

/-- The raw code of an input voltage in units of 0.1 µV (R426): 1 LSB is 312.5 µV. -/
def rawCode (v : Int) : Int := clampI (rndDiv v 3125) (-32768) 32767

/-- The corrected code and whether the sample is overranged (R430, R432). -/
def correctCode (s : Dev) (k : Nat) (x : Int) : Int × Bool :=
  let ofs := sgn 16 (s.g bSens (F.ADC_COEF_OFS.at k))
  let v := rnd ((16 * x - ofs) * s.g bSens (F.ADC_COEF_GAIN.at k)) 19
  let c := clampI v (-32768) 32767
  if x = -32768 then (-32768, true) else if x = 32767 then (32767, true) else (c, c != v)

/-- The voltage at the converter of channel k: the test DAC in place of the pins (R446). -/
def inputOf (s : Dev) (k : Nat) (v : Int) : Int :=
  if s.gb bSens F.ADC_TDAC_EN && s.g bSens F.ADC_TDAC_CH == k then ((s.g bSens F.ADC_TDAC_CODE : Int) - 2048) * 50000 else v

def tested (s : Dev) (k : Nat) : Bool := s.gb bSens F.ADC_TDAC_EN && s.g bSens F.ADC_TDAC_CH == k

/-- Channel k is under calibration. -/
def inCal (s : Dev) (k : Nat) : Bool := s.gb bSens F.ADC_CAL_STATUS_BUSY && s.g bSens F.ADC_CAL_STATUS_CURRENT == k

def chEnabled (s : Dev) (k : Nat) : Bool := bitOf (s.g bSens F.ADC_CFG_CH_EN) k

/-- Bit 0 of a qualifier (R458). -/
def withInvalid (s : Dev) (q : Nat) (on : Bool) : Nat :=
  bitPut q 0 (bitOf q 1 || bitOf q 2 || bitOf q 4 || bitOf q 5 || bitOf q 6 || (bitOf q 3 && s.gb bSens F.ADC_CFG_DIST_INVALID) || !on)

/-- The neighbours of a channel in its bank (R434). -/
def neighbours (k : Nat) : List Nat := [k + 1, k - 1].filter (fun j => j / 8 == k / 8 && j != k)

/-- The first pass of a sample: overrange of channel k at instant `a` (R432, R433). -/
def sampleOver (a k : Nat) (v : Int) (s : Dev) : Dev :=
  if !chEnabled s k || inCal s k then s
  else
    let w := correctCode s k (rawCode (inputOf s k v))
    let x := s.sar k
    if w.2 then
      let s := s.setSar k (fun x => { x with ovr := true, lastOver := some a, backAt := none })
      let s := s.p bSens F.ADC_STICKY_OVR (bitSet (s.g bSens F.ADC_STICKY_OVR) k)
      s.on (!x.ovr) (raise (0x138 + k) 0x1030)
    else s.setSar k (fun x => { x with ovr := false, backAt := if x.ovr then some a else x.backAt })

/-- The second pass: the result of channel k (R430 to R435, R440, R458). -/
def sampleRes (a k : Nat) (v : Int) (inj : Bool) (s : Dev) : Dev :=
  if !chEnabled s k then s
  else
    let x := s.sar k
    let cal := inCal s k
    let code : Int := if cal then (match x.hist with | r :: _ => r.code | [] => 0) else (correctCode s k (rawCode (inputOf s k v))).1
    let ovr := !cal && x.lastOver == some a
    let settle := !ovr && (match x.backAt with | some b => decide (a < b + 16000) | none => false)
      || (match s.sens.restart with | some r => decide (a < r + 16000) | none => false)
    let dist := (neighbours k).any (fun j => match (s.sar j).lastOver with | some b => decide (b ≤ a ∧ a ≤ b + 4800) | none => false)
    let q := 2 * b2n ovr + 4 * b2n settle + 8 * b2n dist + 16 * b2n cal + 32 * b2n (tested s k) + 128 * b2n inj
    let n := (x.count + 1) % 65536
    let s := s.setSar k (fun x => { x with count := n, hist := ({ tick := a / 64, code := code, qual := q, count := n } :: x.hist).take 4 })
    let qr := withInvalid s q true
    let s := (s.p bSens (F.ADC_RES_CODE.at k) (usg 16 code)).p bSens (F.ADC_RES_QUAL.at k) qr
    s.on inj (fun s => (s.p bSens (F.ADC_INJ_RES_CODE.at k) (usg 16 code)).p bSens (F.ADC_INJ_RES_QUAL.at k) qr)

/-- All enabled converters sample (R426 to R438) at an instant that lies in the present tick; `vs` are the input voltages in 0.1 µV. -/
def sampleAll (vs : List Int) (s : Dev) : Dev :=
  let a := nextSample s
  let inj := s.sens.inj == some a
  let mask := s.g bSens F.ADC_INJ_CFG_MASK
  let s := s.each (upto 16) (fun k d => sampleOver a k (vs.getD k 0) d)
  let s := s.each (upto 16) (fun k d => sampleRes a k (vs.getD k 0) (inj && bitOf mask k) d)
  let isTrig := s.sens.trig == some a
  let s := { s with sens := { s.sens with
    last := some a, inj := if inj then none else s.sens.inj, ref := if inj || isTrig then a else s.sens.ref, trig := if isTrig then none else s.sens.trig } }
  s.on inj (fun s =>
    ((s.p bSens F.ADC_INJ_TIME_TIME (((s.tFt : Int) + (a : Int) - s.tick * 64).toNat)).p bSens F.ADC_INJ_STATUS_PENDING 0).p bSens F.ADC_INJ_STATUS_FULL 1)

/-- The converters sample when the next instant has come, while the ADC domain is on (R427, R625). -/
def sarSample (vs : List Int) (s : Dev) : Dev := if adcOn s && nextSample s / 64 == s.tick then sampleAll vs s else s

/-! ### Injected conversions (R436 to R439, R443) -/

/-- Count a lost request (R439, R443). -/
def injLost (s : Dev) : Dev := s.p bSens F.ADC_INJ_STATUS_LOST (min 255 (s.g bSens F.ADC_INJ_STATUS_LOST + 1))

/-- A request at instant r in ft is served (R437). -/
def injServe (i : Nat) (s : Dev) : Dev := { (s.p bSens F.ADC_INJ_STATUS_PENDING 1) with sens := { s.sens with inj := some i } }

/-- The instant of R437 for a request at r. -/
def injInstant (s : Dev) (r : Nat) : Nat := match s.sens.last with | some l => max r (l + 4000) | none => r

/-- A request that waits for the end of a calibration is served (R443). -/
def injQueued (s : Dev) : Dev :=
  if s.gb bSens F.ADC_INJ_STATUS_QUEUED then injServe (injInstant s (s.tick * 64)) (s.p bSens F.ADC_INJ_STATUS_QUEUED 0) else s

/-- Abort a calibration in progress (R443, R445): it has ended, with no new coefficients. -/
def abortCal (s : Dev) : Dev :=
  if s.gb bSens F.ADC_CAL_STATUS_BUSY then injQueued ((s.p bSens F.ADC_CAL_STATUS_BUSY 0).p bSens F.ADC_STICKY_CAL_ABORT 1) else s

/-- An injected request (R436 to R443). -/
def injRequest (s : Dev) : Dev :=
  let r := s.tick * 64
  if s.gb bSens F.ADC_INJ_STATUS_FULL || s.gb bSens F.ADC_INJ_STATUS_PENDING then injLost s
  else if s.gb bSens F.ADC_CAL_STATUS_BUSY && bitOf (s.g bSens F.ADC_INJ_CFG_MASK) (s.g bSens F.ADC_CAL_STATUS_CURRENT) then
    if s.gb bSens F.ADC_CFG_INJ_PREEMPT_CAL then
      let s := abortCal s
      if s.gb bSens F.ADC_INJ_STATUS_PENDING then injLost s else injServe (gridFrom s (r + 800)) s
    else if s.gb bSens F.ADC_INJ_STATUS_QUEUED then injLost s
    else s.p bSens F.ADC_INJ_STATUS_QUEUED 1
  else injServe (injInstant s r) s

/-! ### Calibration (R440 to R445) -/

/-- Calibration of a queued channel begins (R441, R442), at a sample instant, once an injected sample that is pending has been taken. -/
def calStart (s : Dev) : Dev :=
  let q := s.g bSens F.ADC_CAL_STATUS_QUEUED
  match (upto 16).find? (bitOf q) with
  | none => s
  | some k =>
    if s.gb bSens F.ADC_CAL_STATUS_BUSY || s.sens.inj.isSome || !adcOn s || !s.sens.last.any (fun l => l / 64 == s.tick) then s
    else
      let s := ((s.p bSens F.ADC_CAL_STATUS_QUEUED (bitClr q k)).p bSens F.ADC_CAL_STATUS_CURRENT k).p bSens F.ADC_CAL_STATUS_BUSY 1
      { s with sens := { s.sens with calFrom := s.tick } }

/-- Calibration ends after 40 µs with a measured offset (1/16 LSB) and gain (Q1.15) (R440, R443, R444). -/
def calEnd (ofs : Int) (gain : Nat) (s : Dev) : Dev :=
  if !s.gb bSens F.ADC_CAL_STATUS_BUSY || s.tick < s.sens.calFrom + 10000 then s
  else
    let k := s.g bSens F.ADC_CAL_STATUS_CURRENT
    let s := s.p bSens F.ADC_CAL_STATUS_BUSY 0
    let s :=
      if ofs < -4096 || ofs > 4096 || gain < 0x7D71 || gain > 0x828F then raise (0x138 + k) 0x1031 (s.p bSens F.ADC_STICKY_CAL_FAIL 1)
      else (s.p bSens (F.ADC_COEF_OFS.at k) (usg 16 ofs)).p bSens (F.ADC_COEF_GAIN.at k) gain
    injQueued s

/-- The supply shed stage in force (R639). -/
def Dev.shed (s : Dev) : Nat := s.g bPwr F.PWR_SHED_STAGE

/-- The schedule, every INTERVAL seconds, requests the next enabled channel in rotation (R442, R445); it pauses in modes that it does not name and while the supply sheds. -/
def calSchedule (s : Dev) : Dev :=
  let n := s.g bSens F.ADC_CAL_CFG_INTERVAL
  if n = 0 || s.shed ≥ 1 || s.tick < s.sens.schedAt + 250000000 * n then s
  else
    let s := { s with sens := { s.sens with schedAt := s.tick } }
    if !bitOf (s.g bSens F.ADC_CAL_CFG_MODES) s.mode.code then s else
    match ((upto 16).map (fun j => (s.sens.calRot + 1 + j) % 16)).find? (chEnabled s) with
    | none => s
    | some k =>
      { (s.p bSens F.ADC_CAL_STATUS_QUEUED (bitSet (s.g bSens F.ADC_CAL_STATUS_QUEUED) k)) with sens := { s.sens with calRot := k } }

/-- A write of ADC_CAL_REQ (R442, R445, R462): the reason of a refusal, or the new queue. -/
def calRequest (mask : Nat) (s : Dev) : Nat × Dev :=
  if s.shed ≥ 1 then (0x0807, s)
  else if (upto 16).any (fun k => bitOf mask k && !chEnabled s k) then (0x0808, s)
  else (0, s.p bSens F.ADC_CAL_STATUS_QUEUED (Nat.lor (s.g bSens F.ADC_CAL_STATUS_QUEUED) (mask % 65536)))

/-! ### Sigma-delta inputs (R448 to R457) -/

/-- The sum of the first n elements. -/
def sumTake : Nat → List Int → Int
  | 0, _ => 0
  | _, [] => 0
  | n + 1, x :: t => x + sumTake n t

/-- A moving sum of n elements over a list, newest first; elements before its end count as 0. -/
def movSum (n : Nat) : List Int → List Int
  | [] => []
  | x :: t => sumTake n (x :: t) :: movSum n t

/-- A sinc filter of order k and length r, newest output first. -/
def sinc : Nat → Nat → List Int → List Int
  | 0, _, l => l
  | k + 1, r, l => sinc k r (movSum r l)

def bitVal (b : Bool) : Int := if b then 1 else -1

/-- The output of the main filter on the bits of its window (R451). -/
def mainFilter (k r l : Nat) (bits : List Bool) : Int :=
  let x := bits.map bitVal
  rndDiv (((sinc k r (if l ≥ 2 then movSum l x else x)).headD 0) * 16777216) (r ^ k * max l 1)

/-- DIV of the clock of an input. -/
def sdDiv (s : Dev) (i : Nat) : Nat := s.g bSens (F.SD_CLKDIV_DIV.at (s.g (bSd i) F.SD_CFG_CLK))

/-- The settling time of an input in ticks (R453). -/
def sdSettle (s : Dev) (i : Nat) : Nat :=
  (s.g (bSd i) F.SD_CFG_ORDER * s.g (bSd i) F.SD_CFG_DECIM + s.g (bSd i) F.SD_NOTCH_LEN) * sdDiv s i

/-- SD_CLK_OUT[c] in the present tick (R448, R450): none, high impedance, only while the output floats, whatever the pair role; HIGH for floor(DIV / 2) ticks from each tick that is a multiple of DIV; LOW while the clock does not run (DESIGN CHOICE, log entry 105). -/
def sdClkOut (s : Dev) (c : Nat) : Option Bool :=
  let div := s.g bSens (F.SD_CLKDIV_DIV.at c)
  if floats s .sdClkOut then none else some (s.gb bSens (F.SD_CLKDIV_EN.at c) && decide (s.tick % div < div / 2))

/-- A main result (R451 to R454), at a tick that is a multiple of DIV × R: `bits` are the bits taken since the previous result, oldest first. -/
def sdOutput (i : Nat) (bits : List Bool) (s : Dev) : Dev :=
  let b := bSd i
  if !s.gb b F.SD_CFG_EN || !adcOn s || s.tick % (sdDiv s i * s.g b F.SD_CFG_DECIM) != 0 then s
  else
    let x := s.sd i
    let k := s.g b F.SD_CFG_ORDER
    let r := s.g b F.SD_CFG_DECIM
    let l := s.g b F.SD_NOTCH_LEN
    let win := (bits.reverse ++ x.bits).take (k * r + l)
    let v := mainFilter k r l win
    let q := 4 * b2n (s.tick < x.since + sdSettle s i) + 64 * b2n x.stuck
    let n := (x.count + 1) % 65536
    let s := s.setSd i (fun x => { x with bits := win, count := n, hist := ({ tick := s.tick, val := v, qual := q, count := n } :: x.hist).take 4 })
    ((s.p b F.SD_RES_VALUE (usg 32 v)).p b F.SD_QUAL_QUAL (withInvalid s q true)).p b F.SD_QUAL_COUNT n

/-- A fast result (R455, R456). -/
def sdFast (i : Nat) (bits : List Bool) (s : Dev) : Dev :=
  let b := bSd i
  if !(s.gb b F.SD_CFG_EN && s.gb b F.SD_FAST_FEN && adcOn s) then s
  else
    let x := s.sd i
    let fr := s.g b F.SD_FAST_FR
    let win := (bits.reverse ++ x.fbits).take (3 * fr)
    let v := clampI (rndDiv (((sinc 3 fr (win.map bitVal)).headD 0) * 32768) (fr ^ 3)) (-32768) 32767
    let cmp := x.fastFrom + 3 * fr * sdDiv s i ≤ s.tick && !x.stuck
    let out := v > sgn 16 (s.g b F.SD_FAST_TH_HI) || v < sgn 16 (s.g b F.SD_FAST_TH_LO)
    let run := if cmp && out then min (x.run + 1) 9 else 0
    let s := (s.setSd i (fun x => { x with fbits := win, run := run, fast := v })).p b F.SD_FAST_RES_FAST (usg 16 v)
    if cmp && out && run == s.g b F.SD_FAST_FCNT then
      let s := raise (0x148 + i) 0x1035 (s.p b F.SD_STAT_FAST_TRIP 1)
      s.on (s.gb bSens F.ADC_INJ_CFG_TRIG_FASTOC) injRequest
    else s

/-- A bit has been held for 128 clock periods (R454, R470). -/
def sdStuck (i : Nat) (s : Dev) : Dev :=
  let x := s.sd i
  if !s.gb (bSd i) F.SD_CFG_EN || !adcOn s || x.stuck then s
  else raise (0x148 + i) 0x1034 ((s.setSd i (fun x => { x with stuck := true, run := 0 })).p (bSd i) F.SD_STAT_STUCK 1)

/-- The bit of a stuck input changes (R453, R454). -/
def sdStuckEnd (i : Nat) (s : Dev) : Dev :=
  if (s.sd i).stuck then s.setSd i (fun x => { x with stuck := false, since := s.tick, run := 0 }) else s

/-- An input is enabled by a write of SD_CFG (R453, R456): filters and counts begin anew. -/
def sdEnable (i : Nat) (s : Dev) : Dev :=
  s.setSd i (fun x => { x with bits := [], fbits := [], since := s.tick, fastFrom := s.tick, stuck := false, run := 0 })

/-- The ADC domain restarts (R453, R458). -/
def restartAdc (s : Dev) : Dev :=
  let s := s.each (upto 24) (fun i d => d.setSd i (fun x => { x with since := s.tick }))
  { s with sens := { s.sens with restart := some (s.tick * 64) } }

/-! ### Sensing signals (R428, R452, R459) -/

/-- The value and staleness of a sensing signal at a latch tick; none: a reserved number. -/
def sensSignal (s : Dev) (latch sig : Nat) : Option (Int × Bool) :=
  let sarAt (k : Nat) : Option SarRes := (s.sar k).hist.find? (fun r => r.tick + 76 ≤ latch)
  let sdAt (i : Nat) : Option SdRes := (s.sd i).hist.find? (fun r => r.tick + 4 ≤ latch)
  let en (i : Nat) : Bool := s.gb (bSd i) F.SD_CFG_EN
  if sig < 16 then
    some (match sarAt sig with
      | some r => (r.code * 512, bitOf (withInvalid s r.qual (chEnabled s sig)) 0)
      | none => (0, true))
  else if sig < 32 then
    some (match sarAt (sig - 16) with
      | some r => (sgn 32 (withInvalid s r.qual (chEnabled s (sig - 16)) + 65536 * r.count), false)
      | none => (1, false))
  else if 0x20 ≤ sig ∧ sig < 0x38 then
    some (match sdAt (sig - 0x20) with
      | some r => (r.val, bitOf (withInvalid s r.qual (en (sig - 0x20))) 0)
      | none => (0, true))
  else if 0x40 ≤ sig ∧ sig < 0x58 then
    some (match sdAt (sig - 0x40) with
      | some r => (sgn 32 (withInvalid s r.qual (en (sig - 0x40)) + 65536 * r.count), false)
      | none => (1, false))
  else if 0x60 ≤ sig ∧ sig < 0x78 then some ((s.sd (sig - 0x60)).fast * 512, false)
  else none

end Sys2Proof.Machine
end

