-- ==== Sys2Proof/Machine/Faults.lean ====
section
/-! DEFINITION. Fault collection: counting, reactions and their floors (R463 to R477, R413, R721), and the mode machine they act on (R66 to R77). One command's events wait in `due`; `settle` takes them in order. -/

namespace Sys2Proof.Machine

/-! ### Kinds: severity and floors (R413, R465, R466, R721) -/

/-- The kinds that make their source SEVERE at their first event (R465, R466). -/
def kindSevere (kind : Nat) : Bool :=
  [0x0101, 0x0102, 0x0104, 0x0105, 0x0106, 0x1010, 0x1011, 0x1012, 0x1013, 0x1019, 0x1020, 0x1022, 0x102C, 0x1035, 0x1101].contains kind

/-- The kinds whose floor is a cell change or, on an LV node, device SAFE (R413). -/
def kindNodeFloor (kind : Nat) : Bool := [0x0101, 0x0102, 0x0104, 0x0105, 0x1010, 0x1011, 0x1012, 0x1019].contains kind

/-- The floor of a kind raised against a source: node, string, mode field (R413, R465, R466, R721). -/
def floorOf (s : Dev) (src kind : Nat) (safe : Bool) : Nat × Nat × Nat :=
  if safe || [0x1020, 0x1022, 0x102C, 0x1035, 0x1101].contains kind then (0, 0, 2)
  else
    match srcNode s src with
    | none => (0, 0, 0)
    | some n =>
      match s.stringOf n with
      | none => (0, 0, 0)
      | some _ =>
        if kindNodeFloor kind then (if (cellPos s n).isSome then (1, 0, 0) else (0, 0, 2))
        else if (kind == 0x0106 || kind == 0x1013) && (cellPos s n).isSome then (0, 0, 2)
        else (0, 0, 0)

/-- Field by field, the stronger of two reactions (R469). -/
def stronger (a b : Nat × Nat × Nat) : Nat × Nat × Nat := (max a.1 b.1, max a.2.1 b.2.1, max a.2.2 b.2.2)

/-- The configured reaction of a source: the set for ACTIVE or for SEVERE (R474). -/
def configured (s : Dev) (n : Nat) (sev : Bool) : Nat × Nat × Nat :=
  let b := bFltPol n
  if sev then (s.g b F.FLT_REACT_NODE_S, s.g b F.FLT_REACT_STR_S, s.g b F.FLT_REACT_MODE_S)
  else (s.g b F.FLT_REACT_NODE_A, s.g b F.FLT_REACT_STR_A, s.g b F.FLT_REACT_MODE_A)

/-- The effective reaction of a source as it stands (R469). -/
def effective (s : Dev) (n : Nat) : Nat × Nat × Nat :=
  let c := if srcSevere s n then stronger (configured s n false) (configured s n true) else configured s n false
  stronger c (s.src n).floors

def causeActive (s : Dev) (n : Nat) : Bool := s.gb (bFltState n) F.FLT_STATE_CAUSE

/-- A source with reaction RIDE is active (R66, R477). -/
def rideActive (s : Dev) : Bool := (liveSrcs s).any (fun n => causeActive s n && (effective s n).2.2 == 1)

/-! ### Modes (R66 to R77) -/

/-- RIDE_MAX, RIDE_SETTLE and CHARGE_MAX in ticks (R80). -/
def rideMax (s : Dev) : Nat := s.g bDev F.DEV_MODE_CFG_RIDE_MAX * 250000
def rideSettle (s : Dev) : Nat := s.g bDev F.DEV_MODE_CFG_RIDE_SETTLE * 250000
def chargeMax (s : Dev) : Nat := s.g bDev F.DEV_MODE_CFG_CHARGE_MAX * 250000000

/-- Start the strings that are enabled (R187). -/
def startStrings (s : Dev) : Dev := s.each ((upto 8).filter (fun i => s.enabled (.string i))) startString

/-- The sources that apply their reaction again at an entry to CHARGE, RUN or RIDE (R473). -/
def reapply (s : Dev) : Dev := s.each ((liveSrcs s).filter (fun n => srcSevere s n || causeActive s n)) (fun n d => d.post (.react n))

/-- The carries return to 0 at an entry to RUN (R170); a string's start does the same at an entry to CHARGE. -/
def clearCarries (s : Dev) : Dev := { s with legs := s.legs.map (fun w => (w.1, { w.2 with carry := 0 })) }

/-- Enter a mode (R69, R78): the mode register, the record, and what the entry does to strings, nodes, links and pairs. -/
def enterMode (m : Mode) (why : Nat) (s : Dev) : Dev :=
  let old := s.mode
  let s := ((((s.p bDev F.DEV_MODE_PREV old.code).p bDev F.DEV_MODE_MODE m.code).p bDev F.DEV_MODE_TRANS 0).p bDev F.DEV_MODE_CAUSE why).p
    bDev F.DEV_MODE_CHARGE_DONE 0
  let ride := rideActive s
  let s := { s with ms := { s.ms with
    entered := s.tick, stop := none, changed := s.ms.changed || why == 4 || why == 5 || why == 9,
    rideFrom := if m == Mode.charge && ride then some s.tick else none,
    settleFrom := if m == Mode.ride && !ride then some s.tick else none } }
  let s := modeRec m.code old.code why (s.irq F.DEV_IRQ_STATUS_MODE)
  let s := refreshAux (refreshTokens s)
  match m with
  | .load => s
  | .hold => serveSelfTests (enabledNodes s) ((s.each (upto 8) settleChange).each (upto 8) stopString)
  | .charge => reapply (s.each (enabledNodes s) (fun n d => sendDetect n 2 d) |> startStrings)
  | .run => reapply (s.each (enabledNodes s) detectDesat |> clearCarries)
  | .ride => reapply (s.each (enabledNodes s) detectDesat)
  | .safe =>
    let s := safeStates ((s.each (upto 8) settleChange).each (enabledNodes s) (fun n d => sendDetect n 2 d))
    let s := s.on (why == 4 && s.gb bSens F.ADC_INJ_CFG_TRIG_SAFE) injRequest
    serveSelfTests (enabledNodes s) (s.on (s.gb bFlt F.FAULT_PIN_CFG_ON_SAFE) assertPin)

/-- Re-evaluate what depends on whether a source with reaction RIDE is active (R68, R69). CHARGE passes on to RUN here only at the end of an interval of R68 that made the passage wait. -/
def rideChanged (s : Dev) : Dev :=
  let ride := rideActive s
  match s.mode with
  | .charge =>
    let waited := s.ms.rideFrom.isSome
    let s := { s with ms := { s.ms with rideFrom := if ride then (s.ms.rideFrom.or (some s.tick)) else none } }
    if waited && !ride && s.gb bDev F.DEV_MODE_CHARGE_DONE && s.gb bDev F.DEV_MODE_CFG_AUTO_RUN && s.ms.stop.isNone then enterMode .run 0x03 s else s
  | .ride => { s with ms := { s.ms with settleFrom := if ride then none else (s.ms.settleFrom.or (some s.tick)) } }
  | _ => s

/-- A mode reaction or shed action: RIDE from RUN, SAFE from any driving mode (R69, R71, R77). -/
def modeReaction (mode why : Nat) (s : Dev) : Dev :=
  if s.role == .standby then s
  else if mode = 2 then (if s.driveMode then enterMode .safe why s else s)
  else if mode = 1 then (if s.mode == .run && s.ms.stop.isNone then enterMode .ride 0x05 s else s)
  else s

/-! ### Reactions of a source (R473 to R477) -/

/-- The form a node reaction of a source commands (R353, R413, R414, R474). -/
def reactForm (s : Dev) (n node : Nat) (form : Option Form) : Form :=
  match formOfFaults (faulty s n) with
  | some f => f
  | none => if node = 2 then .block else form.getD (bypassForm s n)

/-- Take a reaction: node, string and mode field (R474 to R477). In LOAD and HOLD it changes nothing (R71, R477); a standby takes none of its own (R514). -/
def takeReaction (src : Nat) (r : Nat × Nat × Nat) (why : Nat) (form : Option Form) (mirror : Bool) (s : Dev) : Dev :=
  if s.mode == .load || s.mode == .hold || (s.role == .standby && !mirror) then s
  else
    let halt (i : Nat) (s : Dev) : Dev := if s.kind i = 1 then modeReaction 2 why s else haltString src i s
    let s := match srcNode s src with
      | some n =>
        if r.1 = 0 then s
        else match cellPos s n, s.stringOf n with
          | some (i, k), _ => reactCell src i k n (reactForm s n r.1 form) s
          | none, some (i, _) => halt i s
          | none, none => s
      | none => s
    let s := match srcString s src with
      | some i => if r.2.1 = 1 && s.enabled (.string i) then halt i s else s
      | none => s
    modeReaction r.2.2 why s

/-! ### Events (R469 to R473, R478, R489) -/

/-- Take an event: count it, classify it, record it, react to it. -/
def takeEvent (e : Ev) (s : Dev) : Dev :=
  let n := e.src
  let b := bFltState n
  let was := s.srcState n
  let x := s.src n
  let s := match x.win with
    | some _ => s
    | none => s.setSrc n (fun x => { x with win := some (s.tick + windowTicks s n), first := s.flt.rseq % 4294967296 })
  let s := s.on e.cause.isSome (fun s => (s.setSrc n (fun x => { x with causes := if x.causes.contains e.kind then x.causes else x.causes ++ [e.kind] })).p b F.FLT_STATE_CAUSE 1)
  let count := min (s.g b F.FLT_STATE_COUNT + 1) 255
  let s := (s.p b F.FLT_STATE_COUNT count).inc b F.FLT_STATE_EVENTS
  let lim := s.g (bFltPol n) F.FLT_CNT_N
  let sev := kindSevere e.kind || e.severe || (lim != 0 && count ≥ lim)
  let now := if was == 2 || sev then 2 else 1
  let floor := floorOf s n e.kind e.safe
  let s := (s.setSrc n (fun x => { x with floors := stronger x.floors floor })).p b F.FLT_STATE_STATE now
  let conf := if was == 2 then (0, 0, 0) else if now == 2 then stronger (configured s n false) (configured s n true) else configured s n false
  let r := stronger conf floor
  let byte := r.1 + 4 * r.2.1 + 16 * r.2.2
  let s := if now == 2 && was != 2 then hardRec (srcRec s 2 n e.kind byte e) s else softRec (srcRec s 1 n e.kind byte e) (was == 0) s
  let s := s.on (now == 2 && was != 2) (fun s => assertPin (s.irq F.DEV_IRQ_STATUS_SEVERE))
  let s := s.on (s.gb (bFltPol n) F.FLT_REACT_FPIN) assertPin
  let s := s.on (s.gb (bFltPol n) F.FLT_REACT_TRACE) (traceTrigger (some n))
  let why := if e.safe then 0x09 else 0x04
  let s := takeReaction n (r.1, r.2.1, if e.mute then 0 else r.2.2) why e.form e.mirror s
  rideChanged s

/-- The end of a cause (R470, R471, R482). -/
def endCause (e : Ev) (s : Dev) : Dev :=
  let n := e.src
  let b := bFltState n
  if (s.src n).causes.contains e.kind then
    let s := s.setSrc n (fun x => { x with causes := x.causes.filter (· != e.kind) })
    if (s.src n).causes.isEmpty then
      let s := s.p b F.FLT_STATE_CAUSE 0
      let s := s.on ((s.src n).win.isNone && s.srcState n == 1) (fun s => s.p b F.FLT_STATE_STATE 0)
      rideChanged (softRec (srcRec s 4 n e.kind 0 e) false s)
    else s
  else s

/-- The sources whose events a standby takes only from the mirror (R514): node channels, strings, rate groups, loops and monitors. -/
def mirrorOnly (n : Nat) : Bool := n < 0xC0 || (0x120 ≤ n && n < 0x138) || (0x160 ≤ n && n < 0x170)

/-- Take one piece of work. A cause that is active already is no new event (R470). -/
def takeDue (w : Due) (s : Dev) : Dev :=
  match w with
  | .event e =>
    if s.role == .standby && !e.mirror && mirrorOnly e.src then s
    else match e.cause with
    | some false => endCause e s
    | some true => if (s.src e.src).causes.contains e.kind then s else takeEvent e s
    | none => takeEvent e s
  | .mode m why => enterMode m why s
  | .react n => takeReaction n (effective s n) 0x04 none false s
  | .ride => rideChanged s

/-- Take everything that waits, oldest first; `fuel` bounds the work one command can cause. -/
def settleN : Nat → Dev → Dev
  | 0, s => s
  | fuel + 1, s =>
    match s.due with
    | [] => s
    | w :: t => settleN fuel (takeDue w { s with due := t })

/-- Take everything that waits. -/
def settle (s : Dev) : Dev := settleN (4 * s.due.length + 256) s

/-! ### The stop sequence (R73, R74) -/

/-- The largest DMAX, in ticks, over the ports of the enabled node channels (R73). -/
def dMax (s : Dev) : Nat := ((enabledNodes s).map (fun n => s.g (bPort (s.portOf n)) F.LNK_PCFG_DMAX)).foldl max 0

/-- Begin the stop sequence (R73): the safe state of every enabled node is commanded, and its echoes are awaited. -/
def beginStop (s : Dev) : Dev :=
  let s := s.p bDev F.DEV_MODE_TRANS 1
  let s := { s with ms := { s.ms with stop := some (s.tick + 4096 + 2 * dMax s) } }
  s.each (enabledNodes s) (fun n d =>
    let es := formEdges d n (formOf (d.g (bNode n) F.NODE_HOLD_SAFE)) false (earliest d (d.portOf n))
    (sendFences n es d).setNode n (fun x => { x with stopAwait := es.map (fun e => (e.leg, e.tExec)) }))

/-- The stop sequence is in progress (R73, R77). -/
def stopping (s : Dev) : Bool := s.ms.stop.isSome

/-- Commits of the string are taken (R72, R73, R186, R476). -/
def commitsTaken (s : Dev) (i : Nat) : Bool := s.mode != .safe && !stopping s && !s.halted i

end Sys2Proof.Machine
end

