-- ==== Sys2Proof/Machine/Loops.lean ====
section
/-! DEFINITION. Loop engines: signals (R306 to R309), the laws (R316 to R323), trackers (R324, R325), competition (R326 to R329), the oscillation detector (R330 to R333), dependency levels (R334 to R336), placement (R340 to R342) and the firing of a rate group (R297 to R305). -/

namespace Sys2Proof.Machine

def Dev.rg (s : Dev) (g : Nat) : RgSt := tget (fun _ => rgSt0) s.rgs g
def Dev.setRg (s : Dev) (g : Nat) (f : RgSt → RgSt) : Dev := { s with rgs := tset (fun _ => rgSt0) s.rgs g (f (s.rg g)) }
def Dev.trk (s : Dev) (k : Nat) : TrkSt := tget (fun _ => trkSt0) s.trks k

/-! ### Trackers (R324, R325) -/

/-- The angle of tracker k at tick t, on the publication that held at that tick. -/
def trackerAngle (s : Dev) (k t : Nat) : Nat :=
  let x := s.trk k
  let p := if t < x.since then x.was else x.now
  if p.n = 0 then p.angle else (((p.angle : Int) + (p.delta * ((t : Int) - p.tick)) / (p.n : Int)) % 4294967296).toNat

/-- The sector of a GRID group at the present tick. -/
def sectorNow (s : Dev) (g : Nat) : Nat := trackerAngle s (s.g (bRg g) F.RG_CFG_TRK) s.tick * (s.g (bRg g) F.RG_CFG_DIV + 1) / 4294967296

/-- A GRID group records the sector of the first angle it sees, and does not fire at that tick (R325). -/
def seeSector (g : Nat) (s : Dev) : Dev :=
  if s.enabled (.rg g) && s.g (bRg g) F.RG_CFG_SRC == 1 && (s.trk (s.g (bRg g) F.RG_CFG_TRK)).pub && (s.rg g).sector.isNone then
    s.setRg g (fun x => { x with sector := some (sectorNow s g), firedAt := some s.tick })
  else s

/-! ### Signals (R306 to R308) -/

/-- The latest telemetry value of a quantity for a latch at tick t: value, sample time in ft, received at all (R307). -/
def teleAt (s : Dev) (n q t : Nat) : Int × Nat × Bool :=
  let x := s.tele n q
  if x.tick < t then (x.val, x.time, x.ok) else (x.pval, x.ptime, x.pok)

/-- A sample of instant `time` ft is fresh for a latch at tick t (R308). -/
def freshAt (s : Dev) (time t : Nat) : Bool :=
  let lim := s.g bLoopCom F.LOOP_CFG_TSTALE
  lim == 0 || t * 64 ≤ time + lim * 64

/-- The latest value of a quantity now, with its freshness (R308). -/
def teleNow (s : Dev) (n q : Nat) : Int × Bool :=
  let x := s.tele n q
  (x.val, x.ok && freshAt s x.time s.tick)

/-- A voltage in units of 2^-16 V lies outside the cell window of string i (R370). -/
def outOfWin (s : Dev) (i : Nat) (v : Int) : Bool :=
  v < (s.g (bStr i) F.STR_CELL_WIN_WIN_LO : Int) * 65536 || (s.g (bStr i) F.STR_CELL_WIN_WIN_HI : Int) * 65536 < v

/-- Quantity 0 of a node is fresh and lies in the window of string i (R369, R370). -/
def inWindow (s : Dev) (i n : Nat) : Bool := let v := teleNow s n 0; v.2 && !outOfWin s i v.1

/-- Keep the tick since which quantity 0 of a node has been fresh and in its window without a break (R369). -/
def noteWindow (i n : Nat) (s : Dev) : Dev :=
  let from_ := match (s.node n).inWin with | some w => if freshAt s w.2 s.tick then w.1 else s.tick | none => s.tick
  let w := if inWindow s i n then some (from_, (s.tele n 0).time) else none
  s.setNode n (fun x => { x with inWin := w })

/-- CELL_V_WINDOW is tested for the position of a cell node: in RUN and RIDE, an ACTIVE one that is stale or outside its window (R370, R470). -/
def testWindow (i k n : Nat) (s : Dev) : Dev :=
  let out := (s.mode == .run || s.mode == .ride) && posState s i k == 0 && !inWindow s i n
  (s.on (out && !(s.node n).winOut) (raise (0x60 + n) 0x101A)).setNode n (fun x => { x with winOut := out })

/-- A refresh is requested for a period of a leg whose schedule instant is tick t (R400). -/
def refreshDue (s : Dev) (n y t : Nat) : Bool :=
  let b := bProf (s.profOf n y)
  let age := s.g b F.PROF_BS_BS_AGE
  let v := teleNow s n (14 + 2 * y + 1)
  bitOf (s.gF (bNode n) F.NODE_BS_LEGS) y &&
    ((age != 0 && (s.leg n y).lastLow + age * 250 < t) || (v.2 && v.1 * 10 < (s.g b F.PROF_BS_BS_MIN : Int) * 65536))

/-- The scale of quantity q for a node channel (R307). -/
def teleScale (s : Dev) (n q : Nat) : Int × Nat :=
  if s.isCell n then (sgn 27 (s.g bLoopTab (F.LOOP_TSCALE_C_C.at q)), s.g bLoopTab (F.LOOP_TSCALE_C_S.at q))
  else (sgn 27 (s.g bLoopTab (F.LOOP_TSCALE_L_C.at q)), s.g bLoopTab (F.LOOP_TSCALE_L_S.at q))

/-- The string whose slot range holds slot j, among the enabled ones. -/
def slotOwner (s : Dev) (j : Nat) : Option Nat :=
  (upto 8).find? (fun i => s.enabled (.string i) && (let r := slotRange s i; r.1 ≤ j && j < r.1 + r.2))

/-- An enabled auxiliary pair with SRC = SLOT takes slot j. -/
def auxSlot (s : Dev) (j : Nat) : Bool :=
  (upto 8).any (fun p => s.enabled (.aux p) && s.gb (bAux p) F.AUX_CFG_SRC && s.g (bAux p) F.AUX_CFG_SLOT == j)

/-- The value in force of modulation reference slot j (R149, R198, R306): what a commit has brought into force for a HOST string or an auxiliary pair, else what was last written, by a loop or, for a slot of no string, by the host. -/
def slotNow (s : Dev) (j : Nat) : Word :=
  let byCommit := match slotOwner s j with
    | some i => s.gb (bStr i) F.STR_CFG_SRC
    | none => auxSlot s j
  if byCommit then s.rdF (refAddr j) else tget (fun _ => 0#32) s.slotVals j

/-- A reserved signal number (R306, R459). -/
def sigReserved (n : Nat) : Bool :=
  !( (n < 0x20) || (0x20 ≤ n && n < 0x38) || (0x40 ≤ n && n < 0x58) || (0x60 ≤ n && n < 0x78) || (0x400 ≤ n && n < 0x1C00)
    || (0x2000 ≤ n && n ≤ 0x2802) || (0x2808 ≤ n && n ≤ 0x280A) || (0x2820 ≤ n && n < 0x2900) || (0x2900 ≤ n && n < 0x2A00))

/-- The snapshot value of a signal and whether it is stale, for a firing and its latch tick (R306). -/
def signalAt (s : Dev) (tf since latch n : Nat) : Int × Bool :=
  if n < 0x400 then (sensSignal s latch n).getD (0, false)
  else if n < 0x1C00 then
    let c := (n - 0x400) / 64
    let q := (n - 0x400) % 64
    let x := teleAt s c q latch
    if x.2.2 then let k := teleScale s c q; (sat32 (term x.1 k.1 k.2), !freshAt s x.2.1 latch) else (0, true)
  else if 0x2000 ≤ n ∧ n < 0x2800 then (s.gi (bLoopS (n - 0x2000)) F.LS_Y_V, false)
  else if n = 0x2801 then (16777216, false)
  else if n = 0x2802 then (-16777216, false)
  else if n = 0x2808 then (sgn 32 tf, false)
  else if n = 0x2809 then (sgn 32 since, false)
  else if n = 0x280A then (s.mode.code, false)
  else if 0x2820 ≤ n ∧ n < 0x2830 then (sgn 32 (trackerAngle s (n - 0x2820) latch), false)
  else if 0x2830 ≤ n ∧ n < 0x2840 then ((s.trk (n - 0x2830)).amp, false)
  else if 0x2840 ≤ n ∧ n < 0x2900 then (s.gi bLoopTab (F.LOOP_CONST_VALUE.at (n - 0x2840)), false)
  else if 0x2900 ≤ n ∧ n < 0x2A00 then (sgn 32 (slotNow s (n - 0x2900)).toNat, false)
  else (0, false)

/-! ### Descriptors (R313, R314) -/

def law (s : Dev) (i : Nat) : Nat := s.g (bLoopD i) F.LD_CFG_LAW
def loopRg (s : Dev) (i : Nat) : Nat := s.g (bLoopD i) F.LD_CFG_RG
def compGroup (s : Dev) (i : Nat) : Nat := s.g (bLoopD i) F.LD_CFG_GROUP

/-- The signal of input k of a loop. -/
def inSig (s : Dev) (i k : Nat) : Nat :=
  let b := bLoopD i
  match k with | 0 => s.g b F.LD_SRC01_SIG0 | 1 => s.g b F.LD_SRC01_SIG1 | 2 => s.g b F.LD_SRC23_SIG2 | _ => s.g b F.LD_SRC23_SIG3

/-- The number of inputs a law reads. -/
def inputsOf (l : Nat) (alpha : Bool) : List Nat :=
  match l with | 2 => [0, 1, 2] | 3 => [0] | 4 => [0, 1] | 6 => if alpha then [0, 1] else [0, 1, 2] | _ => [0, 1, 2, 3]

/-- The enabled loops, in order of index. -/
def enabledLoops (s : Dev) : List Nat :=
  (s.ms.occ.filterMap (fun w => if 3 * 4096 ≤ w.1 ∧ w.1 < 3 * 4096 + 2048 then some (w.1 - 3 * 4096) else none)).filter (fun i => s.enabled (.loop i))

/-- The signals loop i reads, with whether each reads the current value (R334): inputs of its law, and ANGLE for ROTATE. -/
def reads (s : Dev) (i : Nat) : List (Nat × Bool) :=
  let prev := s.g (bLoopD i) F.LD_ROUTE_PREV
  let ins := (inputsOf (law s i) (s.gb (bLoopD i) F.LD_ROUTE_ALPHA)).map (fun k => (inSig s i k, !bitOf prev k))
  if law s i = 5 then ins ++ [(s.g (bLoopD i) F.LD_ANGLE_ANGLE, true)] else ins

/-- The loops whose current output loop i reads (R334). -/
def currentDeps (s : Dev) (i : Nat) : List Nat :=
  (reads s i).filterMap (fun r =>
    if r.2 && 0x2000 ≤ r.1 && r.1 < 0x2800 && loopRg s (r.1 - 0x2000) == loopRg s i then some (r.1 - 0x2000) else none)

/-- The loops whose levels give the level of loop i (R335). A member of its own competition group gives none: such a read is the fault of 0x060C (R326), not of the depth [DEDUCED, see the log, entry 30]. -/
def levelDeps (s : Dev) (i : Nat) : List Nat :=
  (currentDeps s i).filter (fun j => compGroup s i = 0 || compGroup s j != compGroup s i)

/-- One round of the level rule over a list of loops (R335): a level above 16 stays 17. -/
def levelRound (s : Dev) (l : List Nat) (t : Tbl Nat) : Tbl Nat :=
  let own := l.map (fun i => (i, (levelDeps s i).foldl (fun m j => max m (min 17 (tget (fun _ => 0) t j + 1))) 0))
  own.foldl (fun acc w =>
    let g := compGroup s w.1
    let v := if g = 0 then w.2 else (own.filter (fun u => compGroup s u.1 == g && loopRg s u.1 == loopRg s w.1)).foldl (fun m u => max m u.2) 0
    tset (fun _ => 0) acc w.1 v) []

/-- The dependency levels of a list of loops (R335): 17 where the dependencies form a cycle or exceed 16. -/
def levels (s : Dev) (l : List Nat) : Nat → Tbl Nat
  | 0 => []
  | n + 1 => levelRound s l (levels s l n)

/-- Write the levels of the enabled loops, and the loop counts (R335, R345). -/
def refreshLevels (s : Dev) : Dev :=
  let l := enabledLoops s
  let t := levels s l 18
  let s := s.each l (fun i d => d.p (bLoopStat i) F.LOOP_STAT_LEVEL (tget (fun _ => 0) t i))
  (s.p bLoopCom F.LOOP_STATUS_ENABLED l.length).p bLoopCom F.LOOP_STATUS_DEPTH (l.foldl (fun m i => max m (tget (fun _ => 0) t i)) 0)

/-! ### Engines (R340 to R342) -/

def engOut (s : Dev) (e : Nat) : Bool := s.gb bLoopTab (F.ENG_LOAD_OUT.at e)
def engineOf (s : Dev) (i : Nat) : Nat := s.g (bLoopStat i) F.LOOP_STAT_ENGINE
def levelOf (s : Dev) (i : Nat) : Nat := s.g (bLoopStat i) F.LOOP_STAT_LEVEL

/-- Loops of a list on engine e. -/
def onEngine (s : Dev) (l : List Nat) (e : Nat) : Nat := (l.filter (fun i => engineOf s i == e)).length

/-- The engine, among those not out, with the fewest of the listed loops; the lowest number on a tie. -/
def leastEngine (s : Dev) (l : List Nat) : Nat :=
  let free := (upto 16).filter (fun e => !engOut s e)
  free.foldl (fun best e => if onEngine s l e < onEngine s l best then e else best) (free.headD 0)

/-- Bring ENG_LOAD.PLACED into line. -/
def refreshPlaced (s : Dev) : Dev :=
  let l := enabledLoops s
  s.each (upto 16) (fun e d => d.p bLoopTab (F.ENG_LOAD_PLACED.at e) (onEngine d l e))

/-- The enabled loops of a group at a level, but for one. -/
def peers (s : Dev) (g lev but : Nat) : List Nat := (enabledLoops s).filter (fun i => loopRg s i == g && levelOf s i == lev && i != but)

/-- Place a loop on the engine of R340 that holds the fewest. -/
def placeLeast (i : Nat) (s : Dev) : Dev := s.p (bLoopStat i) F.LOOP_STAT_ENGINE (leastEngine s (peers s (loopRg s i) (levelOf s i) i))

/-- Place a loop (R340). -/
def placeLoop (i : Nat) (s : Dev) : Dev :=
  if s.gb (bLoopD i) F.LD_CFG_PIN then s.p (bLoopStat i) F.LOOP_STAT_ENGINE (s.g (bLoopD i) F.LD_CFG_ENGINE) else placeLeast i s

/-- One adaptive move of R341 among the loops of a group: on a tie the lower level and the lower engine; none where the two engines are the same (DESIGN CHOICE, log entry 101). -/
def migrateOne (g : Nat) (s : Dev) : Dev :=
  let l := (enabledLoops s).filter (fun i => loopRg s i == g)
  let at' (lev : Nat) : List Nat := l.filter (fun i => levelOf s i == lev)
  let cands := (upto 16).flatMap (fun lev => (upto 16).map (fun e => (lev, e, onEngine s (at' lev) e)))
  let top := cands.foldl (fun best c => if c.2.2 > best.2.2 then c else best) (0, 0, 0)
  let dest := leastEngine s (at' top.1)
  let movable := (at' top.1).filter (fun i => engineOf s i == top.2.1 && !s.gb (bLoopD i) F.LD_CFG_PIN)
  match movable.getLast? with
  | some i => s.p (bLoopStat i) F.LOOP_STAT_ENGINE dest
  | none => s

/-- The wheel boundary of a group (R341, R342). -/
def wheelBoundary (g : Nat) (s : Dev) : Dev :=
  let s := s.each ((enabledLoops s).filter (fun i => loopRg s i == g && engOut s (engineOf s i))) placeLeast
  let s := if s.gb bLoopCom F.LOOP_CFG_PLACE then s
    else (upto (s.g bLoopCom F.LOOP_CFG_MIGRATE_MAX)).foldl (fun d _ => migrateOne g d) s
  refreshPlaced (s.setRg g (fun x => { x with boundary := false }))

/-- An engine fails its health self-test (R342, R466, R529). Its loops move at the next wheel boundary of each group. -/
def engineFails (e : Nat) (s : Dev) : Dev := if engOut s e then s else raise 0x191 0x1111 (s.p bLoopTab (F.ENG_LOAD_OUT.at e) 1)

/-! ### The laws (R317 to R323) -/

/-- Coefficient n of a loop and its shift, in force. -/
def coef (s : Dev) (i n : Nat) : Int × Nat :=
  (sgn 32 (s.rdF (bLoopD i + F.LD_C.off + 4 * n)).toNat, getBits (s.rdF (bLoopD i + F.LD_SHIFT.off)) (5 * n) 5)

/-- A sum in accumulator units back to a signal (R312): the value and whether a saturation changed it. -/
def conv (a : Int) : Int × Bool :=
  let x := sat72 a
  let r := rnd x 8
  (sat32 r, x != a || sat32 r != r)

def limLo (s : Dev) (i : Nat) : Int := s.gi (bLoopD i) F.LD_LIM_LO_LO
def limHi (s : Dev) (i : Nat) : Int := s.gi (bLoopD i) F.LD_LIM_HI_HI

/-- The integrator S0 of a loop, in accumulator units. -/
def integ (s : Dev) (i : Nat) : Int := sgn 64 (s.g (bLoopS i) F.LS_S0L_V + 4294967296 * s.g (bLoopS i) F.LS_S0H_V)

/-- The two words of an integrator. -/
def integWords (v : Int) : List (Nat × Int) := [(F.LS_S0L.off, v % 4294967296), (F.LS_S0H.off, v / 4294967296 % 4294967296)]

/-- The integrator step of R318. -/
def integStep (i0 inc ff yp lo hi : Int) : Int :=
  let a := i0 + inc
  let a := if ff + yp + a > hi ∧ a > i0 then max i0 (hi - ff - yp) else a
  let a := if ff + yp + a < lo ∧ a < i0 then min i0 (lo - ff - yp) else a
  clampI a lo hi

/-- What a law leaves: candidate, detector input, integrator if it has one, ff and yp, state words, saturation, the gain of the proportional term, tracker data. -/
structure LawOut where
  y : Int
  z : Option Int
  i : Option Int
  ff : Int
  yp : Int
  st : List (Nat × Int)
  sat : Bool
  prop : Nat → Int
  trk : Option (Int × Int × Int)

/-- The end of every law (R316): candidate from the sum, clamped to the limits. -/
def finish (s : Dev) (i : Nat) (a : Int) : Int × Bool :=
  let v := conv a
  (clampI v.1 (limLo s i) (limHi s i), v.2)

/-- A law on its inputs, with its angle for ROTATE, at halving count gh (R317 to R323). -/
def evalLaw (s : Dev) (i : Nat) (x : Nat → Int) (ang : Int) (gh : Nat) : LawOut :=
  let c (n : Nat) : Int × Nat := coef s i n
  let t (v : Int) (n : Nat) : Int := term v (c n).1 (c n).2
  let vl (n : Nat) : Int := valC (c n).1 (c n).2
  let lo := limLo s i * 256
  let hi := limHi s i * 256
  let b := bLoopS i
  let plain (a : Int) (st : List (Nat × Int)) (sat : Bool) : LawOut :=
    let f := finish s i a
    { y := f.1, z := none, i := none, ff := 0, yp := 0, st := st, sat := sat || f.2, prop := fun _ => 0, trk := none }
  match law s i with
  | 1 =>
    let e := conv (t (x 0) 0 + t (x 1) 1 + t (x 2) 2)
    let ff := t (x 3) 3
    let prop (g : Nat) : Int := term e.1 (c 4).1 ((c 4).2 + g)
    let yp := prop gh
    let k := integStep (integ s i) (term e.1 (c 5).1 ((c 5).2 + gh)) ff yp lo hi
    let f := finish s i (ff + yp + k)
    { y := f.1, z := some e.1, i := some k, ff := ff, yp := yp, st := [], sat := e.2 || f.2, prop := prop, trk := none }
  | 2 =>
    let e := conv (t (x 0) 0 + t (x 1) 1)
    let ff := x 2 * 256
    let d0 := s.gi b F.LS_S1_V
    let ep := s.gi b F.LS_S2_V
    let de := sat32 (e.1 - ep)
    let d := conv (term d0 (c 5).1 (c 5).2 + term de (c 4).1 ((c 4).2 + gh))
    let prop (g : Nat) : Int := term e.1 (c 2).1 ((c 2).2 + g)
    let yp := prop gh + d.1 * 256
    let k := integStep (integ s i) (term e.1 (c 3).1 ((c 3).2 + gh)) ff yp lo hi
    let f := finish s i (ff + yp + k)
    { y := f.1, z := some e.1, i := some k, ff := ff, yp := yp, st := [(F.LS_S1.off, d.1), (F.LS_S2.off, e.1)],
      sat := e.2 || d.2 || de != e.1 - ep || f.2, prop := prop, trk := none }
  | 3 =>
    let u := conv (t (x 0) 0)
    let u1 := s.gi b F.LS_S0L_V
    let u2 := s.gi b F.LS_S0H_V
    let y1 := s.gi b F.LS_YC_V
    let y2 := s.gi b F.LS_S1_V
    plain (t u.1 1 + t u1 2 + t u2 3 - t y1 4 - t y2 5) [(F.LS_S0L.off, u.1), (F.LS_S0H.off, u1), (F.LS_S1.off, y1)] u.2
  | 4 =>
    let u := conv (t (x 0) 0 + t (x 1) 1)
    let y1 := s.gi b F.LS_YC_V
    plain ((y1 + clampI (u.1 - y1) (-(rnd (vl 3) 8)) (rnd (vl 2) 8)) * 256) [] u.2
  | 5 =>
    let w (k : Nat) : Int :=
      let ph := getBits (s.rd (bLoopD i + F.LD_ANGLE.off)) (16 + 4 * k) 4
      rnd (x k * cosW ((ang - (ph * 357913941 : Nat)) % 4294967296).toNat) 24
    plain (t (w 0) 0 + t (w 1) 1 + t (w 2) 2 + t (w 3) 3) [] false
  | 6 =>
    let th := s.g b F.LS_S1_V
    let alpha := s.gb (bLoopD i) F.LD_ROUTE_ALPHA
    let va := if alpha then x 0 else rnd ((2 * x 0 - x 1 - x 2) * 5592405) 24
    let vb := if alpha then x 1 else rnd ((x 1 - x 2) * 9686330) 24
    let co := cosW th
    let si := sinW th
    let dr := rnd (va * co + vb * si) 24
    let qr := rnd (vb * co - va * si) 24
    let d := sat32 dr
    let q := sat32 qr
    let den := max d (rnd (vl 3) 8)
    let er := signI q * (((absI q * 16777216 + (den / 2).toNat) / den.toNat : Nat) : Int)
    let e := if s.gb (bLoopD i) F.LD_ROUTE_NORM then sat32 er else q
    let sn := s.gb (bLoopD i) F.LD_ROUTE_NORM && sat32 er != er
    let ff := vl 4
    let prop (g : Nat) : Int := term e (c 0).1 ((c 0).2 + g)
    let yp := prop gh
    let k := integStep (integ s i) (term e (c 1).1 ((c 1).2 + gh)) ff yp lo hi
    let f := finish s i (ff + yp + k)
    let delta := rnd (f.1 * (c 2).1) (c 2).2
    { y := f.1, z := some e, i := some k, ff := ff, yp := yp,
      st := [(F.LS_S1.off, ((th : Int) + delta) % 4294967296), (F.LS_S2.off, d)],
      sat := d != dr || q != qr || sn || f.2, prop := prop, trk := some (th, delta, d) }
  | _ => plain (t (x 0) 0 + t (x 1) 1 + t (x 2) 2 + t (x 3) 3 + vl 4) [] false

/-! ### The oscillation detector (R330 to R332) -/

/-- The detector on z: the words LS_ENV and LS_OSC, and the kinds to raise at publication. -/
def detector (s : Dev) (i : Nat) (z : Int) : Word × Word × List Nat :=
  let b := bLoopD i
  let o := s.rd (bLoopS i + F.LS_OSC.off)
  let en := s.rd (bLoopS i + F.LS_ENV.off)
  let wpos := getBits o 0 8
  let scnt := getBits o 8 5
  let lsign := getBits o 13 1 == 1
  let lvalid := getBits o 14 1 == 1
  let gh := getBits o 15 3
  let quiet := getBits o 18 4
  let frozen := getBits o 22 1 == 1
  let big := absI z > s.g b F.LD_OSC_DB * 4096
  let scnt := if big && lvalid && decide (z < 0) != lsign then min (scnt + 1) 31 else scnt
  let lsign' := if big then decide (z < 0) else lsign
  let lvalid' := lvalid || big
  let ecur := max (getBits en 0 16) (min (absI z / 4096) 65535)
  let eprev := getBits en 16 16
  let pack (wpos scnt gh quiet : Nat) (fr : Bool) : Word :=
    w32 (wpos % 256 + 256 * scnt + 2 ^ 13 * b2n lsign' + 2 ^ 14 * b2n lvalid' + 2 ^ 15 * gh + 2 ^ 18 * quiet + 2 ^ 22 * b2n fr)
  let action := s.g b F.LD_OSC_ACTION
  if wpos + 1 ≥ s.g b F.LD_OSC_WIN then
    let det := action != 0 && scnt ≥ s.g b F.LD_OSC_NCNT && (!s.gb b F.LD_OSC_ENV || ecur ≥ eprev)
    let env := w32 (65536 * ecur)
    if det then
      match action with
      | 2 =>
        if gh < s.g b F.LD_OSC_GH_MAX then (env, pack 0 0 (gh + 1) 0 frozen, [0x102A]) else (env, pack 0 0 gh 0 frozen, [0x102A, 0x102B])
      | 3 => (env, pack 0 0 gh 0 true, [0x102A])
      | 4 => (env, pack 0 0 gh 0 true, [0x102A, 0x102C])
      | _ => (env, pack 0 0 gh 0 frozen, [0x102A])
    else
      let q := min (quiet + 1) 15
      if action == 2 && gh > 0 && q ≥ s.g b F.LD_OSC_RESTORE then (env, pack 0 0 (gh - 1) 0 frozen, [])
      else (env, pack 0 0 gh q frozen, [])
  else (w32 (ecur + 65536 * eprev), pack (wpos + 1) scnt gh quiet frozen, [])

/-! ### A firing (R304, R309, R327 to R329, R334 to R337) -/

/-- What one loop gives before competition. -/
structure LoopEval where
  loop : Nat
  out : LawOut
  env : Word
  osc : Word
  kinds : List Nat
  stale : Bool

/-- The value and staleness an input reads: the current output of a lower level, or the snapshot (R306, R334). -/
def readSig (s : Dev) (g : Nat) (snap : List (Nat × Word × Bool)) (cur : Tbl (Option Int)) (sig : Nat) (now : Bool) : Int × Bool :=
  let fromSnap : Int × Bool := match snap.find? (fun w => w.1 == sig) with | some w => (sgn 32 w.2.1.toNat, w.2.2) | none => (0, false)
  if now && 0x2000 ≤ sig && sig < 0x2800 && loopRg s (sig - 0x2000) == g then
    match tget (fun _ => none) cur (sig - 0x2000) with | some y => (y, false) | none => fromSnap
  else fromSnap

/-- Evaluate one loop, unless it is skipped (R304, R309, R333): the answer is none for a skipped loop, with whether it is held by a stale input and whether an input was stale. -/
def evalLoop (s : Dev) (f : Firing) (g : Nat) (cur : Tbl (Option Int)) (i : Nat) : Option LoopEval × Bool × Bool :=
  let b := bLoopD i
  let o := s.rd (bLoopS i + F.LS_OSC.off)
  if getBits o 22 1 == 1 || !(f.mode != 0 && bitOf (s.g b F.LD_CFG_MODES) f.mode) then (none, false, false)
  else
    let prev := s.g b F.LD_ROUTE_PREV
    let rd (k : Nat) : Int × Bool := readSig s g f.snap cur (inSig s i k) (!bitOf prev k)
    let used := inputsOf (law s i) (s.gb b F.LD_ROUTE_ALPHA)
    let ang : Int × Bool := if law s i = 5 then readSig s g f.snap cur (s.g b F.LD_ANGLE_ANGLE) true else (0, false)
    let stale := used.any (fun k => (rd k).2) || ang.2
    if stale && s.gb b F.LD_CFG_STALE_HOLD then (none, true, true)
    else
      let gh := getBits o 15 3
      let r := evalLaw s i (fun k => if used.contains k then (rd k).1 else 0) ang.1 gh
      let z := r.z.getD (r.y - s.gi (bLoopS i) F.LS_YC_V)
      let d := detector s i z
      let gh' := getBits d.2.1 15 3
      let k := r.i.map (fun v => if gh' == gh then v else clampI (v + r.prop gh - r.prop gh') (limLo s i * 256) (limHi s i * 256))
      (some { loop := i, out := { r with i := k }, env := d.1, osc := d.2.1, kinds := d.2.2, stale := stale }, false, stale)

/-- The registers a loop publishes: the state block, with its output (R300, R315). -/
def publishRegs (e : LoopEval) (y yc : Int) : List (Nat × Word) :=
  let b := bLoopS e.loop
  ([(F.LS_Y.off, y), (F.LS_YC.off, yc)] ++ e.out.st ++ (match e.out.i with | some v => integWords v | none => [])).map (fun w => (b + w.1, BitVec.ofInt 32 w.2))
    ++ [(b + F.LS_ENV.off, e.env), (b + F.LS_OSC.off, e.osc)]

/-- The slot a loop writes (R314). -/
def slotOf (s : Dev) (i : Nat) : Option Nat := if s.gb (bLoopD i) F.LD_ROUTE_SLOT_EN then some (s.g (bLoopD i) F.LD_ROUTE_SLOT) else none

/-- A slot among published values is marked by an address above the register map. -/
def slotKeyOf (j : Nat) : Nat := 0x1000000 + j

/-- The result of a loop that won its group or competes with none. -/
def winnerRes (s : Dev) (e : LoopEval) (win : Bool) : LoopRes :=
  { loop := e.loop, regs := publishRegs e e.out.y e.out.y ++ (match slotOf s e.loop with | some j => [(slotKeyOf j, BitVec.ofInt 32 e.out.y)] | none => []),
    sat := e.out.sat, stale := e.stale, skipped := false, held := false, osc := e.kinds, win := win, y := e.out.y, trk := e.out.trk }

/-- The result of a member that lost to `yw` (R327, R328). -/
def loserRes (s : Dev) (e : LoopEval) (yw : Int) : LoopRes :=
  let l := law s e.loop
  let e' := { e with out := { e.out with i := e.out.i.map (fun _ => clampI (yw * 256 - e.out.ff - e.out.yp) (limLo s e.loop * 256) (limHi s e.loop * 256)) } }
  { loop := e.loop, regs := publishRegs e' yw (if l = 4 then yw else e.out.y), sat := e.out.sat, stale := e.stale, skipped := false, held := false,
    osc := e.kinds, win := false, y := yw, trk := none }

/-- The results of one competition group among those evaluated (R327 to R329). -/
def compete (s : Dev) (all : List Nat) (es : List LoopEval) : List LoopRes :=
  match es with
  | [] => []
  | e0 :: rest =>
    let w := rest.foldl (fun best e => if e.out.y < best.out.y then e else best) e0
    let head := all.headD w.loop
    let slot : List (Nat × Word) := match slotOf s head with | some j => [(slotKeyOf j, BitVec.ofInt 32 w.out.y)] | none => []
    (es.map (fun e => if e.loop == w.loop then { winnerRes s e true with regs := publishRegs e e.out.y e.out.y } else loserRes s e w.out.y)).map
      (fun r => if r.loop == w.loop then { r with regs := r.regs ++ slot } else r)

/-- Evaluate one level of a group (R336): the results so far, and the current outputs. -/
def evalLevel (s : Dev) (f : Firing) (g : Nat) (l : List Nat) (acc : List LoopRes × Tbl (Option Int)) : List LoopRes × Tbl (Option Int) :=
  let tried := l.map (fun i => (i, evalLoop s f g acc.2 i))
  let skip := tried.filterMap (fun w => match w.2 with
    | (none, held, stale) => some { loop := w.1, regs := [], sat := false, stale := stale, skipped := true, held := held, osc := [], win := false, y := 0, trk := none : LoopRes }
    | _ => none)
  let ev := tried.filterMap (fun w => w.2.1)
  let alone := (ev.filter (fun e => compGroup s e.loop == 0)).map (fun e => winnerRes s e false)
  let groups := ((l.map (compGroup s)).filter (· != 0)).dedup
  let comp := groups.flatMap (fun q => compete s (l.filter (fun i => compGroup s i == q)) (ev.filter (fun e => compGroup s e.loop == q)))
  let done := alone ++ comp
  (acc.1 ++ done ++ skip, done.foldl (fun t r => tset (fun _ => none) t r.loop (some r.y)) acc.2)

/-- Evaluate a firing on its snapshot (R336, R337). -/
def evalFiring (s : Dev) (f : Firing) (g : Nat) : List LoopRes :=
  let l := (enabledLoops s).filter (fun i => loopRg s i == g)
  ((upto 16).foldl (fun acc lev => evalLevel s f g (l.filter (fun i => levelOf s i == lev)) acc) ([], [])).1

/-! ### Firing, latch, commit (R297 to R305, R324, R347) -/

/-- The power state is DOZE or SLEEP (R298, R625). -/
def asleep (s : Dev) : Bool := s.g bPwr F.PWR_STATE_STATE ≥ 2

/-- The enabled GRID_PLL loop that publishes on a tracker. -/
def pllOf (s : Dev) (k : Nat) : Option Nat := (enabledLoops s).find? (fun i => law s i == 6 && s.g (bLoopD i) F.LD_ROUTE_TRK == k)

/-- The source of a group exists (R298). -/
def sourceExists (s : Dev) (g : Nat) : Bool :=
  let b := bRg g
  s.enabled (.rg g) && s.mode != .load && !asleep s &&
    (match s.g b F.RG_CFG_SRC with
     | 0 => (s.str (s.g b F.RG_CFG_EVENT / 2)).started && !(s.str (s.g b F.RG_CFG_EVENT / 2)).waitFirst
     | 1 => (s.trk (s.g b F.RG_CFG_TRK)).pub
     | 2 => true
     | _ => false)

/-- Count an overrun (R301 to R303). -/
def overrun (g : Nat) (s : Dev) : Dev :=
  let c := min 15 (s.g (bRg g) F.RG_STATUS_CONSEC + 1)
  let s := ((s.inc (bRg g) F.RG_COUNT_OVERRUNS).p (bRg g) F.RG_STATUS_CONSEC c).p (bRg g) F.RG_STATUS_OVERRUN 1
  (s.setRg g (fun x => { x with boundary := x.boundary || !s.gb bLoopCom F.LOOP_CFG_PLACE })).post
    (.event { src := 0x128 + g, kind := 0x1028, cause := none, severe := c == 3, safe := false, form := none, time := none, hi := 0, data := [] })

/-- A GRID group fires at the present tick (R325): a forward crossing of angle 0 with DIV = 1, else a forward change of sector. -/
def gridFires (s : Dev) (g : Nat) : Bool :=
  let b := bRg g
  let div := s.g b F.RG_CFG_DIV + 1
  match (s.rg g).sector with
  | none => false
  | some old =>
    if div = 1 then
      let th := trackerAngle s (s.g b F.RG_CFG_TRK) s.tick
      let before := trackerAngle s (s.g b F.RG_CFG_TRK) (s.tick - 1)
      decide (th < before) && decide ((th + 4294967296 - before) % 4294967296 < 2147483648)
    else
      let adv := (sectorNow s g + div - old) % div
      decide (1 ≤ adv ∧ adv ≤ div / 2)

/-- The present tick holds a firing instant of a group's source (R297). -/
def firingDue (s : Dev) (g : Nat) : Bool :=
  let b := bRg g
  match s.g b F.RG_CFG_SRC with
  | 0 =>
    let st := s.str (s.g b F.RG_CFG_EVENT / 2)
    (if s.g b F.RG_CFG_EVENT % 2 = 0 then st.evS else st.evC).any (fun e => e.1 == s.tick && e.2 % (s.g b F.RG_CFG_DIV + 1) == 0)
  | 1 => gridFires s g
  | 2 => ((s.tick : Int) - s.g b F.RG_PHASE_PHASE) % s.g b F.RG_PERIOD_PERIOD == 0
  | _ => false

/-- The group can fire (R298): its source exists, and the module is in a role that evaluates loops. -/
def groupRuns (s : Dev) (g : Nat) : Bool := sourceExists s g && (s.role != .out || s.follows)

/-- A firing instant of a group (R297, R298, R303, R325, R341). In any other tick, and at a second time in one tick, nothing happens. -/
def fire (g : Nat) (s : Dev) : Dev :=
  if !groupRuns s g || !firingDue s g || (s.rg g).firedAt == some s.tick then s
  else
    let s := s.setRg g (fun x => { x with firedAt := some s.tick, sector := x.sector.map (fun _ => sectorNow s g) })
    if (s.rg g).fir.isSome then overrun g s
    else
      let x := s.rg g
      let s := s.on x.boundary (wheelBoundary g)
      let since := match x.lastTf with | some t => s.tick - t | none => 0
      (s.setRg g (fun x => { x with
          lastTf := some s.tick,
          fir := some { tf := s.tick, since := since, latched := false, latch := 0, snap := [], regs := [], force := [], mode := 0, res := [],
                        done := false, compared := false } })).inc (bRg g) F.RG_COUNT_FIRINGS

/-- The loops there are, enabled or not, in order of index. -/
def loopSlots (s : Dev) : List Nat := s.ms.occ.filterMap (fun w => if 3 * 4096 ≤ w.1 ∧ w.1 < 3 * 4096 + 2048 then some (w.1 - 3 * 4096) else none)

/-- Bring the shadows of every loop of a group into force (R113, R305, R355 step 4). -/
def loopCommit (g : Nat) (s : Dev) : Dev :=
  s.each ((loopSlots s).filter (fun i => loopRg s i == g)) (fun i d =>
    d.each (upto 7) (fun k d => let a := bLoopD i + F.LD_C.off + 4 * k; d.wrF a (d.rd a)))

/-- Thaw a loop (R333). -/
def thaw (i : Nat) (s : Dev) : Dev :=
  let b := bLoopS i
  let o := s.rd (b + F.LS_OSC.off)
  let e := s.rd (b + F.LS_ENV.off)
  let o := putBits (putBits (putBits (putBits (putBits o 0 8 0) 8 5 0) 14 1 0) 18 4 0) 22 1 0
  (s.wr (b + F.LS_OSC.off) o).wr (b + F.LS_ENV.off) (putBits e 0 16 0)

/-- The committing group of a string (R355): the enabled rate group whose RG_COMMITS names it. -/
def committing (s : Dev) (i : Nat) : Option Nat := (upto 8).find? (fun g => s.enabled (.rg g) && bitOf (s.g (bRg g) F.RG_COMMITS_STRINGS) i)

/-- The enabled MV_PHASE strings of which a group is the committing group. -/
def cellStrings (s : Dev) (g : Nat) : List Nat := (upto 8).filter (fun i => s.enabled (.string i) && s.kind i == 1 && committing s i == some g)

/-- The signals a group's latch reads: inputs of its loops, of monitors and of the trace (R511), and the phase sensors it watches (R368). -/
def groupSignals (s : Dev) (g : Nat) : List Nat :=
  (((enabledLoops s).filter (fun i => loopRg s i == g)).flatMap (fun i => (reads s i).map (·.1))
    ++ ((upto 16).filter (fun m => s.gb (bMon m) F.MON_CFG_EN && s.g (bMon m) F.MON_CFG_RG == g)).map (fun m => s.g (bMon m) F.MON_CFG_SIG)
    ++ (if s.g bFlt F.TRC_CFG_RG = g then (upto (s.g bFlt F.TRC_CFG_NSIG)).map (fun k =>
          s.g bFlt (if k % 2 = 0 then F.TRC_SIG_SIG_2k.at (k / 2) else F.TRC_SIG_SIG_2k_1.at (k / 2))) else [])
    ++ ((cellStrings s g).filter (fun i => s.gb (bStr i) F.STR_SUBST_EN)).map (fun i => s.g (bStr i) F.STR_SUBST_SIG)).dedup

/-- The snapshot of a firing at its latch instant (R299, R306). -/
def snapshot (s : Dev) (g tf since : Nat) : List (Nat × Word × Bool) :=
  (groupSignals s g).map (fun n => let v := signalAt s tf since s.tick n; (n, BitVec.ofInt 32 v.1, v.2))

/-- A value of a snapshot. -/
def snapVal (snap : List (Nat × Word × Bool)) (n : Nat) : Int × Bool :=
  match snap.find? (fun w => w.1 == n) with | some w => (sgn 32 w.2.1.toNat, w.2.2) | none => (0, false)

/-- One evaluation of a signal monitor (R467, R468). -/
def monitor (m : Nat) (snap : List (Nat × Word × Bool)) (s : Dev) : Dev :=
  let b := bMon m
  let v := snapVal snap (s.g b F.MON_CFG_SIG)
  let lo := s.gi b F.MON_LO_VALUE
  let hi := s.gi b F.MON_HI_VALUE
  let hy := s.gi b F.MON_HYS_VALUE
  let st := tget (fun _ => (0, 0, 0)) s.flt.mons m
  let put (w : Nat × Nat × Nat) (s : Dev) : Dev := { s with flt := { s.flt with mons := tset (fun _ => (0, 0, 0)) s.flt.mons m w } }
  let ev (kind : Nat) (on : Bool) (s : Dev) : Dev :=
    s.post (.event { src := 0x160 + m, kind := kind, cause := some on, severe := false, safe := false, form := none, time := none, hi := 0,
                     data := leBytes 4 (usg 32 v.1) })
  if v.2 && !s.gb b F.MON_CFG_STALE_OUT then s
  else if v.2 || v.1 > hi || v.1 < lo then
    let n := min (st.1 + 1) 15
    let side := if v.1 < lo then 0x1039 else 0x1038
    if st.2.2 = 0 && n ≥ s.g b F.MON_CFG_FILT then ev side true (put (n, 0, side) s) else put (n, 0, st.2.2) s
  else if lo + hy ≤ v.1 && v.1 ≤ hi - hy then
    let n := min (st.2.1 + 1) 15
    if st.2.2 != 0 && n ≥ s.g b F.MON_CFG_CLR then ev st.2.2 false (put (0, n, 0) s) else put (0, n, st.2.2) s
  else put (0, 0, st.2.2) s

/-- One sample of the trace (R488, R489, R491). -/
def traceSample (tf : Nat) (snap : List (Nat × Word × Bool)) (s : Dev) : Dev :=
  let st := s.g bFlt F.TRC_STATUS_STATE
  if st = 1 || st = 2 then
    let sig (k : Nat) : Nat := s.g bFlt (if k % 2 = 0 then F.TRC_SIG_SIG_2k.at (k / 2) else F.TRC_SIG_SIG_2k_1.at (k / 2))
    let w := w32 tf :: (upto (s.g bFlt F.TRC_CFG_NSIG)).map (fun k => BitVec.ofInt 32 (snapVal snap (sig k)).1)
    let cap := traceCap s
    let ring := s.flt.ring ++ [w]
    let ring := if ring.length > cap then ring.drop 1 else ring
    let left := if st = 2 then s.flt.postLeft - 1 else s.flt.postLeft
    let paused := s.shed ≥ 1 || s.flt.lmpQ.length > 16
    let stream := s.gb bFlt F.TRC_CTRL_STREAM
    let s := { s with flt := { s.flt with ring := ring, ringPos := s.flt.ringPos + 1, postLeft := left } }
    let s := s.on (st = 2 && left = 0) (fun s => s.p bFlt F.TRC_STATUS_STATE 3)
    let s := s.p bFlt F.TRC_STATUS_PAUSED (b2n (stream && paused))
    if stream then
      if paused then s.inc bFlt F.TRC_DROPPED_COUNT
      else
        match s.hs.traceTo with
        | some n => lmpPush n 0x23 (w.flatMap (fun x => leBytes 4 x.toNat)) { s with flt := { s.flt with txTrace := some w } }
        | none => s
    else s
  else s

/-- The substitution of a phase sensor that the snapshot holds as stale (R368). -/
def substitute (snap : List (Nat × Word × Bool)) (i : Nat) (s : Dev) : Dev :=
  let b := bStr i
  if s.gb b F.STR_SUBST_EN && !s.gb b F.STR_CELL_STATUS_SUBST_DONE && (snapVal snap (s.g b F.STR_SUBST_SIG)).2 then
    let l := s.g b F.STR_SUBST_LOOP
    let ca := s.g b F.STR_SUBST_CA
    let v := s.rdF (bLoopD l + F.LD_C.off + 4 * ca)
    raise (0x120 + i) 0x1021 ((writeCoef l ca 0#32 (writeCoef l (s.g b F.STR_SUBST_CB) v s)).p b F.STR_CELL_STATUS_SUBST_DONE 1)
  else s

/-- Count the evaluations of a firing on each engine (R345). -/
def noteBusy (res : List LoopRes) (s : Dev) : Dev :=
  let ev := res.filter (fun r => !r.skipped)
  let add := (upto 16).filterMap (fun e => let n := (ev.filter (fun r => engineOf s r.loop == e)).length; if n = 0 then none else some (s.tick, e, n))
  { s with busy := (s.busy.filter (fun w => s.tick < w.1 + 250000)) ++ add }

/-- Thaw the loops of a group for which a thaw waits (R333). -/
def thawGroup (g : Nat) (s : Dev) : Dev :=
  s.each (upto 8) (fun h d =>
    let mine := (d.rg h).thaw.filter (fun i => loopRg d i == g)
    (d.each mine thaw).setRg h (fun x => { x with thaw := x.thaw.filter (fun i => !mine.contains i) }))

/-- LOOP_COMMIT takes effect at the latch instant, for the group's newest write that lies before it (R305). -/
def commitWaiting (g : Nat) (s : Dev) : Dev :=
  let x := s.rg g
  if x.commitFrom.any (fun t => decide (t < s.tick)) then
    (loopCommit g s).setRg g (fun x => { x with commitFrom := if x.commitLast == some s.tick then some s.tick else none })
  else s

/-- Evaluate a firing on its snapshot, after the substitution of R368: on the registers and values of the latch instant, where the firing keeps them (R337). -/
def evalOn (g : Nat) (f : Firing) (s : Dev) : Dev :=
  let sub (d : Dev) : Dev := d.each (cellStrings d g) (substitute f.snap)
  let at_ := if f.regs.isEmpty then s else { s with regs := f.regs, force := f.force }
  let res := evalFiring (sub at_) f g
  noteBusy res ((sub s).setRg g (fun x => { x with fir := some { f with res := res } }))

/-- The latch instant of a group, at t_f + LATCH_DLY (R299, R305, R333, R355, R368, R467, R488). -/
def latchGroup (g : Nat) (s : Dev) : Dev :=
  match (s.rg g).fir with
  | none => s
  | some f =>
    if f.latched || s.tick != f.tf + s.g (bRg g) F.RG_CFG_LATCH_DLY then s
    else
      let s := commitWaiting g (thawGroup g s)
      let snap := snapshot s g f.tf f.since
      let s := s.each (cellStrings s g) (fun i d => d.each (d.members i) (fun m d => testWindow i m.1 m.2 d))
      let s := s.each (cellStrings s g) (fun i d =>
        match (d.str i).chg with
        | some c => if !c.latched && c.asked < d.tick && d.driveMode then loopCommit g (latchChange i d) else d
        | none => d)
      let s := s.each ((upto 16).filter (fun m => s.gb (bMon m) F.MON_CFG_EN && s.g (bMon m) F.MON_CFG_RG == g)) (fun m d => monitor m snap d)
      let s := s.on (s.g bFlt F.TRC_CFG_RG == g) (traceSample f.tf snap)
      let keep := s.follows
      let sent := if keep then (s.pair.snaps.find? (fun w => w.1 == g && w.2.1 == f.tf)).map (·.2.2) else none
      let s := { s with pair := { s.pair with snaps := s.pair.snaps.filter (fun w => w.1 != g) } }
      let f := { f with latched := true, latch := s.tick, snap := sent.getD snap, mode := s.mode.code, compared := sent.isSome, wait := keep && sent.isNone,
                        regs := if keep then s.regs else [], force := if keep then s.force else [] }
      if f.wait then s.setRg g (fun x => { x with fir := some f }) else evalOn g f s

/-- The evaluations of a firing are complete, `t` ticks after its latch instant and before its commit tick (R301, R341, R343, R345). -/
def evalDone (g t : Nat) (s : Dev) : Dev :=
  match (s.rg g).fir with
  | none => s
  | some f =>
    if !f.latched || f.done || f.wait || s.tick != f.latch + t || f.tf + s.g (bRg g) F.RG_DL_DL ≤ s.tick then s
    else
      let b := bRg g
      let late := 4 * t > 3 * (s.g b F.RG_DL_DL - s.g b F.RG_CFG_LATCH_DLY) && !s.gb bLoopCom F.LOOP_CFG_PLACE
      let s := s.setRg g (fun x => { x with fir := some { f with done := true }, boundary := x.boundary || late })
      (s.p b F.RG_TIMING_LAST (min t 65535)).p b F.RG_TIMING_WORST (max (s.g b F.RG_TIMING_WORST) (min t 65535))

/-- Publish one loop's result (R300, R324, R331). -/
def publishLoop (g : Nat) (f : Firing) (r : LoopRes) (s : Dev) : Dev :=
  let b := bLoopStat r.loop
  let s := (s.p b F.LOOP_STAT_SKIPPED (b2n r.skipped)).on r.stale (fun s => s.p b F.LOOP_STAT_STALE 1)
  let s := s.each r.regs (fun w d => if w.1 < 0x1000000 then d.wr w.1 w.2 else { d with slotVals := tset (fun _ => 0#32) d.slotVals (w.1 - 0x1000000) w.2 })
  let s := s.on r.sat (fun s => s.p b F.LOOP_STAT_SAT 1)
  let s := s.on (compGroup s r.loop != 0) (fun s => s.p b F.LOOP_STAT_WIN (b2n r.win))
  let s := s.on (r.osc.contains 0x102A) (fun s => s.p b F.LOOP_STAT_OSC 1)
  let post (k : Nat) (d : Dev) : Dev :=
    d.post (.event { src := 0x130 + g, kind := k, cause := none, severe := false, safe := false, form := none, time := none, hi := r.loop, data := [] })
  let s := s.each (r.osc ++ (if r.held then [0x102D] else [])) post
  match r.trk with
  | some (th, delta, amp) =>
    let k := s.g (bLoopD r.loop) F.LD_ROUTE_TRK
    let t : TrkSt := { pub := true, amp := amp, now := ⟨th.toNat, delta, f.latch, f.since⟩, was := (s.trk k).now, since := s.tick }
    ({ s with trks := tset (fun _ => trkSt0) s.trks k t } : Dev).each (upto 8) seeSector
  | none => s

/-- The rate-group commit of strings and pairs (R300 step 2, R347, R357). -/
def commitNamed (g : Nat) (s : Dev) : Dev :=
  let strs := (upto 8).filter (fun i => bitOf (s.g (bRg g) F.RG_COMMITS_STRINGS) i && s.enabled (.string i) && commitsTaken s i)
  let own := s.g (bRg g) F.RG_CFG_EVENT / 2
  let tested := s.g (bRg g) F.RG_CFG_SRC == 0 && strs.contains own
  let band := tested && lateNow s own
  let was := (s.rg g).band
  let s := (s.setRg g (fun x => { x with band := if tested then band else x.band })).on band (fun s => s.p (bRg g) F.RG_STATUS_LATE_BAND 1)
  let s := s.on (band && !was) (raise (0x128 + g) 0x1029)
  let s := s.each strs (fun i d => commitChange i (commitString i d))
  let aux := (upto 8).filter (fun i => bitOf (s.g (bRg g) F.RG_COMMITS_AUX) i && s.enabled (.aux i) && s.mode != .safe && !stopping s)
  s.each aux (fun i d => commitAux i d)

/-- The commit tick of a firing, t_f + RG_DL (R299 to R302, R339). -/
def commitTick (g : Nat) (s : Dev) : Dev :=
  match (s.rg g).fir with
  | none => s
  | some f =>
    if s.tick != f.tf + s.g (bRg g) F.RG_DL_DL then s
    else
      let s := s.setRg g (fun x => { x with fir := none })
      if f.latched && f.done then
        let s := s.each f.res (fun r d => publishLoop g f r d)
        commitNamed g (s.p (bRg g) F.RG_STATUS_CONSEC 0)
      else overrun g s

end Sys2Proof.Machine
end

