-- ==== Sys2Proof/Machine/Ticks.lean ====
section
/-! DEFINITION. What the module measures in ticks of its own, moved where the tick count itself is set (R526 TIME): every running duration goes on as before. -/

namespace Sys2Proof.Machine

/-- A tick moved by a difference. -/
def tickBy (d : Int) (t : Nat) : Nat := ((t : Int) + d).toNat

/-- The values of a table changed alike. -/
def tmapVals {β : Type} (t : Tbl β) (f : β → β) : Tbl β := t.map (fun w => (w.1, f w.2))

/-- The tick count is about to change by `d`: what the module has noted in ticks, or in ft of the same count, moves with it. What belongs to strings, loops and auxiliary pairs does not run in role OUT. -/
def moveTicks (d : Int) (s : Dev) : Dev :=
  let m := tickBy d
  let ft := tickBy (64 * d)
  { s with
    ms := { s.ms with entered := m s.ms.entered, stop := s.ms.stop.map m, rideFrom := s.ms.rideFrom.map m, settleFrom := s.ms.settleFrom.map m, adaptAt := m s.ms.adaptAt },
    img := { s.img with lockAt := s.img.lockAt.map m, zero := s.img.zero + d },
    flt := { s.flt with pinMin := s.flt.pinMin.map m, lmpQ := s.flt.lmpQ.map (fun a => { a with since := m a.since, sent := m a.sent }) },
    srcs := tmapVals s.srcs (fun x => { x with win := x.win.map m, hold := x.hold.map m }),
    tb := { s.tb with hoFrom := m s.tb.hoFrom, syncAt := m s.tb.syncAt, annAt := m s.tb.annAt, foreign := s.tb.foreign.map (fun f => { f with heard := m f.heard }) },
    clk := { s.clk with guard := m s.clk.guard, goodA := m s.clk.goodA, goodB := m s.clk.goodB, op := s.clk.op.map (fun o => match o with | .hop x t => .hop x (m t) | o => o) },
    pair := { s.pair with
      hbAt := m s.pair.hbAt, hbIn := m s.pair.hbIn, phaseFrom := m s.pair.phaseFrom, retry := s.pair.retry.map m, eligFrom := s.pair.eligFrom.map m,
      ejectAt := s.pair.ejectAt.map (· + d), ejectFree := s.pair.ejectFree.map (· + d) },
    pwr := { s.pwr with until_ := s.pwr.until_.map m, wide := s.pwr.wide.map m, shedAt := m s.pwr.shedAt },
    box := { s.box with locate := s.box.locate.map m, refusedFlash := s.box.refusedFlash.map m },
    hs := { s.hs with sess := s.hs.sess.map (fun x => { x with heard := m x.heard }), chal := s.hs.chal.map (fun c => (c.1, m c.2)) },
    sens := { s.sens with
      ref := ft s.sens.ref, last := s.sens.last.map ft, trig := s.sens.trig.map ft, inj := s.sens.inj.map ft, restart := s.sens.restart.map ft,
      calFrom := m s.sens.calFrom, schedAt := m s.sens.schedAt,
      chans := tmapVals s.sens.chans (fun c => { c with hist := c.hist.map (fun r => { r with tick := m r.tick }), lastOver := c.lastOver.map ft, backAt := c.backAt.map ft }),
      sds := tmapVals s.sens.sds (fun c => { c with hist := c.hist.map (fun r => { r with tick := m r.tick }), since := m c.since, fastFrom := m c.fastFrom }) },
    nodes := tmapVals s.nodes (fun n => { n with recov := n.recov.map m, preFrom := n.preFrom.map m, bsOff := m n.bsOff, inWin := n.inWin.map (fun w => (m w.1, ft w.2)) }),
    teles := tmapVals s.teles (fun v => { v with tick := m v.tick, time := ft v.time, ptime := ft v.ptime }),
    busy := s.busy.map (fun w => (m w.1, w.2)) }

end Sys2Proof.Machine
end

