-- ==== Sys2Proof/Machine/Pair.lean ====
section
/-! DEFINITION. Seesaw: roles, role resolution and joining (R502 to R507, R526), heartbeat and pair link (R509, R510), mirroring and comparison (R511 to R519), switch-over and return (R520 to R525), ejection and withdrawal (R527, R666 to R669), health (R529). -/

namespace Sys2Proof.Machine

def Dev.setPair (s : Dev) (f : PairSt → PairSt) : Dev := { s with pair := f s.pair }
def Dev.sync (s : Dev) : Nat := s.g bSs F.SS_STATUS_SYNC
def setSync (v : Nat) (s : Dev) : Dev := s.p bSs F.SS_STATUS_SYNC v
def pairOn (s : Dev) : Bool := s.gb bSs F.SS_CFG_PAIR_EN
def peerHere (s : Dev) : Bool := s.gb bDev F.DEV_STATUS_PEER_PRESENT

/-! ### Preference (R504) -/

/-- This slot counts as preferred, with the peer's straps where they are known (R504). -/
def preferred (s : Dev) : Bool :=
  let own := s.gb bDev F.DEV_STATUS_PREF
  match s.pair.peer with
  | none => own
  | some p => if own != p.pref then own else decide (s.g bDev F.DEV_STATUS_SLOT_ID < p.slot)

/-- Show the preference, and the conflict of straps of R504. -/
def notePref (s : Dev) : Dev :=
  let s := s.pb bSs F.SS_STATUS_PREF (preferred s)
  match s.pair.peer with
  | some p =>
    let same := s.gb bDev F.DEV_STATUS_PREF == p.pref
    (s.pb bSs F.SS_STATUS_PREF_CONFLICT same).on same (raise 0x187 0x1107)
  | none => s

/-! ### Roles (R502, R505, R506) -/

/-- A module that takes SOLO has a term from then on. The spec names a term only at a switch-over (R522); a module that has none takes one that it leaves open, at least 1 since its frames are token frames (R267) [DESIGN CHOICE, see the log, entry 29]. -/
def firstTerm (s : Dev) : Dev :=
  if s.g bSs F.SS_TERM_TERM = 0 then
    let (v, s) := s.draw 32
    s.p bSs F.SS_TERM_TERM (max 1 v.toNat)
  else s

/-- Role OUT in CHARGE, RUN, RIDE or SAFE is not stable (R83): the mode becomes HOLD with cause 0x0B (R85), but for a joining module that follows the active one (R507). -/
def outHold (s : Dev) : Dev := s.on (s.role == .out && s.cmdMode && s.sync < 6) (fun s => s.post (.mode .hold 0x0B))

/-- Take a role (R502). ACTIVE or SOLO in DOZE or SLEEP is refused (R506). -/
def setRole (r : Role) (s : Dev) : Dev :=
  if r == s.role then outHold s
  else if (r == .solo || r == .active) && s.g bPwr F.PWR_STATE_STATE ≥ 2 then s.p bSs F.SS_CHECK_REASON 0x0D07
  else
    let s := (s.p bSs F.SS_STATUS_ROLE r.code).irq F.DEV_IRQ_STATUS_ROLE
    let s := s.on (r == .solo) firstTerm
    let s := s.on (r == .out || r == .solo) (setSync 0)
    let s := s.on (r == .out) (closeSess (fun _ => true))
    let s := s.on (r == .out) (fun s => s.setPair (fun p => { p with sw := none, held := false, replay := none, resync := none }) |>.pb bSs F.SS_STATUS_REPLAY false)
    outHold (refreshAux (refreshTokens s))

/-- The role becomes OUT with a reason (R503, R526). -/
def goOut (reason : Nat) (s : Dev) : Dev := setRole .out (setSync 0 (s.p bSs F.SS_CHECK_REASON reason))

/-! ### Eligibility (R520) -/

/-- Every port bound to an enabled node channel is READY, calibrated and reachable (R520). -/
def portsFit (s : Dev) : Bool :=
  (enabledNodes s).all (fun n => let p := s.portOf n; portUp s p && s.gb (bPort p) F.LNK_PSTATE_CALIBRATED && (s.port p).reach)

/-- The module is an eligible standby (R520). -/
def eligible (s : Dev) : Bool :=
  s.role == .standby && s.sync == 7 && !anySevere s && s.rd (bSs + F.SS_HEALTH.off) == 0#32 && s.g bPwr F.PWR_STATE_STATE ≤ 1
    && s.shed < 3 && portsFit s

/-- Keep the time since which the module has been eligible (R524). -/
def refreshElig (s : Dev) : Dev :=
  if s.role == .standby then
    if eligible s then s.setPair (fun p => { p with eligFrom := p.eligFrom.or (some s.tick) }) else s.setPair (fun p => { p with eligFrom := none })
  else match s.pair.eligFrom with
    | none => s
    | some _ => s.setPair (fun p => { p with eligFrom := none })

/-! ### Switch-over (R521 to R523) -/

/-- The switch boundary: the first frame boundary at or after t_d + 512 (R521). -/
def boundary (td : Nat) : Nat := (td + 1023) / 512 * 512

/-- Decide a switch-over now (R521). `tests`: the former active module then runs its health self-tests (R518). -/
def decide_ (take out : Bool) (s : Dev) (tests : Bool := false) : Dev :=
  s.setPair (fun p => { p with sw := some ⟨s.tick, boundary s.tick, take, out, tests⟩, held := false })

/-- A coordinated trigger at the active module (R521): taken when the standby is eligible, otherwise held or dropped. -/
def coordinate (hold out : Bool) (s : Dev) (tests : Bool := false) : Dev :=
  if s.role != .active || s.pair.sw.isSome then s
  else if s.gb bSs F.SS_STATUS_PEER_ELIGIBLE then decide_ false out s tests
  else if hold then s.setPair (fun p => { p with held := true })
  else s

/-- The largest term that a node has reported (R522). -/
def topTerm (s : Dev) : Nat := ((upto 96).map (fun p => s.g (bPort p) F.LNK_NTERM_TERM)).foldl max 0

/-- What a port carries at a take-over: every edge due at or after T_first + 768 ticks + d_app, in order of due time (R522). -/
def takeEdges (first p : Nat) (s : Dev) : Dev :=
  s.setPort p (fun q => { q with
    wait := sortBy (fun a b => a.1.tExec < b.1.tExec) (q.wait.filter (fun w => (first + 768) * 64 + q.dapp ≤ w.1.tExec)), rep := [] })

/-- The switch boundary T_first (R521, R522, R616): at any other tick nothing happens. -/
def switchBoundary (s : Dev) : Dev :=
  match s.pair.sw with
  | none => s
  | some w =>
    if s.tick != w.first then s else
    let term := max (s.g bSs F.SS_TERM_TERM) (topTerm s) + 1
    let s := ((s.p bSs F.SS_TERM_TERM term).inc bSs F.SS_SWITCH_COUNT).p bSs F.SS_SWITCH_LAST_GAP (w.first - w.decided)
    let s := { s.setPair (fun p => { p with sw := none, held := false, eligFrom := none }) with flt := { s.flt with canQ := [] } }
    if w.take then
      let s := s.each (upto 96) (takeEdges w.first)
      let s := setSync 0 (setRole .active (s.setPair (fun p => { p with tookAt := some w.first })))
      let s := s.p bSs F.SS_STATUS_PEER_ROLE (Role.code (if w.out then .out else .standby))
      s.on s.pair.failed (setRole .solo)
    else if w.out || (w.tests && s.rd (bSs + F.SS_HEALTH.off) != 0#32) then setRole .out s
    else setSync 7 (setRole .standby (s.p bSs F.SS_STATUS_PEER_ROLE (Role.code .active)))

/-! ### Heartbeat, pair link, presence (R509) -/

def lanesUsed (s : Dev) : Nat := popcount s.pair.lanes 4
def linkDown (s : Dev) : Bool := lanesUsed s < s.g bSs F.SS_CFG_MIN_LANES
def hbLost (s : Dev) : Bool := !s.gb bSs F.SS_STATUS_HB_OK

/-- The condition under which the peer is presumed failed (R509). -/
def peerFailed (s : Dev) : Bool := (hbLost s && linkDown s) || ((hbLost s || linkDown s) && !peerHere s)

/-- Act on a change of heartbeat, lanes or presence (R505, R509, R521). -/
def checkPeer (s : Dev) : Dev :=
  let f := peerFailed s
  let one := hbLost s != linkDown s
  let was := s.pair
  let s := s.setPair (fun p => { p with failed := f, linkFault := one })
  if !pairOn s then s
  else
    let s := s.on (one && !was.linkFault) (raise 0x185 0x1105)
    if f && !was.failed then
      match s.role with
      | .active => setRole .solo (s.setPair (fun p => { p with sw := none, held := false }))
      | .standby => if s.pair.sw.any (·.take) then s else if eligible s then decide_ true false s else setRole .out s
      | _ => s
    else s

def setLane (l : Nat) (up : Bool) (s : Dev) : Dev :=
  let s := s.setPair (fun p => { p with lanes := bitPut p.lanes l up })
  s.p bSs F.SS_STATUS_LANES (lanesUsed s)

/-! ### Health (R529) -/

/-- A health self-test has failed or passed: its bit is set or cleared. Each failed test raises HEALTH_FAIL and is counted, and gives at an ACTIVE module the coordinated trigger, held until the standby is eligible (R521); the trigger held lapses with the last failure, unless S3 asks for it too. -/
def setHealth (bit : Nat) (fail : Bool) (s : Dev) : Dev :=
  let s := s.pb bSs ⟨F.SS_HEALTH.off, bit, 1⟩ fail
  if fail then coordinate true false (raise 0x190 0x1110 (s.setPair (fun p => { p with healthFails := p.healthFails + 1 })))
  else s.on (s.rd (bSs + F.SS_HEALTH.off) == 0#32 && s.shed < 3) (fun s => s.setPair (fun p => { p with held := false }))

/-- A self-test runs, below shed stage S1 (R639). -/
def selfTest (bit : Nat) (fail : Bool) (s : Dev) : Dev := if s.shed ≥ 1 then s else setHealth bit fail s

/-- The condition of a self-test that the module's own state decides: the rows CLOCK to TEMP of SS_HEALTH (R531). -/
def healthCond (bit : Nat) (s : Dev) : Option Bool :=
  match bit with
  | 3 => some ((s.gb bClk F.CLK_STATUS_ON_ONYX || s.g bClk F.CLK_STATUS_STATE == 0) && !(s.mode == .load || s.mode == .hold))
  | 4 => some (s.gb bMod F.MOD_DL_STATUS_COARSE)
  | 5 => some (s.pair.lostLanes != 0)
  | 6 => some (s.pwr.hotOut != 0)
  | 7 => some (s.shed ≥ 1)
  | _ => none

/-- The result of a health self-test (R342, R529): of the engines, the memories and the supervisors as the row brings it, of the others as the module's state has it. -/
def healthTest (bit : Nat) (fail : Bool) (engine : Nat) (s : Dev) : Dev :=
  if s.shed ≥ 1 then s else setHealth bit ((healthCond bit s).getD fail) (s.on (fail && bit == 0) (engineFails engine))

/-! ### Role resolution and joining (R503, R526) -/

/-- Begin to resolve the role: steps 1 and 2 of R503, else the training of step 3 as phase LINK. -/
def resolveRole (s : Dev) : Dev :=
  let s := { s with img := { s.img with resolving := false }, pair := { s.pair with retry := none, peer := none, verify := [], kept := [], snaps := [] } }
  if s.role != .out then s
  else
    let s := notePref s
    if !pairOn s || !peerHere s then setRole .solo s
    else setSync 1 (s.setPair (fun p => { p with phaseFrom := s.tick }))

/-- The role resolution at the end of LOAD (R503, R666). -/
def roleResolution (s : Dev) : Dev :=
  if !s.img.resolving then s
  else if s.gb bDev F.DEV_STATUS_EJECT then { s with img := { s.img with resolving := false }, pair := { s.pair with ejected := true } }
  else resolveRole s

/-- A join or resolution fails: OUT with a reason, and R503 again after 10 s while PAIR_EN is set (R526). -/
def joinFails (reason : Nat) (s : Dev) : Dev :=
  let s := s.setPair (fun p => { p with retry := if pairOn s then some (s.tick + 2500000000) else none, resync := none })
  goOut reason s

/-- The digest of the running CONFIG header (R503). -/
def ownDigest (s : Dev) : BitVec 512 := Sys2Proof.Config.sha512 s.img.runCfg

/-- Steps 4 to 6 of R503 with the identity of the peer. -/
def takeIdent (x : PeerId) (s : Dev) : Dev :=
  let s := notePref ((s.setPair (fun p => { p with peer := some x })).p bSs F.SS_STATUS_PEER_ROLE x.role.code)
  let owned := x.role == .active || x.role == .solo
  let loses (reason : Nat) : Dev :=
    if owned then joinFails reason s
    else if x.joining then setRole .solo (setSync 0 s)
    else if preferred s then setRole .solo (setSync 0 s) else joinFails reason s
  if x.digest != ownDigest s then loses 0x0D02
  else if x.version != Sys2Proof.Config.seesawVersion s.img.runFw then loses 0x0D03
  else if owned then setSync 3 (s.setPair (fun p => { p with phaseFrom := s.tick }))
  else if preferred s then setRole .solo (setSync 0 s)
  else setSync 3 (s.setPair (fun p => { p with phaseFrom := s.tick }))

/-- Take the active module's time (R526 TIME, R588). -/
def takeTime (t : TimeCopy) (s : Dev) : Dev :=
  let s := moveTicks ((t.tick : Int) - s.tick) s
  let s := { s with tick := t.tick, tb := { s.tb with sec := t.sec, ns := t.ns, sub := t.sub, fi := t.fi } }
  (((s.pi bTb F.TB_ADDEND_ADDEND t.addend).pi bTb F.TB_FI_FI t.fi).p bTb F.TB_STATUS_STATE t.state).pb bTb F.TB_STATUS_QUALIFIED t.qualified

/-- Registers that the bulk copy of R526 may write: configuration windows, state blocks, position states; the windows of the module itself keep their own values. -/
def copied (a : Nat) : Bool :=
  match locate a with
  | some l => match l.fam with
    | .str | .node | .loopD | .loopChk | .loopStat | .loopCom | .rg | .loopTab | .loopS | .mod | .aux | .prot | .protStr | .prof | .sens | .sd
    | .mon | .fltPol | .fltState | .can | .obj | .canG | .tpo => true
    | _ => false
  | none => false

/-- Take one leg's dead-time latch from the mirror (R511). -/
def takeDt (x : DtCopy) (s : Dev) : Dev :=
  s.setLeg x.node x.leg (fun l => { l with latPos := x.dtPos, latNeg := x.dtNeg, latHigh := x.dirHigh, latLow := x.dirLow })

/-- Take the bulk copy (R519, R526 STATE). -/
def takeBulk (b : BulkCopy) (s : Dev) : Dev :=
  let s := s.each b.regs (fun w d => if copied w.1 then d.wr w.1 w.2 else d)
  let s := s.each b.force (fun w d => if copied w.1 then d.wrF w.1 w.2 else d)
  let s := { s with
    slotVals := b.slots.foldl (fun (t : Tbl Word) (w : Nat × Word) => tset (fun _ => 0#32) t w.1 w.2) ([] : Tbl Word),
    ms := { s.ms with gens := b.gens.foldl (fun (t : Tbl Nat) (w : Nat × Nat) => tset (fun _ => 0) t w.1 w.2) ([] : Tbl Nat), occ := b.occ.foldl (fun (t : Tbl Bool) k => tset (fun _ => false) t k true) [] } }
  let s := s.each b.pend (fun w d => d.setStr w.1 (fun x => { x with pend := some w.2 }))
  let s := s.each b.lat (fun w d => d.setStr w.1 (fun x => { x with lat := some w.2 }))
  let s := s.each b.dt (fun x d => takeDt x (d.setLeg x.node x.leg (fun l => { l with dtPos := x.dtPos, dtNeg := x.dtNeg, dirHigh := x.dirHigh, dirLow := x.dirLow })))
  let s := s.each b.srcs (fun x d => (d.wr (bFltState x.src) x.word).setSrc x.src (fun y => { y with win := x.win.map (d.tick + ·), causes := x.causes }))
  let s := s.p bSs F.SS_TERM_TERM b.term
  (refreshPlaced (refreshLevels s)).post .ride

/-- The groups that run (R526 VERIFY). -/
def runningGroups (s : Dev) : List Nat := (upto 8).filter (sourceExists s)

/-- Every running group has compared equal NVERIFY times in succession (R526). -/
def verified (s : Dev) : Bool := (runningGroups s).all (fun g => s.g bSs F.SS_CFG_NVERIFY ≤ tget (fun _ => 0) s.pair.verify g)

def nextPhase (v : Nat) (s : Dev) : Dev := setSync v (s.setPair (fun p => { p with phaseFrom := s.tick }))

/-- A join phase completes (R526). A phase that does not run, or whose work is not done, is not ended. -/
def joinPhaseEnd (x : JoinEnd) (s : Dev) : Dev :=
  match x, s.sync with
  | .link, 1 => if lanesUsed s > 0 && !hbLost s then nextPhase 2 s else s
  | .ident p, 2 => takeIdent p s
  | .time t, 3 => nextPhase 4 (takeTime t s)
  | .cal, 4 => if portsFit s then nextPhase 5 s else s
  | .state b, 5 =>
    let s := nextPhase 6 (takeBulk b (s.setPair (fun p => { p with verify := [], kept := [] })))
    if s.mode != b.mode then s.post (.mode b.mode b.cause) else s
  | .verify, 6 =>
    if verified s then
      let s := s.setPair (fun p => { p with resync := none, retry := none })
      if s.role == .standby then setSync 7 s else setSync 7 (setRole .standby s)
    else s
  | _, _ => s

/-- The limit of a join phase, in ticks (R526). -/
def phaseLimit : Nat → Nat | 1 => 25000000 | 2 => 2500000 | 3 => 125000000 | 4 => 25000000 | 5 => 500000000 | _ => 250000000

/-- A join phase exceeds its limit (R503 step 3, R526). -/
def joinPhaseTimeout (s : Dev) : Dev :=
  if s.sync = 0 || s.sync = 7 || s.tick < s.pair.phaseFrom + phaseLimit s.sync then s
  else if s.sync = 1 && lanesUsed s = 0 then
    if preferred s then setRole .solo (setSync 0 s) else joinFails 0x0D04 s
  else joinFails 0x0D05 s

/-- R503 runs again 10 s after a join that failed, while PAIR_EN is set (R526). -/
def rejoin (s : Dev) : Dev :=
  match s.pair.retry with
  | some t =>
    if s.tick < t then s
    else if pairOn s && s.role == .out && s.sync == 0 && !s.pair.ejected then resolveRole s else s.setPair (fun p => { p with retry := none })
  | none => s

/-! ### Comparison (R515 to R519) -/

def digest8 (b : List Byte) : BitVec 64 := (Sys2Proof.Config.sha512 b).extractLsb' 448 64

/-- The enabled loops of a group, ascending. -/
def groupLoops (s : Dev) (g : Nat) : List Nat := (enabledLoops s).filter (fun i => loopRg s i == g)

/-- The state blocks of a group as registers. -/
def stateBlocks (s : Dev) (g : Nat) : SetV :=
  (groupLoops s g).flatMap (fun i => (upto 8).map (fun k => let a := bLoopS i + 4 * k; (a, s.rd a)))

def setBytes (l : SetV) : List Byte := l.flatMap (fun w => leBytes 4 w.2.toNat)

/-- P of R516. -/
def digestP (s : Dev) (g : Nat) : BitVec 64 := digest8 (setBytes (stateBlocks s g))

/-- D of R516 of a firing just committed: its firing tick, LS_Y, LS_YC and S0 to S2 of every loop, the slots it published, the sets it committed. -/
def digestD (s : Dev) (g tf : Nat) (slots : SetV) (sets : List SetV) : BitVec 64 :=
  let regs := (groupLoops s g).flatMap (fun i => (upto 6).map (fun k => let a := bLoopS i + 4 * k; (a, s.rd a)))
  digest8 (leBytes 8 tf ++ setBytes regs ++ setBytes slots ++ sets.flatMap setBytes)

/-- Retain a latched firing for a replay, the last four of each group (R518). -/
def keepFiring (g : Nat) (s : Dev) : Dev :=
  match (s.rg g).fir with
  | some f =>
    if f.latched && pairOn s && (s.role == .active || s.follows) then
      let k : Kept := ⟨g, f.tf, f.snap, stateBlocks s g ++ s.slotVals, digestP s g, none, f.compared⟩
      let old := (s.pair.kept.filter (fun x => x.g == g && x.tf != f.tf)).take 3
      s.setPair (fun p => { p with kept := k :: old ++ p.kept.filter (fun x => x.g != g) })
    else s
  | none => s

/-- Note D of the firing of a group that the commit tick has published. -/
def noteDigest (f : Firing) (g : Nat) (sets : List SetV) (s : Dev) : Dev :=
  if s.pair.kept.any (fun k => k.g == g && k.tf == f.tf) then
    let slots := f.res.flatMap (fun r => (r.regs.filter (fun w => w.1 ≥ 0x1000000)))
    let d := digestD s g f.tf slots sets
    s.setPair (fun p => { p with kept := p.kept.map (fun k => if k.g == g && k.tf == f.tf then { k with d := some d, compared := f.compared } else k) })
  else s

/-- The signals that name an input of the module: SAR and sigma-delta results (R303, R515). -/
def inputSignal (n : Nat) : Bool := n < 16 || (0x20 ≤ n && n < 0x38) || (0x60 ≤ n && n < 0x78)

/-- Compare the module's own inputs with the mirrored ones (R515). -/
def compareInputs (g : Nat) (own sent : List (Nat × Word × Bool)) (s : Dev) : Dev :=
  let tol : Int := s.g bSs F.SS_REVERT_IN_TOL * 4096
  let bad := sent.any (fun w => inputSignal w.1 && (own.find? (fun x => x.1 == w.1)).any (fun x => tol < absI (sgn 32 x.2.1.toNat - sgn 32 w.2.1.toNat)))
  let n := if bad then tget (fun _ => 0) s.pair.disagree g + 1 else 0
  let s := s.setPair (fun p => { p with disagree := tset (fun _ => 0) p.disagree g (n % 16) })
  if n = 16 then raise 0x186 0x1106 ((s.inc bSs F.SS_MIRROR_IN_DISAGREE).setPair (fun p => { p with eligFrom := none })) else s

/-- A mirrored snapshot reaches the standby (R512, R515). -/
def takeSnapshot (g tf : Nat) (snap : List (Nat × Word × Bool)) (s : Dev) : Dev :=
  if !s.follows then s
  else
    let s := s.p bSs F.SS_MIRROR_BYTES (max (s.g bSs F.SS_MIRROR_BYTES) (Sys2Proof.Config.mirrorBytes snap.length % 65536))
    match (s.rg g).fir with
    | some f =>
      if f.latched && f.wait && f.tf == tf && s.tick ≤ f.latch + s.g bSs F.SS_CFG_MWAIT then
        let s := compareInputs g f.snap snap s
        let f := { f with snap := snap, compared := true, wait := false }
        let s := s.setPair (fun p => { p with kept := p.kept.map (fun k => if k.g == g && k.tf == tf then { k with snap := snap, compared := true } else k) })
        evalOn g f s
      else if f.latched then s
      else s.setPair (fun p => { p with snaps := (g, tf, snap) :: p.snaps.filter (fun w => w.1 != g) })
    | none => s.setPair (fun p => { p with snaps := (g, tf, snap) :: p.snaps.filter (fun w => w.1 != g) })

/-- The latch instant of a group, with what the pair does at it (R512, R515, R518). -/
def latchPair (g : Nat) (s : Dev) : Dev :=
  match (s.rg g).fir with
  | none => s
  | some was =>
    let own := if s.follows then snapshot s g was.tf was.since else []
    let s := latchGroup g s
    match (s.rg g).fir with
    | some f => if f.latched && !was.latched then keepFiring g (s.on f.compared (compareInputs g own f.snap)) else s
    | none => s

/-- A mirrored snapshot has not arrived in time (R512). -/
def mirrorExpire (g : Nat) (s : Dev) : Dev :=
  match (s.rg g).fir with
  | some f => if f.latched && f.wait && f.latch + s.g bSs F.SS_CFG_MWAIT ≤ s.tick then evalOn g { f with wait := false } (s.inc bSs F.SS_DIVERGE_UNCOMPARED) else s
  | none => s

/-- The commit tick of a group, with its digest (R516). -/
def commitPair (g : Nat) (s : Dev) : Dev :=
  match (s.rg g).fir with
  | none => commitTick g s
  | some f =>
    let d := commitTick g s
    let sets := ((upto 8).filter (fun i => bitOf (s.g (bRg g) F.RG_COMMITS_STRINGS) i)).map (fun i => ((d.str i).pend).getD [])
    d.on (f.latched && f.done && (d.rg g).fir.isNone) (noteDigest f g sets)

/-- The standby goes OUT by a verdict; the active module learns of it from the peer's role (R505, R518). -/
def standbyOut (s : Dev) : Dev := if s.role == .standby then setRole .out s else s

/-- Begin a resync (R519). -/
def beginResync (s : Dev) : Dev :=
  let s := s.setPair (fun p => { p with resync := some s.tick, verify := [], phaseFrom := s.tick })
  s.on (s.role == .standby) (setSync 5)

/-- Report a verdict and act on it (R518). -/
def verdict (v : Nat) (s : Dev) : Dev :=
  let s := (s.setPair (fun p => { p with replay := none })).pb bSs F.SS_STATUS_REPLAY false |>.p bSs F.SS_VERDICT_VERDICT v
  let activePref := if s.role == .active then preferred s else !preferred s
  let s := s.on ((v = 3 && activePref) || v = 6) (fun s => s.p bSs F.SS_STATUS_REVERT_BLOCK 1)
  match v with
  | 2 | 5 => beginResync s
  | 3 =>
    if s.role == .active then coordinate false false s (tests := true)
    else if eligible s && s.pair.sw.isNone then decide_ true false s else s
  | _ => standbyOut s

/-- The digests of a firing are compared (R516 to R518, R526). `d` is none where the peer's firing overran. -/
def compareDigest (g tf : Nat) (d : Option (BitVec 64)) (p : BitVec 64) (s : Dev) : Dev :=
  if !(s.role == .active || s.follows) then s
  else
    let k := s.pair.kept.find? (fun x => x.g == g && x.tf == tf)
    let own := k.bind (·.d)
    let skip := s.follows && (k.map (·.compared) == some false)
    if skip then s
    else if own.isSome && own == d then
      s.setPair (fun q => { q with verify := tset (fun _ => 0) q.verify g (min 255 (tget (fun _ => 0) q.verify g + 1)) })
    else
      let s := s.setPair (fun q => { q with verify := tset (fun _ => 0) q.verify g 0, eligFrom := none })
      let s := raise 0x186 0x1106 (s.inc bSs F.SS_DIVERGE_MISMATCH)
      if s.pair.replay.isSome || s.pair.resync.isSome || s.pair.sw.isSome || (s.role != .active && s.sync != 7) then s
      else
        let s := (s.p bSs F.SS_VERDICT_RG g).inc bSs F.SS_VERDICT_REPLAYS
        match k with
        | none => verdict 1 s
        | some k => (s.setPair (fun q => { q with replay := some ⟨g, tf, s.tick, (own, k.p), (d, p)⟩ })).pb bSs F.SS_STATUS_REPLAY true

/-- The replay digests are exchanged (R518): this module's and the peer's. -/
def replayEnd (own peer : BitVec 64) (s : Dev) : Dev :=
  match s.pair.replay with
  | none => s
  | some r =>
    let act := s.role == .active
    let a := if act then (r.own, own) else (r.peer, peer)
    let b := if act then (r.peer, peer) else (r.own, own)
    let held := s.pair.kept.any (fun k => k.g == r.g && k.tf == r.tf)
    let v :=
      if !held then 1
      else if a.1.2 != b.1.2 then 2
      else if a.2 == b.2 then
        (if some a.2 == b.1.1 && some a.2 != a.1.1 then 3 else if some a.2 == a.1.1 && some a.2 != b.1.1 then 4 else 5)
      else 6
    verdict v s

/-- A replay has not finished within SS_CFG.REPLAY_MAX ms (R518). -/
def replayTimeout (s : Dev) : Dev := if s.pair.replay.any (fun r => r.since + 250000 * s.g bSs F.SS_CFG_REPLAY_MAX ≤ s.tick) then verdict 1 s else s

/-- A resync has not ended within 200 ms (R519). -/
def resyncTimeout (s : Dev) : Dev :=
  match s.pair.resync with
  | none => s
  | some t =>
    if s.tick < t + 50000000 then s else
    let s := s.setPair (fun p => { p with resync := none })
    if s.role == .standby then goOut 0x0D05 s else s

/-! ### Reports and mirror items (R507, R511, R514, R520) -/

/-- A health report of the peer (R505, R511, R520, R521): its health bits, its eligibility, whether one of its sources is SEVERE, its role, its sync phase, the tick count of its frame, and the decision of a coordinated switch-over if it has made one. Where the tick counts of the two modules differ after TIME, the standby goes OUT (R526). -/
def healthReport (health : Nat) (elig severe : Bool) (role : Role) (sync : Nat) (tick : Nat) (dec : Option Nat) (s : Dev) : Dev :=
  let s := ((s.p bSs F.SS_PEER_HEALTH health).pb bSs F.SS_STATUS_PEER_ELIGIBLE elig).p bSs F.SS_STATUS_PEER_ROLE role.code
  let was := s.pair.peerSync
  let s := s.setPair (fun p => { p with peerSync := sync, peerSevere := severe })
  if tick != s.tick && (s.role == .standby || s.sync ≥ 4) then joinFails 0x0D05 s
  else match s.role with
  | .solo => if role == .standby then setRole .active s else s
  | .active =>
    if role == .out && s.pair.sw.isNone then setRole .solo s
    else
      let s := s.on (s.pair.resync.isSome && was != 7 && sync == 7) (fun s => s.setPair (fun p => { p with resync := none }))
      if elig && s.pair.held then decide_ false false s
      else match dec with
        | some td => if s.pair.sw.isNone then s.setPair (fun p => { p with sw := some ⟨td, boundary td, false, false, false⟩ }) else s
        | none => s
  | .standby =>
    match dec with
    | some td => if s.pair.sw.isNone then s.setPair (fun p => { p with sw := some ⟨td, boundary td, true, false, false⟩ }) else s
    | none => s
  | .out => s

/-- The standby follows a mode transition (R507). -/
def mirrorMode (m : Mode) (why : Nat) (s : Dev) : Dev :=
  if s.role == .standby || s.sync ≥ 6 then (if s.mode == m then s else s.post (.mode m why)) else s

/-- The standby counts a mirrored event (R514). -/
def mirrorEvent (src kind : Nat) (c : Option Bool) (severe : Bool) (form : Option Form) (hi : Nat) (data : List Byte) (s : Dev) : Dev :=
  if s.role != .standby then s
  else s.post (.event { src := src, kind := kind, cause := c, severe := severe, safe := false, form := form, time := none, hi := hi, data := data, mirror := true })

def mirrorDt (l : List DtCopy) (s : Dev) : Dev := if s.follows then s.each l takeDt else s

def mirrorToken (start hor : Nat) (s : Dev) : Dev := if s.follows then s.setPair (fun p => { p with lastTok := some (start, hor) }) else s

/-- The guard against two drivers, at each RPT frame (R510). -/
def guardPeer (s : Dev) : Dev :=
  if !s.owns then s
  else
    let t := (upto 96).filter (fun p => (s.port p).st == .token)
    let hot := t.filter (fun p => s.g (bPort p) F.LNK_NTERM_TERM > s.g bSs F.SS_TERM_TERM && !s.gb (bPort p) F.LNK_PSTATE_OBEYS_THIS)
    let n := if !t.isEmpty && t.length ≤ 2 * hot.length then s.pair.rptRun + 1 else 0
    let s := s.setPair (fun p => { p with rptRun := n })
    if n ≥ 2 then raise 0x187 0x1107 (setRole .out (s.setPair (fun p => { p with rptRun := 0 }))) else s

/-! ### Revertive return (R524, R525) -/

/-- An inhibit of R525 holds. -/
def revertInhibited (s : Dev) : Bool :=
  !(s.mode == .hold || s.mode == .run) || s.trans || (upto 8).any (fun i => (s.str i).chg.isSome) || anySevere s
    || s.pair.peerSevere || s.shed ≥ 1 || s.gb bSs F.SS_CTRL_NO_REVERT || s.gb bSs F.SS_STATUS_REVERT_BLOCK

/-- The hold time has been reached: the preferred standby raises a coordinated switch-over (R524). -/
def revertReturn (s : Dev) : Dev :=
  if eligible s && preferred s && s.gb bSs F.SS_CFG_REVERT_EN && !revertInhibited s && s.pair.sw.isNone
      && (s.pair.eligFrom.any (fun t => s.g bSs F.SS_REVERT_HOLD * 250000000 ≤ s.tick - t)) then decide_ true false s
  else s

/-- SS_REVERT_LEFT.SECONDS (R524): the whole seconds that remain, rounded up; 0 when not counting. -/
def revertLeft (s : Dev) : Nat :=
  match s.pair.eligFrom with
  | some t =>
    if preferred s && s.gb bSs F.SS_CFG_REVERT_EN then (s.g bSs F.SS_REVERT_HOLD * 250000000 - (s.tick - t) + 249999999) / 250000000 else 0
  | none => 0

/-! ### Pair commands, ejection, withdrawal (R527, R528, R666, R668) -/

def busyPair (s : Dev) : Bool := s.pair.sw.isSome || s.pair.replay.isSome || s.pair.resync.isSome

/-- PAIR_SWITCH: its reason and its effect (R528). A standby takes it from the mirror. -/
def pairSwitch (s : Dev) : Nat × Dev :=
  if s.role != .active then (0x0D0D, s)
  else if !s.gb bSs F.SS_STATUS_PEER_ELIGIBLE then (0x0D06, s)
  else if busyPair s then (0x0D0C, s)
  else (0, decide_ false false s)

def pairOut (s : Dev) : Nat × Dev :=
  if s.role == .active && !s.gb bSs F.SS_STATUS_PEER_ELIGIBLE then (0x0D0B, s)
  else if s.role == .solo && !(s.mode == .load || s.mode == .hold) then (0x0D0B, s)
  else if s.role == .active then (0, coordinate false true s)
  else (0, setRole .out (setSync 0 s))

def pairJoin (s : Dev) : Nat × Dev :=
  if s.role != .out then (0x0D0D, s)
  else if !peerHere s then (0x0D08, s)
  else (0, resolveRole (s.setPair (fun p => { p with ejected := false })))

def pairResync (s : Dev) : Nat × Dev :=
  if s.role != .active then (0x0D0D, s) else if busyPair s then (0x0D0C, s) else (0, beginResync s)

/-- EJECT_REQ has been asserted for 10 ms (R527). -/
def ejectTaken (s : Dev) : Dev :=
  let s := (s.p bDev F.DEV_STATUS_EJECT 1).setPair (fun p => { p with ejected := true, ejectTaken := true, ejectAt := some s.tick, ejectFree := none })
  match s.role with
  | .out | .standby => setRole .out (setSync 0 s)
  | .active | .solo =>
    if s.role == .active && s.gb bSs F.SS_STATUS_PEER_ELIGIBLE then coordinate false true s
    else if s.mode == .load || s.mode == .hold then setRole .out s
    else
      let s := (s.p bSs F.SS_STATUS_EJECT_REFUSED 1).setPair (fun p => { p with ejected := false, ejectTaken := false })
      { s with box := { s.box with refusedFlash := some (s.tick + 1250000000) } }

/-- The lever leaves the request position: EJECT_REQ is no longer asserted, and a hold of it is broken (R44, R667). -/
def leverFree (s : Dev) : Dev :=
  (s.p bDev F.DEV_STATUS_EJECT 0).setPair (fun p => { p with ejectAt := none, ejectFree := p.ejectFree.or (some s.tick) })

/-- EJECT_REQ has been released for 1 s (R527, R666). `lift`: the instant at which the lever leaves the request position, from which that second counts. -/
def ejectReleased (lift : Bool) (s : Dev) : Dev :=
  if lift then leverFree s
  else if !s.pair.ejectFree.any (fun t => t + 250000000 ≤ (s.tick : Int)) then s else
  let out := s.pair.ejected && s.role == .out && !s.pair.withdrawn && s.sync == 0 && s.mode != .load
  let s := (s.p bDev F.DEV_STATUS_EJECT 0).setPair (fun p => { p with ejected := false, ejectTaken := false, ejectAt := none, ejectFree := none })
  s.on out resolveRole

/-- PRESENT_N has been deasserted for 20 µs (R668, R669). -/
def withdrawal (s : Dev) : Dev :=
  let s := (s.p bDev F.DEV_STATUS_PRESENT 0).setPair (fun p => { p with withdrawn := true, ejectTaken := true, retry := none })
  let s := { s with img := { s.img with bgStop := s.img.bg.isSome } }
  if s.role == .active && s.gb bSs F.SS_STATUS_PEER_ELIGIBLE then coordinate false true s else setRole .out (setSync 0 s)

end Sys2Proof.Machine
end

