-- ==== Sys2Proof/Machine/Clock.lean ====
section
/-! DEFINITION. Reference selection, the root PLL and the clock tree (R534 to R563): sources, holdover and return, glides and hops, loss of lock, divider phase. -/

namespace Sys2Proof.Machine

def Dev.setClk (s : Dev) (f : ClkSt → ClkSt) : Dev := { s with clk := f s.clk }
def clkState (s : Dev) : Nat := s.g bClk F.CLK_STATUS_STATE
def onOnyx (s : Dev) : Bool := s.gb bClk F.CLK_STATUS_ON_ONYX

/-- The links send nothing (R550, R557). -/
def linksSilent (s : Dev) : Bool := onOnyx s || clkState s == 4 || s.g bPwr F.PWR_STATE_STATE ≥ 2

/-! ### Sources (R534 to R539) -/

def srcEnabled (s : Dev) (x : Nat) : Bool := match x with | 0 => s.gb bClk F.CLK_REFA_EN | 1 => s.gb bClk F.CLK_REFB_EN | 2 => true | _ => false

/-- A source is qualified; the TCXO always is (R538). -/
def qualifiedSrc (s : Dev) (x : Nat) : Bool := x == 2 || (x < 2 && bitOf (s.g bClk F.CLK_STATUS_QUALIFIED) x)

def srcOrder (s : Dev) : List Nat := [s.g bClk F.CLK_SEL_PRI0, s.g bClk F.CLK_SEL_PRI1, s.g bClk F.CLK_SEL_PRI2]

/-- The source that R539 names. -/
def chosen (s : Dev) : Option Nat :=
  if s.gb bClk F.CLK_SEL_FORCE_EN then [s.g bClk F.CLK_SEL_FORCE].find? (fun x => srcEnabled s x && qualifiedSrc s x)
  else (srcOrder s).find? (fun x => srcEnabled s x && qualifiedSrc s x)

/-- The source to return to after holdover. The TCXO, which holdover runs on already, is returned to only when it is forced or no reference is enabled in the order. -/
def returnTo (s : Dev) : Option Nat :=
  match chosen s with
  | some 2 => if s.gb bClk F.CLK_SEL_FORCE_EN || !(srcOrder s).any (fun x => x < 2 && srcEnabled s x) then some 2 else none
  | x => x

/-- f_pfd of a source as a fraction of kHz (R535). -/
def fPfd (s : Dev) (x : Nat) : Nat × Nat :=
  let b : Fld := match x with | 0 => F.CLK_REFA | 1 => F.CLK_REFB | _ => F.CLK_TCXO
  let w := s.rd (bClk + b.off)
  let f := if x = 2 then 25000 else getBits w 0 17
  let d := getBits w 17 4 + 1
  match getBits w 21 2 with | 1 => (2 * f, d) | 2 => (f, 2 * d) | _ => (f, d)

/-- The feedback word f_t / f_pfd as N * 2^32 + F for an offset in ppb, F rounded to nearest with ties away from zero (R536). -/
def feedback (s : Dev) (x : Nat) (ofs : Int) : Nat :=
  let p := fPfd s x
  roundDiv ((1000000000 + ofs).toNat * p.2 * 4294967296) (400 * p.1)

def ofsInForce (s : Dev) : Int := sgn 32 (s.gF bClk F.CLK_VCO_OFS_OFS)

/-! ### Holdover and return (R551 to R556) -/

/-- The loop goes to the TCXO (R551, R552). -/
def holdover (s : Dev) : Dev :=
  let s := s.setClk (fun c => { c with lastRef := s.g bClk F.CLK_STATUS_SRC })
  ((s.p bClk F.CLK_STATUS_STATE 3).p bClk F.CLK_STATUS_SRC 2).pb bClk F.CLK_STATUS_INJECT false

/-- Note that a source waits for the end of RIDE (R555). -/
def noteWaitRide (s : Dev) : Dev := s.on (s.mode == .ride && clkState s == 3 && (returnTo s).isSome) (fun s => s.p bClk F.CLK_STATUS_WAIT_RIDE 1)

/-- The conditions of R538 of a reference have just been broken, or it has just been enabled. -/
def goodFrom (x : Nat) (s : Dev) : Dev := s.setClk (fun c => if x = 0 then { c with goodA := s.tick } else { c with goodB := s.tick })

/-- A source loses qualification (R538, R551). The TCXO never does. -/
def loseQual (x : Nat) (s : Dev) : Dev :=
  if x ≥ 2 then s
  else
    let s := goodFrom x s
    let was := qualifiedSrc s x
    let s := s.p bClk F.CLK_STATUS_QUALIFIED (bitClr (s.g bClk F.CLK_STATUS_QUALIFIED) x)
    let s := s.on was (fun s => s.p bClk (if x = 0 then F.CLK_STICKY_REFA_LOST else F.CLK_STICKY_REFB_LOST) 1)
    if s.g bClk F.CLK_STATUS_SRC = x && (clkState s == 1 || clkState s == 2) then cause 0x180 0x1100 true (holdover s)
    else if (clkState s == 3 && (returnTo s).isNone) || (clkState s != 3 && chosen s == some (s.g bClk F.CLK_STATUS_SRC)) then s.p bClk F.CLK_STATUS_WAIT_RIDE 0
    else s

/-- A 1 ms measurement of a source against the TCXO, in ppb (R538, R551). -/
def refMeasure (x : Nat) (ppb : Int) (s : Dev) : Dev :=
  if !srcEnabled s x || x ≥ 2 then s
  else if absI ppb > s.g bClk F.CLK_QUAL_TOL * 1000 then loseQual x s
  else if s.g bClk F.CLK_STATUS_SRC = x && clkState s == 2 then
    let m := (ppb :: s.clk.meas).take 64
    (s.setClk (fun c => { c with meas := m })).pi bClk F.CLK_MEAS_PPB (rndDiv (m.foldl (· + ·) 0) m.length)
  else s

/-- A source has met its conditions for QUAL ms (R538, R539, R555). -/
def refQualified (x : Nat) (s : Dev) : Dev :=
  if !srcEnabled s x || s.tick < (if x = 0 then s.clk.goodA else s.clk.goodB) + 250000 * s.g bClk F.CLK_QUAL_QUAL then s
  else
    let s := s.p bClk F.CLK_STATUS_QUALIFIED (bitSet (s.g bClk F.CLK_STATUS_QUALIFIED) x)
    if clkState s == 3 then noteWaitRide (s.on (returnTo s == some x) (cause 0x180 0x1100 false))
    else if (clkState s == 1 || clkState s == 2) && s.gb bClk F.CLK_SEL_REVERT && chosen s == some x && s.g bClk F.CLK_STATUS_SRC != x then
      (if s.mode == .ride then s.p bClk F.CLK_STATUS_WAIT_RIDE 1 else holdover s)
    else s

/-- What a write of CLK_SEL changes (R539). -/
def selChanged (s : Dev) : Dev :=
  if clkState s == 1 || clkState s == 2 then
    (if chosen s == some (s.g bClk F.CLK_STATUS_SRC) then s else noteWaitRide (holdover s))
  else if clkState s == 3 then noteWaitRide (s.on (returnTo s).isSome (cause 0x180 0x1100 false))
  else s

/-- The source in use gives way to one that became qualified in RIDE (R539, R555). -/
def leaveRide (s : Dev) : Dev :=
  s.on ((clkState s == 1 || clkState s == 2) && s.gb bClk F.CLK_STATUS_WAIT_RIDE && s.mode != .ride && chosen s != some (s.g bClk F.CLK_STATUS_SRC)) holdover

/-- The build-out of a source to be used after holdover (R553, R554): the phase of its first edge in 1/16 ft. -/
def buildOut (phase : Int) (s : Dev) : Dev :=
  let s := leaveRide s
  match returnTo s with
  | some x =>
    if clkState s == 3 && s.mode != .ride && s.clk.op.isNone && !onOnyx s then
      let s := (((s.pi bClk F.CLK_BUILDOUT_PHASE phase).p bClk F.CLK_STATUS_WAIT_RIDE 0).p bClk F.CLK_STATUS_SRC x).p bClk F.CLK_STATUS_STATE 1
      (s.pb bClk F.CLK_STATUS_GLIDING true).setClk (fun c => { c with op := some (.glide false c.ofs), meas := [], word := feedback s x c.ofs })
    else s
  | none => s

/-- The phase error has stayed within 1 ft for 64 periods (R554, R556). -/
def pllLocked (tune : Bool) (s : Dev) : Dev :=
  if clkState s == 1 then
    ((s.p bClk F.CLK_STATUS_STATE 2).pb bClk F.CLK_STATUS_INJECT (s.gb bClk F.CLK_CFG_LOOP)).pb bClk F.CLK_STATUS_TUNE_MARGIN tune
  else s

/-! ### Frequency changes (R546 to R550) -/

def setResult (reason : Nat) (busy : Bool) (s : Dev) : Dev := (s.p bClk F.CLK_RESULT_REASON reason).pb bClk F.CLK_RESULT_BUSY busy

/-- A hop begins (R549, R550). -/
def startHop (s : Dev) : Dev :=
  let ofs := ofsInForce s
  let s := (((s.p bClk F.CLK_STATUS_STATE 4).pb bClk F.CLK_STATUS_ON_ONYX true).pb bClk F.CLK_STATUS_INJECT false).pi bClk F.CLK_BUILDOUT_PHASE 0
  let s := setResult 0 true (s.pb bClk F.CLK_STATUS_GLIDING false)
  let s := s.setClk (fun c => { c with op := some (.hop ofs s.tick), meas := [] })
  if pairOn s && s.pair.lanes != 0 then checkPeer ((s.setPair (fun p => { p with lanes := 0 })).p bSs F.SS_STATUS_LANES 0) else s

/-- A change from one offset to another needs a hop (R546). -/
def needsHop (old new : Int) (core : Bool) : Bool := core || decide (absI (new - old) * 1000 > 5 * (1000000000 + old).toNat)

/-- Why a change is refused (R547); 0: it is not. -/
def refuseChange (hop core : Bool) (s : Dev) : Nat :=
  if s.clk.op.isSome then 0x090B
  else if s.mode == .ride then 0x0907
  else if hop && (s.mode == .charge || s.mode == .run || s.mode == .safe) then 0x0906
  else if core && !(s.mode == .load || s.mode == .hold) then 0x0909
  else 0

def divValue (c : Nat) : Bool := c == 4 || c == 5 || c == 8 || c == 16

/-- Bring an offset and a divider into force (R546, R547): the reason, and the module. -/
def clkChange (ofs core : Word) (s : Dev) : Nat × Dev :=
  let old := ofsInForce s
  let new := sgn 32 ofs.toNat
  let c := getBits core 0 5 != s.gF bClk F.CLK_DIV_CORE
  let hop := needsHop old new c
  let why := if new < -40000000 || 0 < new then 0x0905 else if !divValue (getBits core 0 5) then 0x0908 else refuseChange hop c s
  if why != 0 then (why, s)
  else
    let s := (s.wrF (bClk + F.CLK_VCO_OFS.off) ofs).wrF (bClk + F.CLK_DIV.off) core
    (0, if hop then startHop s
        else setResult 0 true ((s.pb bClk F.CLK_STATUS_GLIDING true).setClk (fun x => { x with op := some (.glide true new) })))

/-- APPLY (R546, R547). -/
def clkApply (s : Dev) : Dev :=
  let r := clkChange (s.rd (bClk + F.CLK_VCO_OFS.off)) (s.rd (bClk + F.CLK_DIV.off)) s
  if r.1 = 0 then r.2 else s.p bClk F.CLK_RESULT_REASON r.1

/-- SYNC_ARM (R559). -/
def clkSyncArm (s : Dev) : Dev :=
  if s.clk.op.isSome then s.p bClk F.CLK_RESULT_REASON 0x090B
  else if !(s.mode == .load || s.mode == .hold) || !s.gb bClk F.CLK_CFG_SYNC_IN_EN then s.p bClk F.CLK_RESULT_REASON 0x090A
  else setResult 0 true ((s.pb bClk F.CLK_STATUS_SYNC_DONE false).setClk (fun c => { c with op := some .arm }))

/-- RELOCK (R546, R547). -/
def clkRelock (s : Dev) : Dev :=
  let why := refuseChange true false s
  if why != 0 then s.p bClk F.CLK_RESULT_REASON why else startHop s

/-- The end of a glide (R548). -/
def glideEnd (s : Dev) : Dev :=
  match s.clk.op with
  | some (.glide cmd ofs) =>
    let s := (s.pb bClk F.CLK_STATUS_GLIDING false).setClk (fun c => { c with op := none, ofs := ofs, word := feedback s (s.g bClk F.CLK_STATUS_SRC) ofs })
    if cmd then setResult 0 false s else s
  | _ => s

/-- The margin of band k, adjusted for the die temperature in degrees, around f_t: the smaller distance to either limit, in units of 10^-13 of 100 kHz; none where the band is uncharacterised or does not hold f_t (R544). -/
def bandMargin (s : Dev) (ofs temp : Int) (k : Nat) : Option Int :=
  let lo : Int := s.g bClk (F.CLK_BAND_F_LO.at k)
  let hi : Int := s.g bClk (F.CLK_BAND_F_HI.at k)
  if lo = 0 ∧ hi = 0 then none
  else
    let adj : Int := 1000000 + s.gi bClk F.CLK_TC_TC * (temp - 25)
    let ft : Int := 25000 * (1000000000 + ofs) * 1000
    let l := (23000 + lo) * adj * 1000000
    let h := (23000 + hi) * adj * 1000000
    if l ≤ ft ∧ ft ≤ h then some (min (ft - l) (h - ft)) else none

/-- The band of R544: the largest margin, the lowest k on a tie. -/
def pickBand (s : Dev) (ofs temp : Int) : Option Nat :=
  ((upto 64).foldl (fun (acc : Option (Nat × Int)) k =>
    match bandMargin s ofs temp k, acc with
    | some m, some (_, b) => if b < m then some (k, m) else acc
    | some m, none => some (k, m)
    | none, _ => acc) none).map (·.1)

/-- A hop locks (R544, R549, R550, R637): the die temperature, and the band a search would find. -/
def hopLock (temp : Int) (found : Nat) (tune : Bool) (s : Dev) : Dev :=
  match s.clk.op with
  | some (.hop ofs _) =>
    let x := (chosen s).getD 2
    let s := ((s.p bClk F.CLK_STATUS_BAND ((pickBand s ofs temp).getD found)).p bClk F.CLK_STATUS_SRC x).p bClk F.CLK_STATUS_STATE 2
    let s := ((s.pb bClk F.CLK_STATUS_ON_ONYX false).pb bClk F.CLK_STATUS_TUNE_MARGIN tune).pb bClk F.CLK_STATUS_INJECT (s.gb bClk F.CLK_CFG_LOOP)
    let s := setResult 0 false s
    let guard := (s.tick + 40 + 511) / 512 * 512 + 16 * 512
    let s := s.setClk (fun c => { c with op := none, ofs := ofs, guard := guard, word := feedback s x ofs })
    let s := ({ s with pwr := { s.pwr with vdd := 1700 }, img := { s.img with lockAt := s.img.lockAt.or (some s.tick) } } : Dev).p bPwr F.PWR_AVS_STATUS_VDD_CORE 850
    let s := s.on (x < 2) (cause 0x180 0x1100 false)
    if s.role == .standby then setSync 3 (s.setPair (fun p => { p with phaseFrom := s.tick })) else s
  | _ => s

/-! ### Loss of lock (R557, R558) -/

/-- The core goes to Onyx and PLL_UNLOCK is raised (R542, R557, R558). -/
def unlock (s : Dev) : Dev :=
  let mute := s.role == .active && s.gb bSs F.SS_STATUS_PEER_ELIGIBLE
  let s := (((s.p bClk F.CLK_STATUS_STATE 0).pb bClk F.CLK_STATUS_ON_ONYX true).pb bClk F.CLK_STATUS_INJECT false).pb bClk F.CLK_STATUS_GLIDING false
  let s := (s.p bClk F.CLK_STICKY_UNLOCK 1).setClk (fun c => { c with op := none })
  let s := setHealth 3 true (s.pb bClk F.CLK_RESULT_BUSY false)
  s.post (.event { src := 0x181, kind := 0x1101, cause := none, severe := true, safe := false, form := none, time := none, hi := 0, data := [], mute := mute })

/-- A hop has not locked in 10 ms (R549). -/
def hopTimeout (s : Dev) : Dev :=
  match s.clk.op with
  | some (.hop _ t) => if t + 2500000 ≤ s.tick then setResult 0x090C false (unlock s) else s
  | _ => s

def pllUnlock (s : Dev) : Dev := if (clkState s == 2 || clkState s == 3) && !onOnyx s then unlock s else s
def overspeed (s : Dev) : Dev := if onOnyx s then s else unlock (s.p bClk F.CLK_STICKY_OVERSPEED 1)

/-! ### Divider phase and pair alignment (R559, R561, R562) -/

/-- A rising edge of CLKSYNC_IN; `e` is its stamp minus the expected instant in ft. -/
def syncEdge (e : Int) (s : Dev) : Dev :=
  match s.clk.op with
  | some .arm =>
    setResult 0 false (((s.pb bClk F.CLK_STATUS_SYNC_DONE true).pi bClk F.CLK_BUILDOUT_PHASE 0).setClk (fun c => { c with op := none }))
  | _ =>
    if s.role == .standby || s.sync ≥ 3 then
      let s := s.pi bClk F.CLK_BUILDOUT_PHASE (s.gi bClk F.CLK_BUILDOUT_PHASE + 16 * clampI (0 - e) (-1) 1)
      let far := absI e > 32
      let n := if far then s.clk.eRun + 1 else 0
      let s := (s.setClk (fun c => { c with eRun := n })).on far (fun s => s.p bClk F.CLK_STICKY_PEER_PHASE 1)
      if n ≥ 4 && s.sync == 7 then joinFails 0x0D05 (s.setClk (fun c => { c with eRun := 0 })) else s
    else s

/-! ### REF_OUT (R560) -/

/-- What a module drives on REF_OUT: high impedance; a copy of a source after its pre-divider, a division by so much; or a level. -/
inductive RefOut where | highZ | copy (src div : Nat) | level (b : Bool)
deriving DecidableEq, Repr

/-- REF_OUT in the present tick (R560): SYNC is HIGH in the ticks that are multiples of 2^(SHIFT + 8). -/
def refOut (s : Dev) : RefOut :=
  if floats s .refOut then .highZ
  else match s.g bClk F.CLK_CFG_REFOUT with
    | 1 =>
      let x := s.g bClk F.CLK_STATUS_SRC
      let b : Fld := match x with | 0 => F.CLK_REFA | 1 => F.CLK_REFB | _ => F.CLK_TCXO
      .copy x (getBits (s.rd (bClk + b.off)) 17 4 + 1)
    | 2 => .level (decide (s.tick % 2 ^ (s.g bClk F.CLK_SYNC_SHIFT + 8) = 0))
    | _ => .highZ

end Sys2Proof.Machine
end

