-- ==== Sys2Proof/Machine/TimeBase.lean ====
section
/-! DEFINITION. The time base, its servo, PTP and the timed outputs (R567 to R592). Offsets and delays are exact integers in 2^-17 ps: 131,072,000 to the nanosecond, 2,000 to the 2^-16 ns of a PTP correction, 131,072 to the picosecond of the latency registers. -/

namespace Sys2Proof.Machine

def Dev.setTb (s : Dev) (f : TbSt → TbSt) : Dev := { s with tb := f s.tb }

/-! ### Tick count and time value (R567 to R569) -/

/-- 2^40: the parts of a nanosecond that the time value carries. -/
def nsPart : Nat := 1099511627776

/-- The time value in 2^-40 ns. -/
def timeVal (s : Dev) : Nat := (s.tb.sec * 1000000000 + s.tb.ns) * nsPart + s.tb.sub

/-- Set the time value; the seconds have 48 bits. -/
def setTime (v : Int) (s : Dev) : Dev :=
  let n := (v % ((281474976710656 * 1000000000 * nsPart : Nat) : Int)).toNat
  s.setTb (fun t => { t with sec := n / (1000000000 * nsPart), ns := n / nsPart % 1000000000, sub := n % nsPart })

/-- The addend in force (R568). -/
def addend (s : Dev) : Int := s.gi bTb F.TB_ADDEND_ADDEND

/-- One tick: the tick count rises by 1 and the time value by 4 ns + TB_ADDEND * 2^-40 ns (R567, R568). -/
def tickUp (s : Dev) : Dev := setTime ((timeVal s : Int) + 4 * (nsPart : Int) + addend s) { s with tick := s.tick + 1 }

/-- Latch the time registers at a read of TB_NS (R569). -/
def latchTime (s : Dev) : Dev :=
  let s := (s.p bTb F.TB_NS_NS s.tb.ns).p bTb F.TB_SUBNS_SUBNS (s.tb.sub / 16777216)
  let s := (s.p bTb F.TB_SEC_LO_SEC s.tb.sec).p bTb F.TB_SEC_HI_SEC (s.tb.sec / 4294967296)
  (s.p bTb F.TB_TICK_LO_TICK s.tick).p bTb F.TB_TICK_HI_TICK (s.tick / 4294967296)

/-! ### Timed outputs (R590, R591) -/

def Dev.tpo (s : Dev) (k : Nat) : TpoSt := tget (fun _ => tpoSt0) s.tpos k
def Dev.setTpo (s : Dev) (k : Nat) (f : TpoSt → TpoSt) : Dev := { s with tpos := tset (fun _ => tpoSt0) s.tpos k (f (s.tpo k)) }

/-- Start of output k in ns of the low 32 bits of the seconds. -/
def tpoStart (s : Dev) (k : Nat) : Nat := s.g (bTpo k) F.TPO_START_SEC_SEC * 1000000000 + s.g (bTpo k) F.TPO_START_NS_NS

/-- The time value in ns, with the seconds modulo 2^32. -/
def nowNs (s : Dev) : Nat := s.tb.sec % 4294967296 * 1000000000 + s.tb.ns

/-- Arm an output at its enable, or again after a step (R591): 16 ticks are 64 ns. -/
def tpoArm (k : Nat) (s : Dev) : Dev :=
  let b := bTpo k
  let start := tpoStart s k
  let soon := nowNs s + 64
  if s.gb b F.TPO_CFG_MODE then
    let per := max 1 (s.g b F.TPO_PERIOD_PERIOD)
    let n := if soon ≤ start then 0 else (soon - start + per - 1) / per
    (s.setTpo k (fun t => { t with armed := true, next := n })).p b F.TPO_STATUS_RUNNING 1
  else if start < soon then ((s.setTpo k (fun t => { t with armed := false })).p b F.TPO_STATUS_MISSED 1).p b F.TPO_STATUS_RUNNING 0
  else ((s.setTpo k (fun t => { t with armed := true, next := 0 })).p b F.TPO_STATUS_RUNNING 1).p b F.TPO_STATUS_DONE 0

def tpoStop (k : Nat) (s : Dev) : Dev := (s.setTpo k (fun t => { t with armed := false })).p (bTpo k) F.TPO_STATUS_RUNNING 0

/-- The outputs are at high impedance (R66, R502, R590, R660). -/
def tpoFloats (s : Dev) : Bool := s.mode == .load || !s.owns || floats s .tpo

/-- The time value in 2^-40 ns with the seconds modulo 2^32, as TPO_START_SEC counts them. -/
def nowFine (s : Dev) : Nat := nowNs s * nsPart + s.tb.sub

/-- What the time value gains in the present tick, in 2^-40 ns (R568). -/
def tickGain (s : Dev) : Int := 4 * (nsPart : Int) + addend s

/-- The time value, in ns, at which pulse `next` of output k begins (R590). -/
def tpoNext (s : Dev) (k : Nat) : Nat := tpoStart s k + (s.tpo k).next * s.g (bTpo k) F.TPO_PERIOD_PERIOD

/-- The next pulse begins within the present tick (R590). -/
def tpoDue (s : Dev) (k : Nat) : Bool :=
  decide (nowFine s ≤ tpoNext s k * nsPart) && decide ((tpoNext s k * nsPart : Int) < nowFine s + tickGain s)

/-- The time value reaches the start of a pulse (R590, R591). -/
def tpoPulse (k : Nat) (s : Dev) : Dev :=
  let t := s.tpo k
  if s.enabled (.tpo k) && t.armed && s.mode != .load && tpoDue s k then
    let a := tpoNext s k
    let s := s.on (!tpoFloats s) (fun s => s.setTpo k (fun t => { t with pulse := some (a * nsPart, (a + s.g (bTpo k) F.TPO_WIDTH_WIDTH) * nsPart) }))
    if s.gb (bTpo k) F.TPO_CFG_MODE then s.setTpo k (fun t => { t with next := t.next + 1 })
    else (tpoStop k s).p (bTpo k) F.TPO_STATUS_DONE 1
  else s

/-- The fine tick of the tick count at which the time value, at its present rate, is `v`; a whole tick while the delay line is out of range (R590, R138). -/
def fineOf (s : Dev) (v : Int) : Int :=
  let x : Int := s.tick * 64 + rndDiv ((v - nowFine s) * 64) (tickGain s).toNat
  if s.gb bMod F.MOD_DL_STATUS_COARSE then rndDiv x 64 * 64 else x

/-- The level of output k at a fine tick of the present tick; none: high impedance (R66, R502, R590, R591). An enabled output rests at the level that is not the pulse's. -/
def tpoOut (s : Dev) (k x : Nat) : Option Bool :=
  let b := bTpo k
  let high := !s.gb b F.TPO_CFG_INVERT
  if tpoFloats s then none
  else if (s.tpo k).pulse.any (fun w => decide (fineOf s w.1 ≤ x) && decide ((x : Int) < fineOf s w.2)) then some high
  else if s.enabled (.tpo k) then some !high
  else match s.g b F.TPO_CFG_IDLE with
    | 0 => some false
    | 1 => some true
    | _ => none

/-- Step the time value by an amount in 2^-40 ns (R579, R591): a pulse in progress keeps its ticks. -/
def stepTime (delta : Int) (s : Dev) : Dev :=
  let s := (setTime ((timeVal s : Int) + delta) s).p bTb F.TB_STICKY_STEPPED 1
  let s := s.each (upto 8) (fun k d => d.setTpo k (fun t => { t with pulse := t.pulse.map (fun w => (w.1 + delta, w.2 + delta)) }))
  s.each ((upto 8).filter (fun k => s.enabled (.tpo k) && (s.tpo k).armed)) tpoArm

/-- TB_CTRL.STEP (R579). -/
def tbStep (s : Dev) : Dev :=
  if !(s.mode == .load || s.mode == .hold) || s.role == .standby then s.p bTb F.TB_STATUS_RESULT 0x0A04
  else
    let d := s.gi bTb F.TB_STEP_SEC_SEC * 1000000000 + s.gi bTb F.TB_STEP_NS_NS
    stepTime (d * nsPart) (s.p bTb F.TB_STATUS_RESULT 0)

/-- An interval 2^l s in ticks. -/
def intvTicks (l : Int) : Nat := 250000000 * 2 ^ l.toNat / 2 ^ (0 - l).toNat

/-! ### Time states (R570 to R576) -/

def tState (s : Dev) : Nat := s.g bTb F.TB_STATUS_STATE
def tQualified (s : Dev) : Bool := s.gb bTb F.TB_STATUS_QUALIFIED
def srcPtp (s : Dev) : Bool := s.gb bTb F.TB_CFG_SRC

/-- The servo runs (R570, R574, R588, R589). -/
def servoOn (s : Dev) : Bool := srcPtp s && s.enabled .ptp && s.owns && s.sync < 4 && s.shed < 3

/-- The cause of TIME_LOSS begins or ends (R572). -/
def timeLoss (b : Bool) (s : Dev) : Dev := cause 0x184 0x1104 b (s.setTb (fun t => { t with lossCause := b }))

def setAddend (v : Int) (s : Dev) : Dev :=
  (s.pi bTb F.TB_ADDEND_ADDEND (sat32 v)).on (sat32 v != v) (fun s => s.p bTb F.TB_STICKY_SLEW_LIMIT 1)

/-- The addend of a rate given as num / den in 1/256 ppb (R568, R578). -/
def addendOf (num : Int) (den : Nat) : Int := rndDiv (num * 4398046511104) (den * 256000000000)

/-- The servo stops: the addend becomes the mean of FI over the last 64 accepted samples, and the state leaves LOCKED (R571, R572, R575). -/
def servoLost (s : Dev) : Dev :=
  let was := tState s
  let h := s.tb.hist
  let s := s.on (!h.isEmpty) (setAddend (addendOf (h.foldl (· + ·) 0) h.length))
  let s := (s.p bTb F.TB_STATUS_QUALIFIED 0).setTb (fun t => { t with qual := 0, good := 0, lastO := none, hoFrom := if was = 2 then s.tick else t.hoFrom })
  if was = 2 then timeLoss true ((s.p bTb F.TB_STATUS_STATE 1).p bTb F.TB_STICKY_LOSS 1) else s

/-- HOLDOVER has lasted HO_MAX (R571). -/
def holdoverMax (s : Dev) : Dev := if tState s = 1 && s.tb.hoFrom + s.g bTb F.TB_CFG_HO_MAX * 250000000 ≤ s.tick then s.p bTb F.TB_STATUS_STATE 0 else s

/-- A write of TB_CFG or TB_ADDEND_MAN: with SRC = NONE the addend is TB_ADDEND_MAN and the state FREE (R570, R571). -/
def srcChanged (s : Dev) : Dev :=
  if srcPtp s then (if tState s = 0 && s.gb bTb F.TB_STATUS_EVER_LOCKED && s.tb.hist.length > 0 then s.p bTb F.TB_STATUS_STATE 1 else s)
  else
    let s := ((s.wr (bTb + F.TB_ADDEND.off) (s.rd (bTb + F.TB_ADDEND_MAN.off))).p bTb F.TB_STATUS_STATE 0).p bTb F.TB_STATUS_QUALIFIED 0
    s.setTb (fun t => { t with qual := 0, good := 0, lastO := none })

/-! ### The servo (R576 to R579) -/

def perNs : Nat := 131072000

/-- One step of the servo for an offset (R578): r = -o / tau in ppb is the fraction num / den. -/
def servoStep (o : Int) (s : Dev) : Dev :=
  let l := sgn 4 (s.g bTb F.PTP_INTV_LOG_SYNC)
  let num : Int := (0 - o) * (2 ^ (0 - l).toNat : Nat)
  let den : Nat := perNs * 2 ^ l.toNat
  let step : Int := s.g bTb F.TB_SERVO_FI_STEP * 256
  let slew : Int := s.g bTb F.TB_LIMIT_SLEW_MAX
  let fi := clampI (s.tb.fi + clampI (rndDiv (256 * num) (den * 2 ^ s.g bTb F.TB_SERVO_KI_SH)) (0 - step) step) (-124928000) 124928000
  let dp := den * 2 ^ s.g bTb F.TB_SERVO_KP_SH
  let p := clampI num (0 - slew * dp) (slew * dp)
  let s := s.on (p != num) (fun s => s.p bTb F.TB_STICKY_SLEW_LIMIT 1)
  let s := (s.pi bTb F.TB_FI_FI fi).setTb (fun t => { t with fi := fi, hist := (fi :: t.hist).take 64 })
  setAddend (addendOf (fi * dp + 256 * p) dp) s

/-- An accepted offset sample of the selected master (R573, R576 to R579). -/
def offsetSample (o : Int) (s : Dev) : Dev :=
  let s := s.pi bTb F.TB_OFS_OFS (sat32 (rndDiv o 8192000))
  if !servoOn s then s
  else
    let near := match s.tb.lastO with | none => true | some p => decide (absI (o - p) ≤ 1000 * perNs + Sys2Proof.Config.driftBound)
    let was := tQualified s
    let q := if near then min (s.tb.qual + 1) 15 else 0
    let now := was || decide (q ≥ s.g bTb F.TB_LIMIT_QUAL_N)
    let s := (s.setTb (fun t => { t with lastO := some o, qual := q })).pb bTb F.TB_STATUS_QUALIFIED now
    let s := s.on (now && s.tb.lossCause) (timeLoss false)
    if s.mode == .ride && tState s != 2 then s.on (now && !was) (fun s => s.p bTb F.TB_STATUS_WAIT_RIDE 1)
    else
      let s := s.p bTb F.TB_STATUS_WAIT_RIDE 0
      if (s.mode == .load || s.mode == .hold) && now && absI o > 1000000 * perNs then
        (stepTime (0 - rndDiv (o * nsPart) perNs) s).setTb (fun t => { t with lastO := none, good := 0 })
      else
        let s := s.on (tState s = 2 || now) (servoStep o)
        let ok := decide (absI o ≤ s.g bTb F.TB_LIMIT_LOCK_TH * perNs)
        let good := if ok then min (s.tb.good + 1) 15 else 0
        let s := s.setTb (fun t => { t with good := good })
        if tState s = 2 then
          (if ok then s else timeLoss true (((s.p bTb F.TB_STATUS_STATE 1).p bTb F.TB_STICKY_LOSS 1).setTb (fun t => { t with hoFrom := s.tick })))
        else if now && good ≥ s.g bTb F.TB_LIMIT_LOCK_N then (s.p bTb F.TB_STATUS_STATE 2).p bTb F.TB_STATUS_EVER_LOCKED 1
        else s

/-! ### PTP messages (R577, R581 to R589) -/

def linkUp (s : Dev) (p : Nat) : Bool := s.gb (bPtpPort p) F.PTP_PSTATUS_LINK
def latRx (s : Dev) (p : Nat) : Int := s.g (bPtpPort p) F.PTP_LAT_RX_LAT * 131072
def latTx (s : Dev) (p : Nat) : Int := s.g (bPtpPort p) F.PTP_LAT_TX_LAT * 131072
def asymOf (s : Dev) (p : Nat) : Int := s.gi (bPtpPort p) F.PTP_ASYM_ASYM * 131072


/-- The ordinary clock takes the message: enabled, its domain and sdoId, link and NET up, not shed (R574, R583). -/
def ocTakes (s : Dev) (h : PtpHdr) : Bool :=
  s.enabled .ptp && netOn s && s.shed < 3 && linkUp s h.port.val && h.domain == s.g bTb F.PTP_CFG_DOMAIN && h.sdo == s.g bTb F.PTP_CFG_SDO

/-- The time stamp of a received frame: its arrival at J2 minus the latency of the port (R585). -/
def rxStamp (s : Dev) (h : PtpHdr) : Int := h.stamp * 2000 - latRx s h.port.val

def ocState (s : Dev) : Nat := s.g bTb F.PTP_STATUS_OC_STATE

/-- The ordinary clock may send (R574, R589). -/
def ocSends (s : Dev) : Bool := s.enabled .ptp && netOn s && s.shed < 3 && s.owns

def sendPtp (m : PtpOut) (s : Dev) : Dev := s.setTb (fun t => { t with out := t.out ++ [m] })
def clearOut (s : Dev) : Dev := s.setTb (fun t => { t with out := [], fwd := none })

/-- The message comes from the selected master. -/
def fromMaster (s : Dev) (h : PtpHdr) : Bool := s.tb.master == some ⟨h.src, h.srcPort, h.port.val⟩

/-- The path delay that applies to the selected master, by the mechanism (R577). -/
def pathDelay (s : Dev) (p : Nat) : Int := if s.gb bTb F.PTP_CFG_DELAY then s.g (bPtpPort p) F.PTP_PDELAY_DELAY * 8192000 else s.tb.mpd

/-- A Sync, complete with its correction: the offset o (R577). -/
def takeSync (p : Nat) (t2 : Int) (t1 : Nat) (corr : Int) (s : Dev) : Dev :=
  let d := t2 - t1 * 2000 - corr - asymOf s p
  let s := s.setTb (fun t => { t with t12 := some d, syncAt := s.tick })
  let s := s.on (ocState s == 8) (fun s => s.p bTb F.PTP_STATUS_OC_STATE 9)
  offsetSample (d - pathDelay s p) s

def ptpSync (h : PtpHdr) (origin : Nat) (s : Dev) : Dev :=
  let s := clearOut s
  if ocTakes s h && fromMaster s h then
    if h.twoStep then s.setTb (fun t => { t with wait := some ⟨⟨h.src, h.srcPort, h.port.val⟩, h.seq, rxStamp s h, h.corr * 2000⟩ })
    else takeSync h.port.val (rxStamp s h) origin (h.corr * 2000) s
  else s

def ptpFollowUp (h : PtpHdr) (precise : Nat) (s : Dev) : Dev :=
  let s := clearOut s
  if ocTakes s h && fromMaster s h then
    match s.tb.wait with
    | some w => if w.seq == h.seq then takeSync h.port.val w.t2 precise (w.corr + h.corr * 2000) (s.setTb (fun t => { t with wait := none })) else s
    | none => s
  else s

/-- The clock identity (R593): from the serial number. -/
def clockId : BitVec 64 := Sys2Proof.Config.serial

/-- The clockClass of R587. -/
def clockClass (s : Dev) : Nat := if tState s = 0 then s.g bTb F.PTP_DS_CLASS_FREE else s.g bTb F.PTP_DS_CLASS_HO

/-- The data set the ordinary clock announces of itself. -/
def ownAnn (s : Dev) : AnnBody :=
  { prio1 := s.g bTb F.PTP_DS_PRIORITY1, clockClass := clockClass s, accuracy := 254, variance := 65535, prio2 := s.g bTb F.PTP_DS_PRIORITY2,
    gm := clockId, steps := 0 }

/-- The order of the default best master clock algorithm: the first of the differing members decides; between equal grandmasters the fewer steps, then the lower sender. -/
def annKey (a : AnnBody) (sender : BitVec 64) (portNo : Nat) : List Nat :=
  [a.prio1, a.clockClass, a.accuracy, a.variance, a.prio2, a.gm.toNat, a.steps, sender.toNat, portNo]

def lexLt : List Nat → List Nat → Bool
  | x :: xs, y :: ys => x < y || (x == y && lexLt xs ys)
  | _, _ => false

def foreignKey (f : Foreign) : List Nat := annKey f.ann f.m.id f.m.portNo

/-- The best foreign master that has been heard at least twice. -/
def bestForeign (s : Dev) : Option Foreign :=
  (s.tb.foreign.filter (fun f => f.count ≥ 2)).foldl (fun (b : Option Foreign) f =>
    match b with | none => some f | some g => if lexLt (foreignKey f) (foreignKey g) then some f else some g) none

/-- A new selected master restarts qualification, and the servo is lost (R575, R576). -/
def selectMaster (m : Option Master) (s : Dev) : Dev :=
  if s.tb.master == m then s
  else
    let s := servoLost (s.setTb (fun t => { t with master := m, wait := none, dreq := none, t12 := none, syncAt := s.tick, annAt := s.tick }))
    match m with | some x => s.p bTb F.PTP_STATUS_SLAVE_PORT x.sg | none => s

/-- The state decision of the default algorithm (R583): MASTER 6, PASSIVE 7, UNCALIBRATED 8, SLAVE 9, LISTENING 4. -/
def decideState (s : Dev) : Dev :=
  let own := ownAnn s
  let slaveOnly := s.gb bTb F.PTP_CFG_SLAVE_ONLY
  let gm (x : BitVec 64) (s : Dev) : Dev := (s.wr (bTb + F.PTP_GM_ID.off) (w32 x.toNat)).wr (bTb + F.PTP_GM_ID.off + 4) (w32 (x.toNat / 4294967296))
  match bestForeign s with
  | none => if slaveOnly then selectMaster none (s.p bTb F.PTP_STATUS_OC_STATE 4) else gm clockId (selectMaster none (s.p bTb F.PTP_STATUS_OC_STATE 6))
  | some f =>
    if !slaveOnly && lexLt (annKey own clockId 1) (foreignKey f) then gm clockId (selectMaster none (s.p bTb F.PTP_STATUS_OC_STATE 6))
    else if !slaveOnly && 1 ≤ own.clockClass && own.clockClass ≤ 127 then gm f.ann.gm (selectMaster none (s.p bTb F.PTP_STATUS_OC_STATE 7))
    else
      let s := gm f.ann.gm s
      if s.tb.master == some f.m then s else selectMaster (some f.m) (s.p bTb F.PTP_STATUS_OC_STATE 8)

def ptpAnnounce (h : PtpHdr) (a : AnnBody) (s : Dev) : Dev :=
  let s := clearOut s
  if ocTakes s h && h.src != clockId && a.steps < 255 then
    let m : Master := ⟨h.src, h.srcPort, h.port.val⟩
    let old := s.tb.foreign.find? (fun f => f.m == m)
    let n := match old with | some f => if s.tick ≤ f.heard + 4 * intvTicks h.logIntv then f.count + 1 else 1 | none => 1
    let f : Foreign := ⟨m, a, h.logIntv, s.tick, h.seq, n⟩
    decideState (s.setTb (fun t => { t with foreign := (f :: t.foreign.filter (fun f => f.m != m)).take 8, annAt := if t.master == some m then s.tick else t.annAt }))
  else s

/-- A Delay_Resp (kind 0), Pdelay_Resp (1) or Pdelay_Resp_Follow_Up (2); `time` is the time stamp it carries (R577, R583). -/
def ptpDelayResp (h : PtpHdr) (kind time : Nat) (s : Dev) : Dev :=
  let s := clearOut s
  let p := h.port.val
  if !(ocTakes s h) then s
  else match kind with
    | 0 =>
      match s.tb.dreq, s.tb.t12 with
      | some (q, t3), some t12 =>
        if q == h.seq && fromMaster s h && !s.gb bTb F.PTP_CFG_DELAY then
          let d := (t12 + (time * 2000 - t3 - h.corr * 2000)) / 2
          (s.setTb (fun t => { t with mpd := d, dreq := none })).p bTb F.PTP_MPD_DELAY (rndDiv d 8192000).toNat
        else s
      | _, _ => s
    | 1 =>
      match s.tb.pdreq.find? (fun w => w.1 == p && w.2.1 == h.seq) with
      | some w =>
        let x := rxStamp s h - w.2.2 - h.corr * 2000 - asymOf s p
        let s := (s.setTb (fun t => { t with pdreq := t.pdreq.filter (fun w => w.1 != p) })).p (bPtpPort p) F.PTP_PSTATUS_PEER_OK 1
        if h.twoStep then s.setTb (fun t => { t with pdwait := (p, h.seq, x, time * 2000) :: t.pdwait.filter (fun w => w.1 != p) })
        else s.p (bPtpPort p) F.PTP_PDELAY_DELAY (rndDiv (x / 2) 8192000).toNat
      | none => s
    | _ =>
      match s.tb.pdwait.find? (fun w => w.1 == p && w.2.1 == h.seq) with
      | some w =>
        let x := w.2.2.1 - (time * 2000 - w.2.2.2) - h.corr * 2000
        (s.setTb (fun t => { t with pdwait := t.pdwait.filter (fun w => w.1 != p) })).p (bPtpPort p) F.PTP_PDELAY_DELAY (rndDiv (x / 2) 8192000).toNat
      | none => s

/-- The transparent clock forwards an event message from one SG port to the other (R584): its type, and the stamp of its departure. -/
def tcForward (h : PtpHdr) (type egress : Nat) (s : Dev) : Dev :=
  let s := clearOut s
  let i := h.port.val
  let e := 1 - i
  let p2p := s.gb bTb F.PTP_CFG_DELAY
  if !netOn s || !linkUp s i || !linkUp s e || (p2p && type ≥ 2) then s
  else if !s.gb bTb F.PTP_CFG_TC_EN then s.setTb (fun t => { t with fwd := some (e, h.corr) })
  else
    let res : Int := (egress * 2000 + latTx s e) - rxStamp s h
    let asym : Int := if type = 0 then asymOf s i else if type = 1 || type = 2 then 0 - asymOf s e else asymOf s i
    let link : Int := if p2p && type = 0 then s.g (bPtpPort i) F.PTP_PDELAY_DELAY * 8192000 else 0
    s.setTb (fun t => { t with fwd := some (e, h.corr + rndDiv (res + asym + link) 2000) })

/-- The time value in 2^-16 ns, as messages carry it. -/
def ptpNow (s : Dev) : Nat := timeVal s / 16777216

def masterSync (s : Dev) : Dev :=
  let s := clearOut s
  if ocSends s && ocState s == 6 then
    sendPtp ⟨0, 2, s.tb.seqSync, ptpNow s, 0, none⟩ (s.setTb (fun t => { t with seqSync := (t.seqSync + 1) % 65536 }))
  else s

def announceSend (s : Dev) : Dev :=
  let s := clearOut s
  if ocSends s && ocState s == 6 then
    sendPtp ⟨11, 2, s.tb.seqAnn, 0, 0, some (ownAnn s)⟩ (s.setTb (fun t => { t with seqAnn := (t.seqAnn + 1) % 65536 }))
  else s

/-- A Delay_Req of a slave, or a Pdelay_Req on every port with link in P2P (R583); its correction carries minus the asymmetry of the port (R585). -/
def delayReqSend (s : Dev) : Dev :=
  let s := clearOut s
  if !ocSends s then s
  else
    let seq := s.tb.seqDreq
    let now : Int := ptpNow s * 2000
    let s := s.setTb (fun t => { t with seqDreq := (t.seqDreq + 1) % 65536 })
    if s.gb bTb F.PTP_CFG_DELAY then
      s.each ((upto 2).filter (fun p => linkUp s p)) (fun p d =>
        let d := if d.tb.pdreq.any (fun w => w.1 == p) then d.p (bPtpPort p) F.PTP_PSTATUS_PEER_OK 0 else d
        sendPtp ⟨2, p, seq, ptpNow d, 0 - rndDiv (asymOf d p) 2000, none⟩
          (d.setTb (fun t => { t with pdreq := (p, seq, now + latTx d p) :: t.pdreq.filter (fun w => w.1 != p) })))
    else if ocState s == 8 || ocState s == 9 then
      match s.tb.master with
      | some m => sendPtp ⟨1, m.sg, seq, ptpNow s, 0 - rndDiv (asymOf s m.sg) 2000, none⟩ (s.setTb (fun t => { t with dreq := some (seq, now + latTx s m.sg) }))
      | none => s
    else s

/-- A Delay_Req at the master, or a Pdelay_Req in P2P, and its answer (R583). -/
def delayReqRx (h : PtpHdr) (pdelay : Bool) (s : Dev) : Dev :=
  let s := clearOut s
  if !(ocTakes s h && ocSends s) then s
  else if pdelay then
    (if s.gb bTb F.PTP_CFG_DELAY then
       sendPtp ⟨3, h.port.val, h.seq, 0, h.corr + rndDiv ((ptpNow s * 2000 + latTx s h.port.val) - rxStamp s h) 2000, none⟩ s
     else s)
  else if ocState s == 6 && !s.gb bTb F.PTP_CFG_DELAY then
    sendPtp ⟨9, h.port.val, h.seq, (rndDiv (rxStamp s h) 2000).toNat, h.corr, none⟩ s
  else s

/-- No accepted Sync of the selected master for SYNC_TMO sync intervals (R575). -/
def syncTimeout (s : Dev) : Dev :=
  if s.tb.master.isSome && s.tb.syncAt + s.g bTb F.PTP_INTV_SYNC_TMO * intvTicks (sgn 4 (s.g bTb F.PTP_INTV_LOG_SYNC)) ≤ s.tick then servoLost s else s

/-- The announce receipt timeout, of the selected master where there is one: ANN_TMO announce intervals (R575). -/
def announceTimeout (s : Dev) : Dev :=
  if s.tick < s.tb.annAt + s.g bTb F.PTP_INTV_ANN_TMO * intvTicks (sgn 4 (s.g bTb F.PTP_INTV_LOG_ANN)) then s
  else
  let s := s.setTb (fun t => { t with annAt := s.tick })
  match s.tb.master with
  | some m => decideState (s.setTb (fun t => { t with foreign := t.foreign.filter (fun f => f.m != m) }))
  | none => decideState (s.setTb (fun t => { t with foreign := [] }))

/-- An SG port loses link (R575). -/
def sgLoss (p : Nat) (s : Dev) : Dev :=
  let s := (s.p (bPtpPort p) F.PTP_PSTATUS_LINK 0).p (bPtpPort p) F.PTP_PSTATUS_PEER_OK 0
  let slave := s.tb.master.any (fun m => m.sg == p)
  let s := s.setTb (fun t => { t with foreign := t.foreign.filter (fun f => f.m.sg != p) })
  if slave then decideState (servoLost s) else s

def sgUp (p : Nat) (s : Dev) : Dev := s.p (bPtpPort p) F.PTP_PSTATUS_LINK 1

/-- PTP is disabled (R583): LOCKED goes to HOLDOVER. -/
def ptpStop (s : Dev) : Dev :=
  let s := servoLost s
  (s.setTb (fun t => { t with master := none, foreign := [], wait := none, dreq := none, t12 := none })).p bTb F.PTP_STATUS_OC_STATE 3

/-- PTP starts (R583). -/
def ptpStart (s : Dev) : Dev := (s.setTb (fun t => { t with annAt := s.tick })).p bTb F.PTP_STATUS_OC_STATE 4

/-- The standby takes the active module's addend and any step (R588). -/
def mirrorTime (add : Int) (step : Int) (fi : Int) (state : Nat) (s : Dev) : Dev :=
  if s.role == .standby || s.sync ≥ 4 then
    let s := ((s.pi bTb F.TB_ADDEND_ADDEND add).pi bTb F.TB_FI_FI fi).p bTb F.TB_STATUS_STATE state
    let s := s.setTb (fun t => { t with fi := fi })
    s.on (step != 0) (stepTime step)
  else s

end Sys2Proof.Machine
end

