-- ==== Sys2Proof/Machine/Memory.lean ====
section
/-! DEFINITION. The slot memory (R23, R24): one serial NOR memory of 128 MiB as a sparse list of cells, an unlisted byte erased (0xFF). Programming clears bits; erasing a sector sets every bit of it. -/

namespace Sys2Proof.Machine

/-- What an unlisted byte of slot memory reads as: an erased byte. -/
def nvBlank : Nat → Byte := fun _ => 0xFF#8

/-- One byte of the slot memory. -/
def nvGet (m : List Host.Cell) (a : Nat) : Byte := tget nvBlank m a

/-- Program one byte: a NOR cell only loses bits. -/
def nvPut (m : List Host.Cell) (a : Nat) (b : Byte) : List Host.Cell := tset nvBlank m a (nvGet m a &&& b)

/-- Program consecutive bytes. -/
def nvProgram (m : List Host.Cell) (a : Nat) : List Byte → List Host.Cell
  | [] => m
  | b :: t => nvProgram (nvPut m a b) (a + 1) t

/-- Erase a range: its bytes read 0xFF. -/
def nvErase (m : List Host.Cell) (a n : Nat) : List Host.Cell := teraseRange m a n

/-- `n` bytes from an address. -/
def nvRead (m : List Host.Cell) (a : Nat) : Nat → List Byte
  | 0 => []
  | n + 1 => nvGet m a :: nvRead m (a + 1) n

/-- A little-endian word of the slot memory (R27). -/
def nvWord (m : List Host.Cell) (a : Nat) : Nat := leNat (nvRead m a 4)

/-- Every byte of a range is erased. -/
def nvIsBlank (m : List Host.Cell) (a n : Nat) : Bool := m.all (fun c => !(a ≤ c.1 && c.1 < a + n))

/-- The canonical form of the slot memory: addresses strictly rising, no entry that reads 0xFF. -/
abbrev Memory.wf (m : List Host.Cell) : Prop := twf nvBlank m = true

/-- The OTP as data: anchor state and hash of a slot, rollback counter (R40). -/
def Otp.state (o : Otp) (k : Nat) : Anchor := tget (fun _ => .empty) o.anchor k
def Otp.hash (o : Otp) (k : Nat) : BitVec 256 := tget (fun _ => 0#256) o.anchorHash k
def Anchor.code : Anchor → Nat | .empty => 0 | .enrolled => 1 | .revoked => 3

/-- The hash of a public key: the first 32 bytes of its SHA-512 digest (R40). -/
def keyHash (key : List Byte) : BitVec 256 := (Sys2Proof.Config.sha512 key).extractLsb' 256 256

/-- Bytes as a number with the first byte most significant, as keys and digests are held. -/
def beNat (l : List Byte) : Nat := l.foldl (fun n b => n * 256 + b.toNat) 0

/-- The `n` bytes of a number, most significant first. -/
def beBytes (n x : Nat) : List Byte := (leBytes n x).reverse

/-- Base and sector size of the last-gasp area (R24). -/
def lgBase : Nat := 0x7F00000
def lgSector (k : Nat) : Nat := lgBase + 0x1000 * k

end Sys2Proof.Machine
end

