-- ==== Sys2Proof/Machine/Shown.lean ====
section
/-! DEFINITION. What the registers show that no write stores: the fields the device computes from its state when they are read. -/

namespace Sys2Proof.Machine

/-- FAULT_SUMMARY (R499). -/
def faultSummary (s : Dev) : Nat :=
  let l := liveSrcs s
  let act := (l.filter (fun n => s.srcState n != 0)).length
  let sev := (l.filter (srcSevere s)).length
  let held := l.any (fun n => (srcSevere s n || causeActive s n) && (effective s n).2.2 == 2)
  let halt := (upto 8).foldl (fun m i => if s.halted i then bitSet m i else m) 0
  act % 1024 + 1024 * (sev % 1024) + 2 ^ 20 * b2n (rideActive s) + 2 ^ 21 * b2n held + 2 ^ 24 * halt

/-- A mask of the 32 numbers from 32 k that have a property. -/
def mask32 (k : Nat) (p : Nat → Bool) : Nat := (upto 32).foldl (fun m i => if p (32 * k + i) then bitSet m i else m) 0

/-- NODE_MOD_STATUS.FALLBACK of a member of an enabled string: every leg that does not adapt has FIXED in force (R163, R166). -/
def fallbackMask (s : Dev) (n : Nat) : Nat :=
  let st := s.g (bNode n) F.NODE_MOD_STATUS_FALLBACK
  match s.stringOf n with
  | none => st
  | some (i, _) => (upto 6).foldl (fun m y => if adapting s i n y then m else bitSet m y) st

/-- NODE_MOD_STATUS.BS_PENDING: the refresh requests not yet served (R176, R400, R205). -/
def refreshMask (s : Dev) (n stored : Nat) : Nat :=
  match s.stringOf n with
  | none => stored
  | some (i, _) => (upto 6).foldl (fun m y => if stringRuns s i && refreshDue s n y s.tick then bitSet m y else m) stored

/-- The DESAT threshold in force of a leg: VMAX of its primary profile until the node has acknowledged one (R388). -/
def vthInForce (s : Dev) (n y : Nat) : Nat :=
  if (s.node n).desat.isEmpty then s.g (bProf (s.profOf n y)) F.PROF_DESAT_LIM_VMAX else (s.node n).desat.getD y 0

/-- STR_WIN_MASK (R370): positions whose quantity 0 is stale or outside the window. -/
def winMask (s : Dev) (i : Nat) : Nat :=
  (s.members i).foldl (fun m w =>
    let v := teleNow s w.2 0
    if !v.2 || outOfWin s i v.1 then bitSet m w.1 else m) 0

/-- NODE_PROT_STATE (R417, R423). -/
def protState (s : Dev) (n : Nat) : Nat :=
  let x := s.node n
  let react := match x.react with | none => 0 | some .bypassLow => 2 | some .bypassHigh => 3 | some .block => 4
  faulty s n % 4096 + 4096 * react + 32768 * b2n (unbypassable s n) + 65536 * x.det + 262144 * b2n x.recov.isSome
    + 524288 * b2n (Nat.land x.stPass (usedSwitches s n) == usedSwitches s n && usedSwitches s n != 0) + 1048576 * b2n x.stRun.isSome
    + 2097152 * b2n (underReaction s n)

/-- NODE_STATE (R291): what the node last reported, and the state of its port. -/
def nodeState (s : Dev) (n : Nat) : Nat :=
  let q := s.port (s.portOf n)
  let drive := q.nstate == .driven || q.nstate == .holdover
  let w := (s.rd (bNode n + F.NODE_STATE.off)).toNat
  w / 65536 * 65536 + q.nstate.code + 8 * b2n (s.node n).params + 16 * b2n q.reach
    + 32 * b2n (q.reach && drive && s.gb (bPort (s.portOf n)) F.LNK_PSTATE_OBEYS_THIS) + 64 * b2n (s.node n).contactor

/-- Words per trace sample, and the ring length in bytes (R488). -/
def ringBytes (s : Dev) : Nat := traceCap s * 4 * traceWords s

/-- The word of the frozen ring at a byte offset (R490). -/
def traceWord (s : Dev) (a : Nat) : Word :=
  let w := traceWords s
  let cap := traceCap s
  let first := (s.flt.ringPos - s.flt.ring.length) % cap
  let k := (a / (4 * w) + cap - first) % cap
  if s.g bFlt F.TRC_STATUS_STATE = 3 then ((s.flt.ring.getD k []).getD (a / 4 % w) 0#32) else 0#32

/-- The busy fraction of an engine over the last millisecond, in 1/256 (R345): 8 core cycles an evaluation, 250,000 ticks. -/
def engBusy (s : Dev) (e : Nat) : Nat :=
  let n := ((s.busy.filter (fun w => w.2.1 == e && s.tick < w.1 + 250000)).map (fun w => w.2.2)).foldl (· + ·) 0
  min 255 (n * 8 * s.g bClk F.CLK_DIV_CORE * 256 / (10 * 250000))

/-- A node channel with a start step open (R410). -/
def stepOpen (s : Dev) (n : Nat) : Bool := 1 ≤ (s.node n).step && (s.node n).step ≤ 4

/-- DEV_BOOT.BOOT_ID: drawn at every reset, never 0 (R690, R691). -/
def bootId (s : Dev) : Word :=
  let b := Sys2Proof.Config.random (2 * s.img.boots) 32
  if b = 0#32 then 1#32 else b

/-- IMG_NONCE as 32 bytes (R44, R47): each renewal takes a draw of its own, so no nonce comes again by the count of draws. -/
def nonceBytes (s : Dev) : List Byte := leBytes 32 (Sys2Proof.Config.random (2 * s.img.nonces + 1) 256).toNat

/-- OTP_STATE (R64). -/
def otpState (o : Otp) : Nat := (o.state 0).code + 4 * (o.state 1).code + 16 * (o.state 2).code + 64 * (o.state 3).code + 256 * o.rollback

/-- The value a read of register `k` of the row at offset `o` of a block shows, where it is computed; none: the stored word. -/
def shownReg (v : State) (l : Loc) (base k : Nat) : Option Nat :=
  let s := v.d
  let o := l.off - 4 * k
  let i := l.idx
  let w := (s.rd (base + l.off)).toNat
  let at_ (f : Fld) : Bool := o == f.off
  match l.fam with
  | .dev =>
    if at_ F.DEV_INFO then some (Sys2Proof.Config.variant.toNat + 256 * Sys2Proof.Config.step.toNat)
    else if at_ F.DEV_ROLE then some (s.g bSs F.SS_STATUS_ROLE + 4 * s.g bSs F.SS_STATUS_PEER_ROLE)
    else if at_ F.DEV_BOOT then some (bootId s).toNat
    else if at_ F.LMP_STATUS then some (w / 8 * 8 + s.hs.sess.length)
    else if at_ F.LMP_MAC_LO then some (Sys2Proof.Config.mac.toNat % 4294967296)
    else if at_ F.LMP_MAC_HI then some (Sys2Proof.Config.mac.toNat / 4294967296)
    else none
  | .str =>
    let mv := s.kind i == 1 && s.enabled (.string i)
    if at_ F.STR_STATUS then some (w / 2 * 2 + b2n (stringRuns s i))
    else if !mv then none
    else if at_ F.STR_CELL_STATUS then
      some (putBits (w32 w) 9 1 (b2n (Nat.land (winMask s i) (activePos s i (s.gF (bStr i) F.STR_ACTIVE_MASK) |>.foldl bitSet 0) == 0))).toNat
    else if at_ F.STR_WIN_MASK then some (winMask s i) else none
  | .node =>
    if at_ F.NODE_STATE then some (nodeState s i)
    else if at_ F.NODE_PROT_STATE then some (protState s i)
    else if at_ F.NODE_MOD_STATUS then some (putBits (putBits (w32 w) 0 6 (fallbackMask s i)) 16 6 (refreshMask s i (w / 65536 % 64))).toNat
    else if at_ F.NODE_DT_NOW then some ((s.leg i k).dtPos % 65536 + 65536 * ((s.leg i k).dtNeg % 65536))
    else if at_ F.NODE_DESAT_NOW then some (vthInForce s i (2 * k) % 65536 + 65536 * (vthInForce s i (2 * k + 1) % 65536))
    else none
  | .rg => if at_ F.RG_STATUS then some (w / 2 * 2 + b2n (groupRuns s i)) else none
  | .loopStat =>
    let o := s.rd (bLoopS i + F.LS_OSC.off)
    if at_ F.LOOP_STAT then some (putBits (putBits (w32 w) 12 1 (getBits o 22 1)) 16 3 (getBits o 15 3)).toNat else none
  | .loopTab => if at_ F.ENG_LOAD then some (putBits (w32 w) 20 8 (engBusy s k)).toNat else none
  | .lnk =>
    if at_ F.LNK_READY then some (mask32 k (fun p => portUp s p))
    else if at_ F.LNK_REACH then some (mask32 k (fun p => (s.port p).reach)) else none
  | .prot =>
    if at_ F.PROT_STATUS then
      let open_ := (enabledNodes s).filter (stepOpen s)
      some (w % 256 / 2 * 2 + b2n ((upto 8).all (fun i => !(s.enabled (.string i) && (s.str i).stepsOpen))) + 256 * open_.length)
    else none
  | .flt =>
    if at_ F.FAULT_SUMMARY then some (faultSummary s)
    else if at_ F.FAULT_PIN_CTRL then some (putBits (w32 w) 9 1 (b2n s.pinN)).toNat
    else if at_ F.FLT_FIFO_STATUS then some (w / 2 ^ 28 * 2 ^ 28 + s.flt.fifo.length + 65536 * severeHeld s)
    else if at_ F.FLT_REC then some (match s.flt.fifo with | [] => 0 | r :: _ => fieldLE (recBytes r) (4 * k) 4)
    else if at_ F.FLT_ACTIVE then some (mask32 k (fun n => s.srcState n != 0))
    else if at_ F.FLT_SEVERE then some (mask32 k (srcSevere s))
    else if at_ F.TRC_START then some ((s.flt.ringPos - s.flt.ring.length) % traceCap s * 4 * traceWords s)
    else if at_ F.TRC_TRIG_POS then some (s.flt.trigPos % traceCap s * 4 * traceWords s)
    else if at_ F.TRC_DATA then some (traceWord s (s.g bFlt F.TRC_READ_ADDR)).toNat
    else none
  | .ss =>
    if at_ F.SS_STATUS then some (putBits (w32 w) 8 1 (b2n (eligible s))).toNat
    else if at_ F.SS_REVERT_LEFT then some (revertLeft s) else none
  | .tb =>
    if at_ F.PTP_STATUS then some (if s.enabled .ptp && !s.owns then (putBits (w32 w) 0 4 7).toNat else w)
    else if at_ F.PTP_CLOCK_ID then some (clockId.toNat / 4294967296 ^ k % 4294967296)
    else none
  | .can =>
    let c := i
    let st (n : Nat) : Nat := s.g (bObj (256 * c + n)) F.OBJ_STATUS_STATE
    if at_ F.CAN_STATUS then some (if s.gb (bCan c) F.CAN_ENABLE && !s.owns then (putBits (w32 w) 0 3 6).toNat else w)
    else if at_ F.CAN_TXPEND then some (mask32 k (fun n => 1 ≤ st n && st n ≤ 3))
    else if at_ F.CAN_NEW then some (mask32 k (fun n => s.gb (bObj (256 * c + n)) F.OBJ_STATUS_NEW)) else none
  | .img =>
    if at_ F.OTP_STATE then some (otpState v.nv.otp)
    else if at_ F.IMG_NONCE then some (fieldLE (nonceBytes s) (4 * k) 4)
    else if at_ F.NV_INFO then some Sys2Proof.Config.sfdp.toNat
    else if at_ F.IMG_CERT then some (fieldLE Sys2Proof.Config.certificate (4 * k) 4)
    else none
  | _ => none

/-- The object whose slot a location belongs to, for the slotted kinds (R92). -/
def slotOfLoc (l : Loc) : Option Obj :=
  match l.fam with
  | .str | .protStr => some (.string l.idx)
  | .node => some (.node l.idx)
  | .loopD | .loopChk | .loopStat | .loopS => some (.loop l.idx)
  | .prof => some (.profile l.idx)
  | _ => none

/-- What a read of a register shows, without its side effect (R6, R92, R674): WO bits and unmapped addresses read 0, and so does the block of a FREE slot. -/
def shown (v : State) (a : Nat) : Word :=
  match locate a with
  | none => 0#32
  | some l =>
    let free := match slotOfLoc l with | some o => !v.d.occupied o | none => false
    match l.reg with
    | none => 0#32
    | some r =>
      if free then 0#32
      else
        let k := (l.off - r.off) / 4
        w32 (Nat.land ((shownReg v l (a - l.off) k).getD (v.d.rd a).toNat) (4294967295 - r.wo))

end Sys2Proof.Machine
end

