-- ==== Sys2Proof/Machine/Can.lean ====
section
/-! DEFINITION. The CAN FD controllers and their message objects (R596 to R620), and the change of the module that every command makes (`State.upd`). -/

namespace Sys2Proof.Machine

def Dev.canc (s : Dev) (c : Nat) : CanSt := tget (fun _ => canSt0) s.cans c
def Dev.setCan (s : Dev) (c : Nat) (f : CanSt → CanSt) : Dev := { s with cans := tset (fun _ => canSt0) s.cans c (f (s.canc c)) }
def Dev.obj (s : Dev) (o : Nat) : ObjSt := tget (fun _ => objSt0) s.objs o
def Dev.setObj (s : Dev) (o : Nat) (f : ObjSt → ObjSt) : Dev := { s with objs := tset (fun _ => objSt0) s.objs o (f (s.obj o)) }

/-- The state of an object: 0 IDLE, 1 PENDING, 2 SENDING, 3 TX_HELD, 4 DONE, 5 FAILED, 6 CONFLICT, 7 SUSPENDED (R623). -/
def objState (s : Dev) (o : Nat) : Nat := s.g (bObj o) F.OBJ_STATUS_STATE
def setObjState (o v : Nat) (s : Dev) : Dev := s.p (bObj o) F.OBJ_STATUS_STATE v

/-- The state of a controller as it works on a bus: 0 OFF, 1 INTEGRATING, 2 ERROR_ACTIVE, 3 ERROR_PASSIVE, 4 BUS_OFF, 5 RECOVERING (R623). -/
def canState (s : Dev) (c : Nat) : Nat := s.g (bCan c) F.CAN_STATUS_STATE

/-- The object whose OBJ_ENABLE lies at an address. -/
def objOfEnable (a : Nat) : Option Nat :=
  if 0x508000 ≤ a ∧ a < 0x510000 ∧ a % 0x80 = 0 then some ((a - 0x508000) / 0x80)
  else if 0x518000 ≤ a ∧ a < 0x520000 ∧ a % 0x80 = 0 then some (256 + (a - 0x518000) / 0x80)
  else none

/-- The enabled objects of both controllers, in order. -/
def enabledObjs (s : Dev) : List Nat := s.regs.filterMap (fun w => (objOfEnable w.1).bind (fun o => if getBits w.2 0 1 = 1 then some o else none))

def objsOf (s : Dev) (c : Nat) : List Nat := (enabledObjs s).filter (fun o => o / 256 == c)

def isTx (s : Dev) (o : Nat) : Bool := s.g (bObj o) F.OBJ_CFG_DIR == 2
def isAlarm (s : Dev) (o : Nat) : Bool := s.gb (bObj o) F.OBJ_CFG_ALARM
def isSafety (s : Dev) (o : Nat) : Bool := s.gb (bObj o) F.OBJ_CFG_SAFETY

/-- The object takes part at the shed stage in force (R619). -/
def takesPart (s : Dev) (o : Nat) : Bool := s.shed < 2 || isSafety s o || isAlarm s o

/-! ### Alarms (R615) and suspension (R619) -/

/-- The oldest alarm of the queue that controller c has not sent. -/
def alarmFor (s : Dev) (c : Nat) : Option Rec := s.flt.canQ.find? (fun r => !(s.canc c).gone.contains r.rseq)

/-- Bring one object into line with the alarm queue and the shed stage. -/
def refreshObj (o : Nat) (s : Dev) : Dev :=
  let st := objState s o
  let s := if isTx s o && isAlarm s o && (st == 0 || st == 4 || st == 5) && (alarmFor s (o / 256)).isSome && s.owns then setObjState o 1 s else s
  let st := objState s o
  if takesPart s o then (if st == 7 then setObjState o (s.obj o).prev s else s)
  else if isTx s o && (st == 1 || st == 3) then setObjState o 7 (s.setObj o (fun x => { x with prev := st }))
  else s

/-- Bring the objects into line. -/
def refreshCan (s : Dev) : Dev := s.each (enabledObjs s) refreshObj

/-- The conditions of HOLD to CHARGE (R69). -/
def chargeable (s : Dev) : Bool := s.gb bDev F.DEV_ENABLE && s.owns && s.g bPwr F.PWR_STATE_STATE ≤ 1 && s.shed < 3

/-- The start mode of the CONFIG image is taken when the role resolution after LOAD has ended (R70). -/
def takeStart (s : Dev) : Dev :=
  if s.img.startCharge && s.mode != .load && !s.img.resolving && !s.pair.ejected && (s.sync == 0 || s.sync == 7) then
    let t := { s with img := { s.img with startCharge := false } }
    if s.mode != .hold then t
    else if chargeable s && !s.img.enableRefused then t.post (.mode .charge 0x02)
    else t.p bDev F.DEV_MODE_CAUSE 0x0C
  else s

/-- Change the module, then take the events that the change raised. -/
def State.run (s : State) (f : Dev → Dev) : State := { s with d := refreshElig (refreshCan (settle (takeStart (settle (f s.d))))) }

/-- A command that changes the module: the datagrams that an earlier command sent are gone. -/
def State.upd (s : State) (f : Dev → Dev) : State := s.run (fun d => f { d with hs := { d.hs with out := [] } })

/-! ### Arbitration (R606, R612) -/

/-- The arbitration field of an object as a number (R606): 11 bits, the IDE bit, 18 bits. -/
def arbKey (s : Dev) (o : Nat) : Nat :=
  let id := s.g (bObj o) F.OBJ_ID_ID
  if s.gb (bObj o) F.OBJ_CFG_IDE then id / 262144 * 524288 + 262144 + id % 262144 else id % 2048 * 524288

/-- The PENDING object that goes next (R606); an alarm object only with an alarm to send. -/
def nextTx (s : Dev) (c : Nat) : Option Nat :=
  ((objsOf s c).filter (fun o => isTx s o && objState s o == 1 && (!isAlarm s o || (alarmFor s c).isSome))).foldl
    (fun (best : Option Nat) o => match best with
      | none => some o
      | some b => if arbKey s o < arbKey s b then some o else some b) none

/-- The object that waits in TX_HELD after a bus-off (R611, R612), or is SUSPENDED from it (R619). -/
def heldTx (s : Dev) (c : Nat) : Option Nat := (objsOf s c).find? (fun o => objState s o == 3 || (objState s o == 7 && (s.obj o).prev == 3))

/-- The controller can take part in traffic: enabled, its domain CORE not in retention, not off the bus. -/
def onBus (s : Dev) (c : Nat) : Bool :=
  s.gb (bCan c) F.CAN_ENABLE && coreOn s && (canState s c == 1 || canState s c == 2 || canState s c == 3)

/-- ERROR_ACTIVE or ERROR_PASSIVE by the counters, which the status shows (R610). -/
def errState (c : Nat) (s : Dev) : Dev :=
  let x := s.canc c
  let st := if x.tec ≥ 128 || x.recc ≥ 128 then 3 else 2
  let s := s.on (st == 3 && canState s c != 3) (fun s => s.p (bCan c) F.CAN_STICKY_ERR_PASSIVE 1)
  ((s.p (bCan c) F.CAN_STATUS_STATE st).p (bCan c) F.CAN_STATUS_TEC (min x.tec 255)).p (bCan c) F.CAN_STATUS_REC (min x.recc 255)

/-- The eight bytes of a CAN alarm (R493). -/
def alarmBytes (r : Rec) : List Byte :=
  leBytes 2 r.source ++ leBytes 2 r.kind ++ leBytes 1 (r.state % 4 + 4 * b2n r.cause + 16 * r.type) ++ leBytes 1 r.react ++ leBytes 2 r.rseq

/-- A start of frame: the object chosen goes into transmission (R606, R612, R615, R617). -/
def canTxStart (c : Nat) (s : Dev) : Dev :=
  if !(onBus s c && s.owns && (s.canc c).cur.isNone) then s
  else
    match ((s.canc c).first.filter (fun o => objState s o == 3)).or (nextTx s c) with
    | none => s
    | some o =>
      let s := errState c s
      let b := bObj o
      let n := dlcLen (s.g b F.OBJ_CFG_DLC) (s.g b F.OBJ_CFG_FMT == 1)
      let data := (upto 16).flatMap (fun k => leBytes 4 (s.rd (b + F.OBJ_DATA.off + 4 * k)).toNat)
      let a := if isAlarm s o then alarmFor s c else none
      let bytes := match a with
        | some r => alarmBytes r
        | none => data.take n
      (setObjState o 2 (s.setObj o (fun x => { x with abort := false, alarm := a.map (·.rseq), sent := bytes }))).setCan c (fun x => { x with cur := some o })

/-! ### Ends of attempts (R608 to R614, R618) -/

/-- Count an attempt against RETRY (R608): the exhausted request, and the object. RETRIES has four bits; what it shows beyond 15 is left open. -/
def countRetry (o : Nat) (s : Dev) : Bool × Dev :=
  let b := bObj o
  let lim := s.g b F.OBJ_CFG_RETRY
  let r := s.g b F.OBJ_STATUS_RETRIES
  if r = 15 then let w := s.draw 4; (lim != 15, w.2.p b F.OBJ_STATUS_RETRIES w.1.toNat)
  else (lim != 15 && r + 1 > lim, s.p b F.OBJ_STATUS_RETRIES (r + 1))

/-- The conflict limit of an object (R613). -/
def conflictLimit (s : Dev) (o : Nat) : Nat := let r := s.g (bObj o) F.OBJ_CFG_RETRY; if r = 15 then 8 else r + 1

/-- What the end of an attempt leaves of an object (R607 to R614): the state it takes, and the module. -/
def objEnd (o : Nat) (x : CanEnd) (busOff : Bool) (s : Dev) : Nat × Dev :=
  let b := bObj o
  let clearC (s : Dev) : Dev := s.p b F.OBJ_STATUS_CONFLICTS 0
  let w : Nat × Dev := match x with
    | .ok => (4, (clearC s).p b F.OBJ_STATUS_RETRIES 0)
    | .arbLost =>
      let s := clearC (s.inc b F.OBJ_STATUS_ARB_LOST)
      if s.gb (bCan (o / 256)) F.CAN_CFG_ARB_RETRY_LIMIT then
        let r := countRetry o s
        (if r.1 then 5 else 1, r.2)
      else (1, s)
    | .err _ _ conflict _ =>
      let s := if conflict then s.inc b F.OBJ_STATUS_CONFLICTS else clearC s
      let r := countRetry o s
      let s := r.2
      (if busOff then 3 else if conflict && s.g b F.OBJ_STATUS_CONFLICTS ≥ conflictLimit s o then 6 else if r.1 then 5 else 1, s)
  let st := if (s.obj o).abort && (w.1 == 1 || w.1 == 3) then 0 else w.1
  (st, setObjState o st (w.2.setObj o (fun x => { x with abort := false })))

/-- An alarm has been sent by controller c; it leaves the queue by R615. -/
def alarmSent (c rseq : Nat) (s : Dev) : Dev :=
  let s := s.setCan c (fun x => { x with gone := x.gone ++ [rseq] })
  let other := 1 - c
  let waits := s.gb bCanG F.CAN_GCFG_ALARM_DUAL && (objsOf s other).any (fun o => isTx s o && isAlarm s o) && !(s.canc other).gone.contains rseq
  if waits then s
  else
    let s := { s with flt := { s.flt with canQ := s.flt.canQ.filter (fun r => r.rseq != rseq) } }
    s.each (upto 2) (fun k d => d.setCan k (fun x => { x with gone := x.gone.filter (· != rseq) }))

/-- Entry to BUS_OFF, with recovery at once under AUTO_RECOV (R611, R612); `held` says whether the object in transmission is held. -/
def busOffEntry (c : Nat) (held : Bool) (s : Dev) : Dev :=
  let s := if held then s else match nextTx s c with | some o => setObjState o 3 s | none => s
  let s := raise (0x188 + c) (0x1108 + c) (s.p (bCan c) F.CAN_STICKY_BUS_OFF 1)
  s.p (bCan c) F.CAN_STATUS_STATE (if s.gb (bCan c) F.CAN_CFG_AUTO_RECOV then 5 else 4)

/-- What the delay compensation makes of the end of an attempt (R601): a secondary sample point beyond 127 kernel clocks is a bit error in the data phase, of either kind. -/
def tdcEnd (c : Nat) (x : CanEnd) (tdcv : Option Nat) (s : Dev) : CanEnd × Dev :=
  if x == .ok && tdcv.any (fun v => decide (127 < v + s.g (bCan c) F.CAN_TDC_TDCO)) then
    let w := s.draw 1
    (.err (4 + w.1.toNat) true true false, w.2)
  else (x, s)

/-- An attempt ends (R601, R608 to R613, R615): its end, and the transmitter delay where it was measured. -/
def canTxEnd (c : Nat) (x : CanEnd) (tdcv : Option Nat) (s : Dev) : Dev :=
  match (s.canc c).cur with
  | none => s
  | some o =>
    let b := bCan c
    let meas := tdcv.filter (fun v => s.gb b F.CAN_CFG_TDC_EN && s.g (bObj o) F.OBJ_CFG_FMT == 1 && s.gb (bObj o) F.OBJ_CFG_BRS && decide (s.g b F.CAN_TDC_TDCF ≤ v))
    let w := tdcEnd c x meas s
    let x := w.1
    let s := w.2
    let tec := (s.canc c).tec
    let s := match x with
      | .ok => s.setCan c (fun y => { y with tec := tec - 1 })
      | .arbLost => s
      | .err lec dp _ no => ((s.setCan c (fun y => { y with tec := if no then tec else tec + 8 })).p b F.CAN_ERR_LEC lec).pb b F.CAN_ERR_LEC_DATA dp
    let s := match meas with | some v => s.p b F.CAN_STATUS_TDCV v | none => s
    let off := (s.canc c).tec ≥ 256
    let s := errState c s
    let w := objEnd o x off (s.setCan c (fun y => { y with cur := none }))
    let s := w.2
    let s := s.on (w.1 == 5) (fun s => s.p b F.CAN_STICKY_TX_FAIL 1)
    let s := s.on (w.1 == 6) (fun s => raise 0x18A 0x110A (s.p b F.CAN_STICKY_ID_CONFLICT 1))
    let s := s.on (x == .ok) (fun s => match (s.obj o).alarm with | some r => alarmSent c r s | none => s)
    let s := if (s.canc c).first == some o then (if w.1 == 1 then setObjState o 3 s else s.setCan c (fun y => { y with first := heldTx s c })) else s
    s.on off (busOffEntry c (w.1 == 3))

/-- The standby applies the end of an attempt of the active module to the same object (R618). -/
def mirrorCan (o : Nat) (x : CanEnd) (busOff : Bool) (s : Dev) : Dev :=
  if s.follows && s.enabled (.obj o) && isTx s o then (objEnd o x busOff s).2 else s

/-! ### Recovery (R612) -/

/-- CAN_CTRL.RECOVER. -/
def canRecover (c : Nat) (s : Dev) : Nat × Dev :=
  if canState s c != 4 || s.gb (bCan c) F.CAN_CFG_AUTO_RECOV then (0x0B08, s) else (0, s.p (bCan c) F.CAN_STATUS_STATE 5)

/-- 128 sequences of 11 recessive bits have passed. -/
def canRecoveryEnd (c : Nat) (s : Dev) : Dev :=
  if canState s c != 5 then s
  else
    let s := errState c (s.setCan c (fun y => { y with tec := 0, recc := 0, cur := none }))
    match heldTx s c with
    | some o => (s.p (bObj o) F.OBJ_STATUS_RETRIES 0).setCan c (fun y => { y with first := some o })
    | none => s

/-! ### Reception (R603, R604, R610, R619) -/

/-- A receive object matches a frame (R603). -/
def rxMatches (s : Dev) (f : CanFrame) (o : Nat) : Bool :=
  let b := bObj o
  s.g b F.OBJ_CFG_DIR == 1 && s.gb b F.OBJ_CFG_IDE == f.ide && (s.g b F.OBJ_CFG_FMT == 2 || s.g b F.OBJ_CFG_FMT == b2n f.fdf)
    && Nat.land (Nat.xor f.id (s.g b F.OBJ_ID_ID)) (s.g b F.OBJ_MASK_MASK) == 0 && takesPart s o

/-- Store a frame (R604); `stamp` is T at its start of frame. -/
def rxStore (f : CanFrame) (stamp : Word) (o : Nat) (s : Dev) : Dev :=
  let b := bObj o
  let new := s.gb b F.OBJ_STATUS_NEW
  let s := s.on new (fun s => (s.p b F.OBJ_STATUS_OVERRUN 1).p (bCan (o / 256)) F.CAN_STICKY_RX_OVERRUN 1)
  if new && !s.gb b F.OBJ_CFG_OVERWRITE then s
  else
    let n := dlcLen f.dlc f.fdf
    let bytes := f.data.take n
    (s.setObj o (fun x => { x with
      data := (upto 16).map (fun k => w32 (fieldLE bytes (4 * k) 4)), stamp := stamp,
      info := w32 (f.id + 2 ^ 29 * b2n f.fdf + 2 ^ 30 * b2n f.brs + 2 ^ 31 * b2n f.esi), len := w32 (f.dlc + 65536 * n) })).p b F.OBJ_STATUS_NEW 1

/-- A receive error: its kind, its phase, and what it adds to REC (R610). -/
def canRxError (c lec : Nat) (dp : Bool) (up : Nat) (s : Dev) : Dev :=
  let st := canState s c
  let s := errState c (((s.setCan c (fun y => { y with recc := y.recc + up })).p (bCan c) F.CAN_ERR_LEC lec).pb (bCan c) F.CAN_ERR_LEC_DATA dp)
  if st == 1 then s.p (bCan c) F.CAN_STATUS_STATE 1 else s

/-- A protocol exception: bus integration; with PXHD = 1 it is a form error in the nominal phase instead (R596). -/
def protException (c : Nat) (s : Dev) : Dev :=
  if s.gb (bCan c) F.CAN_CFG_PXHD then canRxError c 2 false 1 s
  else (s.p (bCan c) F.CAN_STICKY_PXE 1).p (bCan c) F.CAN_STATUS_STATE 1

/-- A valid frame (R603, R604, R610). REC above 127 falls to a value of 119 to 127 that the standard leaves open. -/
def canRx (c : Nat) (f : CanFrame) (stamp : Word) (s : Dev) : Dev :=
  if !onBus s c then s
  else if f.fdf && !s.gb (bCan c) F.CAN_CFG_FD_EN then protException c s
  else
    let r := (s.canc c).recc
    let w := s.draw 4
    let s := if r > 127 then w.2.setCan c (fun y => { y with recc := 119 + w.1.toNat % 9 }) else s.setCan c (fun y => { y with recc := r - 1 })
    let s := errState c s
    if f.rtr then s
    else match (objsOf s c).find? (rxMatches s f) with
      | some o => rxStore f stamp o s
      | none => s.inc (bCan c) F.CAN_ERR_RX_UNMATCHED

/-- A receive error or a protocol exception (R596, R610). -/
def canError (c : Nat) (x : CanErr) (s : Dev) : Dev :=
  if !onBus s c then s
  else match x with
    | .error lec dp up => canRxError c lec dp up s
    | .exception => protException c s

/-- A read of OBJ_RXINFO latches the stored frame (R605). -/
def latchRx (o : Nat) (s : Dev) : Dev :=
  if s.g (bObj o) F.OBJ_CFG_DIR = 1 then
    let x := s.obj o
    let b := bObj o
    let s := ((s.wr (b + F.OBJ_RXINFO.off) x.info).wr (b + F.OBJ_RXLEN.off) x.len).wr (b + F.OBJ_TSTAMP.off) x.stamp
    s.each (upto 16) (fun k d => d.wr (b + F.OBJ_DATA.off + 4 * k) (x.data.getD k 0#32))
  else s

/-! ### Requests of the host (R606, R607, R614, R615) -/

/-- The held object no longer goes first: the next one held does. -/
def heldFirst (o : Nat) (s : Dev) : Dev :=
  if (s.canc (o / 256)).first == some o then s.setCan (o / 256) (fun y => { y with first := heldTx s (o / 256) }) else s

/-- OBJ_CMD.ABORT (R607). -/
def objAbort (o : Nat) (s : Dev) : Dev :=
  let st := objState s o
  if st == 1 || st == 3 || st == 7 then heldFirst o (setObjState o 0 s)
  else if st == 2 then s.setObj o (fun x => { x with abort := true })
  else s

/-- OBJ_CMD.REQ (R606, R607, R614). -/
def objReq (o : Nat) (s : Dev) : Nat × Dev :=
  let st := objState s o
  if s.g (bObj o) F.OBJ_CFG_DIR = 1 then (0x0B06, s)
  else if !s.enabled (.obj o) || !(st == 0 || st == 4 || st == 5 || st == 6) then (0x0B05, s)
  else (0, setObjState o 1 (s.on (st == 6) (fun s => s.p (bObj o) F.OBJ_STATUS_CONFLICTS 0)))

/-- A write of OBJ_DATA is refused (R607, R615). -/
def objDataRefused (s : Dev) (o : Nat) : Bool :=
  let st := objState s o
  if isTx s o then isAlarm s o || st == 1 || st == 2 || st == 3 || st == 7
  else s.g (bObj o) F.OBJ_CFG_DIR == 1 && s.enabled (.obj o)

/-- A controller is enabled or disabled: it begins to integrate with its counters at 0, or is OFF. -/
def canEnabled (c : Nat) (on : Bool) (s : Dev) : Dev :=
  let s := s.setCan c (fun y => { y with tec := 0, recc := 0, cur := none, first := none })
  ((s.p (bCan c) F.CAN_STATUS_STATE (b2n on)).p (bCan c) F.CAN_STATUS_TEC 0).p (bCan c) F.CAN_STATUS_REC 0

/-- An object is disabled: what it held or sent is dropped. -/
def objDisabled (o : Nat) (s : Dev) : Dev :=
  heldFirst o (setObjState o 0 (s.setCan (o / 256) (fun y => if y.cur == some o then { y with cur := none } else y)))

end Sys2Proof.Machine
end

