-- ==== Sys2Proof/Machine/Image.lean ====
section
/-! DEFINITION. Signed images in slot memory (R24 to R35), their verification (R41), the choice at start (R48) and the background commands (R51 to R56). -/

namespace Sys2Proof.Machine

/-! ### Banks and headers (R24 to R33) -/

def Bank.base : Bank → Nat | .bankA => 0 | .bankB => 0x4000000
def Bank.size : Bank → Nat | .bankA => 0x4000000 | .bankB => 0x3E00000
def Bank.code : Bank → Nat | .bankA => 0 | .bankB => 1
def bankOf : Nat → Option Bank | 0 => some .bankA | 1 => some .bankB | _ => none

/-- The state of a bank (R26): 0 EMPTY, 1 HALF_WRITTEN, 2 SEALED. -/
def bankState (m : List Host.Cell) (b : Bank) : Nat :=
  let x := nvWord m b.base
  let y := nvWord m (b.base + 4)
  if x = 0xFFFFFFFF ∧ y = 0xFFFFFFFF then 0 else if x = 0x5A5A0001 ∧ y = 0xA5A50002 then 2 else 1

/-- The kind of an image (R31): its code, its place in the bank and its largest length (R25). -/
inductive ImgKind where | firmware | config
deriving DecidableEq, Repr

def ImgKind.code : ImgKind → Nat | .firmware => 1 | .config => 2
def imgAt (b : Bank) : ImgKind → Nat | .firmware => b.base + 0x1000 | .config => b.base + 0x1000000
def ImgKind.most : ImgKind → Nat | .firmware => 16773120 | .config => 48234496

def imgHeader (m : List Host.Cell) (b : Bank) (k : ImgKind) : List Byte := nvRead m (imgAt b k) 256

def hdSeq (h : List Byte) : Nat := fieldLE h 8 4
def hdRollback (h : List Byte) : Nat := fieldLE h 0xC 1
def hdVersion (h : List Byte) : Nat := fieldLE h 0x90 4

/-- A section of an image (R33): type, offset, length, digest. -/
structure Section where
  type : Nat
  off : Nat
  len : Nat
  digest : BitVec 512
deriving DecidableEq, Repr

def sectionOf (t : List Byte) (k : Nat) : Section :=
  let e := slice t (80 * k) 80
  { type := fieldLE e 0 2, off := fieldLE e 4 4, len := fieldLE e 8 4, digest := BitVec.ofNat 512 (beNat (slice e 16 64)) }

def secCount (h : List Byte) : Nat := fieldLE h 0x14 2
def tableBytes (m : List Host.Cell) (b : Bank) (k : ImgKind) : List Byte := nvRead m (imgAt b k + 0x100) (80 * min 64 (secCount (imgHeader m b k)))
def sections (m : List Host.Cell) (b : Bank) (k : ImgKind) : List Section :=
  let h := imgHeader m b k
  let t := tableBytes m b k
  (upto (min 64 (secCount h))).map (sectionOf t)

/-- The order in which sections are applied (R36), which lists all CONFIG types (R34). -/
def sectionOrder : List Nat :=
  [0x0101, 0x0106, 0x0108, 0x0107, 0x010A, 0x0109, 0x010C, 0x010D, 0x0105, 0x010E, 0x0103, 0x0102, 0x010F, 0x0110, 0x0104, 0x010B]

def typeOk (k : ImgKind) (t : Nat) : Bool := match k with | .firmware => 1 ≤ t && t ≤ 0xFF | .config => sectionOrder.contains t

/-- No two of the sections overlap, and no type appears twice. -/
def apart : List Section → Bool
  | [] => true
  | x :: t => t.all (fun y => (x.off + x.len ≤ y.off || y.off + y.len ≤ x.off) && x.type != y.type) && apart t

/-- The layout test of R34, with the reserved bytes of R31. -/
def layoutOk (m : List Host.Cell) (b : Bank) (k : ImgKind) : Bool :=
  let h := imgHeader m b k
  let n := secCount h
  let len := fieldLE h 0x10 4
  let l := sections m b k
  fieldLE h 0xD 3 == 0 && fieldLE h 0x16 2 == 0 && (slice h 0x99 39).all (· == 0) && len ≤ k.most && 1 ≤ n && n ≤ 64
    && fieldLE h 0x18 4 == 0x100
    && l.all (fun x => 0x100 + 80 * n ≤ x.off && x.off + x.len ≤ len && x.off % 8 == 0 && typeOk k x.type) && apart l

/-! ### Records (R34, R35) -/

/-- A record of a CONFIG section. -/
structure CfgRec where
  type : Nat
  idx : Nat
  create : Bool
  enable : Bool
  words : List (Nat × Word)
deriving DecidableEq, Repr

/-- The object a record type names, by its index; none: a window (R34, R35). -/
def recObj (type idx : Nat) : Option Obj :=
  match type with
  | 0x0102 => some (.string idx) | 0x0103 => some (.node idx) | 0x0104 => some (.loop idx) | 0x0105 => some (.profile idx) | _ => none

/-- The number of indices of a record type (R35). -/
def recIdx (type : Nat) : Nat := match type with | 0x0102 => 8 | 0x0103 => 96 | 0x0104 => 2048 | 0x0105 => 16 | _ => 1

/-- The register address of an offset of a record's target block; none: outside the block (R34). -/
def recTarget (type idx off : Nat) : Option Nat :=
  let win (base size : Nat) : Option Nat := if off < size then some (base + off) else none
  match type with
  | 0x0101 => win 0 0x10000
  | 0x0102 => win (bStr idx) 0x1000
  | 0x0103 => win (bNode idx) 0x1000
  | 0x0104 => if off < 0x40 then some (bLoopD idx + off) else if off < 0x60 then some (bLoopS idx + off - 0x40) else none
  | 0x0105 => win (bProf idx) 0x40
  | 0x0106 => win bClk 0x40000
  | 0x0107 => win 0x500000 0x40000
  | 0x0108 => win bTb 0x40000
  | 0x0109 => win bFlt 0x40000
  | 0x010A => win bPwr 0x40000
  | 0x010B => win bSs 0x40000
  | 0x010C => win bSens 0x40000
  | 0x010D => win bLnk 0x40000
  | 0x010E => win bProt 0x1000
  | 0x010F => win bMod 0x40000
  | 0x0110 => win bLoopCom 0x1000
  | _ => none

/-- One record at the head of the bytes of a section; none: it is not well formed (R35). -/
def recAt (type : Nat) (b : List Byte) : Option (CfgRec × List Byte) :=
  let n := fieldLE b 4 2
  let idx := fieldLE b 2 2
  let fl := fieldLE b 6 2
  let obj := (recObj type idx).isSome
  if b.length < 8 + 8 * n || fieldLE b 0 2 != type || recIdx type ≤ idx || n < 1 || 1024 < n || 4 ≤ fl || (fl != 0 && !obj) then none
  else some ({ type := type, idx := idx, create := bitOf fl 0, enable := bitOf fl 1,
               words := (upto n).map (fun k => (fieldLE b (8 + 8 * k) 4, w32 (fieldLE b (12 + 8 * k) 4))) }, b.drop (8 + 8 * n))

/-- The records of a section; `fuel` bounds their number. -/
def recsOf (type : Nat) : Nat → List Byte → Option (List CfgRec)
  | _, [] => some []
  | 0, _ => none
  | fuel + 1, b => match recAt type b with
    | none => none
    | some (r, t) => (recsOf type fuel t).map (r :: ·)

/-- The word names what a record may write (R41, 0x020F): an offset inside the block that holds no register with RO or WO fields only. An offset of the block that holds no register passes here, and its write is refused when the record is applied (R65, 0x0210). -/
def wordOk (type idx : Nat) (w : Nat × Word) : Bool :=
  match recTarget type idx w.1 with
  | some a => match locate a with
    | some ⟨_, _, _, some r⟩ => r.rw != 0 || r.w1c != 0
    | _ => true
  | none => false

/-- The test of every record of a section: 0, 0x020E or 0x020F (R41). -/
def recsCheck (type : Nat) (b : List Byte) : Nat :=
  match recsOf type (b.length / 16 + 1) b with
  | none => 0x020E
  | some l => if l.any (fun r => r.words.any (fun w => w.1 % 4 != 0)) then 0x020E
    else if l.all (fun r => r.words.all (wordOk r.type r.idx)) then 0 else 0x020F

/-! ### Verification (R41) -/

/-- The key of an image is trusted (R30, R41). -/
def trusted (nv : Nv) (k : ImgKind) (h : List Byte) : Bool :=
  let key := slice h 0x20 32
  let slot := fieldLE h 7 1
  match k with
  | .firmware => keyHash key == Sys2Proof.Config.firmwareKeyHash
  | .config => slot < 4 && nv.otp.state slot == .enrolled && keyHash key == nv.otp.hash slot

/-- The slot memory cannot be read at all (R65, 0x0211). -/
def Nv.dead (nv : Nv) : Bool := nv.fit == .noSfdp || nv.fit == .small || nv.fit == .silent

/-- An image cannot be read (R65, 0x0211). -/
def Nv.unread (nv : Nv) (b : Bank) (k : ImgKind) : Bool := nv.dead || nv.fit == .badArea b (k == .config)

/-- R41: the first failing reason, 0 if none, and the section type for 0x020E and 0x020F. -/
def verifyImage (nv : Nv) (b : Bank) (k : ImgKind) : Nat × Nat :=
  let m := nv.mem
  let h := imgHeader m b k
  let slot := fieldLE h 7 1
  let l := sections m b k
  let bytes (x : Section) : List Byte := nvRead m (imgAt b k + x.off) x.len
  if nv.unread b k then (0x0211, 0)
  else if fieldLE h 0 4 != 0x47494D4C then (0x0202, 0)
  else if fieldLE h 4 2 != 1 then (0x0203, 0)
  else if fieldLE h 6 1 != k.code || (match k with | .firmware => slot != 0xFF | .config => slot ≥ 4) then (0x0204, 0)
  else if fieldLE h 0x1C 4 != 0x004F960D then (0x0205, 0)
  else if !layoutOk m b k then (0x020B, 0)
  else if !trusted nv k h then (0x0206, 0)
  else if !Sys2Proof.Config.ed25519Verify (BitVec.ofNat 256 (beNat (slice h 0x20 32))) (slice h 0 0xC0) (BitVec.ofNat 512 (beNat (slice h 0xC0 64)))
    then (0x0207, 0)
  else if Sys2Proof.Config.sha512 (tableBytes m b k) != BitVec.ofNat 512 (beNat (slice h 0x40 64)) then (0x0209, 0)
  else if l.any (fun x => Sys2Proof.Config.sha512 (bytes x) != x.digest) then (0x020A, 0)
  else if hdRollback h < nv.otp.rollback then (0x020C, 0)
  else match k with
    | .firmware => (0, 0)
    | .config =>
      if hdVersion (imgHeader m b .firmware) < fieldLE h 0x94 4 then (0x020D, 0)
      else match l.find? (fun x => recsCheck x.type (bytes x) != 0) with
        | some x => (recsCheck x.type (bytes x), x.type)
        | none => (0, 0)

/-- The records of the CONFIG image of a bank in the order of R36. -/
def configRecs (m : List Host.Cell) (b : Bank) : List CfgRec :=
  let l := sections m b .config
  sectionOrder.flatMap (fun t => match l.find? (fun x => x.type == t) with
    | some x => (recsOf t (x.len / 16 + 1) (nvRead m (imgAt b .config + x.off) x.len)).getD []
    | none => [])

/-! ### The choice at start (R48) -/

/-- What the choice has found so far: reason noted with its section, fallback, chosen bank, results by bank. -/
structure Choice where
  reason : Nat × Nat
  fallback : Option Bank
  chosen : Option Bank
  tried : List (Bank × Nat × Nat)  -- bank, reason of FIRMWARE, reason of CONFIG

/-- Try one candidate. -/
def tryBank (nv : Nv) (c : Choice) (b : Bank) : Choice :=
  if c.chosen.isSome then c
  else
    let f := verifyImage nv b .firmware
    if f.1 != 0 then { c with reason := f, tried := c.tried ++ [(b, f.1, 0)] }
    else
      let g := verifyImage nv b .config
      if g.1 != 0 then { c with reason := g, fallback := c.fallback.or (some b), tried := c.tried ++ [(b, 0, g.1)] }
      else { c with chosen := some b, tried := c.tried ++ [(b, 0, 0)] }

/-- The SEALED banks in the order in which they are tried. -/
def candidates (m : List Host.Cell) : List Bank :=
  let s (b : Bank) : Nat := hdSeq (imgHeader m b .config)
  (if s .bankB ≤ s .bankA then [Bank.bankA, .bankB] else [.bankB, .bankA]).filter (fun b => bankState m b == 2)

/-- The banks tried in order (R48); of a memory that cannot be read none is known as SEALED, and the reason noted is 0x0211 (R65; DEDUCED, log entry 91). -/
def choose (nv : Nv) : Choice :=
  if nv.dead then { reason := (0x0211, 0), fallback := none, chosen := none, tried := [] }
  else (candidates nv.mem).foldl (tryBank nv) { reason := (0x0201, 0), fallback := none, chosen := none, tried := [] }

/-- IMG_BANK_x of a bank after a choice (R63); a bank that cannot be read shows STATE 0 and the reason 0x0211 (DEDUCED, log entry 91). -/
def bankWord (nv : Nv) (c : Choice) (b : Bank) : Word :=
  let st := bankState nv.mem b
  if nv.dead then w32 (65536 * 0x0211)
  else match c.tried.find? (fun w => w.1 == b) with
  | none => w32 st
  | some (_, f, g) => w32 (st + 4 * b2n (f == 0) + 8 * b2n (f == 0 && g == 0) + 65536 * (if f != 0 then f else g))

/-- The last-gasp scan after the end of LOAD (R645): newest LGSEQ and target sector. -/
def lgScan (m : List Host.Cell) : Nat × Nat :=
  (upto 256).foldl (fun (best : Nat × Nat) k =>
    let b := nvRead m (lgSector k) 256
    let seq := fieldLE b 8 4
    if fieldLE b 0 4 == 0x474C4D4C && (crc32 (b.take 252)).toNat == fieldLE b 252 4 && best.1 < seq then (seq, (k + 1) % 256) else best) (0, 0)

/-- LOAD ends in HOLD (R39, R69), with the scan of the last-gasp area. -/
def endLoad (m : List Host.Cell) (s : Dev) : Dev :=
  let g := lgScan m
  let blank := nvIsBlank m (lgSector g.2) 0x1000
  let s := ((s.p bPwr F.PWR_LG_STATUS_SECTOR g.2).p bPwr F.PWR_LG_STATUS_LGSEQ g.1).pb bPwr F.PWR_LG_STATUS_READY blank
  let s := { s with pwr := { s.pwr with lgSeq := g.1, lgErase := !blank }, img := { s.img with resolving := true, applyBank := none } }
  s.post (.mode .hold 0x00)

/-- The device chooses images and starts their firmware (R48 to R50, R57, R62 to R64, R716). In ROM hold no firmware runs and IMG_FW_VER reads 0. -/
def chooseImages (nv : Nv) (s : Dev) : Dev :=
  let m := nv.mem
  let skip := s.img.skipHalf
  let c := choose nv
  let s := (s.wr (bImg + F.IMG_BANK_A.off) (bankWord nv c .bankA)).wr (bImg + F.IMG_BANK_B.off) (bankWord nv c .bankB)
  let s := (s.pb bImg F.IMG_STATUS_SKIP_HALF_USED skip).pb bImg F.IMG_STATUS_CFG_APPLIED false
  let s := { s with img := { s.img with skipHalf := false, applyBank := none, runCfg := [], startCharge := false, enableRefused := false, requests := [] } }
  let s := (s.wr (bImg + F.IMG_DETAIL.off) 0#32).wr (bImg + F.IMG_RUN_SEQ.off) 0#32
  let check (r : Nat × Nat) (s : Dev) : Dev :=
    (s.p bImg F.IMG_CHECK_REASON r.1).p bImg F.IMG_DETAIL_SECTION (if r.1 == 0x020E || r.1 == 0x020F then r.2 else 0)
  let run (b : Bank) (s : Dev) : Dev :=
    let h := imgHeader m b .firmware
    let s := ((s.p bImg F.IMG_STATUS_RUN_BANK b.code).p bImg F.IMG_STATUS_ROM_HOLD 0).p bImg F.IMG_FW_VER_VERSION (hdVersion h)
    { s with img := { s.img with runFw := h } }
  match c.chosen, c.fallback with
  | none, none =>
    let s := check c.reason ((s.p bImg F.IMG_STATUS_ROM_HOLD 1).p bImg F.IMG_FW_VER_VERSION 0)
    { s with img := { s.img with runFw := [] } }
  | none, some b => endLoad m (check c.reason (run b s))
  | some b, _ =>
    if (bankState m .bankA == 1 || bankState m .bankB == 1) && !skip then endLoad m (check (0x0208, 0) (run b s))
    else
      let s := check (0, 0) (run b s)
      { s with img := { s.img with applyBank := some b } }

def romHold (s : Dev) : Bool := s.gb bImg F.IMG_STATUS_ROM_HOLD
def imgBusy (s : Dev) : Bool := s.gb bImg F.IMG_OP_STATUS_BUSY

/-! ### Background commands (R51 to R56) -/

/-- The bytes of IMG_BUF. -/
def bufBytes (s : Dev) (n : Nat) : List Byte := ((upto ((n + 3) / 4)).flatMap (fun k => leBytes 4 (s.rd (bImg + F.IMG_BUF.off + 4 * k)).toNat)).take n

/-- VHOLD is below the S1 threshold (R56). -/
def sagging (s : Dev) : Bool := s.shed ≥ 1 && s.g bPwr F.PWR_SHED_VHOLD < shedThreshold 1

/-- Why a background command on a bank is refused (R51, R52, R55, R56, R669); 0: it is not. The order of the tests, and the reason after a withdrawal, are the model's (DESIGN CHOICE, log entries 88 and 18). -/
def bankRefusal (s : Dev) (b : Bank) : Nat :=
  if imgBusy s then 0x0213
  else if sagging s || s.pair.withdrawn then 0x021E
  else if b.code == s.g bImg F.IMG_STATUS_RUN_BANK && s.img.runFw != [] && !(s.mode == .hold || romHold s) then 0x0212
  else 0

/-- Begin a background command: BUSY reads 1, and DONE, STOPPED and RESULT keep what the one before left (R64; DESIGN CHOICE, log entry 89). -/
def startBg (op : BgOp) (s : Dev) : Dev :=
  let s := (s.p bImg F.IMG_OP_STATUS_BUSY 1)
  { s with img := { s.img with bg := some op, bgStop := false, bgSag := false } }

def bankErase (a0 : Word) (s : Dev) : Nat × Dev :=
  match bankOf a0.toNat with
  | none => (0x0105, s)
  | some b => let r := bankRefusal s b; if r != 0 then (r, s) else (0, startBg (.erase b) s)

def bankWrite (a0 a1 a2 : Word) (s : Dev) : Nat × Dev :=
  match bankOf a0.toNat with
  | none => (0x0105, s)
  | some b =>
    let r := bankRefusal s b
    if a1.toNat % 256 != 0 || a1.toNat < 0x1000 || a2.toNat < 1 || 4096 < a2.toNat || b.size < a1.toNat + a2.toNat then (0x021B, s)
    else if r != 0 then (r, s)
    else (0, startBg (.write b a1.toNat a2.toNat) s)

def bankSeal (a0 : Word) (s : Dev) : Nat × Dev :=
  match bankOf a0.toNat with
  | none => (0x0105, s)
  | some b => let r := bankRefusal s b; if r != 0 then (r, s) else (0, startBg (.seal b) s)

def nvReadCmd (a0 a1 : Word) (s : Dev) : Nat × Dev :=
  if a1.toNat < 1 || 4096 < a1.toNat || 0x8000000 < a0.toNat + a1.toNat then (0x021B, s)
  else if imgBusy s then (0x0213, s)
  else if sagging s then (0x021E, s)
  else (0, startBg (.read a0.toNat a1.toNat) s)

/-- The end of a background command reported (R51, R64); STOPPED is set where R56 has stopped it. -/
def endBg (reason : Nat) (s : Dev) : Dev :=
  let s := (((s.p bImg F.IMG_OP_STATUS_BUSY 0).p bImg F.IMG_OP_STATUS_DONE 1).p bImg F.IMG_OP_STATUS_RESULT reason).on s.img.bgSag
    (fun s => s.p bImg F.IMG_OP_STATUS_STOPPED 1)
  { (s.irq F.DEV_IRQ_STATUS_IMG_OP) with img := { s.img with bg := none, bgStop := false, bgSag := false } }

/-- What a background command leaves in slot memory and in IMG_BUF when it ends (R51 to R56). `done` is how many bytes it has worked on where it was stopped after a page or sector, in ascending order from the base of the bank or of the write; `fault` says that the memory failed (R65). The RESULT of a stopped command is 0x021E (DESIGN CHOICE, log entry 89). -/
def bgEnd (done : Nat) (fault : Bool) (nv : Nv) (s : Dev) : Nv × Dev :=
  match s.img.bg with
  | none => (nv, s)
  | some op =>
    let stop := s.img.bgStop
    let fault := fault || nv.dead
    let bankTo (m : List Host.Cell) (b : Bank) (s : Dev) : Dev :=
      let f := match b with | .bankA => F.IMG_BANK_A_STATE | .bankB => F.IMG_BANK_B_STATE
      s.p bImg f (bankState m b)
    match op with
    | .erase b =>
      let n := if stop || fault then min b.size (done / 4096 * 4096) else b.size
      let m := nvErase nv.mem b.base n
      ({ nv with mem := m }, endBg (if fault then 0x0211 else if stop then 0x021E else 0) (bankTo m b s))
    | .write b off len =>
      let n := if stop || fault then min len (done / 256 * 256) else len
      let m := if bankState nv.mem b == 0 then nvProgram nv.mem b.base (leBytes 4 0x5A5A0001) else nv.mem
      let data := bufBytes s len
      let m := nvProgram m (b.base + off) (data.take n)
      let bad := nvRead m (b.base + off) n != data.take n
      ({ nv with mem := m }, endBg (if fault then 0x0211 else if bad then 0x021A else if stop then 0x021E else 0) (bankTo m b s))
    | .seal b =>
      let f := verifyImage nv b .firmware
      let g := if f.1 != 0 then f else verifyImage nv b .config
      if fault then (nv, endBg 0x0211 s)
      else if stop then (nv, endBg 0x021E s)
      else if g.1 != 0 then (nv, endBg g.1 s)
      else
        let m := nvProgram nv.mem (b.base + 4) (leBytes 4 0xA5A50002)
        ({ nv with mem := m }, endBg 0 (bankTo m b s))
    | .read a len =>
      if fault then (nv, endBg 0x0211 s)
      else
        let len := if stop then min len done else len
        let data := nvRead nv.mem a len
        let s := s.each (upto ((len + 3) / 4)) (fun k d =>
          let old := leBytes 4 (d.rd (bImg + F.IMG_BUF.off + 4 * k)).toNat
          let new := (slice data (4 * k) (min 4 (len - 4 * k)))
          d.wr (bImg + F.IMG_BUF.off + 4 * k) (w32 (leNat (new ++ old.drop new.length))))
        (nv, endBg (if stop then 0x021E else 0) s)

/-! ### Anchors, rollback and attestation (R42 to R47, R60) -/

/-- Renew IMG_NONCE (R47). -/
def renewNonce (s : Dev) : Dev := { s with img := { s.img with nonces := s.img.nonces + 1 } }

/-- EJECT_REQ is asserted and has been so without a break for 1 s (R44); it had been held for 10 ms at `ejectAt`, and the lever has not left the request position since. -/
def leverHeld (s : Dev) : Bool := match s.pair.ejectAt with | some t => decide (t + 247500000 ≤ (s.tick : Int)) | none => false

/-- The request of R45: whether it carries a nonce in force and a signature that R44 accepts. A request that names a signer slot while no anchor is ENROLLED is not taken as unsigned; only 0xFF is (DESIGN CHOICE, log entry 87). -/
def requestAuth (nv : Nv) (req : List Byte) (lmp : Bool) (s : Dev) : Bool :=
  let signer := fieldLE req 0x21 1
  let none_ := (upto 4).all (fun k => nv.otp.state k != .enrolled)
  let key := nvRead nv.mem (0x7E00000 + 0x1000 * signer + 8) 32
  slice req 0x30 32 == nonceBytes s &&
    (if signer = 0xFF then none_ && !lmp
     else signer < 4 && nv.otp.state signer == .enrolled && keyHash key == nv.otp.hash signer &&
       Sys2Proof.Config.ed25519Verify (BitVec.ofNat 256 (beNat key)) (slice req 0 0x50) (BitVec.ofNat 512 (beNat (slice req 0x50 64))))

/-- The tests common to ENROL and REVOKE: 0 when they pass. The order where several fail is the model's (DESIGN CHOICE, log entry 87). -/
def anchorRefusal (op : Nat) (nv : Nv) (lmp : Bool) (s : Dev) : Nat :=
  let req := bufBytes s 0x90
  let slot := fieldLE req 0x20 1
  if s.mode != .hold then 0x0214
  else if !leverHeld s then 0x0215
  else if fieldLE req 0x22 2 != op || 4 ≤ slot then 0x0105
  else if !requestAuth nv req lmp s then 0x0216
  else if op = 1 then (if nv.otp.state slot != .empty then 0x0217 else if s.pair.withdrawn then 0x021E else 0)
  else if nv.otp.state slot != .enrolled then 0x0217
  else if (upto 4).all (fun k => k == slot || nv.otp.state k != .enrolled) then 0x0218 else 0

/-- What an OTP that fails in programming holds: any of the values between the old and the new one (0x021C, R65; log entry 92). -/
def otpTorn (old new : Nat) (s : Dev) : Nat × Dev :=
  let w := s.draw 32
  (old + w.1.toNat % (new - old + 1), w.2)

/-- ENROL (R44 to R47): the entry in slot memory, then hash and state in OTP. The 4 KiB sector of the entry is erased before it, and the reserved bytes of the entry are 0 (DESIGN CHOICE, log entry 90). IMG_NONCE is renewed where the command was submitted. -/
def enrol (lmp : Bool) (nv : Nv) (s : Dev) : Nat × Nv × Dev :=
  let r := anchorRefusal 1 nv lmp s
  let req := bufBytes s 0x90
  let slot := fieldLE req 0x20 1
  if r != 0 then (r, nv, s)
  else if nv.dead then (0x0211, nv, s)
  else
    let a := 0x7E00000 + 0x1000 * slot
    let entry := leBytes 4 0x414F4D4C ++ leBytes 1 slot ++ leBytes 3 0 ++ slice req 0 32 ++ slice req 0x24 12 ++ leBytes 12 0
    let m := nvProgram (nvErase nv.mem a 0x1000) a entry
    let otp := { nv.otp with anchor := tset (fun _ => .empty) nv.otp.anchor slot .enrolled,
                             anchorHash := tset (fun _ => 0#256) nv.otp.anchorHash slot (keyHash (slice req 0 32)) }
    if nv.otp.sound then (0, { nv with mem := m, otp := otp }, s)
    else
      let h := s.draw 256
      let t := otpTorn 0 1 h.2
      (0x021C, { nv with mem := m, otp := { nv.otp with
        anchor := tset (fun _ => .empty) nv.otp.anchor slot (if t.1 = 0 then .empty else .enrolled),
        anchorHash := tset (fun _ => 0#256) nv.otp.anchorHash slot h.1 } }, t.2)

/-- REVOKE (R44, R47). -/
def revoke (lmp : Bool) (nv : Nv) (s : Dev) : Nat × Nv × Dev :=
  let r := anchorRefusal 2 nv lmp s
  let slot := fieldLE (bufBytes s 0x90) 0x20 1
  let put (x : Anchor) : Nv := { nv with otp := { nv.otp with anchor := tset (fun _ => .empty) nv.otp.anchor slot x } }
  if r != 0 then (r, nv, s)
  else if nv.otp.sound then (0, put .revoked, s)
  else
    let t := otpTorn 0 1 s
    (0x021C, put (if t.1 = 0 then .enrolled else .revoked), t.2)

/-- ROLLBACK_COMMIT (R42, R51). -/
def rollbackCommit (v : Word) (nv : Nv) (s : Dev) : Nat × Nv × Dev :=
  let lim := min (hdRollback s.img.runFw) (if s.img.runCfg.isEmpty then hdRollback s.img.runFw else hdRollback s.img.runCfg)
  if s.mode == .load then (0x0214, nv, s)
  else if v.toNat ≤ nv.otp.rollback || 64 < v.toNat || lim < v.toNat then (0x0219, nv, s)
  else if nv.otp.sound then (0, { nv with otp := { nv.otp with rollback := v.toNat } }, s)
  else
    let t := otpTorn nv.otp.rollback v.toNat s
    (0x021C, { nv with otp := { nv.otp with rollback := t.1 } }, t.2)

/-- Ticks since the last reset (R60). -/
def Dev.upTicks (s : Dev) : Nat := ((s.tick : Int) - s.img.zero).toNat

/-- The first 192 bytes of an attestation report (R60). -/
def attestBytes (nv : Nv) (s : Dev) : List Byte :=
  let dig (h : List Byte) : List Byte := beBytes 64 (Sys2Proof.Config.sha512 h).toNat
  leBytes 4 0x54414D4C ++ leBytes 2 1 ++ leBytes 2 0 ++ bufBytes s 32 ++ dig s.img.runFw
    ++ (if s.img.runCfg.isEmpty then leBytes 64 0 else dig s.img.runCfg)
    ++ leBytes 1 s.mode.code ++ leBytes 1 s.role.code ++ leBytes 1 (s.g bPwr F.PWR_STATE_STATE) ++ leBytes 1 (tState s)
    ++ leBytes 1 nv.otp.rollback ++ leBytes 1 (s.g bImg F.IMG_STATUS_RUN_BANK) ++ leBytes 2 ((liveSrcs s).filter (srcSevere s)).length
    ++ leBytes 4 (faultSummary s) ++ leBytes 4 (s.upTicks / 250000000) ++ leBytes 4 s.pair.healthFails
    ++ leBytes 4 (s.g bImg F.IMG_RUN_SEQ_SEQ)

/-- ATTEST (R51, R60). -/
def attest (nv : Nv) (s : Dev) : Nat × Dev :=
  if s.mode == .load then (0x0214, s)
  else
    let b := attestBytes nv s
    let r := b ++ beBytes 64 (Sys2Proof.Config.ed25519Sign b).toNat
    (0, s.each (upto 64) (fun k d => d.wr (bImg + F.IMG_ATTEST.off + 4 * k) (w32 (fieldLE r (4 * k) 4))))

end Sys2Proof.Machine
end

