-- ==== Sys2Proof/Machine/Power.lean ====
section
/-! DEFINITION. Resets and the start of the module (R6, R48, R664, R693), power states and wake (R625 to R635), core voltage (R636 to R638), supply sag and the last-gasp record (R639 to R646), module temperature (R700), LOCATE and the indicators (R670, R671). -/

namespace Sys2Proof.Machine

def Dev.setPwr (s : Dev) (f : PwrSt → PwrSt) : Dev := { s with pwr := f s.pwr }

/-! ### Reset (R6, R88, R691) -/

/-- What the registers keep through a warm reset: their RWS fields (R6). -/
def keepRws (t : Tbl Word) : Tbl Word :=
  t.foldl (fun (acc : Tbl Word) (w : Nat × Word) => match locate w.1 with
    | some ⟨_, _, _, some r⟩ => if r.rws = 0 then acc else tset regReset acc w.1 (w32 (Nat.lor (Nat.land w.2.toNat r.rws) (Nat.land r.reset (4294967295 - r.rws))))
    | _ => acc) []

/-- The module after a reset with a cause (R690): warm resets keep RWS fields; the nodes, the pins and the measured supply are outside it. -/
def resetDev (cause : Nat) (warm : Bool) (s : Dev) : Dev :=
  let d : Dev := { Dev.reset with
    regs := if warm then keepRws s.regs else [], fars := s.fars, free := s.free,
    img := { imgSt0 with boots := s.img.boots + 1, nonces := s.img.nonces + 1 }, box := { boxSt0 with powered := true } }
  let d := d.wr (bDev + F.DEV_STATUS.off) (w32 (s.g bDev ⟨F.DEV_STATUS.off, 0, 10⟩))
  let d := (d.p bDev F.DEV_STATUS_RESET_CAUSE cause).wr (bPwr + F.PWR_VIN.off) (s.rd (bPwr + F.PWR_VIN.off))
  let d := (d.p bPwr F.PWR_SHED_VHOLD (s.g bPwr F.PWR_SHED_VHOLD)).pb bClk F.CLK_STATUS_ON_ONYX true
  let d := d.p bClk F.CLK_STATUS_QUALIFIED 4
  d.setPair (fun p => { p with
    withdrawn := s.pair.withdrawn && cause != 1 && cause != 0, ejectTaken := false, ejectAt := s.pair.ejectAt.map (fun t => t - (s.tick : Int)),
    ejectFree := s.pair.ejectFree.map (fun t => t - (s.tick : Int)) })

/-- The root PLL is started where the core still runs on Onyx (chapter 2, start timing). -/
def startPll (s : Dev) : Dev := if onOnyx s && s.clk.op.isNone then startHop s else s

/-- ROM starts the choice of images (R48); firmware that runs without a CONFIG image starts the PLL. -/
def startRom (s : State) : State :=
  let d := chooseImages s.nv s.d
  { s with d := if romHold d || d.img.applyBank.isSome then d else startPll d }

/-- A warm reset with a cause. -/
def warmReset (cause : Nat) (s : State) : State := startRom { s with d := resetDev cause true s.d }

/-- Power-good (R658, R664, R666): straps, lever and peer presence as sampled, and what the module finds of its slot memory and OTP until the next one. -/
def powerGood (slot : Nat) (pref peer eject : Bool) (fit : NvFit) (sound : Bool) (s : State) : State :=
  let s0 := s.d
  if s0.box.powered && !s0.box.pwrGone && !s0.pair.withdrawn then s
  else
    let d := resetDev (if s0.box.pwrGone then 4 else 0) false { s0 with pair := { s0.pair with ejectAt := none } }
    let d := d.wr (bDev + F.DEV_STATUS.off) (w32 (slot % 64 + 64 * b2n pref + 128 + 256 * b2n eject + 512 * b2n peer + 65536 * (if s0.box.pwrGone then 4 else 0)))
    let d := { d with box := { d.box with lamp := true }, pair := { d.pair with ejectAt := if eject then some 2500000 else none } }
    startRom { s with nv := { s.nv with fit := fit, otp := { s.nv.otp with sound := sound } }, d := d }

/-- RESET_N (R6, R664): ignored before power-good. -/
def resetN (s : State) : State := if s.d.box.powered && !s.d.box.pwrGone then warmReset 1 s else s

/-! ### Transitions of the power state (R628 to R632) -/

/-- The agents asked for a transition, in order (R630). -/
def agentsFor (old new : Nat) : List Nat :=
  let deep := [4, 2, 3, 5, 1]
  (if old < new then deep else deep.reverse).filter (fun a => domain a old != domain a new)

def setResp (a v : Nat) (s : Dev) : Dev := s.p bPwr ⟨F.PWR_AGENT.off, 2 * a, 2⟩ v

/-- The tests of R629: the agent that refuses and its reason. -/
def pwrRefusal (t : Nat) (s : Dev) : Option (Nat × Nat) :=
  let light := t ≤ 1
  if s.mode == .load && t != 0 then some (1, 0x0C03)
  else if !light && s.mode != .hold then some (1, 0x0C01)
  else if !light && !(s.role == .solo || s.role == .out) then some (1, 0x0C02)
  else if !light && s.shed ≥ 1 then some (0, 0x0C04)
  else if t == 3 && !s.hs.sess.isEmpty then some (3, 0x0C05)
  else if !light && imgBusy s then some (5, 0x0C06)
  else none

/-- What an agent's ACK does: its domain has reached the state (R625, R630, R635). -/
def domainTo (agent old new : Nat) (s : Dev) : Dev :=
  let a := domain agent old
  let b := domain agent new
  match agent with
  | 1 => if b = 2 then ((s.p bClk F.CLK_STATUS_STATE 0).pb bClk F.CLK_STATUS_ON_ONYX true).setClk (fun c => { c with op := none })
    else if a = 2 then startHop s else s
  | 2 =>
    if b = 2 then
      let s := s.each ((upto 96).filter (fun p => (s.port p).st != .off)) (fun p d => setPState p .down (d.setPort p (fun q => { q with rx := rxSt0, vrun := 0, reach := false })))
      checkPeer ((s.setPair (fun p => { p with lanes := 0 })).p bSs F.SS_STATUS_LANES 0)
    else s
  | 3 => if b = 2 && tState s == 2 then servoLost s else s
  | 4 => if a = 2 then restartAdc s else s
  | _ => s

/-- A transition begins (R628 to R630); with no agent to ask it ends at once. -/
def pwrBegin (t : Nat) (s : Dev) : Dev :=
  match pwrRefusal t s with
  | some (a, r) => setResp a 3 (s.p bPwr F.PWR_STATE_RESULT r)
  | none =>
    let s := ((s.p bPwr F.PWR_STATE_TRANS 1).p bPwr F.PWR_STATE_IN_PROGRESS t).p bPwr F.PWR_STATE_RESULT 0
    let s := s.on (t ≥ 2) (fun s => s.p bPwr F.PWR_STATE_WAKE_CAUSE 0)
    s.setPwr (fun p => { p with agents := agentsFor (pwrState s) t, done := [], until_ := none })

/-- Take a request (R628). -/
def pwrRequest (t : Nat) (s : Dev) : Dev :=
  let drop (n : Nat) (s : Dev) : Dev := s.inc bPwr F.PWR_AGENT_DROPPED n
  if !pwrTrans s then (if t = pwrState s then s.p bPwr F.PWR_STATE_RESULT 0 else pwrBegin t s)
  else
    let s := s.on (s.gb bPwr F.PWR_STATE_PEND_VALID) (drop 1)
    if t = pwrTarget s then drop 1 (s.p bPwr F.PWR_STATE_PEND_VALID 0)
    else (s.p bPwr F.PWR_STATE_PEND_VALID 1).p bPwr F.PWR_STATE_PENDING t

/-- A transition ends: a pending request is taken as though just written (R628). -/
def pwrEnd (s : Dev) : Dev :=
  let s := (s.p bPwr F.PWR_STATE_TRANS 0).setPwr (fun p => { p with agents := [], done := [], until_ := none })
  if s.gb bPwr F.PWR_STATE_PEND_VALID then
    let t := s.g bPwr F.PWR_STATE_PENDING
    pwrRequest t ((s.p bPwr F.PWR_STATE_PEND_VALID 0).p bPwr F.PWR_STATE_PENDING 0)
  else s

/-- A transition is aborted with a reason: the domains that changed return in reverse order (R630). -/
def pwrAbort (reason : Nat) (s : Dev) : Dev :=
  let old := pwrState s
  let t := pwrTarget s
  let s := s.each s.pwr.done.reverse (fun a d => domainTo a t old d)
  pwrEnd (s.p bPwr F.PWR_STATE_RESULT reason)

/-- The transition has reached its target (R628, R635). -/
def pwrFinish (s : Dev) : Dev :=
  let s := (s.p bPwr F.PWR_STATE_STATE (pwrTarget s)).irq F.DEV_IRQ_STATUS_PWR
  pwrEnd (refreshAux (refreshTokens s))

/-- An agent has work of the kind for which it may answer DELAY (R631): a calibration, a management message outstanding, a mailbox command. What NET transmits is on its wires only (DEDUCED, log entry 104). -/
def agentBusy (a : Nat) (s : Dev) : Bool :=
  match a with
  | 2 => (upto 96).any (fun p => (s.port p).mo.isSome)
  | 3 => true
  | 4 => s.gb bSens F.ADC_CAL_STATUS_BUSY
  | 5 => s.ms.cmd.isSome
  | _ => false

/-- The agent asked answers (R630, R631). DELAY it answers at most once, for at most 1 ms, and then ACK or REFUSE within that time. -/
def agentAnswer (x : AgentAns) (s : Dev) : Dev :=
  match s.pwr.agents with
  | [] => s
  | a :: rest =>
    if !pwrTrans s || s.pwr.until_.any (fun t => decide (t < s.tick)) then s
    else match x with
      | .ack =>
        let s := domainTo a (pwrState s) (pwrTarget s) (setResp a 1 s)
        let s := s.setPwr (fun p => { p with agents := rest, done := p.done ++ [a], until_ := none })
        if rest.isEmpty then pwrFinish s else s
      | .delay m =>
        if s.pwr.until_.isSome || m != 1 || !agentBusy a s then s
        else
          let s := ((setResp a 2 s).p bPwr F.PWR_AGENT_DELAYING a).p bPwr F.PWR_AGENT_DELAY_MS m
          s.setPwr (fun p => { p with until_ := some (s.tick + m * 250000) })
      | .refuse r => pwrAbort r (setResp a 3 s)

/-- An agent has let its DELAY pass (R630). -/
def agentExpired (s : Dev) : Dev :=
  match s.pwr.agents, s.pwr.until_ with
  | a :: _, some t => if t ≤ s.tick then pwrAbort 0x0C07 (setResp a 3 s) else s
  | _, _ => s

/-! ### Wake (R633 to R635) -/

/-- A wake source is enabled (R634). -/
def wakeEnabled (code : Nat) (s : Dev) : Bool :=
  match code with
  | 1 => s.gb bPwr F.PWR_CFG_WAKE_A_EN
  | 2 => s.gb bPwr F.PWR_CFG_WAKE_B_EN
  | 3 => true
  | 4 => s.gb bPwr F.PWR_CFG_WAKE_LMP && pwrState s == 2
  | 5 => s.gb bPwr F.PWR_CFG_WAKE_EJECT
  | _ => false

/-- The output of a wake comparator at an input voltage in mV (R633): true above THRESH, or with EDGE = 1 below THRESH − HYS; false beyond the other of the two; between them as it was. -/
def cmpOut (w : Word) (was : Bool) (mv : Nat) : Bool :=
  let th := 100 * getBits w F.PWR_WAKE_A_THRESH.lo F.PWR_WAKE_A_THRESH.w
  let lo := th - 50 * getBits w F.PWR_WAKE_A_HYS.lo F.PWR_WAKE_A_HYS.w
  let fall := getBits w F.PWR_WAKE_A_EDGE.lo 1 == 1
  if th < mv then !fall else if mv < lo then fall else was

/-- The input of a comparator stays at a level for so many ticks (R633): the comparator, and whether a wake event comes, the output having held true for FILT ms. -/
def Cmp.step (w : Word) (c : Cmp) (mv dt : Nat) : Cmp × Bool :=
  let o := cmpOut w c.out mv
  let run := if !o then none else if c.out then c.run.map (· + dt) else some dt
  if run.any (fun n => decide (250000 * getBits w F.PWR_WAKE_A_FILT.lo F.PWR_WAKE_A_FILT.w ≤ n)) then ({ out := o, run := none }, true)
  else ({ out := o, run := run }, false)

/-- The input goes through levels, in mV and ticks; whether a wake event comes among them. -/
def Cmp.steps (w : Word) (c : Cmp) (l : List (Nat × Nat)) : Cmp × Bool :=
  l.foldl (fun r x => let y := r.1.step w x.1 x.2; (y.1, r.2 || y.2)) (c, false)

/-- A wake source (R634): in DOZE or SLEEP, or on the way there, a request for ON that replaces a pending one. -/
def wake (code : Nat) (s : Dev) : Dev :=
  let toDeep := pwrTrans s && pwrTarget s ≥ 2
  if !wakeEnabled code s || !(toDeep || pwrState s ≥ 2) then s
  else
    let s := if s.g bPwr F.PWR_STATE_WAKE_CAUSE = 0 then s.p bPwr F.PWR_STATE_WAKE_CAUSE code else s
    pwrRequest 0 s

/-- A wake source acts (R633, R634): for the inputs WAKE_A and WAKE_B, when its comparator finds a wake event in the levels that the input has gone through. -/
def wakeEvent (code : Nat) (levels : List (Nat × Nat)) (s : Dev) : Dev :=
  match code with
  | 1 =>
    let r := s.pwr.cmpA.steps (s.rd (bPwr + F.PWR_WAKE_A.off)) levels
    (s.setPwr (fun p => { p with cmpA := r.1 })).on r.2 (wake 1)
  | 2 =>
    let r := s.pwr.cmpB.steps (s.rd (bPwr + F.PWR_WAKE_B.off)) levels
    (s.setPwr (fun p => { p with cmpB := r.1 })).on r.2 (wake 2)
  | _ => wake code s

/-- PEER_PRESENT_N changes level (R509, R634). -/
def peerPresent (here : Bool) (s : Dev) : Dev :=
  if peerHere s == here then s else wake 5 (checkPeer (s.pb bDev F.DEV_STATUS_PEER_PRESENT here))

/-! ### Core voltage (R636 to R638) -/

/-- VDD_CORE in 0.5 mV, clamped to 720 to 850 mV. -/
def setVdd (v : Int) (s : Dev) : Dev :=
  let n := (clampI v 1440 1700).toNat
  (s.setPwr (fun p => { p with vdd := n })).p bPwr F.PWR_AVS_STATUS_VDD_CORE (n / 2)

/-- An evaluation of SLACK (R636, R638). -/
def avsEvaluate (slack : Nat) (s : Dev) : Dev :=
  let m := s.g bPwr F.PWR_AVS_MARGIN
  let s := s.p bPwr F.PWR_AVS_STATUS_SLACK slack
  let s := s.on (2 * slack < m && s.pwr.vdd == 1700) (fun s => s.p bPwr F.PWR_STICKY_AVS_CEIL 1)
  if s.gb bPwr F.PWR_AVS_MODE then setVdd (2 * s.g bPwr F.PWR_AVS_VFIX) s
  else
    let since := if slack > m + 8 then s.pwr.wide.or (some s.tick) else none
    let s := s.setPwr (fun p => { p with wide := since })
    if 2 * slack < m then setVdd (s.pwr.vdd + 40) s
    else if slack < m then setVdd (s.pwr.vdd + 10) s
    else match since with
      | some t => if t + 250000 ≤ s.tick then setVdd ((s.pwr.vdd : Int) - 5) s else s
      | none => s

/-! ### Supply sag (R639 to R646) -/

/-- The 256 bytes of a last-gasp record (R646). -/
def lgBytes (s : Dev) (seq : Nat) : List Byte :=
  let nodes := (upto 48).map (fun k =>
    let nib (n : Nat) : Nat := (s.port (s.portOf n)).nstate.code + 8 * b2n (s.enabled (.node n))
    BitVec.ofNat 8 (nib (2 * k) + 16 * nib (2 * k + 1)))
  let b := leBytes 4 0x474C4D4C ++ leBytes 2 1 ++ leBytes 1 1 ++ leBytes 1 0 ++ leBytes 4 seq ++ leBytes 4 (s.g bImg F.IMG_RUN_SEQ_SEQ)
    ++ leBytes 8 s.tFt ++ leBytes 8 s.tick ++ leBytes 1 s.mode.code ++ leBytes 1 s.role.code ++ leBytes 1 (pwrState s) ++ leBytes 1 (tState s)
    ++ leBytes 2 (s.g bPwr F.PWR_SHED_VHOLD) ++ leBytes 2 (s.g bPwr F.PWR_VIN_VIN_A) ++ leBytes 2 (s.g bPwr F.PWR_VIN_VIN_B) ++ leBytes 2 0
    ++ leBytes 4 (faultSummary s) ++ leBytes 4 (s.flt.rseq - 1) ++ leBytes 4 (s.g bSs F.SS_TERM_TERM) ++ leBytes 8 0
    ++ nodes ++ leBytes 16 0 ++ (match s.flt.severeRec with | some r => recBytes r | none => leBytes 64 0) ++ leBytes 60 0
  b ++ leBytes 4 (crc32 b).toNat

/-- The last-gasp record begins to be written, or is skipped (R639, R643, R669). -/
def lgBegin (s : Dev) : Dev :=
  if pwrState s = 3 || !s.gb bPwr F.PWR_LG_STATUS_READY || s.pair.withdrawn || s.mode == .load then s.p bPwr F.PWR_STICKY_LG_SKIPPED 1
  else (s.setPwr (fun p => { p with lgBusy := true, lgRec := lgBytes s (p.lgSeq + 1) })).p bPwr F.PWR_LG_STATUS_READY 0

/-- SHED is raised by a stage (R639); S4 is severe and its floor is SAFE. -/
def raiseShed (s4 : Bool) (s : Dev) : Dev :=
  s.post (.event { src := 0x18D, kind := 0x110D, cause := none, severe := s4, safe := s4, form := none, time := none, hi := 0, data := [] })

/-- S1 stops a BANK_ERASE, BANK_WRITE or BANK_SEAL that runs (R56); an NV_READ goes on. -/
def sagStop (s : Dev) : Dev :=
  match s.img.bg with
  | none | some (.read _ _) => s
  | some _ => { s with img := { s.img with bgStop := true, bgSag := true } }

/-- The actions of one stage (R639). -/
def shedStage (k : Nat) (s : Dev) : Dev :=
  let s := s.p bPwr F.PWR_SHED_STAGE (min k 4)
  match k with
  | 1 =>
    let s := raiseShed false (setHealth 7 true (abortCal (s.p bPwr F.PWR_STICKY_SHED_SEEN 1)))
    let s := sagStop s
    if pwrTrans s && pwrTarget s ≥ 2 then pwrAbort 0x0C04 (s.on (s.gb bPwr F.PWR_STATE_PEND_VALID) (fun s => (s.p bPwr F.PWR_STATE_PEND_VALID 0).inc bPwr F.PWR_AGENT_DROPPED))
    else s
  | 2 => raiseShed false (closeSess (fun _ => true) s)
  | 3 => raiseShed false (coordinate true false (s.on (tState s == 2) servoLost))
  | 4 => lgBegin (raiseShed true (s.on (s.mode == .safe) safeStates))
  | _ => s

/-- A torn page: which of its bits were programmed is open. -/
def lgTorn (nv : Nv) (s : Dev) : Nv × Dev :=
  if s.pwr.lgBusy then
    let w := s.draw 2048
    let page := (s.pwr.lgRec.zip (leBytes 256 w.1.toNat)).map (fun x => x.1 ||| x.2)
    ({ nv with mem := nvProgram nv.mem (lgSector (s.g bPwr F.PWR_LG_STATUS_SECTOR)) page }, w.2)
  else (nv, s)

/-- VHOLD has been below the threshold of a stage for 20 µs (R639): the stages above it are reached with it; S5 resets the module. -/
def shedReached (stage vhold : Nat) (s : State) : State :=
  let from_ := s.d.shed
  let stage := if vhold < shedThreshold stage then stage else 0
  let deep := max from_ stage
  let s := s.upd (fun d => ((d.p bPwr F.PWR_SHED_VHOLD vhold).setPwr (fun p => { p with shedAt := if vhold < shedThreshold deep + 300 then d.tick else p.shedAt })).each ((upto 5).filter (fun k => from_ < k && k ≤ stage && k ≤ 4)) shedStage)
  if stage ≥ 5 then
    let w := lgTorn s.nv s.d
    let d := resetDev 4 false w.2
    { s with nv := w.1, d := { d with box := { d.box with pwrGone := true } } }
  else s

/-- The deepest stage ends once VHOLD has been 0.3 V above its threshold for PWR_CFG.RECOVER ms, not before so long after it was reached (R640). -/
def shedEnd (vhold : Nat) (s : Dev) : Dev :=
  let k := s.shed
  let s := s.p bPwr F.PWR_SHED_VHOLD vhold
  if k = 0 || vhold < shedThreshold k + 300 || s.tick < s.pwr.shedAt + 250000 * s.g bPwr F.PWR_CFG_RECOVER then s
  else
    let s := s.p bPwr F.PWR_SHED_STAGE (k - 1)
    match k with
    | 1 => setHealth 7 false s
    | 3 => s.setPair (fun p => { p with held := p.held && s.rd (bSs + F.SS_HEALTH.off) != 0#32 })
    | _ => s

/-- VHOLD has held at 17.5 V for 10 ms after S5 (R641). -/
def supplyRestart (s : State) : State :=
  if !s.d.box.pwrGone then s
  else
    let d := resetDev 4 false { s.d with pair := { s.d.pair with ejectAt := none } }
    startRom { s with d := { d with box := { d.box with lamp := true }, pair := { d.pair with ejectAt := if d.gb bDev F.DEV_STATUS_EJECT then some 2500000 else none } } }

/-- The last-gasp page is programmed, and the next sector is to be erased (R29, R645). -/
def lgDone (nv : Nv) (s : Dev) : Nv × Dev :=
  if !s.pwr.lgBusy then (nv, s)
  else
    let k := s.g bPwr F.PWR_LG_STATUS_SECTOR
    let m := nvProgram nv.mem (lgSector k) s.pwr.lgRec
    let s := s.setPwr (fun p => { p with lgBusy := false, lgErase := true, lgSeq := p.lgSeq + 1, lgRec := [] })
    ({ nv with mem := m }, (s.p bPwr F.PWR_LG_STATUS_SECTOR ((k + 1) % 256)).p bPwr F.PWR_LG_STATUS_LGSEQ s.pwr.lgSeq)

/-- The target sector is blank (R645). A withdrawn module starts no write (R669). -/
def lgErased (nv : Nv) (s : Dev) : Nv × Dev :=
  if s.pwr.lgErase && !s.pair.withdrawn then
    let k := s.g bPwr F.PWR_LG_STATUS_SECTOR
    ({ nv with mem := nvErase nv.mem (lgSector k) 0x1000 }, (s.setPwr (fun p => { p with lgErase := false })).p bPwr F.PWR_LG_STATUS_READY 1)
  else (nv, s)

/-- A supply input is measured (R642). -/
def supplyInput (inp mv : Nat) (s : Dev) : Dev :=
  let s := s.p bPwr (if inp = 0 then F.PWR_VIN_VIN_A else F.PWR_VIN_VIN_B) mv
  let mon := s.gb bPwr (if inp = 0 then F.PWR_CFG_VIN_A_MON else F.PWR_CFG_VIN_B_MON)
  let out := mon && (mv < 18000 || 36000 < mv)
  let was := s.pwr.vinOut
  let s := s.setPwr (fun p => { p with vinOut := bitPut was inp out })
  let s := s.on (out && !bitOf was inp) (fun s => s.p bPwr (if inp = 0 then F.PWR_STICKY_INPUT_A else F.PWR_STICKY_INPUT_B) 1)
  if was = 0 && out then cause 0x18C 0x110C true s
  else if was != 0 && s.pwr.vinOut = 0 then cause 0x18C 0x110C false s else s

/-- The temperature sensors are read, in degrees (R700): the level of the face is 75 for the variant -C and 90 for -E. -/
def moduleTemp (face junction : Int) (s : Dev) : Dev :=
  let lim : Int := if Sys2Proof.Config.variant == 2#8 then 90 else 75
  let hot := b2n (face > lim) + 2 * b2n (junction > 115)
  let under := decide (face ≤ lim - 5) && decide (junction ≤ 110)
  let was := s.pwr.hotOut
  if was = 0 && hot != 0 then cause 0x192 0x1112 true (selfTest 6 true (s.setPwr (fun p => { p with hotOut := hot })))
  else if was != 0 && under then cause 0x192 0x1112 false (selfTest 6 false (s.setPwr (fun p => { p with hotOut := 0 })))
  else s

/-! ### Indicators (R670, R671) -/

/-- LOCATE (R671). -/
def locateCmd (a0 : Word) (s : Dev) : Nat × Dev :=
  if romHold s then (0x0109, s)
  else if 3600 < a0.toNat then (0x0105, s)
  else (0, { s with box := { s.box with locate := if a0.toNat = 0 then none else some (s.tick + a0.toNat * 250000000) } })

/-- LOCATE ends once its duration has passed. -/
def locateEnd (s : Dev) : Dev := if (s.box.locate.any (· ≤ s.tick)) then { s with box := { s.box with locate := none } } else s

/-- What an indicator shows: off, steady, or flashing at so many Hz; CTRL also its colour. -/
inductive Light where | off | steady | flash (hz : Nat) | amber | flashAmber (hz : Nat)
deriving DecidableEq, Repr

def lightPwr (s : Dev) : Light :=
  if s.box.pwrGone then .off else if s.box.locate.isSome then .flash 2 else if s.shed ≥ 1 then .flash 4
  else if s.mode == .load then .flash 1 else .steady

def lightCtrl (s : Dev) : Light :=
  if s.owns && s.driveMode then .steady else if s.owns && (s.mode == .hold || s.mode == .safe) then .flash 1
  else if s.role == .standby && s.sync == 7 then .amber else if 1 ≤ s.sync && s.sync ≤ 6 then .flashAmber 1 else .off

def lightFault (s : Dev) : Light :=
  if romHold s || (s.mode == .hold && s.g bImg F.IMG_CHECK_REASON != 0) then .flash 4 else if s.pinN then .steady
  else if (liveSrcs s).any (fun n => s.srcState n != 0) then .flash 1 else .off

def lightRemove (s : Dev) : Light :=
  if s.box.refusedFlash.isSome then .flash 4 else if s.pair.ejectTaken && (s.pair.sw.isSome || imgBusy s || s.pwr.lgBusy) then .flash 2
  else if s.role == .out && !imgBusy s then .steady else .off

/-- The four indicators: PWR, CTRL, FAULT, REMOVE (R670). -/
def lights (s : Dev) : List Light := if s.box.lamp then List.replicate 4 .steady else [lightPwr s, lightCtrl s, lightFault s, lightRemove s]

end Sys2Proof.Machine
end

