-- ==== Sys2Proof/Machine/Clear.lean ====
section
/-! DEFINITION. Mode requests and the combinations of mode and state they meet (R75, R76, R79, R83 to R85), the time limits of the modes (R68, R69, R74, R82), and the fault clear (R496 to R498). -/

namespace Sys2Proof.Machine

/-! ### Mode requests -/

/-- The conditions of HOLD to CHARGE and the reasons with which R76 refuses it; 0: they hold. -/
def chargeReason (s : Dev) : Nat :=
  if !s.owns then 0x010A
  else if !s.gb bDev F.DEV_ENABLE then 0x010B
  else if s.g bPwr F.PWR_STATE_STATE ≥ 2 then 0x0106
  else if s.shed ≥ 3 then 0x010E
  else 0

/-- The outcome of a mode request, by the rows of R76. -/
def modeOutcome (t : Nat) (s : Dev) : Nat :=
  if !(t == 1 || t == 2 || t == 3 || t == 5) then 0x010D
  else if !s.owns then 0x010A
  else if s.trans then 0x010C
  else if s.ms.changed then 0x0107
  else if t = s.mode.code then 0
  else if !((s.mode == .hold && t == 2) || (s.mode == .charge && t == 3) || (s.driveMode && (t == 1 || t == 5))) then 0x0109
  else if t = 2 then chargeReason s
  else if t = 3 && !s.gb bDev F.DEV_MODE_CHARGE_DONE then 0x0108
  else 0

/-- A request by DEV_MODE_REQ.TARGET (R75, R76): its outcome, and what an accepted one begins. -/
def modeRequest (t : Nat) (s : Dev) : Dev :=
  let r := modeOutcome t s
  let s := s.p bDev F.DEV_MODE_REQ_RESULT r
  if r != 0 || t = s.mode.code then s
  else match t with
    | 1 => beginStop s
    | 2 => s.post (.mode .charge 0x01)
    | 3 => s.post (.mode .run 0x01)
    | _ => s.post (.mode .safe 0x01)

/-- A deadline in ticks has come. -/
def reached (s : Dev) (t : Nat) : Bool := decide (t ≤ s.tick)

/-- The echo deadline of the stop sequence (R73, R74): HOLD, and an event for every node whose echo has not come; they find the mode at HOLD. -/
def stopEnd (s : Dev) : Dev :=
  if s.ms.stop.any (reached s) then
    let late := (enabledNodes s).filter (fun n => !(s.node n).stopAwait.isEmpty)
    (s.post (.mode .hold 0x01)).each late (fun n d => raise (0xC0 + d.portOf n) 0x1007 (d.setNode n (fun x => { x with stopAwait := [] })))
  else s

/-- No source with reaction RIDE has been active for RIDE_SETTLE, and that was so before RIDE_MAX (R69). -/
def rideSettled (s : Dev) : Dev :=
  let due := s.ms.settleFrom.any (fun t => reached s (t + rideSettle s) && t + rideSettle s ≤ s.ms.entered + rideMax s)
  if s.mode == .ride && !stopping s && !rideActive s && due then s.post (.mode .run 0x06) else s

/-- RIDE_MAX has elapsed since the entry to RIDE (R69). -/
def rideMaxElapsed (s : Dev) : Dev :=
  if s.mode == .ride && !stopping s && reached s (s.ms.entered + rideMax s) then (if rideActive s then s.post (.mode .safe 0x07) else s.post (.mode .run 0x07)) else s

/-- CHARGE_MAX has elapsed since the entry to CHARGE (R69). -/
def chargeMaxElapsed (s : Dev) : Dev :=
  if s.mode == .charge && !stopping s && !s.gb bDev F.DEV_MODE_CHARGE_DONE && reached s (s.ms.entered + chargeMax s) then s.post (.mode .safe 0x08) else s

/-- A RIDE interval in CHARGE has lasted RIDE_MAX (R68). -/
def chargeRide (s : Dev) : Dev :=
  if s.mode == .charge && !stopping s && s.ms.rideFrom.any (fun t => reached s (t + rideMax s)) then s.post (.mode .safe 0x0D) else s

/-- CHARGE is complete (R69, R369): every start step is done, and every ACTIVE cell has been fresh and in its window for DWELL. -/
def chargeComplete (s : Dev) : Dev :=
  let open_ := (upto 8).any (fun i => s.enabled (.string i) && (s.str i).stepsOpen)
  let out := (upto 8).any (fun i => s.enabled (.string i) && s.kind i == 1 &&
    (s.members i).any (fun m => posState s i m.1 == 0 &&
      !(inWindow s i m.2 && (s.node m.2).inWin.any (fun w => freshAt s w.2 s.tick && reached s (w.1 + s.g (bStr i) F.STR_BAL_CFG_DWELL * 250000)))))
  if s.mode == .charge && !stopping s && !open_ && !out then
    let s := s.p bDev F.DEV_MODE_CHARGE_DONE 1
    if s.gb bDev F.DEV_MODE_CFG_AUTO_RUN && !rideActive s then s.post (.mode .run 0x03) else s
  else s

/-! ### Clearing (R398, R496 to R498) -/

/-- Test 6 of R496: a source that is not named is SEVERE or has an active cause, with effective mode reaction SAFE. -/
def safeHeldBut (named : List Nat) (s : Dev) : Bool :=
  (liveSrcs s).any (fun n => !named.contains n && (srcSevere s n || causeActive s n) && (effective s n).2.2 == 2)

/-- The tests of R496 on the sources named; 0: the clear is accepted. -/
def clearReason (src : Nat) (all : Bool) (target : Nat) (named : List Nat) (s : Dev) : Nat :=
  if s.gb bFlt F.FAULT_CLEAR_BUSY then 0x0733
  else if !all && !srcExists src then 0x0735
  else if target != 0 && s.mode != .safe then 0x0734
  else if severeHeld s ≥ 1024 then 0x0732
  else if named.any (causeActive s) then 0x0730
  else if target != 0 && safeHeldBut named s then 0x0731
  else if target = 2 then chargeReason s
  else 0

/-- End the node reactions and the HALTs a source holds (R497); a string that ends its HALT starts again (R476). -/
def dropHolds (n : Nat) (s : Dev) : Dev :=
  let s := s.each ((s.nodes.filter (fun w => w.2.holds.contains n)).map (·.1)) (fun k d =>
    d.setNode k (fun x => let h := x.holds.filter (· != n); { x with holds := h, react := if h.isEmpty then none else x.react }))
  let strs := (s.flt.halts.filter (fun h => h.2 == n)).map (·.1)
  let s := { s with flt := { s.flt with halts := s.flt.halts.filter (fun h => h.2 != n) } }
  s.each strs (fun i d => if !d.halted i && d.driveMode && d.enabled (.string i) then startString i d else d)

/-- What an accepted clear does to one source (R497): the CLEAR record, IDLE, and its reactions ended. -/
def clearSource (n : Nat) (s : Dev) : Dev :=
  let e : Ev := { src := n, kind := 0, cause := none, severe := false, safe := false, form := none, time := none, hi := 0, data := [] }
  let s := ((s.p (bFltState n) F.FLT_STATE_STATE 0).p (bFltState n) F.FLT_STATE_COUNT 0)
  let s := s.setSrc n (fun x => { x with win := none, floors := (0, 0, 0) })
  (dropHolds n (hardRec (srcRec s 5 n 0 0 e) s)).post .ride

/-- The switches of a node that the device asks it to release, and releases itself. -/
def clearLatches (n : Nat) (s : Dev) : Dev :=
  let m := (s.node n).swNode
  let s := s.setNode n (fun x => { x with swDev := 0 })
  if m = 0 then s
  else execNode n 0xF14 (leBytes 2 m) (some n) s

/-- The switches that R407 tests after a clear: every used switch, at once those that R404 allows now. -/
def askSelfTests (named : List Nat) (s : Dev) : Dev :=
  if s.gb bProt F.PROT_CFG_ST_AUTO then
    s.each (named.filter (fun n => n < 0xC0)) (fun n d =>
      match srcNode d n with
      | some k => serveSelfTest k (d.setNode k (fun x => { x with stWait := usedSwitches d k }))
      | none => d)
  else s

/-- BUSY ends (R407, R498). -/
def clearDone (s : Dev) : Dev :=
  match s.flt.clear with
  | none => s
  | some c =>
    if c.wait != 0 then s
    else
      let s := { s.p bFlt F.FAULT_CLEAR_BUSY 0 with flt := { s.flt with clear := none } }
      if c.failed then s
      else
        let s := askSelfTests c.named s
        if c.target = 0 || s.role == .standby then s
        else if safeHeldBut c.named s then s.p bFlt F.FAULT_CLEAR_RESULT 0x0731
        else if s.mode == .safe then s.post (.mode (if c.target = 2 then .charge else .hold) 0x0A)
        else s

/-- A CLEAR_LATCH of source n has been acknowledged, with OK or not (R498). -/
def clearAck (n : Nat) (ok : Bool) (s : Dev) : Dev :=
  match s.flt.clear with
  | none => s
  | some c =>
    let s := { s with flt := { s.flt with clear := some { c with wait := c.wait - 1, failed := c.failed || !ok, target := if ok then c.target else 0 } } }
    let s := if ok then s
      else
        let e : Ev := { src := n, kind := 0, cause := none, severe := true, safe := false, form := none, time := none, hi := 0, data := [] }
        let s := (s.p bFlt F.FAULT_CLEAR_RESULT 0x073A).p (bFltState n) F.FLT_STATE_STATE 2
        assertPin (hardRec (srcRec s 2 n 0 0 e) (s.irq F.DEV_IRQ_STATUS_SEVERE))
    clearDone s

/-- A write of FAULT_CLEAR with GO (R496, R497). -/
def faultClear (src : Nat) (all : Bool) (target : Nat) (s : Dev) : Dev :=
  let named := if all then (liveSrcs s).filter (fun n => s.srcState n != 0) else [src]
  let r := clearReason src all target named s
  let s := s.p bFlt F.FAULT_CLEAR_RESULT r
  if r != 0 then s
  else
    let nodes := named.filter (fun n => n < 0x60)
    let wait := if s.role == .standby then 0 else (nodes.filter (fun n => (s.node n).swNode != 0)).length
    let s := s.each named clearSource
    let s := s.each nodes clearLatches
    let s := { s.p bFlt F.FAULT_CLEAR_BUSY 1 with flt := { s.flt with clear := some { target := target, named := named, wait := wait, failed := false } } }
    clearDone s

end Sys2Proof.Machine
end

