-- ==== Sys2Proof/Machine/Ports.lean ====
section
/-! DEFINITION. What the device does with what a port receives (R217, R243 to R250, R262, R277 to R282, R719), and its protection work for a node: thresholds, self-tests, start steps, pre-charge, switch faults (R386 to R391, R400 to R410, R413). -/

namespace Sys2Proof.Machine

/-! ### Frame starts (R218) -/

/-- The ports that are in use. -/
def usedPorts (s : Dev) : List Nat := s.ports.map (·.1)

/-- A command frame starts on every port, at a tick that is a multiple of 512 (R218, R550). -/
def frameStart (s : Dev) : Dev :=
  if s.tick % 512 != 0 then s
  else if linksSilent s then s.each (usedPorts s) (fun p d => d.setPort p (fun q => { q with tx := none }))
  else
    let s := releasePlan s
    let s := s.each (usedPorts s) refreshToken
    s.each (usedPorts s) portFrame

/-! ### Positions, reachability and port states -/

/-- Count a report slot of the error-rate window of 256 slots (R465). -/
def rateSlot (p : Nat) (err : Bool) (s : Dev) : Dev :=
  let q := s.port p
  let errs := q.errs + b2n err
  let s := s.setPort p (fun q => if q.slots + 1 ≥ 256 then { q with slots := 0, errs := 0 } else { q with slots := q.slots + 1, errs := errs })
  s.on (err && errs == 16) (raise (0xC0 + p) 0x1002)

/-- A frame position without a well-formed frame, by its cause (R719). -/
def errorSlot (p : Nat) (e : SlotError) (s : Dev) : Dev :=
  if (s.port p).st == .off then s
  else
    let (rx, bad, passed) := rxError (s.port p).rx
    let s := s.setPort p (fun q => { q with rx := rx, vrun := 0, miss := q.miss + 1 })
    let s := s.on bad (fun s => match e with
      | .code => s.inc (bPort p) F.LNK_ERR_CODE
      | .crc => s.inc (bPort p) F.LNK_ERR_CRC
      | .format => s.inc (bPort p) F.LNK_FMT_FORMAT)
    rateSlot p (bad || passed) (s.on passed (fun s => s.inc (bPort p) F.LNK_LOSS_LOST))

/-- The port has stopped being reachable: its last 3 report slots held no valid frame (R277, R550). -/
def unreachable (p : Nat) (s : Dev) : Dev :=
  let q := s.port p
  if q.st == .off || !q.reach || q.miss < 3 || linksSilent s then s
  else
    let s := s.setPort p (fun q => { q with reach := false, dappNew := q.dapp })
    let s := s.p (bPort p) F.LNK_PSTATE_OBEYS_THIS 0
    if s.tick < s.clk.guard then s else cause (0xC0 + p) 0x1001 true (s.p (bPort p) F.LNK_STICKY_LOS 1)

/-- 64 report slots have passed without a valid frame (R278). A port that carries the token keeps it. -/
def portDown (p : Nat) (s : Dev) : Dev :=
  let q := s.port p
  if q.st == .off || q.st == .down || q.miss < 64 || linksSilent s then s else setPState p .down s

/-- A port in DOWN has received 16 valid frames: it is retrained (R246, R278, R281). -/
def portTraining (p : Nat) (s : Dev) : Dev :=
  let q := s.port p
  if q.st == .down && !q.tok && q.vrun ≥ 16 && !linksSilent s then
    let s := s.setPort p (fun q => { q with sum := 0, cnt := 0, disc := 0, est := none, first := true, prevDest := none, ident := [], high := false, short := false })
    setPState p .training ((s.p (bPort p) F.LNK_PSTATE_CALIBRATED 0).p (bPort p) F.LNK_PSTATE_ID_VALID 0)
  else s

/-- A training port that is calibrated and has its node's identity becomes READY (R281), and its parameters are downloaded (R290). -/
def portReady (p : Nat) (s : Dev) : Dev :=
  let q := s.port p
  if q.st == .training && s.gb (bPort p) F.LNK_PSTATE_CALIBRATED && !q.ident.isEmpty then
    let s := refreshToken p (setPState p .ready s)
    match s.nodeAt p with | some n => serveSelfTests [n] (download n s) | none => s
  else s

/-- LNK_PCFG.EN has changed (R277, R280, R718). -/
def portEnable (p : Nat) (on : Bool) (s : Dev) : Dev :=
  let s := cause (0xC0 + p) 0x1001 false s
  if on then setPState p .down (s.setPort p (fun q => { portSt0 with dapp := q.dapp, dappNew := q.dappNew, tid := q.tid, nstate := q.nstate, obeyedQ := q.obeyedQ }))
  else
    let s := setPState p .off (stopSending p s)
    ((s.setPort p (fun q => { q with reach := false, everReach := false, vrun := 0, miss := 0, rx := rxSt0, mq := [], mo := none, sent := [], tx := none })).p
      (bPort p) F.LNK_PSTATE_OBEYS_THIS 0).p (bPort p) F.LNK_PSTATE_CALIBRATED 0

/-! ### Calibration (R243 to R250) -/

/-- The node's down delay minus its up delay, in ps (R245, R289). -/
def aNode (s : Dev) (p : Nat) : Int := sgn 16 (fieldLE (s.port p).ident 0x10 2)

/-- Take a round-trip sample of a frame (R243, R244, R249). -/
def takeSample (p : Nat) (h : RptHdr) (s : Dev) : Dev :=
  let q := s.port p
  if s.gb bMod F.MOD_DL_STATUS_COARSE || q.cnt + q.disc ≥ 256 then s
  else
    let r0 : Int := rttSample h.tArr h.seq
    let r := (if s.gb (bPort p) F.LNK_PSTATE_TIMING_THIS then r0 else r0 + 16 * s.gi (bPort p) F.LNK_OFS_OFS).toNat
    let far := match q.est with
      | some (sum, cnt) => decide (s.g bLnk F.LNK_CFG_OUTLIER * 16 * cnt < absI ((r * cnt : Nat) - (sum : Int)))
      | none => false
    if far then (s.setPort p (fun q => { q with disc := q.disc + 1 })).inc (bPort p) F.LNK_LOSS_OUTLIERS
    else s.setPort p (fun q => { q with sum := q.sum + r, cnt := q.cnt + 1 })

/-- Show the applied and the estimated delay (R212, R246). -/
def showDelay (p dapp dest : Nat) (s : Dev) : Dev :=
  (((s.p (bPort p) F.LNK_DDOWN_DAPP (min dapp 65535)).p (bPort p) F.LNK_DDOWN_DEST (min dest 65535)).p
    (bPort p) F.LNK_DAPP_W_DAPP dapp).p (bPort p) F.LNK_DEST_W_DEST dest

/-- The conditions of R250 at a block end, LEAD_SHORT of R137 among them: an entry raises their kind (R470). -/
def delayConditions (p dapp : Nat) (s : Dev) : Dev :=
  let high := dapp > s.g (bPort p) F.LNK_PCFG_DMAX * 64
  let short := dapp > leadBudget s * 64
  let q := s.port p
  let s := s.on high (fun s => s.p (bPort p) F.LNK_STICKY_DELAY_HIGH 1)
  let s := s.on short (fun s => s.p (bPort p) F.LNK_STICKY_LEAD_SHORT 1)
  let s := s.on (high && !q.high) (raise (0xC0 + p) 0x1004)
  let s := s.on (short && !q.short) (raise (0xC0 + p) 0x1005)
  s.setPort p (fun q => { q with high := high, short := short })

/-- A block of 256 samples ends (R244 to R247, R250); an unreachable port's d_app stays as it is (R277). -/
def calBlockEnd (p : Nat) (s : Dev) : Dev :=
  let q := s.port p
  if q.cnt + q.disc < 256 then s
  else
    let s := s.setPort p (fun q => { q with sum := 0, cnt := 0, disc := 0 })
    if q.disc ≥ 32 then raise (0xC0 + p) 0x1003 (s.p (bPort p) F.LNK_STICKY_CAL_UNSTABLE 1)
    else
      let dest := destOf q.sum q.cnt (s.gi (bPort p) F.LNK_ASYM_APORT + aNode s p)
      let dapp := if !q.reach then q.dapp else if q.first then dest else if q.dapp < dest then q.dapp + 1 else if dest < q.dapp then q.dapp - 1 else q.dapp
      let cal := match q.prevDest with | some d => decide (d ≤ dest + 2 ∧ dest ≤ d + 2) | none => false
      let s := s.setPort p (fun q => { q with first := q.first && !q.reach, dappNew := dapp, dest := dest, prevDest := some dest })
      let s := s.setPort p (fun x => { x with est := some (q.sum, q.cnt) })
      let s := ((s.p (bPort p) F.LNK_RTT_RTT (min (roundDiv q.sum q.cnt) 268435455)).pb (bPort p) F.LNK_PSTATE_CALIBRATED cal)
      portReady p (delayConditions p dapp (showDelay p dapp dest s))

/-! ### Valid report frames (R215, R217, R277, R390, R391) -/

/-- This module's port is the node's port Q (R20). -/
def mineIsQ (s : Dev) : Bool := !s.gb bSs F.SS_STATUS_PREF

/-- What the header of a valid frame shows of the node. -/
def takeHeader (p : Nat) (h : RptHdr) (s : Dev) : Dev :=
  let old := s.port p
  let ns := nstateOf h.nstate
  let mine := mineIsQ s
  let obeys := (ns == .driven || ns == .holdover) && h.obeyedQ == mine
  let s := s.setPort p (fun q => { q with vrun := q.vrun + 1, miss := 0, reach := true, everReach := true, obeyedQ := h.obeyedQ, nstate := ns, rptSeen := true })
  let s := ((s.p (bPort p) F.LNK_PSTATE_NSTATE ns.code).pb (bPort p) F.LNK_PSTATE_OBEYS_THIS obeys).pb (bPort p) F.LNK_PSTATE_TIMING_THIS (h.timingQ == mine)
  let s := s.on (!old.reach) (cause (0xC0 + p) 0x1001 false)
  match s.nodeAt p with
  | none => s
  | some n =>
    if ns == .safe && old.nstate != .safe then s.setNode n (fun x => { x with detTx := 0 })
    else if old.rptSeen && old.nstate == .safe && (ns == .driven || ns == .holdover) then detectDesat n (beginRecovery n s)
    else s

/-- A well-formed report frame arrives: a valid one has the effect `body`, any other is an error slot (R217, R719). -/
def reportFrame (p : Nat) (h : RptHdr) (sample : Bool) (body : Dev → Dev) (s : Dev) : Dev :=
  if (s.port p).st == .off || !linkOn s then s
  else
    let (rx, valid, bad) := rxFrame (s.port p).rx h.seq
    let was := (s.port p).rx.was && !(s.port p).rx.locked
    let s := s.setPort p (fun q => { q with rx := rx })
    if valid then
      let s := takeHeader p h (rateSlot p false s)
      body (s.on sample (takeSample p h))
    else
      let s := s.setPort p (fun q => { q with vrun := 0, miss := q.miss + 1 })
      let s := s.on bad (fun s => s.inc (bPort p) F.LNK_FMT_FORMAT)
      rateSlot p (bad || was) (s.on was (fun s => s.inc (bPort p) F.LNK_LOSS_LOST))

/-- A node time of 24 bits as an instant of the device timeline at or before now, in ft (R228, R257). -/
def nodeInstant (p u : Nat) (s : Dev) : Nat :=
  let now : Int := (s.tick * 64 : Nat)
  (now - ((now - (s.port p).dapp - (u : Int)) % 16777216)).toNat

/-! ### Switch faults and self-tests at the device (R394, R401 to R407, R413) -/

/-- The cause and switch of the latest switch fault (NODE_SW_CAUSE). -/
def swCause (n sw c : Nat) (s : Dev) : Dev :=
  ((s.p (bNode n) F.NODE_SW_CAUSE_SWITCH sw).p (bNode n) F.NODE_SW_CAUSE_CAUSE c).inc (bNode n) F.NODE_SW_CAUSE_COUNT

/-- Raise UNBYPASSABLE where the device finds BLOCK, and close the contactor of a node that has not reported it closed (R394, R413). -/
def unbypass (n : Nat) (s : Dev) : Dev :=
  if unbypassable s n then raise n 0x1013 (s.on (!(s.node n).contactor) (execNode n 0xF18 [] none)) else s

/-- The device marks a switch as faulty and raises a kind for its node (R402, R406, R413). -/
def markSwitch (n sw c kind : Nat) (s : Dev) : Dev :=
  let s := swCause n sw c (s.setNode n (fun x => { x with swDev := bitSet x.swDev sw }))
  unbypass n (raise n kind s)

/-- The node has latched switches (R393, R395). -/
def latchSwitches (n m : Nat) (s : Dev) : Dev := s.setNode n (fun x => { x with swNode := Nat.lor x.swNode m })

/-- The command PROT_SELFTEST on a node channel (R404): the reason, 0 when it starts. -/
def selfTestCmd (n sw comp : Nat) (s : Dev) : Nat × Dev :=
  if !portUp s (s.portOf n) then (0x0722, s)
  else if (s.node n).stRun.isSome then (0x0721, s)
  else if !(switchesOf sw).all (notDriven s n) then (0x0720, s)
  else (0, runSelfTest n sw comp s)

/-- A self-test has ended (R405, R406): `pass` holds bit 4s + c for each test passed. -/
def selfTestResult (n pass : Nat) (aborted : Bool) (s : Dev) : Dev :=
  match (s.node n).stRun with
  | none => s
  | some (sw, comp) =>
    let nib (k : Nat) : Nat := Nat.land (pass / 2 ^ (4 * k) % 16) comp
    let s := s.each (switchesOf sw) (fun k d =>
      d.p (bNode n) (if k < 8 then ⟨F.NODE_ST_RES0.off, 4 * k, 4⟩ else ⟨F.NODE_ST_RES1.off, 4 * (k - 8), 4⟩) (nib k))
    let s := s.pb (bNode n) F.NODE_ST_RES1_ABORTED aborted
    let bad := (switchesOf sw).filter (fun k => nib k != comp)
    let good := (switchesOf sw).filter (fun k => nib k == comp)
    let s := s.setNode n (fun x => { x with stRun := none, stDone := true, stPass := bad.foldl bitClr (good.foldl bitSet x.stPass) })
    let s := s.on (!bad.isEmpty) (fun s => s.p bProt F.PROT_STATUS_ST_FAIL 1)
    serveSelfTest n (s.each bad (fun k d => markSwitch n k 7 0x1010 d))

/-! ### Thresholds (R386 to R388) -/

/-- The threshold that R387 computes for a leg. -/
def vthOf (s : Dev) (n y : Nat) : Nat :=
  let b := bProf (s.profOf n y)
  if s.gb b F.PROF_DESAT_ADAPT then
    let t := teleNow s n (8 + y)
    if t.2 then
      let tj := (t.1 + 32768) / 65536
      (clampI ((s.g b F.PROF_DESAT_V25 : Int) + s.gi b F.PROF_DESAT_TC * (tj - 25)) (s.g b F.PROF_DESAT_LIM_VMIN) (s.g b F.PROF_DESAT_LIM_VMAX)).toNat
    else vthInForce s n y
  else s.g b F.PROF_DESAT_V25

/-- Send thresholds of a node; 0 keeps a leg's (R388, R419). -/
def sendDesat (n : Nat) (ths : List Nat) (s : Dev) : Dev :=
  (execNode n 0xF04 (ths.flatMap (leBytes 2)) none s).setNode n (fun x => { x with desatTx := ths })

/-- The thresholds of every used leg. -/
def allDesat (s : Dev) (n : Nat) : List Nat := (upto 6).map (fun y => if (s.usedLegs n).contains y then vthOf s n y else 0)

/-- A node's thresholds are computed anew, and those that have moved by a step are sent (R387, R388). -/
def adaptNode (n : Nat) (s : Dev) : Dev :=
  let ths := (upto 6).map (fun y =>
    let v := vthOf s n y
    if (s.usedLegs n).contains y && absI ((v : Int) - vthInForce s n y) ≥ 10 * s.g (bProf (s.profOf n y)) F.PROF_BLANK_STEP then v else 0)
  if ths.all (· == 0) || !(s.node n).desatTx.isEmpty || !portUp s (s.portOf n) then s else sendDesat n ths s

/-- The adaptation of every ADAPT_MS ms (R387). -/
def desatAdapt (s : Dev) : Dev :=
  if s.tick < s.ms.adaptAt + 250000 * s.g bProt F.PROT_CFG_ADAPT_MS then s
  else ({ s with ms := { s.ms with adaptAt := s.tick } } : Dev).each (enabledNodes s) adaptNode

/-! ### Start steps (R402, R408 to R410) -/

/-- The bootstrap-fed legs of a node that are used. -/
def bsLegs (s : Dev) (n : Nat) : List Nat := (s.usedLegs n).filter (fun y => bitOf (s.gF (bNode n) F.NODE_BS_LEGS) y)

/-- The gate supply of the high side of a leg has been seen at or above BS_MIN: value in 2^-16 V against 0.1 V (R400, R402). -/
def bsCharged (s : Dev) (n y : Nat) : Bool :=
  let v := teleNow s n (14 + 2 * y + 1)
  v.2 && (s.g (bProf (s.profOf n y)) F.PROF_BS_BS_MIN : Int) * 65536 ≤ v.1 * 10

/-- Send the pre-charge of a node (R402, R409). -/
def preCharge (n : Nat) (s : Dev) : Dev :=
  let p := s.portOf n
  let t := earliest s p
  let off := t + s.g bProt F.PROT_CFG_BS_PRE * 2500 * 64
  let e (y : Nat) (tgt : LegState) (u : Nat) : Edge := ⟨y, tgt, profBit s n y, false, true, false, u, s.tick + 1, 0⟩
  let s := s.each (bsLegs s n) (fun y d => (sendEdge p (e y .off off) (sendEdge p (e y .low t) d)).setLeg n y (fun l => { l with cmd := .off }))
  s.setNode n (fun x => { x with bsTry := x.bsTry + 1, bsOff := off / 64 })

/-- When every member has taken its steps, the string's pattern may begin, with RESUME (R242, R408). These are the first edges that the mode allows: a BYPASSED position is brought into its bypass form (R352, R360). -/
def stepsDone (i : Nat) (s : Dev) : Dev :=
  if (s.str i).started && (s.str i).stepsOpen && (s.members i).all (fun m => (s.node m.2).step == 5) then
    let s := s.setStr i (fun x => { x with stepsOpen := false })
    let s := s.each (s.members i) (fun m d => detectDesat m.2 (d.setPort (d.portOf m.2) (fun q => { q with resumeNext := true })))
    s.on (s.kind i == 1) (fun s => s.each (s.members i) (fun m d =>
      d.on (posState d i m.1 == 1) (fun d => sendFences m.2 (formEdges d m.2 (bypassForm d m.2) false (earliest d (d.portOf m.2))) d)))
  else s

/-- Set the step of a node. -/
def setStep (n k : Nat) (s : Dev) : Dev :=
  let s := s.setNode n (fun x => { x with step := k })
  match s.stringOf n with | some (i, _) => stepsDone i s | none => s

/-- Step 4 begins: the pre-charge, where a leg needs one. -/
def beginStep4 (n : Nat) (s : Dev) : Dev := if (bsLegs s n).isEmpty then setStep n 5 s else preCharge n (setStep n 4 s)

/-- Step 3 begins: the self-test, with ST_AUTO. -/
def beginStep3 (n : Nat) (s : Dev) : Dev :=
  if s.gb bProt F.PROT_CFG_ST_AUTO then runSelfTest n (usedSwitches s n) 15 ((setStep n 3 s).setNode n (fun x => { x with stDone := false })) else beginStep4 n s

/-- The next start step of a node begins once the one before is complete (R68, R408). -/
def startStep (n : Nat) (s : Dev) : Dev :=
  let x := s.node n
  if s.mode == .charge && rideActive s then s
  else match x.step with
    | 1 =>
      if (s.port (s.portOf n)).st == .token && x.params then
        let s := sendDetect n 2 (setStep n 2 s)
        sendDesat n (allDesat s n) (s.setNode n (fun x => { x with detAck := false, setAck := false }))
      else s
    | 2 => if x.detAck && x.setAck && x.stRun.isNone then beginStep3 n s else s
    | 3 => if x.stDone then beginStep4 n s else s
    | _ => s

/-- The pre-charge is complete at a fresh value (R402). -/
def preChargeSeen (n : Nat) (s : Dev) : Dev :=
  if (s.node n).step = 4 && (bsLegs s n).all (bsCharged s n) then setStep n 5 s else s

/-- A pre-charge is still incomplete 1 ms after its edge to OFF (R402). -/
def preChargeLate (n : Nat) (s : Dev) : Dev :=
  let x := s.node n
  if x.step != 4 || s.tick < x.bsOff + 250000 then s
  else if x.bsTry = 1 then preCharge n s
  else if x.bsTry = 2 then
    let s := (s.setNode n (fun x => { x with bsTry := 3 })).p bProt F.PROT_STATUS_BS_FAIL 1
    s.each ((bsLegs s n).filter (fun y => !bsCharged s n y)) (fun y d => markSwitch n (2 * y + 1) 8 0x1011 d)
  else s

/-- The start steps of a string are still open after STEP_TMO (R410). -/
def stepTimeout (i : Nat) (s : Dev) : Dev :=
  if s.enabled (.string i) && (s.str i).stepsOpen && !(s.str i).timedOut && (s.str i).startTick + 2500000 * s.g bProt F.PROT_CFG_STEP_TMO ≤ s.tick then
    raise (0x120 + i) 0x1022 (s.setStr i (fun x => { x with timedOut := true }))
  else s

/-- The recovery of a node ends (R390, R391). -/
def recoveryEnd (n : Nat) (s : Dev) : Dev :=
  if (s.node n).recov.any (· ≤ s.tick) then detectDesat n (s.setNode n (fun x => { x with recov := none })) else s

/-! ### Acknowledgements (R285, R286, R290, R388, R391, R398, R405) -/

/-- COMMIT has been acknowledged: the node holds the parameters (R290, R388, R407). -/
def committed (n : Nat) (s : Dev) : Dev :=
  let s := setParamOk n true s
  let x := s.node n
  let s := s.setNode n (fun x => { x with powerUp := false })
  let s := sendDesat n (allDesat s n) s
  if x.powerUp && s.gb bProt F.PROT_CFG_ST_AUTO then serveSelfTest n (s.setNode n (fun x => { x with stWait := usedSwitches s n })) else s

/-- A node answers a message: `ok` says that its status is OK. -/
def ackMessage (p : Nat) (o : MsgOut) (ok : Bool) (data : List Byte) (s : Dev) : Dev :=
  let s := match o.src with | some n => clearAck n ok s | none => s
  match s.nodeAt p with
  | none => s
  | some n =>
    match o.msg.op with
    | 1 => if (s.port p).dlOld then s.setPort p (fun q => { q with dlOld := false }) else s.on (!ok) (fun s => s.setPort p (fun q => { q with dlFail := q.dlFail || q.dl }))
    | 5 =>
      if (s.port p).dlOld then s.setPort p (fun q => { q with dlOld := false }) else
      let good := ok && !(s.port p).dlFail
      let s := s.setPort p (fun q => { q with dl := false, dlFail := !good })
      if good then committed n (s.setPort p (fun q => { q with crcNode := paramCrc s n })) else s
    | 2 =>
      if ok && o.msg.addr = 0x18 then
        let c := w32 (fieldLE data 0 4)
        setParamOk n (decide (c = paramCrc s n)) (s.setPort p (fun q => { q with crcNode := c }))
      else s
    | 3 =>
      match o.msg.addr with
      | 0xF00 =>
        let m := fieldLE o.msg.data 0 1
        s.on ok (fun s => s.setNode n (fun x => { x with det := m, detAck := x.detAck || m == 2 }))
      | 0xF04 =>
        let ths := (upto 6).map (fun y => fieldLE o.msg.data (2 * y) 2)
        let old := (upto 6).map (vthInForce s n)
        s.setNode n (fun x => { x with
          desatTx := [], setAck := x.setAck || ok,
          desat := if ok then (upto 6).map (fun y => if ths.getD y 0 = 0 then old.getD y 0 else ths.getD y 0) else x.desat })
      | 0xF10 => s.on (!ok) (fun s => s.setNode n (fun x => { x with stRun := none }))
      | 0xF14 => s.on ok (fun s => s.setNode n (fun x => { x with swNode := Nat.land x.swNode (Nat.xor 4095 (fieldLE o.msg.data 0 2 % 4096)) }))
      | _ => s
    | _ => s

/-- A MGMT_ACK names a transaction (R285). -/
def mgmtAck (p tid status : Nat) (data : List Byte) (s : Dev) : Dev :=
  match (s.port p).mo with
  | some o => if o.msg.tid = tid then ackMessage p o (status == 0) data (s.setPort p (fun q => { q with mo := none })) else s
  | none => s

/-- No acknowledgement has come within MGMT_TIMEOUT frames (R286). -/
def mgmtTimeout (p : Nat) (s : Dev) : Dev :=
  match (s.port p).mo with
  | none => s
  | some o =>
    if o.waited < s.g bLnk F.LNK_CFG_MGMT_TIMEOUT then s
    else if o.retries < s.g bLnk F.LNK_CFG_MGMT_RETRY then
      s.setPort p (fun q => { q with mo := some { o with waited := 0, retries := o.retries + 1, first := true, left := msgBytes o.msg } })
    else
      let s := raise (0xC0 + p) 0x1006 ((s.setPort p (fun q => { q with mo := none })).p (bPort p) F.LNK_STICKY_MGMT_TIMEOUT 1)
      let s := if (s.port p).dl && !(s.port p).dlOld then s.setPort p (fun q => { q with dl := false, dlFail := true, mq := q.mq.filter (fun m => m.1.op != 1 && m.1.op != 5) }) else s
      ackMessage p o false [] s

/-! ### RPT (R249, R255 to R257, R307, R365, R370, R402, R413) -/

/-- Take a telemetry value. -/
def takeValue (n q time : Nat) (v : Int) (s : Dev) : Dev :=
  let old := s.tele n q
  s.setTele n q { val := v, time := time, tick := s.tick, ok := true, pval := old.val, ptime := old.time, pok := old.ok }

/-- A fresh junction temperature of a node (R413, R470). -/
def junction (n : Nat) (ts : List Int) (s : Dev) : Dev :=
  if ts.isEmpty || !s.enabled (.node n) then s
  else
    let warn := ts.any (fun t => (s.g bProt F.PROT_TJ_TJ_WARN : Int) * 65536 < t)
    let trip := ts.any (fun t => (s.g bProt F.PROT_TJ_TJ_TRIP : Int) * 65536 < t)
    let x := s.node n
    let s := s.setNode n (fun x => { x with jWarn := warn, jTrip := trip })
    (s.on (warn && !x.jWarn) (raise (0x60 + n) 0x1018)).on (trip && !x.jTrip) (raise (0x60 + n) 0x1019)

/-- A fresh cell voltage of a node (R365, R370). -/
def cellVoltage (n : Nat) (v : Int) (s : Dev) : Dev :=
  match cellPos s n with
  | none => s
  | some (i, k) =>
    let s := testWindow i k n (noteWindow i n s)
    if (s.node n).preFrom.isSome && posState s i k == 2 && (s.g (bStr i) F.STR_CELL_WIN_WIN_LO : Int) * 65536 ≤ v then endPrecharge i k n false s else s

/-- What a valid RPT frame carries. -/
def rptBody (p : Nat) (b : RptBody) (s : Dev) : Dev :=
  let s := s.p (bPort p) F.LNK_NTERM_TERM b.nodeTerm
  let s := s.pi (bPort p) F.LNK_OFS_OFS (if s.gb (bPort p) F.LNK_PSTATE_TIMING_THIS then 0 else b.ofs)
  let s := match s.nodeAt p with
    | none => s
    | some n =>
      let at_ := nodeInstant p b.sampleTime s
      let got := (upto 26).filter (fun i => bitOf b.valid i && (26 * b.page + i < 27 || 31 < 26 * b.page + i) && 26 * b.page + i < 64)
      let val (i : Nat) : Int := b.values.getD i 0
      let s := s.each got (fun i d => takeValue n (26 * b.page + i) at_ (val i) d)
      if b.page = 0 then
        let s := junction n ((got.filter (fun i => 8 ≤ i && i ≤ 13)).map val) s
        let s := if got.contains 0 then cellVoltage n (val 0) s else s
        preChargeSeen n s
      else s
  guardPeer s

/-! ### ECHO (R164, R166, R262) -/

/-- The update of an adaptive dead time (R164). -/
def adaptStep (s : Dev) (n : Nat) (dt : Nat) (body : Nat) : Nat :=
  let b := bNode n
  let e : Int := (body : Int) - s.g b F.NODE_DT_ADAPT_TARGET
  let lim : Int := s.g b F.NODE_DT_ADAPT_STEP
  let st := clampI (signI e * ((absI e / 2 ^ s.g b F.NODE_DT_ADAPT_GAIN_SH : Nat) : Int)) (-lim) lim
  (clampI ((dt : Int) - st) (s.gF b F.NODE_DT_LIM_DT_MIN) (s.gF b F.NODE_DT_LIM_DT_MAX)).toNat

/-- The direction that the latest echo of a transition into HIGH or LOW has reported (R165). -/
def noteDir (n y : Nat) (high : Bool) (dir : Nat) (s : Dev) : Dev :=
  s.setLeg n y (fun l => { l with dirHigh := if high then dir else l.dirHigh, dirLow := if high then l.dirLow else dir })

/-- An echo of a transition of an adapting leg into LOW or HIGH, with the direction it reports (R164, R166). -/
def adaptEcho (n y dir : Nat) (e : Echo) (late : Bool) (s : Dev) : Dev :=
  match s.stringOf n with
  | none => s
  | some (i, _) =>
    if !adapting s i n y then s
    else
      let b := bNode n
      let s := s.p b F.NODE_MOD_STATUS_FALLBACK (bitClr (s.g b F.NODE_MOD_STATUS_FALLBACK) y)
      s.setLeg n y (fun l =>
        let l := { l with miss := if late then l.miss else 0 }
        if e.body = 0xFFFF then l
        else if dir = 1 then { l with dtPos := adaptStep s n l.dtPos e.body }
        else if dir = 2 then { l with dtNeg := adaptStep s n l.dtNeg e.body }
        else l)

/-- Match one echo (R262). -/
def takeEcho (p : Nat) (e : Echo) (s : Dev) : Dev :=
  let hit (x : Sent) : Bool := x.leg == e.leg && x.time16 == e.time % 65536
  match (s.port p).sent.find? hit with
  | none => s.inc (bPort p) F.LNK_LOSS_LOST
  | some x =>
    let s := s.setPort p (fun q => { q with sent := dropFirst hit q.sent })
    match s.nodeAt p with
    | none => s
    | some n =>
      let s := s.setNode n (fun k => { k with
        stopAwait := dropFirst (fun (w : Nat × Nat) => w.1 == x.leg && w.2 == x.tExec) k.stopAwait,
        blk := if x.tgt == .high && e.state == 2 then terase k.blk x.leg else k.blk })
      if x.tgt == .off || 6 ≤ x.leg then s
      else
        let dir := if e.dir = 1 || e.dir = 2 then e.dir else 0
        (noteDir n x.leg (x.tgt == .high) dir s).on x.adapt (adaptEcho n x.leg dir e x.late)

/-- What a valid ECHO frame carries. -/
def echoBody (p dropped : Nat) (es : List Echo) (s : Dev) : Dev :=
  let s := s.on (dropped != 0) (fun s => s.p (bPort p) F.LNK_STICKY_ECHO_DROP 1)
  s.each (es.filter (fun e => e.leg != 7)) (takeEcho p)

/-- The echo deadline of the oldest uncounted transition of a leg has passed without its echo (R166): 1,024 ticks and DMAX after its execution time. Before that nothing happens. -/
def echoDeadline (n y : Nat) (s : Dev) : Dev :=
  let p := s.portOf n
  let hit (x : Sent) : Bool := x.leg == y && x.adapt && !x.late && x.tgt != .off && x.tExec + (1024 + s.g (bPort p) F.LNK_PCFG_DMAX) * 64 ≤ s.tick * 64
  match findIdx hit (s.port p).sent 0, s.stringOf n with
  | some k, some (i, _) =>
    let s := s.setPort p (fun q => { q with sent := match q.sent[k]? with | some x => listSet q.sent k { x with late := true } | none => q.sent })
    if !adapting s i n y then s
    else if (s.leg n y).miss + 1 ≥ 4 then
      let fixed := s.gF (bNode n) (F.NODE_DT_FIXED.at y)
      (s.setLeg n y (fun l => { l with miss := 0, dtPos := fixed, dtNeg := fixed })).p
        (bNode n) F.NODE_MOD_STATUS_FALLBACK (bitSet (s.g (bNode n) F.NODE_MOD_STATUS_FALLBACK) y)
    else s.setLeg n y (fun l => { l with miss := l.miss + 1 })
  | _, _ => s

/-! ### EVT (R263, R264, R401, R418) -/

/-- An event of a node as fault collection takes it (R464, R481). -/
def nodeEvent (p src : Nat) (e : EvtEntry) (c : Option Bool) (form : Option Form) (s : Dev) : Dev :=
  let pos := BitVec.ofNat 8 (e.sw % 16 + 16 * (e.leg % 8))
  let t := nodeInstant p e.time s + s.tFt - s.tick * 64
  s.post (.event { src := src, kind := e.code, cause := c, severe := false, safe := false, form := form, time := some t, hi := 0,
                   data := [pos, BitVec.ofNat 8 e.eseq, BitVec.ofNat 8 e.count] ++ leBytes 5 0 ++ slice e.data 0 8 })

/-- The switches an event entry names: one switch, or both of a leg. -/
def entrySwitches (e : EvtEntry) : Nat :=
  if e.code = 0x0104 && e.leg < 6 then 2 ^ (2 * e.leg) + 2 ^ (2 * e.leg + 1) else if e.sw < 12 then 2 ^ e.sw else 0

/-- A switch fault that the node reports (R393, R394, R413). -/
def nodeSwitchFault (p n : Nat) (e : EvtEntry) (c : Nat) (s : Dev) : Dev :=
  let s := swCause n e.sw c (latchSwitches n (entrySwitches e) s)
  nodeEvent p n e (if e.code = 0x0102 then some true else none) (formOfFaults (faulty s n)) s

/-- A bootstrap-fed high side was blocked in one more period of its leg (R401). -/
def blockedPeriod (n : Nat) (e : EvtEntry) (s : Dev) : Dev :=
  let y := e.sw / 2
  if e.sw % 2 = 1 && (bsLegs s n).contains y then
    let old := tget (fun _ => 0) (s.node n).blk y
    let k := old + 1 + e.count
    let s := s.setNode n (fun x => { x with blk := tset (fun _ => 0) x.blk y k })
    if old < 3 && 3 ≤ k then markSwitch n e.sw 8 0x1012 s else s
  else s

/-- What an event entry shows of the link, whether a node channel is bound to the port or not (R294). -/
def stickyOf (p : Nat) (e : EvtEntry) (s : Dev) : Dev :=
  match e.code with
  | 0x0002 => s.p (bPort p) F.LNK_STICKY_LATE_EDGE 1
  | 0x0006 => s.p (bPort p) F.LNK_STICKY_COUNTER_RELOAD 1
  | 0x000A => s.p (bPort p) F.LNK_STICKY_PORT_CHANGE 1
  | 0x000B => s.p (bPort p) F.LNK_STICKY_TERM_TIE 1
  | _ => s

/-- One entry of an EVT frame, for the node channel n of the port. -/
def takeEntry (p n : Nat) (e : EvtEntry) (s : Dev) : Dev :=
  let link (s : Dev) : Dev := nodeEvent p (0xC0 + p) e none none s
  match e.code with
  | 0x0001 | 0x0004 | 0x0005 | 0x000C => link s
  | 0x0002 => link (s.inc (bNode n) F.NODE_LATE_LATE)
  | 0x0003 => link (s.inc (bNode n) F.NODE_LATE_CONFLICT)
  | 0x0006 => link s
  | 0x0007 => s.inc (bNode n) F.NODE_STATE_HOLD_CNT
  | 0x0009 =>
    match fieldLE e.data 1 1 with
    | 0 => link s
    | 2 => download n (s.setNode n (fun x => { x with powerUp := true, stPass := 0, det := 0, detTx := 0, desat := [], contactor := false }))
    | _ => s
  | 0x000D => s.setNode n (fun x => { x with contactor := true })
  | 0x0020 => mgmtAck p (fieldLE e.data 0 1) (fieldLE e.data 1 1) (slice e.data 2 6) s
  | 0x0101 => nodeSwitchFault p n e (fieldLE e.data 0 1) s
  | 0x0102 => nodeSwitchFault p n e 4 s
  | 0x0103 => blockedPeriod n e s
  | 0x0104 => nodeSwitchFault p n e 5 s
  | 0x0105 => nodeSwitchFault p n e 6 s
  | 0x0106 =>
    let s := latchSwitches n (fieldLE e.data 1 2 % 4096) s
    if fieldLE e.data 0 1 = 0 then (nodeEvent p n e none (some .block) s).on (!(s.node n).contactor) (execNode n 0xF18 [] none) else s
  | 0x0107 => selfTestResult n (fieldLE e.data 0 6) (fieldLE e.data 6 1 != 0) s
  | 0x0109 => s.setNode n (fun x => { x with swNode := Nat.land x.swNode (Nat.xor 4095 (fieldLE e.data 0 2 % 4096)) })
  | _ => s

/-- What a valid EVT frame carries. -/
def evtBody (p lost : Nat) (es : List EvtEntry) (s : Dev) : Dev :=
  let s := (s.on (lost != 0) (fun s => s.p (bPort p) F.LNK_STICKY_EVT_LOST 1)).each es (stickyOf p)
  match s.nodeAt p with
  | none => s
  | some n => (s.each es (takeEntry p n)).setPort p (fun q => { q with eseq := (es.getLast?.map (·.eseq)).or q.eseq })

/-! ### Report CAL (R265, R281, R289) -/

/-- NODE_ID0 to NODE_ID4 show the identity that the node on a channel's port has last given (R292). -/
def showIdent (n : Nat) (s : Dev) : Dev :=
  let b := bNode n
  let ident := (s.port (s.portOf n)).ident
  let s := ((s.p b F.NODE_ID0_CONTRACT (fieldLE ident 0 2)).p b F.NODE_ID0_CLASS (fieldLE ident 2 1)).p b F.NODE_ID0_LEGS (fieldLE ident 3 1 % 64)
  let s := ((s.p b F.NODE_ID1_VENDOR (fieldLE ident 4 4)).p b F.NODE_ID2_SERIAL (fieldLE ident 8 4)).p b F.NODE_ID3_SERIAL (fieldLE ident 12 4)
  (s.p b F.NODE_ID4_ANODE (fieldLE ident 16 2)).p b F.NODE_ID4_EXEC_TOL (fieldLE ident 18 2)

/-- What a valid report CAL carries. -/
def calBody (p : Nat) (ident : List Byte) (s : Dev) : Dev :=
  let s := (s.setPort p (fun q => { q with ident := ident })).p (bPort p) F.LNK_PSTATE_ID_VALID 1
  portReady p (s.each ((upto 96).filter (fun n => s.occupied (.node n) && s.portOf n == p)) showIdent)

end Sys2Proof.Machine
end

