-- ==== Sys2Proof/Machine/Node.lean ====
section
/-! DEFINITION. The node at the far end of a port: counter, edges, gate drive, token and term, hold-over and safe entry, reports, management messages, switch faults (R219 to R288, R382 to R399, R405, R418 to R420). Node times are in ft of the node's counter. -/

namespace Sys2Proof.Machine

/-! ### Identity and parameters -/

def FarSt.cell (x : FarSt) : Bool := fieldLE x.ident 2 1 == 1
def FarSt.fitted (x : FarSt) : Nat := fieldLE x.ident 3 1 % 64
def FarSt.hasContactor (x : FarSt) : Bool := fieldLE x.ident 0x14 1 % 2 == 1

/-- A committed parameter byte, or field of n bytes. -/
def FarSt.par (x : FarSt) (a : Nat) : Nat := tget (fun _ => 0) x.params a
def FarSt.par16 (x : FarSt) (a : Nat) : Nat := x.par a + 256 * x.par (a + 1)

def FarSt.lg (x : FarSt) (y : Nat) : FLeg := tget (fun _ => flegSt0) x.legs y
def FarSt.setLg (x : FarSt) (y : Nat) (l : FLeg) : FarSt := { x with legs := tset (fun _ => flegSt0) x.legs y l }
def FarSt.gate (x : FarSt) (sw : Nat) : Gate := tget (fun _ => gate0) x.gates sw

def FarSt.rx (x : FarSt) : Lane → RxSt | .portP => x.rxP | .portQ => x.rxQ
def FarSt.setRx (x : FarSt) (l : Lane) (r : RxSt) : FarSt := match l with | .portP => { x with rxP := r } | .portQ => { x with rxQ := r }
def FarSt.ofs (x : FarSt) : Lane → Int | .portP => x.ofsP | .portQ => x.ofsQ
def FarSt.setOfs (x : FarSt) (l : Lane) (v : Int) : FarSt := match l with | .portP => { x with ofsP := v } | .portQ => { x with ofsQ := v }
def FarSt.errUp (x : FarSt) (l : Lane) : FarSt :=
  match l with | .portP => { x with errP := min 255 (x.errP + 1) } | .portQ => { x with errQ := min 255 (x.errQ + 1) }
def FarSt.msg (x : FarSt) : Lane → Gather | .portP => x.msgP | .portQ => x.msgQ
def FarSt.setMsg (x : FarSt) (l : Lane) (g : Gather) : FarSt := match l with | .portP => { x with msgP := g } | .portQ => { x with msgQ := g }

/-- A shift of the node's counter, and of what the node has noted in it. Readings are kept from 0 up by whole turns of 2^24 ft, the wrap of R220, which shift what is held as well. -/
def FarSt.shift (x : FarSt) (d : Int) : FarSt :=
  let turn : Nat := if (x.now : Int) + d < 0 then 16777216 else 0
  let m (t : Nat) : Nat := ((t : Int) + d + turn).toNat
  { x with now := m x.now, hor := m x.hor, repFrom := m x.repFrom, slotAt := m x.slotAt, hist := x.hist.map (fun h => (m h.1, h.2)),
           legs := x.legs.map (fun w => (w.1, { w.2 with left := m w.2.left })), gates := x.gates.map (fun w => (w.1, { w.2 with at_ := m w.2.at_ })),
           held := x.held.map (fun h => { h with due := h.due + turn }) }

/-! ### Events of the node (R251, R264) -/

/-- An event that may take any slot (R251, R418). -/
def evtSevere (e : EvtEntry) : Bool :=
  [0x0009, 0x0101, 0x0102, 0x0104, 0x0105].contains e.code || (e.code == 0x0106 && fieldLE e.data 0 1 == 0)

/-- Report an event: merge it into a waiting entry of its code and position, or queue it (R264). -/
def FarSt.report_ (x : FarSt) (code sw leg : Nat) (data : List Byte) : FarSt :=
  let e : EvtEntry := ⟨code, sw, leg, 0, x.now % 16777216, 0, slice data 0 8⟩
  match findIdx (fun (w : EvtEntry) => w.code == code && w.sw == sw && w.leg == leg) x.events 0 with
  | some k => { x with events := match x.events[k]? with | some w => listSet x.events k { w with count := min 255 (w.count + 1) } | none => x.events }
  | none =>
    if x.events.length < 32 then { x with events := x.events ++ [e] }
    else
      let q := if evtSevere e then (dropFirst (fun w => !evtSevere w) x.events.reverse).reverse else x.events
      { x with events := if q.length < 32 then q ++ [e] else q, lost := min 255 (x.lost + 1) }

def FarSt.word_ (x : FarSt) (code : Nat) (w : Word) (extra : Nat) : FarSt :=
  x.report_ code 15 (min 7 (ewLeg w)) (leBytes 4 w.toNat ++ leBytes 1 extra)

/-! ### Detection method (R389) -/

/-- The switches of a leg that are on in a state. -/
def onSwitch (y : Nat) (st : LegState) : Nat := match st with | .off => 0 | .low => 2 ^ (2 * y) | .high => 2 ^ (2 * y + 1)

/-- Every switch of the fitted legs. -/
def FarSt.allSw (x : FarSt) : Nat := (upto 6).foldl (fun m y => if bitOf x.fitted y then m + 3 * 4 ^ y else m) 0

/-- The switches that are on. -/
def FarSt.onSw (x : FarSt) : Nat := (upto 6).foldl (fun m y => m + onSwitch y (x.lg y).st) 0

/-- The switches with a rail below its lock-out level (R392). -/
def FarSt.locked (x : FarSt) : Nat := Nat.lor (x.uvlo % 4096) (x.uvlo / 4096)

/-- Let the switches that are off take the method last set; DETECT_MODE once all have. -/
def FarSt.arm (x : FarSt) : FarSt :=
  let all := x.allSw
  if Nat.land x.armed all == all then x
  else
    let m := Nat.lor x.armed (Nat.land all (Nat.xor 4095 x.onSw))
    let x := { x with armed := m }
    if Nat.land m all == all then x.report_ 0x0108 15 7 (leBytes 1 x.method) else x

/-- Set the method. -/
def FarSt.setMethod (x : FarSt) (m : Nat) : FarSt := if x.method = m then x else ({ x with method := m, armed := 0 } : FarSt).arm

/-- The method that a switch has armed: 1 DESAT, 2 DIDT. -/
def FarSt.methodOf (x : FarSt) (sw : Nat) : Nat := if bitOf x.armed sw then x.method else 3 - x.method

/-! ### Gate drive (R382, R419) -/

/-- A byte of the profile image of a switch's leg: the primary one, or the alternate one. -/
def FarSt.profByte (x : FarSt) (sw : Nat) (alt : Bool) (o : Nat) : Nat := x.par (0x400 + 0x80 * (sw / 2) + (if alt then 0x40 else 0) + o)

/-- The duration of a soft turn-off, in ft. -/
def FarSt.softFt (x : FarSt) (sw : Nat) (alt : Bool) : Nat := 128 * x.profByte sw alt 9

/-- What a gate output does at an instant: a source or sink current in mA, or a hold voltage in 0.1 V, in the off-state with or without the Miller clamp. -/
inductive GateDrive where
  | source (mA : Nat) | sink (mA : Nat) | holdOn (v : Nat) | holdOff (v : Nat) (clamp : Bool)
deriving DecidableEq, Repr

/-- The gate drive of a switch at an instant (R382): pre-charge, plateau and hold by the words PROF_ON, PROF_OFF, PROF_SOFT and PROF_HOLD of its profile; times in 1 ns (16 ft) and 8 ns (128 ft). -/
def FarSt.gateDrive (x : FarSt) (sw t : Nat) : GateDrive :=
  let g := x.gate sw
  let p (o : Nat) : Nat := x.profByte sw g.alt o
  let d := t - g.at_
  let off : GateDrive := .holdOff (p 13) (p 14 % 2 == 1)
  if g.on then if d < 16 * p 1 then .source (20 * p 0) else if d < 16 * p 1 + 128 * p 3 then .source (20 * p 2) else .holdOn (p 12)
  else if g.soft then if d < x.softFt sw g.alt then .sink (5 * p 8) else off
  else if d < 16 * p 5 then .sink (20 * p 4) else if d < 16 * p 5 + 128 * p 7 then .sink (20 * p 6) else off

/-- The instant by which a gate must have come to its hold level, in ft after the turn-on or turn-off began (R383). -/
def FarSt.gateLimit (x : FarSt) (sw : Nat) : Nat :=
  let g := x.gate sw
  let o := if g.on then 0 else 4
  16 * x.profByte sw g.alt (o + 1) + 128 * x.profByte sw g.alt (o + 3) + 16000

/-! ### Legs -/

/-- Drive the gates of a leg to a state from an instant on; a gate that is there already is left as it is. -/
def FarSt.driveLeg (x : FarSt) (y : Nat) (st : LegState) (t : Nat) (alt soft : Bool) : FarSt :=
  [2 * y, 2 * y + 1].foldl (fun (x : FarSt) sw =>
    let on := bitOf (onSwitch y st) sw
    if (x.gate sw).on == on then x else { x with gates := tset (fun _ => gate0) x.gates sw { on := on, alt := alt, soft := soft && !on, at_ := t } }) x

/-- A leg takes a state at an instant, by its primary or alternate profile, softly or not. -/
def FarSt.leg_ (x : FarSt) (y : Nat) (st : LegState) (t : Nat) (alt soft : Bool) : FarSt :=
  let l := x.lg y
  let l' : FLeg := if l.st != .off && l.st != st then { l with st := st, left := t, leftSt := l.st } else { l with st := st }
  ({ (x.setLg y l').driveLeg y st t alt soft with hist := (x.hist ++ [(t, y, st)]).drop ((x.hist.length + 1) - 256) } : FarSt).arm

/-- The alternate profile drives the switch of a leg that is on, or was the last to be on. -/
def FarSt.altOf (x : FarSt) (y : Nat) : Bool :=
  let st := if (x.lg y).st == .off then (x.lg y).leftSt else (x.lg y).st
  (x.gate (if st == .high then 2 * y + 1 else 2 * y)).alt

/-- A leg that is on goes OFF now, by the profile that turned it on (DESIGN CHOICE, log entry 103). -/
def FarSt.offLeg (x : FarSt) (y : Nat) (soft : Bool) : FarSt := if (x.lg y).st == .off then x else x.leg_ y .off x.now (x.altOf y) soft

/-- The instant at which a leg that is OFF has left its last on-state, the soft turn-off included (R399). -/
def FarSt.offEnd (x : FarSt) (y : Nat) : Nat :=
  let l := x.lg y
  let sw := if l.leftSt == .high then 2 * y + 1 else 2 * y
  l.left + (if (x.gate sw).soft then x.softFt sw (x.gate sw).alt else 0)

/-! ### Repetition in hold-over (R271, R275) -/

/-- The state of a leg at an instant, by the edges executed, with the instant at which it last left an on-state, and that state. -/
def FarSt.legAt (x : FarSt) (y t : Nat) : FLeg × Nat :=
  (x.hist.filter (fun h => h.2.1 == y && h.1 ≤ t)).foldl (fun a h =>
    if a.1.st != .off && a.1.st != h.2.2 then ({ st := h.2.2, left := h.1, leftSt := a.1.st }, h.1) else ({ a.1 with st := h.2.2 }, h.1)) (flegSt0, 0)

/-- The repeat period of a leg (R271). -/
def FarSt.period (x : FarSt) (y : Nat) : Nat := if x.cell && y ≥ 2 then x.repCF else x.repAB

/-- The duration of the repetition: at most 200 µs (R272). -/
def FarSt.holdFor (x : FarSt) : Nat := min (x.par 0x201 * x.repAB) 3200000

/-- A leg repeats itself at an instant. -/
def FarSt.repeats (x : FarSt) (y t : Nat) : Bool := (x.ns == .holdover || bitOf x.stop y) && x.repFrom < t && x.period y != 0

/-- Bring the legs that repeat themselves to their state at an instant. -/
def FarSt.repeatTo (x : FarSt) (t : Nat) : FarSt :=
  (upto 6).foldl (fun (x : FarSt) y =>
    if x.repeats y t then
      let l := x.period y
      let src := x.repFrom + (t - x.repFrom) % l - l
      let a := x.legAt y src
      let back (u : Nat) : Nat := t - (src - u)
      ((x.setLg y { a.1 with left := back a.1.left }).driveLeg y a.1.st (back a.2) false false).arm
    else x) x

/-- The node's counter has reached an instant, in ft; legs in hold-over repeat themselves until t_s. -/
def FarSt.upTo (x : FarSt) (t : Nat) : FarSt :=
  let x := { x with now := max x.now t }
  x.repeatTo (if x.ns == .holdover then min x.now (x.repFrom + x.holdFor) else x.now)

/-! ### Safe entry (R273, R274, R389, R393 to R396) -/

/-- The safe form of legs A and B (R274, R394): faulty switches decide first; a form in which both legs stand is kept. -/
def FarSt.safeForm (x : FarSt) : Form :=
  match formOfFaults x.latched with
  | some f => f
  | none =>
    let a := (x.lg 0).st
    let quiet := !x.held.any (fun h => ewLeg h.word == 0 || ewLeg h.word == 1 || ewLeg h.word == 6)
    if x.cell && quiet && a == (x.lg 1).st && a != .off then (if a == .low then .bypassLow else .bypassHigh)
    else formOf (x.par 0x200)

/-- Leg A or B into the on-state of a form, through OFF with SAFE_DT after it has left another; a switch whose rail is locked out stays off (R392). -/
def FarSt.formLeg (x : FarSt) (f : Form) (y : Nat) : FarSt :=
  if (x.lg y).st == f.leg then x
  else
    let x := x.offLeg y false
    if f.leg == .off || Nat.land (onSwitch y f.leg) x.locked != 0 then x
    else x.leg_ y f.leg (if (x.lg y).leftSt == .off then x.now else max x.now (x.offEnd y + x.par16 0x202)) false false

/-- Place the legs in a safe form. `soft` says which of the other legs of a node go OFF softly. -/
def FarSt.place (x : FarSt) (f : Form) (soft : Nat → Bool) : FarSt :=
  let x := (upto 6).foldl (fun (x : FarSt) y => if x.cell && y < 2 then x else x.offLeg y (soft y)) x
  if x.cell then { (upto 2).foldl (fun (x : FarSt) y => x.formLeg f y) x with form := f } else { x with form := .block }

/-- The cell is un-bypassable (R394): the node closes its contactor, whatever CONTACTOR says (R396). -/
def FarSt.closeIf (x : FarSt) (b : Bool) : FarSt := { x with closing := x.closing || (b && x.hasContactor) }

/-- Enter NSTATE SAFE with a cause: 0 hold-over, 1 gate-drive fault, 2 power-up. In hold-over a leg goes OFF softly where its profile has a soft turn-off, and the contactor closes where CONTACTOR = 1 (R273); at a gate-drive fault legs C to F of a cell node go OFF softly (R393). -/
def FarSt.enterSafe (x : FarSt) (why : Nat) : FarSt :=
  let f := if x.cell then x.safeForm else .block
  let soft (y : Nat) : Bool := if why = 0 then x.softFt (2 * y) (x.altOf y) != 0 else why = 1 && x.cell
  let x := x.place (if why = 2 then .block else f) soft
  let x := x.closeIf ((why = 0 && x.par 0x204 = 1) || (x.cell && formOfFaults x.latched == some .block))
  let x := { x with ns := .safe, held := [], stop := 0, served := false, unserved := 0 }
  (x.report_ 0x0009 15 7 (leBytes 1 (if why = 2 then 0 else f.code) ++ leBytes 1 why)).setMethod 2

/-- The set of faulty switches grows (R393 to R396): the switch goes off softly, the node is in SAFE, and the form is applied anew. -/
def FarSt.fault (x : FarSt) (m : Nat) : FarSt :=
  let grown := Nat.lor x.latched m != x.latched
  let x := { x with latched := Nat.lor x.latched m }
  let x := (upto 6).foldl (fun (x : FarSt) y => if Nat.land (onSwitch y (x.lg y).st) m != 0 then x.offLeg y true else x) x
  let x := if x.ns == .safe then
      (x.place (if x.cell then x.safeForm else .block) (fun _ => x.cell)).closeIf (x.cell && formOfFaults x.latched == some .block)
    else x.enterSafe 1
  if grown && x.cell then x.report_ 0x0106 15 7 (leBytes 1 x.form.code ++ leBytes 2 x.latched) else x

/-! ### Counter and frames (R217, R220 to R222, R719) -/

/-- How far an arrival lies from the instant that R220 requires, as a signed number of ft. -/
def seqDev (seq arr : Nat) : Int := sgn 24 (((arr : Int) - (seq * 32768 : Nat)) % 16777216).toNat

/-- The timing port (R221): a port delivers valid frames while its receiver is locked. -/
def FarSt.retime (x : FarSt) : FarSt := { x with timing := match x.obeys with | some l => l | none => if x.rxP.locked then .portP else .portQ }

/-- The frames that agree on a counter phase must follow one another (R222). -/
def FarSt.disagree (x : FarSt) (l : Lane) : FarSt := if l == x.timing then { x with agree := 0, agreeAt := none } else x

/-- A well-formed frame of sequence number `seq` arrives on a lane when the counter reads `arr` ft: the node, and whether the frame is valid. A frame on the timing port that comes at another instant than R220 requires is an error slot of the lane. -/
def FarSt.frame (x : FarSt) (l : Lane) (seq arr : Nat) : FarSt × Bool :=
  let old := x.rx l
  let (r, valid, bad) := rxFrame old seq
  let x := ((x.setRx l r).upTo arr).retime
  let x := if bad then x.errUp l else x
  if !valid then (x.disagree l, false)
  else
    let d := seqDev seq arr
    if l != x.timing then (x.setOfs l d, true)
    else if !x.set then
      (({ x.shift (0 - d) with set := true } : FarSt).enterSafe 2, true)
    else if absI d > 64 then
      let n := match x.agreeAt with | some a => if absI (a - d) ≤ 64 then x.agree + 1 else 1 | none => 1
      (({ x.errUp l with held := [], agree := n, agreeAt := some d } : FarSt).setRx l (rxError old).1, false)
    else ({ x.shift (0 - d) with agree := 0, agreeAt := none }, true)

/-- The counter is reloaded from four frames that agree (R222). -/
def FarSt.reload (x : FarSt) : FarSt :=
  match x.agreeAt with
  | some d =>
    if x.agree ≥ 4 then ({ x.shift (0 - d) with agree := 0, agreeAt := none } : FarSt).report_ 0x0006 15 7 (leBytes 4 (usg 32 (0 - d))) else x
  | none => x

/-- A frame position of a lane without a valid frame (R719). -/
def FarSt.noFrame (x : FarSt) (l : Lane) : FarSt :=
  let (r, bad, _) := rxError (x.rx l)
  let x := ((x.disagree l).setRx l r).retime
  if bad then x.errUp l else x

/-! ### Edges (R224, R226, R237 to R242, R269) -/

/-- The due time of a 24-bit time read at an instant (R224). -/
def dueOf (u now : Nat) : Nat :=
  let d := ((u : Int) - now) % 16777216
  ((now : Int) + (if d < 8388608 then d else d - 16777216)).toNat

/-- Two leg codes have a leg in common. -/
def codesMeet (a b : Nat) : Bool := (legsOf a).any (fun y => (legsOf b).contains y)

/-- The first edge of a leg from the port the node has changed to discards what the old port left due then or later, but for an edge identical to it (R269 step 3); a held edge that is identical counts as received from the new port. -/
def FarSt.fromNew (x : FarSt) (l : Lane) (w : Word) (due : Nat) : FarSt :=
  let ys := legsOf (ewLeg w)
  let fresh := ys.filter (fun k => !tget (fun _ => false) x.swFrom k)
  let held := x.held.filter (fun h => !(h.lane != l && h.word != w && due ≤ h.due && fresh.any (fun k => (legsOf (ewLeg h.word)).contains k)))
  { x with held := held.map (fun (h : Held) => if h.word == w then { h with lane := l } else h),
           swFrom := ys.foldl (fun m k => tset (fun _ => false) m k true) x.swFrom }

/-- Hold an edge until its due time, if there is room (R237). -/
def FarSt.hold (x : FarSt) (l : Lane) (w : Word) (due : Nat) (fence : Bool) : FarSt :=
  if x.held.length ≥ 256 || (legsOf (ewLeg w)).any (fun k => (x.held.filter (fun h => (legsOf (ewLeg h.word)).contains k)).length ≥ 48) then x.word_ 0x0004 w 0
  else { x with held := insertBy (fun (a b : Held) => a.due < b.due) ⟨w, due, l, fence⟩ x.held }

/-- Take one edge from a frame that ends at `fin`. The repeated copy of an edge that the frame before it brought is no new edge, and neither is a copy of a held one (R238). -/
def FarSt.edge (x : FarSt) (l : Lane) (fin : Nat) (w : Word) (fence copy : Bool) : FarSt :=
  let y := ewLeg w
  match legStateOf (ewTgt w) with
  | none => if copy then x else x.word_ 0x0001 w 0
  | some t =>
    if y = 7 || (y = 6 && !x.cell) then (if copy then x else x.word_ 0x0001 w 0)
    else
      let due := dueOf (ewTime w) fin
      let x := x.fromNew l w due
      if copy || x.held.any (fun h => h.word == w) then x
      else
        let x := if fence then { x with held := x.held.filter (fun h => !(fenceCovers y (ewLeg h.word) && due < h.due)) } else x
        let late := due < fin + 16384
        if x.held.any (fun h => codesMeet y (ewLeg h.word) && ewTime h.word == ewTime w) then x.word_ 0x0003 w 0
        else if late && t != .off then (legsOf y).foldl (fun (x : FarSt) k => x.offLeg k false) (x.word_ 0x0002 w 1)
        else if late then (x.hold l w (fin + 16384) fence).word_ 0x0002 w 0
        else x.hold l w due fence

/-- The edges of a group with their fence marks: a bit of the mask marks the first edge of its leg code (R230). -/
def fenceMarks (mask : Nat) : List Word → List Nat → List (Word × Bool)
  | [], _ => []
  | w :: t, seen => (w, bitOf mask (ewLeg w) && ewLeg w < 7 && !seen.contains (ewLeg w)) :: fenceMarks mask t (ewLeg w :: seen)

/-- Token and term of a token frame (R267 to R269, R275): the node, and whether it obeys the frame. -/
def FarSt.token (x : FarSt) (l : Lane) (f : CmdFrame) : FarSt × Bool :=
  if f.term < x.tHi then
    let x' := { x with stale := x.stale + 1 }
    (if x.stale % 256 = 0 then x'.report_ 0x000C 15 7 (leBytes 4 f.term) else x', false)
  else
    match x.obeys with
    | none => ({ x with obeys := some l, timing := l, tHi := f.term }, true)
    | some o =>
      if o == l then ({ x with tHi := f.term }, true)
      else if f.term = x.tHi then (x.report_ 0x000B 15 7 (leBytes 4 f.term), false)
      else
        let d : Int := 0 - x.ofs l
        let x := x.shift d
        let mv (w : Word) : Word := w32 (w.toNat / 16777216 * 16777216 + usg 24 ((ewTime w : Int) + d))
        let x := { x with held := x.held.map (fun (h : Held) => { h with word := mv h.word, due := ((h.due : Int) + d).toNat : Held }), seen := x.seen.map mv }
        let x := { x with obeys := some l, timing := l, tHi := f.term, swFrom := [], ofsP := if l == Lane.portP then 0 else x.ofsP, ofsQ := if l == Lane.portQ then 0 else x.ofsQ }
        (x.report_ 0x000A 15 7 (leBytes 1 (match l with | .portP => 0 | .portQ => 1) ++ leBytes 4 f.term), true)

/-- Hold-over has reached t_s (R271 to R274): the legs have repeated themselves until then. From then on the node is in SAFE, which only an edge of a frame with RESUME ends (R242, R276). -/
def FarSt.holdEnd (x : FarSt) : FarSt := if x.ns == .holdover then (x.upTo (x.repFrom + x.holdFor)).enterSafe 0 else x

/-- A slot is served (R270, R275): before t_s, hold-over ends. Legs that have begun to repeat themselves go on until their next edge; what was held for the time in which they did is past. -/
def FarSt.serve (x : FarSt) (l : Lane) (f : CmdFrame) : FarSt :=
  let x := if x.ns == .holdover && x.repFrom + x.holdFor ≤ x.now then x.holdEnd else x
  let x := { x with served := true, unserved := 0 }
  let x := if x.ns == .holdover then
      let began := x.repFrom < x.now
      ({ x with ns := .driven, stop := if began then (upto 6).foldl bitSet 0 else 0,
                held := if began then x.held.filter (fun h => x.now < h.due) else x.held } : FarSt).report_ 0x0008 15 7
        (leBytes 1 (match l with | .portP => 0 | .portQ => 1) ++ leBytes 4 f.term)
    else if x.ns == .listen then { x with ns := .driven } else x
  { x with hor := dueOf f.hor x.now, perAB := f.perAB, perCF := f.perCF }

/-- A segment of a management message on a lane (R284). -/
def FarSt.segment (x : FarSt) (l : Lane) (f : CmdFrame) : FarSt :=
  if f.side.isEmpty then x
  else
    let done (b : List Byte) : Gather := if f.sideLast then .whole b else .part b
    if f.sideFirst then x.setMsg l (done f.side)
    else match x.msg l with | .part b => x.setMsg l (done (b ++ f.side)) | _ => x

/-- A command frame reaches the node on a lane: CMD, or MGMT (R238, R242, R267 to R269, R284). -/
def FarSt.cmd (x : FarSt) (l : Lane) (f : CmdFrame) (arr : Nat) : FarSt :=
  let ahead := x.now - arr
  let (x, valid) := x.frame l f.seq arr
  if !valid || !x.set then x
  else
    let x := x.segment l f
    if !(f.type = 1 && f.tok && f.term ≥ 1) then x
    else
      let (x, mine) := x.token l f
      if !mine then x
      else
        let x := x.serve l f
        if x.ns == .safe && !f.resume then { x with seen := [] }
        else
          let seen := x.seen
          let es := (fenceMarks f.fenceRep f.rep []).map (fun w => (w, seen.contains w.1)) ++ (fenceMarks f.fenceNew f.new []).map (fun w => (w, false))
          let x := { x with ns := if x.ns == .safe && !es.isEmpty then .driven else x.ns, seen := f.rep ++ f.new }
          let fin := x.now - ahead + 32768
          es.foldl (fun (x : FarSt) w => x.edge l fin w.1.1 w.1.2 w.2) x

/-- The echo of an executed edge takes the earliest unsent entry of the ECHO frame that is being sent, if its first byte is still to come when its measurement is `done` (entry j begins at symbol 16 + 6 j, of 4 ticks each) and no echo waits before it; else it waits (R259, R261). -/
def FarSt.addEcho (x : FarSt) (e : Echo) (fence : Bool) (done : Int) : FarSt :=
  let full := x.echoes.length ≥ 64
  let q := (if full then x.echoes.drop 1 else x.echoes) ++ [e]
  let queued : FarSt :=
    { x with echoes := q, dropped := if full then min 255 (x.dropped + 1) else x.dropped,
             fenceEcho := if fence then q.length else if full then x.fenceEcho - 1 else x.fenceEcho }
  match x.report with
  | some (.echo seq d es) =>
    if !x.echoes.isEmpty then queued
    else match (upto 18).find? (fun j => es.length ≤ j && decide (done ≤ x.slotAt + 256 * (16 + 6 * j))) with
      | some j => { x with report := some (.echo seq d (es ++ List.replicate (j - es.length) ⟨7, 0, 0, false, 0, 0, 0⟩ ++ [e])) }
      | none => queued
  | _ => queued

/-- The held edge of a leg code that is due first is executed, unless an edge of one of its legs is due before it, or it is due in the time in which hold-over repeats the legs (R223, R239, R240, R259 to R261, R271, R392, R405): what the node measures is its error, the body-conduction interval and the direction. -/
def FarSt.execEdge (x : FarSt) (y : Nat) (err : Int) (body dir : Nat) : FarSt :=
  match x.held.find? (fun h => codesMeet y (ewLeg h.word)) with
  | none => x
  | some h =>
    if ewLeg h.word != y || (x.ns == .holdover && x.repFrom ≤ h.due) then x
    else
    let x := { x with held := dropFirst (fun (k : Held) => ewLeg k.word == y) x.held }.upTo h.due
    let ys := legsOf y
    let x := { x with stop := ys.foldl bitClr x.stop }
    let t := (legStateOf (ewTgt h.word)).getD .off
    let need := ys.foldl (fun m k => m + onSwitch k t) 0
    let low := Nat.land need x.locked
    let x := if low != 0 then
        (switchesOf low).foldl (fun (x : FarSt) sw => x.report_ 0x0103 sw 7 (leBytes 4 h.word.toNat)) x
      else x
    let t' : LegState := if low != 0 || Nat.land need x.latched != 0 then .off else t
    let alt := ewProf h.word
    let opp (k : Nat) : Bool :=
      let g := x.lg k
      t' != .off && ((g.st != .off && g.st != t') || (g.st == .off && g.leftSt != .off && g.leftSt != t' && h.due < g.left + 320))
    let x := if ys.any opp then x.word_ 0x0005 h.word 0 else x
    let x := ys.foldl (fun (x : FarSt) k =>
      if opp k then
        let x := if (x.lg k).st != .off then x.leg_ k .off h.due alt false else x
        x.leg_ k t' ((x.lg k).left + 320) alt false
      else x.leg_ k t' h.due alt (ewSoft h.word)) x
    let x := match x.selfTest with
      | some (sw, _) => if ys.any (fun k => Nat.land sw (3 * 4 ^ k) != 0) then { x with stAbort := true } else x
      | none => x
    let e : Echo := ⟨y, t.code, dir % 4, ewBs h.word, clampI err (-127) 127, if t == .off then 0xFFFF else body % 65536, ewTime h.word % 65536⟩
    x.addEcho e h.fence (h.due + err + (if t == .off || body == 0xFFFF then 0 else body))

/-- Three slots have not been served (R270): from the horizon of the last token frame on, the legs repeat themselves (R271). -/
def FarSt.holdover (x : FarSt) : FarSt :=
  if x.ns == .driven && x.unserved ≥ 3 then
    ({ x with ns := .holdover, stop := 0, repFrom := x.hor, repAB := x.perAB, repCF := x.perCF } : FarSt).report_ 0x0007 15 7 (leBytes 3 x.hor)
  else x

/-! ### Report frames (R215, R216, R251 to R266) -/

/-- Send a report frame on both ports, with the header that the node's condition gives it (R215). -/
def FarSt.send (x : FarSt) (r : Report) : FarSt :=
  { x with report := some r, rhdr := rptHeader r.type r.seq x.ns (x.obeys == some .portQ) (x.timing == .portQ) (!x.events.isEmpty) }

/-- The RPT frame of a slot. -/
def FarSt.rpt (x : FarSt) (seq : Nat) (m : Sample) : FarSt :=
  let page := if x.rpts % 8 != 7 then 0 else 1 + x.rpts / 8 % 2
  let other : Lane := match x.timing with | .portP => .portQ | .portQ => .portP
  let b : RptBody := ⟨m.time % 16777216, page, m.valid, x.tHi, if (x.rx other).locked then x.ofs other else 0, x.errP, x.errQ, m.values⟩
  ({ x with rpts := x.rpts + 1, errP := 0, errQ := 0, oweRpt := x.oweRpt - 1 } : FarSt).send (.rpt seq b)

/-- The ECHO frame of a slot: 18 echoes at most. -/
def FarSt.echo (x : FarSt) (seq : Nat) : FarSt :=
  ({ x with echoes := x.echoes.drop 18, fenceEcho := x.fenceEcho - 18, dropped := 0 } : FarSt).send (.echo seq x.dropped (x.echoes.take 18))

/-- The EVT frame of a slot: 7 events at most, severe ones first. -/
def FarSt.evt (x : FarSt) (seq : Nat) : FarSt :=
  let q := x.events.filter evtSevere ++ x.events.filter (fun e => !evtSevere e)
  let es := (q.take 7).mapIdx (fun i e => { e with eseq := (x.eseq + i) % 256 })
  ({ x with events := q.drop 7, eseq := (x.eseq + es.length) % 256, lost := 0 } : FarSt).send (.evt seq x.lost es)

/-- A node slot begins (R251 to R257, R266, R270): the slot before it is judged, and its report frame is sent. -/
def FarSt.slot (x : FarSt) (k : Nat) (m : Sample) : FarSt :=
  let seq := k % 512
  let x := { x.upTo (k * 32768) with slotAt := k * 32768 }
  let x := if x.obeys.isSome then { x with unserved := if x.served then 0 else x.unserved + 1, served := false } else x
  if !x.set then x.send (.cal seq (slice x.ident 0 64) (k * 512) false)
  else
    let x := if seq % 4 = 0 then { x with oweRpt := x.oweRpt + 1 } else x
    if x.events.any evtSevere then x.evt seq
    else if x.fenceEcho != 0 then x.echo seq
    else if x.oweRpt != 0 then x.rpt seq m
    else if seq % 4 != 3 then x.echo seq
    else if x.oweCal then ({ x with oweCal := false } : FarSt).send (.cal seq (slice x.ident 0 64) (k * 512) true)
    else if !x.events.isEmpty then x.evt seq
    else if !x.echoes.isEmpty then x.echo seq
    else ({ x with oweRpt := 1 } : FarSt).rpt seq m

/-! ### Management messages (R283 to R289, R405, R419, R420) -/

/-- The message that a run of bytes holds (R283). -/
def msgOf (b : List Byte) : Msg := ⟨fieldLE b 0 1, fieldLE b 1 1, fieldLE b 4 4, fieldLE b 2 2, b.drop 8⟩

/-- Answer a message. -/
def FarSt.ack (x : FarSt) (tid status : Nat) (data : List Byte) : FarSt :=
  let b := leBytes 1 tid ++ leBytes 1 status ++ data
  ({ x with lastTid := some tid, lastAck := b } : FarSt).report_ 0x0020 15 7 b

/-- A byte of the node parameter space. -/
def FarSt.byte (x : FarSt) (a : Nat) : Byte :=
  if 0x18 ≤ a ∧ a < 0x1C then BitVec.ofNat 8 (x.crc.toNat / 256 ^ (a - 0x18))
  else if a < 0x200 then x.ident.getD a 0
  else BitVec.ofNat 8 (x.par a)

/-- The addresses a WRITE may name (R289, R419). -/
def writable (a n : Nat) : Bool := (0x200 ≤ a && a + n ≤ 0x205) || (0x400 ≤ a && a + n ≤ 0x702)

/-- A staged byte: written, or as committed. -/
def FarSt.stg (x : FarSt) (a : Nat) : Nat := tget (fun a => x.par a) x.staged a

/-- The staged values of the fields of R289 that a WRITE of n bytes at an address names are in range. -/
def FarSt.stagedOk (x : FarSt) (a n : Nat) : Bool :=
  let named (o k : Nat) : Bool := a < o + k && o < a + n
  let dt := x.stg 0x202 + 256 * x.stg 0x203
  (!named 0x200 1 || x.stg 0x200 ≤ 2) && (!named 0x201 1 || (1 ≤ x.stg 0x201 && x.stg 0x201 ≤ 8)) && (!named 0x202 2 || (320 ≤ dt && dt ≤ 64000))

/-- The DESAT threshold of a leg at the node: VMAX of its primary profile before the first DESAT_SET (R388). -/
def FarSt.vth (x : FarSt) (y : Nat) : Nat := if x.desat.isEmpty then x.par16 (0x416 + 0x80 * y) else x.desat.getD y 0

/-- What an EXEC does, with its status (R405, R419, R420). -/
def FarSt.exec_ (x : FarSt) (m : Msg) : FarSt × Nat :=
  let v (o n : Nat) : Nat := fieldLE m.data o n
  match m.addr with
  | 0xF00 => if m.len != 1 then (x, 2) else if v 0 1 = 1 || v 0 1 = 2 then (x.setMethod (v 0 1), 0) else (x, 5)
  | 0xF04 =>
    if m.len != 12 then (x, 2)
    else ({ x with desat := (upto 6).map (fun y => if v (2 * y) 2 = 0 then x.vth y else v (2 * y) 2) }, 0)
  | 0xF10 =>
    let sw := v 0 4 % 65536
    let comp := v 0 4 / 65536
    if m.len != 4 then (x, 2)
    else if sw > 4095 || comp > 15 then (x, 5)
    else if x.selfTest.isSome || (switchesOf sw).any (fun k => (x.lg (k / 2)).st != .off) then (x, 4)
    else ({ x with selfTest := some (sw, comp), stAbort := false }, 0)
  | 0xF14 =>
    if m.len != 2 then (x, 2)
    else if v 0 2 > 4095 then (x, 5)
    else if Nat.land (v 0 2) (Nat.land x.latched x.locked) != 0 then (x, 4)
    else
      let gone := Nat.land x.latched (v 0 2)
      (({ x with latched := Nat.land x.latched (Nat.xor 4095 (v 0 2)) } : FarSt).report_ 0x0109 15 7 (leBytes 2 gone), 0)
  | 0xF18 => if m.len != 0 then (x, 2) else (x.closeIf true, 0)
  | _ => (x, 1)

/-- The node takes a message that has arrived whole on a lane (R285 to R288). -/
def FarSt.take (x : FarSt) (l : Lane) (m : Msg) : FarSt :=
  if x.lastTid == some m.tid then x.report_ 0x0020 15 7 x.lastAck
  else if m.op != 2 && (match x.obeys with | some o => o != l | none => false) then x.ack m.tid 3 []
  else match m.op with
    | 1 =>
      if m.len > 248 then x.ack m.tid 2 []
      else if m.data.length != m.len then x.ack m.tid 6 []
      else if !writable m.addr m.len then x.ack m.tid 1 []
      else
        let y := { x with staged := (m.data.zipIdx).foldl (fun t (w : Byte × Nat) => tins (terase t (m.addr + w.2)) (m.addr + w.2) w.1.toNat) x.staged }
        if !y.stagedOk m.addr m.len then x.ack m.tid 5 [] else y.ack m.tid 0 []
    | 2 =>
      if m.len = 0 || m.len > 6 then x.ack m.tid 2 []
      else if m.addr + m.len > 0x1000 then x.ack m.tid 1 []
      else x.ack m.tid 0 ((upto m.len).map (fun i => x.byte (m.addr + i)))
    | 3 => let r := x.exec_ m; r.1.ack m.tid r.2 []
    | 4 => x.ack m.tid 0 []
    | 5 =>
      let x := { x with params := x.staged.foldl (fun t (w : Nat × Nat) => tset (fun _ => 0) t w.1 w.2) x.params, staged := [] }
      ({ x with crc := crc32 ((upto 0xE00).map (fun i => BitVec.ofNat 8 (x.par (0x200 + i)))) } : FarSt).ack m.tid 0 []
    | _ => x.ack m.tid 5 []

/-- A management message is complete at the node when its segments have come (R284, R285); any other is none. -/
def FarSt.message (x : FarSt) (l : Lane) (m : Msg) : FarSt :=
  match x.msg l with
  | .whole b => if msgOf b == m then (x.setMsg l .none).take l m else x
  | _ => x

/-! ### The node's own events -/

/-- Power-up (R269, R289, R389): every leg OFF, counter unset. -/
def farPowerUp (ident : List Byte) : FarSt := { farSt0 with ident := ident }

/-- The self-test has ended (R405). -/
def FarSt.testEnd (x : FarSt) (pass : Nat) : FarSt :=
  match x.selfTest with
  | none => x
  | some _ => ({ x with selfTest := none, stAbort := false } : FarSt).report_ 0x0107 15 7 (leBytes 6 pass ++ leBytes 1 (b2n x.stAbort))

/-- A comparator of a switch acts now, its condition having begun at `onset` and held (R384, R385): the switch is on; DESAT is armed, and 100 ns have passed since t_c, the later of the onset and the end of the blanking; L2 has held for 40 ns; DIDT is armed. -/
def FarSt.acts (x : FarSt) (sw method onset : Nat) : Bool :=
  let g := x.gate sw
  bitOf x.onSw sw && (match method with
    | 1 => x.methodOf sw == 1 && max onset (g.at_ + 160 * ((x.profByte sw g.alt 0x18 + 256 * x.profByte sw g.alt 0x19) % 512)) + 1600 ≤ x.now
    | 2 => max onset g.at_ + 640 ≤ x.now
    | 3 => x.methodOf sw == 2 && onset ≤ x.now
    | _ => false)

/-- The level of a comparator in force (R384, R418): the DESAT threshold in mV, 2 × I_TRIP in A, DIDT_TH in A/µs. -/
def FarSt.level (x : FarSt) (sw method : Nat) : Nat :=
  let w (o : Nat) : Nat := x.profByte sw (x.gate sw).alt o + 256 * x.profByte sw (x.gate sw).alt (o + 1)
  match method with | 1 => x.vth (sw / 2) | 2 => 2 * (w 0x1C % 32768) | _ => w 0x20

/-- A comparator trips (R384, R393): method, onset of its condition, current, junction temperature. -/
def FarSt.trip (x : FarSt) (sw method onset : Nat) (cur tj : Int) : FarSt :=
  if !x.acts sw method onset then x
  else (x.report_ 0x0101 sw (sw / 2) (leBytes 1 method ++ leBytes 2 (x.level sw method) ++ leBytes 2 (usg 16 cur) ++ leBytes 1 (usg 8 tj))).fault (2 ^ sw)

/-- Both switches of a leg are on (R397). -/
def FarSt.shoot (x : FarSt) (y : Nat) (last : Word) : FarSt := (x.report_ 0x0104 (2 * y) y (leBytes 4 last.toNat)).fault (3 * 4 ^ y)

/-- A gate has missed its hold level in time, at a turn-on or a turn-off (R383). -/
def FarSt.gateFault (x : FarSt) (sw : Nat) (atOff : Bool) (v : Int) : FarSt :=
  let g := x.gate sw
  if g.on == atOff || x.now < g.at_ + x.gateLimit sw then x
  else (x.report_ 0x0105 sw (sw / 2) (leBytes 1 (b2n atOff) ++ leBytes 2 (usg 16 v))).fault (2 ^ sw)

/-- A rail of a switch. -/
def railBit (sw : Nat) (neg : Bool) : Nat := 2 ^ (sw + 12 * b2n neg)

/-- A rail is below lock-out for UV_FILT (R392): a switch that is on has a switch fault, one that is off is kept off. -/
def FarSt.uv (x : FarSt) (sw : Nat) (neg : Bool) (v : Nat) : FarSt :=
  let on := bitOf x.onSw sw
  let x := { x with uvlo := Nat.lor x.uvlo (railBit sw neg) }
  if on then (x.report_ 0x0102 sw (sw / 2) (leBytes 1 (b2n neg) ++ leBytes 2 v)).fault (2 ^ sw) else x

/-- The contactor that the node has closed reports closed (R273). -/
def FarSt.closed (x : FarSt) : FarSt := if x.closing then ({ x with contactor := true } : FarSt).report_ 0x000D 15 7 [] else x

/-- A rail has recovered (R392, R398): the cause of UVLO_FAULT of its node ends with the last one. -/
def uvloRecovered (p sw : Nat) (neg : Bool) (s : Dev) : Dev :=
  let s := s.setFar p (fun x => { x with uvlo := Nat.land x.uvlo (Nat.xor 16777215 (railBit sw neg)) })
  match s.nodeAt p with
  | some n => if (s.far p).uvlo = 0 then cause n 0x0102 false s else s
  | none => s

end Sys2Proof.Machine
end

