-- ==== Sys2Proof/Machine/Carrier.lean ====
section
/-! DEFINITION. The carriers at run time: reloads (R178 to R191, R361, R362, R720), the generation of a leg's period (R155 to R160, R168 to R170, R176, R400, R408), carrier events and CSYNC (R192 to R194, R201), the delay line (R139, R140) and test overrides (R144 to R147). -/

namespace Sys2Proof.Machine

/-! ### Reload -/

/-- A latched set comes into force for the nodes it names; one that it leaves out keeps the slot values it had, with all the rest (R174, R183). -/
def keepSlots (i : Nat) (set : SetV) (s : Dev) : Dev :=
  let now := setNow s i
  s.each (s.members i) (fun m d =>
    if (nodeAddrs m.2).all (fun a => set.any (fun w => w.1 == a)) then d.setNode m.2 (fun x => { x with kept := [] })
    else d.setNode m.2 (fun x => { x with kept := if x.kept.isEmpty then now else x.kept }))

/-- The latched set of a string comes into force (R179, R190). -/
def bringIn (i : Nat) (s : Dev) : Dev :=
  let b := bStr i
  let p0 := s.gF b F.STR_PERIOD_PERIOD
  let o0 := s.gF b F.STR_ANCHOR_OFS_OFS
  let s := match (s.str i).lat with | none => s | some set => redownload ((s.members i).map Prod.snd) s (applySet set (keepSlots i set s))
  let fresh := s.gF b F.STR_PERIOD_PERIOD != p0 || s.gF b F.STR_ANCHOR_OFS_OFS != o0
  ((s.setStr i (fun x => { x with lat := none, reloadAt := some s.tick, perNew := x.perNew || fresh, ready := !x.stepsOpen })).p
    b F.STR_COMMIT_STATUS_LATCHED 0).inc b F.STR_STATUS_RELOAD_CNT

/-- A position leaves ACTIVE by CELL_OUT at the reload of execution time t (R361). -/
def leaveAt (i k t : Nat) (s : Dev) : Dev :=
  let n := memberAt s i k
  let f := bypassForm s n
  let start := (s.str i).perStart
  let per := (s.str i).perLen
  let pd := (s.str i).perBase / s.gF (bStr i) F.STR_DAB_RATIO
  let first (o l : Nat) : Nat := if t ≤ start + o then start + o else start + o + (t - start - o + l - 1) / l * l
  let ta := first (s.leg n 0).off0 per
  let td := first (s.leg n 2).off0 pd
  let es := [fence s n 6 .off false ta] ++ (if f == .block then [] else [fence s n 6 f.leg false (ta + pairDead s n)])
    ++ [2, 3, 4, 5].map (fun y => fence s n y .off false td)
  setPos i k 1 ((sendFencesFrom n es (fun y => if y < 2 then ta else if y = 6 then 0 else td) s).each (upto 6) (fun y d => d.setLeg n y (fun l => { l with carry := 0 })))

/-- A leg joins its pattern at a reload, with its carry at 0 (R146, R170, R184): at a period start with that period; at the centre a pulse leg with its next period, a DAB leg with its first period from the centre on. -/
def joinPattern (i n y : Nat) (centre : Bool) (s : Dev) : Dev :=
  let st := s.str i
  let ovr := overridden s n y
  s.setLeg n y (fun l => { l with
    carry := 0, release := false, blocked := ovr, genTo := 0,
    genFor := if centre then some st.perStart else none,
    half := if centre && !pulseLeg s i y then some ⟨st.perStart, st.perBase, 0, none⟩ else none })

/-- A position enters ACTIVE (R170, R242, R352, R390). -/
def enterAt (i k : Nat) (centre : Bool) (s : Dev) : Dev :=
  let n := memberAt s i k
  let s := s.each (upto 6) (fun y d => joinPattern i n y centre d)
  beginRecovery n (setPos i k 0 (s.setPort (s.portOf n) (fun q => { q with resumeNext := true })))

/-- The positions that the set brought into force at execution time `t` moves (R357, R361). -/
def movePositions (i t : Nat) (centre : Bool) (mv : Moves) (s : Dev) : Dev :=
  let s := s.each (upto 32) (fun k d =>
    if bitOf mv.outs k then leaveAt i k t d
    else if bitOf mv.drops k then setPos i k 1 d
    else if bitOf mv.ins k then enterAt i k centre d else d)
  let s := serveSelfTests ((s.members i).map Prod.snd) s
  s.on (s.kind i == 1) (fun s => s.p (bStr i) F.STR_CELL_STATUS_N (activeCount s i (s.gF (bStr i) F.STR_ACTIVE_MASK)))

/-- Legs whose override was released return to their pattern (R146, R170). -/
def releaseLegs (i : Nat) (centre : Bool) (s : Dev) : Dev :=
  s.each (s.members i) (fun m d => d.each (upto 6) (fun y d => if (d.leg m.2 y).release then joinPattern i m.2 y centre d else d))

/-- A reload at the centre of a period (R156, R178). -/
def centreReload (i : Nat) (mv : Moves) (s : Dev) : Dev :=
  let st := s.str i
  releaseLegs i true (movePositions i (st.perStart + st.perBase / 2) true mv (s.setStr i (fun x => { x with atCentre := false })))

/-- A reload at a period start (R178, R187 to R191): the period's start, its length, and the carrier events it brings (R201). -/
def periodReload (i : Nat) (mv : Moves) (s : Dev) : Dev :=
  let b := bStr i
  let st := s.str i
  let v : View := fun a => s.rdF a
  let per := s.gF b F.STR_PERIOD_PERIOD
  let now := (s.tick + s.dly) * 64
  let t := if st.waitFirst then now + toAnchor s v i now per else nextReload st
  let err := anchorErr s v i t per
  let lim : Int := s.g b F.STR_ANCHOR_TRIM_MAX
  let trim := match err with | some e => clampI (0 - e) (-lim) lim | none => 0
  let jump := !st.waitFirst && st.perNew
  let base := if jump then per + toAnchor s v i t per else per
  let len := if jump || st.waitFirst then base else ((per : Int) + trim).toNat
  let lock := match err with | some e => decide (absI e ≤ 16) | none => false
  let reload := s.gb b F.STR_CFG_RELOAD
  let set := setNow s i
  let s := s.setStr i (fun x => { x with
    waitFirst := false, perStart := t, perLen := len, perBase := base, perNew := false, set0 := set, atCentre := reload, ord := x.ord + 1,
    evs := x.evs ++ [⟨t, false, x.ord⟩, ⟨t + base / 2, true, x.ord⟩] })
  let s := s.each (s.members i) (fun m d => d.setNode m.2 (fun x => { x with kept0 := x.kept }))
  releaseLegs i false (movePositions i t false mv (s.pb b F.STR_STATUS_ANCHOR_LOCK lock))

/-- A reload of a string (R178 to R191): it comes in the tick that holds the reload instant, once. -/
def stringReload (i : Nat) (s : Dev) : Dev :=
  let st := s.str i
  if !reloadIn s i 0 || st.reloadAt == some s.tick then s
  else
    let mv := if st.lat.isSome then st.latMv else moves0
    let s := (bringIn i s).setStr i (fun x => { x with latMv := moves0 })
    if st.atCentre then centreReload i mv s else periodReload i mv s

/-! ### Patterns -/

/-- The pattern of a string's leg may be generated (R66, R73, R155, R187, R408, R476). -/
def patternRuns (s : Dev) (i k n y : Nat) : Bool :=
  stringRuns s i && !(s.leg n y).blocked && (drivenLegs s i n).contains y
    && (s.kind i != 1 || (bitOf (s.gF (bStr i) F.STR_ACTIVE_MASK) k && posState s i k == 0))

/-- The values that hold for a node at the newest period start (R156). -/
def startView (s : Dev) (i n : Nat) : View :=
  let now := viewOf s (s.str i).set0
  fun a => tget now (s.node n).kept0 a

/-- The values that hold for a node at an execution time of the newest period: those of its start, from the centre on those that the reload at the centre has left (R156, R184). -/
def valuesAt (s : Dev) (i n t : Nat) : View :=
  let st := s.str i
  if st.atCentre || t < st.perStart + st.perBase / 2 then startView s i n else viewOf s (s.node n).kept

/-- The first part of a period of a leg that R168 covers, or the whole of it with RELOAD = 0 (R151, R156, R160, R169, R176, R362, R400). -/
def genPulse (i k n y : Nat) (s : Dev) : Dev :=
  let st := s.str i
  let o := legOffset s i (startView s i n) k n y st.perBase
  let t0 := st.perStart + o
  if nextReload st ≤ t0 then s
  else
    let v := valuesAt s i n t0
    let d := legDuty s i v k n y
    let s := s.on (t0 < (s.leg n y).genTo) (moveOffset n y t0 true)
    let s := s.on (refreshDue s n y (t0 / 64 - s.dly)) (fun s => s.p (bNode n) F.NODE_MOD_STATUS_BS_PENDING (bitSet (s.g (bNode n) F.NODE_MOD_STATUS_BS_PENDING) y))
    let s := s.on d.2 (fun s => s.p (bStr i) F.STR_STATUS_SAT 1)
    let s := if s.gb (bStr i) F.STR_CFG_RELOAD then firstHalf v i n y t0 st.perBase d.1 s else pulsePeriod v i n y t0 st.perBase d.1 s
    s.setLeg n y (fun l => { l with genFor := some st.perStart, off0 := o })

/-- The rest of such a period, with the set in force at its centre. -/
def genSecond (i k n y : Nat) (h : Half) (s : Dev) : Dev :=
  let v := valuesAt s i n (h.t0 + h.per / 2)
  let d := legDuty s i v k n y
  secondHalf v i n y d.1 h (s.on d.2 (fun s => s.p (bStr i) F.STR_STATUS_SAT 1))

/-- The DAB periods of a leg within one period of the reference carrier (R151, R158, R184, R189, R720): those that start before its centre, those from the centre on, or, with RELOAD = 0, all. -/
def genDab (i k n y : Nat) (rest : Bool) (s : Dev) : Dev :=
  let st := s.str i
  let b := bStr i
  let reload := s.gb b F.STR_CFG_RELOAD
  let centre := st.perStart + st.perBase / 2
  let v := if rest then valuesAt s i n centre else startView s i n
  let ratio := vg v b F.STR_DAB_RATIO
  let pd := st.perBase / ratio
  let o := dabOffset s i v k pd
  let fin := st.perStart + st.perLen + o
  let a := if vg v b F.STR_DAB_EPS = 1 then roundDiv (vg v b F.STR_DAB_ALPHA_ALPHA * pd) q23one else 0
  let f := dabPhase s i v k
  let starts := ((upto ratio).map (fun j => (st.perStart + o + j * pd, if j + 1 = ratio then fin else st.perStart + o + (j + 1) * pd))).filter (fun w =>
    !reload || (if rest then centre ≤ w.1 else w.1 < centre))
  let t0 := (starts.head?.map Prod.fst).getD centre
  let s := s.on (t0 < (s.leg n y).genTo) (moveOffset n y t0 false)
  let s := s.on f.2 (fun s => s.p b F.STR_STATUS_SAT 1)
  let s := s.each starts (fun w d => dabPeriod v i n y w.1 pd a (roundDivI (f.1 * pd) q23one) w.2 d)
  s.setLeg n y (fun l => { l with
    genFor := some st.perStart, genTo := (starts.getLast?.map Prod.snd).getD l.genTo, off0 := o,
    half := if reload && !rest then some ⟨st.perStart, st.perBase, 0, none⟩ else none })

/-- The modulator generates a leg's edges of the newest period of its string: the part that the set in force by then decides (R135, R156, R184). -/
def legGenerate (n y : Nat) (s : Dev) : Dev :=
  match s.stringOf n with
  | none => s
  | some (i, k) =>
    let st := s.str i
    let pulse := pulseLeg s i y
    if !patternRuns s i k n y then s
    else match (s.leg n y).half with
      | some h => if nextReload st ≤ h.t0 + h.per / 2 then s else if pulse then genSecond i k n y h s else genDab i k n y true s
      | none =>
        if (s.leg n y).genFor == some st.perStart then s
        else if pulse then genPulse i k n y s else genDab i k n y false s

/-! ### Carrier events, CSYNC, delay line -/

/-- A carrier event of a running string occurs, `ft` fine ticks into the present tick (R194, R201): one that its periods have brought. -/
def carrierEvent (i : Nat) (centre : Bool) (ft : Nat) (s : Dev) : Dev :=
  let t := s.tick * 64 + ft
  match (s.str i).evs.find? (fun e => e.centre == centre && e.at_ == t) with
  | none => s
  | some e =>
    let s := s.setStr i (fun x => { x with
      evs := x.evs.filter (fun f => f != e),
      evS := if centre then x.evS else some (s.tick, e.ord), evC := if centre then some (s.tick, e.ord) else x.evC })
    let out := !centre && s.gb bMod F.CSYNC_CFG_OUT_EN && s.g bMod F.CSYNC_CFG_SRC == i
    { s with ml := { s.ml with lastEvent := some (2 * i + b2n centre, t),
                               csOut := s.ml.csOut.filter (fun a => decide (t < a + 4096)) ++ (if out then [placed s (t + s.g bMod F.CSYNC_DLY_DLY)] else []) } }

/-- CSYNC_OUT, `ft` fine ticks into the present tick: HIGH for 64 ticks from each pulse's start, LOW while its string does not run (R194); none, high impedance, for a role that does not drive (R502, R660). -/
def csyncOut (s : Dev) (ft : Nat) : Option Bool :=
  let t := s.tick * 64 + ft
  if floats s .csyncOut || !s.owns then none
  else some <| (s.str (s.g bMod F.CSYNC_CFG_SRC)).started && s.gb bMod F.CSYNC_CFG_OUT_EN && s.ml.csOut.any (fun a => a ≤ t && t < a + 4096)

/-- A rising edge of CSYNC_IN (R192, R193). -/
def csyncEdge (ft : Nat) (s : Dev) : Dev :=
  cause 0x183 0x1103 false ({ s with ml := { s.ml with csEdge := some (s.tick * 64 + ft) } }.p bMod F.CSYNC_STATUS_IN_ACTIVE 1)

/-- No edge of CSYNC_IN has come for 4 × P, for a string that is anchored to it (R193). -/
def csyncSilent (s : Dev) : Bool :=
  (upto 8).any (fun i => (s.str i).started && s.gb (bStr i) F.STR_ANCHOR_SRC &&
    s.ml.csEdge.getD ((s.str i).startTick * 64) + 4 * s.gF (bStr i) F.STR_PERIOD_PERIOD ≤ s.tick * 64)

/-- No edge of CSYNC_IN for 4 × P (R193). -/
def csyncLost (s : Dev) : Dev :=
  if !csyncSilent s then s
  else
    let s := (s.p bMod F.CSYNC_STATUS_IN_ACTIVE 0).p bMod F.CSYNC_STATUS_IN_LOST 1
    let s := s.each ((upto 8).filter (fun i => s.gb (bStr i) F.STR_ANCHOR_SRC)) (fun i d => d.p (bStr i) F.STR_STATUS_ANCHOR_LOCK 0)
    cause 0x183 0x1103 true s

/-- The delay line, which belongs to the LINK domain (R625), is measured: TPT in 1/16 tap (R139, R140). -/
def dlCalibrate (tpt : Nat) (s : Dev) : Dev :=
  if !linkOn s then s else
  let out := tpt < 768 || 1536 < tpt
  let was := s.gb bMod F.MOD_DL_STATUS_COARSE
  let s := (s.p bMod F.MOD_DL_STATUS_TPT tpt).pb bMod F.MOD_DL_STATUS_COARSE out
  if out then
    let s := s.p bMod F.MOD_DL_STATUS_RANGE_SEEN 1
    if was then s else raise 0x182 0x1102 s
  else { s with ml := { s.ml with taps := (upto 64).map (fun k => roundDiv (k * tpt) 1024) } }

/-! ### Overrides (R144 to R147) -/

/-- A write of NODE_OVR: the reason, 0 when it is taken. A leg that the string does not drive, which R12 keeps OFF, and the codes 6 and 7, which name no leg, are refused with 0x040C (DESIGN CHOICE, log entry 99). -/
def overrideReason (n : Nat) (v : Word) (s : Dev) : Nat :=
  if getBits v 4 1 = 1 ∧ getBits v 5 1 = 1 then 0x040B
  else
    match s.stringOf n with
    | none => 0x040C
    | some (i, _) =>
      if s.mode == .charge && s.gb (bStr i) F.STR_CFG_TEST && !underReaction s n && (drivenLegs s i n).contains (getBits v 0 3) then 0 else 0x040C

/-- What an accepted write of NODE_OVR does (R146, R147): the leg goes to its target through OFF, and what its pattern had planned is neither sent nor kept by the node. -/
def override (n : Nat) (v : Word) (s : Dev) : Dev :=
  let y := getBits v 0 3
  let b := bNode n
  let ovr := s.g b F.NODE_MOD_STATUS_OVR
  if getBits v 8 1 = 1 then
    let t : LegState := if getBits v 4 1 = 1 then .high else if getBits v 5 1 = 1 then .low else .off
    let at_ := earliest s (s.portOf n)
    let dt := dtFloor (s.gF b (F.NODE_DT_FIXED.at y))
    let es := fence s n y .off false at_ :: (if t == .off then [] else [fence s n y t false (at_ + dt)])
    ((sendFences n es s).setLeg n y (fun l => { l with release := false })).p b F.NODE_MOD_STATUS_OVR (bitSet ovr y)
  else if bitOf ovr y then
    (s.setLeg n y (fun l => { l with release := true, carry := 0 })).p b F.NODE_MOD_STATUS_OVR (bitClr ovr y)
  else s

/-! ### Auxiliary pairs (R195 to R199) -/

/-- A period start of an auxiliary pair (R196): it follows the last one by AUX_PERIOD, whether the pair runs in the present mode or not. -/
def auxPeriod (i : Nat) (s : Dev) : Dev := if s.enabled (.aux i) && s.tick == (s.auxp i).start / 64 then auxReload i s else s

/-- An accepted enable of a pair: its first period starts 16 ticks later (R196). -/
def auxEnabled (i : Nat) (on : Bool) (s : Dev) : Dev :=
  if on then refreshAux (s.setAux i (fun x => { x with
    start := (s.tick + 16) * 64, carry := 0, pend := none, lat := none, latchAt := none, reloadAt := none, live := false, secFrom := none }))
  else refreshAux s

/-! ### Commits by the host (R180, R185, R358) -/

/-- Why a commit of a string by the host is refused (R186, R358, R476); 0: it is taken. -/
def commitReason (s : Dev) (strs : List Nat) : Nat :=
  if s.mode == .safe then 0x0109
  else if strs.any s.halted then 0x0415
  else if strs.any (fun i => s.gb (bStr i) F.STR_CELL_STATUS_PENDING) then 0x0421
  else 0

/-- STR_COMMIT.GO (R180). During a stop sequence no commit is taken (R73). -/
def goCommit (i : Nat) (s : Dev) : Dev := if stopping s then s else commitString i s

/-- LOAD_ALL (R185). -/
def loadAll (strs auxs : Nat) (s : Dev) : Dev :=
  if stopping s then s
  else
    let s := s.each ((upto 8).filter (bitOf strs)) commitString
    s.each ((upto 8).filter (bitOf auxs)) commitAux

end Sys2Proof.Machine
end

