-- ==== Sys2Proof/Machine/Objects.lean ====
section
/-! DEFINITION. Objects and handles (R86 to R99): slots, generations, the register block of a slot, create, destroy and lookup. -/

namespace Sys2Proof.Machine

/-- The slot count of a handle type (R86). -/
def typeSlots : Nat → Nat | 1 => 8 | 2 => 96 | 3 => 2048 | 4 => 16 | _ => 0

/-- The slot a type and an index name. -/
def objOf (type idx : Nat) : Option Obj :=
  if idx < typeSlots type then
    match type with | 1 => some (.string idx) | 2 => some (.node idx) | 3 => some (.loop idx) | 4 => some (.profile idx) | _ => none
  else none

/-- The generation counter of a slot (R88). -/
def genOf (s : Dev) (o : Obj) : Nat := tget (fun _ => 0) s.ms.gens (slotKey o)

/-- The handle of the object in a slot (R86). -/
def handleOf (s : Dev) (o : Obj) : Word := w32 (o.type * 2 ^ 28 + genOf s o * 2 ^ 16 + o.idx)

/-- Judge a handle (R90): the reason, 0 where the access succeeds, and the object. `want`: the type the command requires. -/
def openHandle (s : Dev) (w : Word) (want : Option Nat) : Nat × Obj :=
  let type := getBits w 28 4
  if w = 0#32 then (0x0303, .device)
  else if typeSlots type = 0 || (match want with | some t => t != type | none => false) then (0x0302, .device)
  else
    match objOf type (getBits w 0 16) with
    | none => (0x0304, .device)
    | some o => if !s.occupied o || genOf s o != getBits w 16 12 then (0x0301, o) else (0, o)

/-- The register block of a slot as address ranges (R92). -/
def blockOf : Obj → List (Nat × Nat)
  | .string i => [(bStr i, 0x1000), (bProtStr i, 4)]
  | .node i => [(bNode i, 0x1000)]
  | .loop i => [(bLoopD i, 0x40), (bLoopS i, 0x20), (bLoopChk i, 4), (bLoopStat i, 4)]
  | .profile i => [(bProf i, 0x40)]
  | _ => []

/-- Forget everything the state holds of an object: its registers and its run-time state (R93). -/
def clearSlot (o : Obj) (s : Dev) : Dev :=
  let s := s.each (blockOf o) (fun r d => d.clearRange r.1 r.2)
  match o with
  | .string i => { s with strs := terase s.strs i }
  | .node i => { s with nodes := terase s.nodes i, legs := teraseRange s.legs (6 * i) 6, teles := teraseRange s.teles (64 * i) 64 }
  | _ => s

/-- An object is created in a FREE slot: disabled, every field at its reset value, with a new generation (R88, R93). -/
def createSlot (o : Obj) (s : Dev) : Dev :=
  let s := clearSlot o s
  let g := genOf s o
  let g := if g = 0xFFF then 1 else g + 1
  { s with ms := { s.ms with occ := tset (fun _ => false) s.ms.occ (slotKey o) true, gens := tset (fun _ => 0) s.ms.gens (slotKey o) g } }

/-- The slot returns to FREE (R93). -/
def freeSlot (o : Obj) (s : Dev) : Dev :=
  let s := clearSlot o s
  { s with ms := { s.ms with occ := tset (fun _ => false) s.ms.occ (slotKey o) false } }

/-- What OBJ_CREATE and OBJ_LOOKUP read of a slot word: [31:28] type, [15:0] index (R94). A type that is none is an argument outside its range, R106 (DEDUCED, log entry 23); an index beyond its slots is 0x0304 of R132. -/
def openSlot (w : Word) : Nat × Obj :=
  let type := getBits w 28 4
  if typeSlots type = 0 then (0x0105, .device)
  else match objOf type (getBits w 0 16) with
    | none => (0x0304, .device)
    | some o => (0, o)

/-- OBJ_CREATE (R94, R98): reason, object made, state. -/
def objCreate (w : Word) (s : Dev) : Nat × Obj × Dev :=
  let type := getBits w 28 4
  if getBits w 0 16 = 0xFFFF && typeSlots type ≠ 0 then
    match ((upto (typeSlots type)).filterMap (objOf type)).find? (fun o => !s.occupied o) with
    | none => (0x0308, .device, s)
    | some o => (0, o, createSlot o s)
  else
    let r := openSlot w
    if r.1 ≠ 0 then (r.1, r.2, s) else if s.occupied r.2 then (0x0307, r.2, s) else (0, r.2, createSlot r.2 s)

/-- OBJ_DESTROY (R94, R99). -/
def objDestroy (w : Word) (s : Dev) : Nat × Obj × Dev :=
  let r := openHandle s w none
  if r.1 ≠ 0 then (r.1, r.2, s)
  else if s.enabled r.2 || s.checkOpen r.2 then (0x0305, r.2, s) else (0, r.2, freeSlot r.2 s)

/-- OBJ_LOOKUP (R94): the word it returns. -/
def objLookup (w : Word) (s : Dev) : Nat × Obj × Word :=
  let r := openSlot w
  if r.1 ≠ 0 then (r.1, r.2, 0#32) else (0, r.2, if s.occupied r.2 then handleOf s r.2 else 0#32)

/-- The address that an offset of an object block names (R94): none beyond the block or unaligned. -/
def blockAddr (o : Obj) (off : Nat) : Option Nat :=
  if off % 4 ≠ 0 then none
  else match o with
    | .string i => if off < 0x1000 then some (bStr i + off) else none
    | .node i => if off < 0x1000 then some (bNode i + off) else none
    | .loop i => if off < 0x40 then some (bLoopD i + off) else if off < 0x60 then some (bLoopS i + (off - 0x40)) else none
    | .profile i => if off < 0x40 then some (bProf i + off) else none
    | _ => none

/-! ### Cell commands (R364 to R366) -/

/-- The common tests of the cell commands, in the order handle, position, kind, mode, state (DEDUCED, log entry 21): reason, string, position, node. -/
def cellArgs (a0 a1 : Word) (modes : List Mode) (s : Dev) : Nat × Nat × Nat × Nat :=
  let r := openHandle s a0 (some 1)
  let i := r.2.idx
  let k := a1.toNat
  if r.1 ≠ 0 then (r.1, 0, 0, 0)
  else if !(k < s.g (bStr i) F.STR_CFG_MEMBERS) then (0x0105, i, 0, 0)
  else if s.kind i ≠ 1 then (0x0420, i, 0, 0)
  else if !modes.contains s.mode then (0x0109, i, k, 0)
  else if !s.enabled (.string i) then (0x0421, i, k, 0)
  else (0, i, k, memberAt s i k)

def cellModes : List Mode := [.hold, .charge, .run, .ride, .safe]

def changePending (s : Dev) (i : Nat) : Bool := s.gb (bStr i) F.STR_CELL_STATUS_PENDING

/-- The ACTIVE positions that no change under way removes. -/
def stayActive (s : Dev) (i : Nat) : List Nat :=
  let m := s.g (bStr i) F.STR_ACTIVE_MASK
  (activePos s i m).filter (fun k => posState s i k == 0)

/-- CELL_OUT. -/
def cellOut (a0 a1 : Word) (s : Dev) : Nat × Dev :=
  let (r, i, k, _) := cellArgs a0 a1 cellModes s
  if r ≠ 0 then (r, s)
  else if posState s i k ≠ 0 || changePending s i then (0x0421, s)
  else if ((stayActive s i).filter (fun j => j != k)).length < nmin s i then (0x0422, s)
  else (0, requestChange i (2 ^ k) 0 0 s)

/-- CELL_IN. -/
def cellIn (a0 a1 : Word) (s : Dev) : Nat × Dev :=
  let (r, i, k, n) := cellArgs a0 a1 cellModes s
  let v := teleNow s n 0
  if r ≠ 0 then (r, s)
  else if posState s i k ≠ 1 || bitOf (s.g (bStr i) F.STR_OUT_CAUSE_REACTION) k || changePending s i then (0x0421, s)
  else if underReaction s n then (0x0424, s)
  else if !v.2 || outOfWin s i v.1 then (0x0423, s)
  else (0, requestChange i 0 (2 ^ k) 0 s)

/-- CELL_PRECHARGE (R365). -/
def cellPrecharge (a0 a1 : Word) (s : Dev) : Nat × Dev :=
  let (r, i, k, n) := cellArgs a0 a1 [.run, .ride] s
  let v := teleNow s n 0
  if r ≠ 0 then (r, s)
  else if posState s i k ≠ 1 || changePending s i then (0x0421, s)
  else if underReaction s n || (s.port (s.portOf n)).nstate == .safe then (0x0424, s)
  else if !v.2 || decide ((s.g (bStr i) F.STR_CELL_WIN_WIN_LO : Int) * 65536 ≤ v.1) then (0x0423, s)
  else
    let s := sendFences n [fence s n 6 .off false (earliest s (s.portOf n))] s
    (0, (setPos i k 2 s).setNode n (fun x => { x with preFrom := some s.tick }))

/-- PRE_TMO has passed without the window reached (R365). -/
def prechargeFail (i k : Nat) (s : Dev) : Dev :=
  let n := memberAt s i k
  let due := (s.node n).preFrom.any (fun t => decide (t + 250000 * s.g (bStr i) F.STR_BAL_CFG_PRE_TMO ≤ s.tick))
  if due && posState s i k == 2 then endPrecharge i k n true s else s

/-- CELL_SWAP (R366). -/
def cellSwap (a0 a1 a2 : Word) (s : Dev) : Nat × Dev :=
  let (r, i, k, _) := cellArgs a0 a1 cellModes s
  let h := openHandle s a2 (some 2)
  let m := h.2.idx
  if r ≠ 0 then (r, s)
  else if posState s i k ≠ 1 then (0x0421, s)
  else if h.1 ≠ 0 then (h.1, s)
  else if !s.enabled (.node m) || !s.isCell m || (s.stringOf m).isSome then (0x0424, s)
  else
    let s := s.p (bStr i) (F.STR_MEMBER_NODE.at k) m
    (0, refreshTokens s)

end Sys2Proof.Machine
end

