-- ==== Sys2Proof/Machine/Checks.lean ====
section
/-! DEFINITION. The consistency check (R120 to R130): dependencies of objects, the tests of every family in their order, and the reason and culprit they give. -/

namespace Sys2Proof.Machine

/-- The first test that fails: whether it fails, its reason, the object on which it ran. -/
def firstOf (l : List (Bool × Nat × Obj)) : Nat × Obj :=
  match l.find? (fun t => t.1) with | some t => t.2 | none => (0, .device)

/-! ### Dependencies (R122, R124, R127) -/

/-- The profiles a node channel names: primary of every used leg, alternate where enabled (R378). -/
def profilesOf (s : Dev) (n : Nat) : List Nat :=
  let b := bNode n
  (s.usedLegs n).flatMap (fun y =>
    s.g b ⟨F.NODE_PROF_PRI.off, 4 * y, 4⟩ :: (if bitOf (s.g b F.NODE_PROF_ALT_ALT_EN) y then [s.g b ⟨F.NODE_PROF_ALT.off, 4 * y, 4⟩] else []))

/-- The node channels whose telemetry a loop reads (R306). -/
def nodesRead (s : Dev) (i : Nat) : List Nat :=
  (reads s i).filterMap (fun r => if 0x400 ≤ r.1 && r.1 < 0x1C00 then some ((r.1 - 0x400) / 64) else none)

/-- The loops whose output a loop reads (R306). -/
def loopsRead (s : Dev) (i : Nat) : List Nat :=
  ((reads s i).filterMap (fun r => if 0x2000 ≤ r.1 && r.1 < 0x2800 then some (r.1 - 0x2000) else none)).filter (fun j => j != i)

/-- An entry of STR_POSTERM or STR_SCALE names a loop while its bit 15 is 1 (R374): loop and coefficient. -/
def entryOf (e : Nat) : Option (Nat × Nat) := if bitOf e 15 then some (e % 2048, e / 2048 % 8) else none

/-- The loops and coefficients that the balancing fields of a string name (R374, R375). -/
def balEntries (s : Dev) (i : Nat) : List (Nat × Nat) :=
  let b := bStr i
  ((upto 32).flatMap (fun k => [s.g b (F.STR_POSTERM_ENTRY_V.at k), s.g b (F.STR_POSTERM_ENTRY_T.at k)])
    ++ (upto 4).flatMap (fun k => [s.g b (F.STR_SCALE_ENTRY_2k.at k), s.g b (F.STR_SCALE_ENTRY_2k_1.at k)])).filterMap entryOf

/-- The string takes part in balancing (R375). -/
def balances (s : Dev) (i : Nat) : Bool :=
  s.kind i == 1 && (s.gb (bStr i) F.STR_BAL_CFG_SCALE_EN || s.gb (bStr i) F.STR_SUBST_EN || !(balEntries s i).isEmpty)

/-- The loops a string depends on through its balancing fields (R375). -/
def loopsNamed (s : Dev) (i : Nat) : List Nat :=
  if balances s i then (balEntries s i).map (fun e => e.1) ++ (if s.gb (bStr i) F.STR_SUBST_EN then [s.g (bStr i) F.STR_SUBST_LOOP] else [])
  else []

/-- The enabled rate groups. -/
def enabledGroups (s : Dev) : List Nat := (upto 8).filter (fun g => s.enabled (.rg g))

def enabledStrings (s : Dev) : List Nat := (upto 8).filter (fun i => s.enabled (.string i))

/-- The modulation reference slots a loop names: the one it writes, and those whose signals it reads (R306). -/
def slotsNamed (s : Dev) (i : Nat) : List Nat :=
  (slotOf s i).toList ++ (reads s i).filterMap (fun r => if 0x2900 ≤ r.1 && r.1 < 0x2A00 then some (r.1 - 0x2900) else none)

/-- The disabled string that a loop names (R122, R124): the first slot that no enabled object takes and that lies in the range of a disabled string. -/
def stringOff (s : Dev) (i : Nat) : Option Nat :=
  (slotsNamed s i).findSome? (fun j =>
    if (slotOwner s j).isSome || auxSlot s j then none
    else (upto 8).find? (fun k => s.occupied (.string k) && (let r := slotRange s k; r.1 ≤ j && j < r.1 + r.2)))

/-- The trackers whose signals a loop reads (R306). -/
def trksRead (s : Dev) (i : Nat) : List Nat :=
  (reads s i).filterMap (fun r => if 0x2820 ≤ r.1 && r.1 < 0x2840 then some ((r.1 - 0x2820) % 16) else none)

/-- Some other enabled object depends on this one (R127). The device, which depends on every enabled object, is not counted: R129 governs it (DEDUCED, log entry 22). -/
def inUse (s : Dev) : Obj → Bool
  | .profile p => (enabledNodes s).any (fun n => (profilesOf s n).contains p)
  | .node n => (enabledStrings s).any (fun i => (s.members i).any (fun m => m.2 == n)) || (enabledLoops s).any (fun i => (nodesRead s i).contains n)
  | .string i =>
    (enabledLoops s).any (fun l => (slotsNamed s l).any (fun j => slotOwner s j == some i))
      || (enabledGroups s).any (fun g =>
        bitOf (s.g (bRg g) F.RG_COMMITS_STRINGS) i || (s.g (bRg g) F.RG_CFG_SRC == 0 && s.g (bRg g) F.RG_CFG_EVENT / 2 == i))
  | .loop i =>
    (enabledLoops s).any (fun l => l != i && ((loopsRead s l).contains i
        || (law s i == 6 && (trksRead s l).contains (s.g (bLoopD i) F.LD_ROUTE_TRK))
        || (match slotOf s i with | some j => (reads s l).any (fun r => r.1 == 0x2900 + j) | none => false))) || (enabledStrings s).any (fun j => (loopsNamed s j).contains i)
      || (law s i == 6 && (enabledGroups s).any (fun g => s.g (bRg g) F.RG_CFG_SRC == 1 && s.g (bRg g) F.RG_CFG_TRK == s.g (bLoopD i) F.LD_ROUTE_TRK))
  | .rg g => (enabledLoops s).any (fun i => loopRg s i == g)
  | .aux p =>
    (enabledGroups s).any (fun g => bitOf (s.g (bRg g) F.RG_COMMITS_AUX) p)
      || (s.gb (bAux p) F.AUX_CFG_SRC && (enabledLoops s).any (fun l => (slotsNamed s l).contains (s.g (bAux p) F.AUX_CFG_SLOT)))
  | .can c => !(objsOf s c).isEmpty
  | _ => false

/-- A node channel at a position that the device drives (R129, R366). -/
def drivenNode (s : Dev) (n : Nat) : Bool := s.cmdMode && (enabledStrings s).any (fun i => (s.members i).any (fun m => m.2 == n))

/-! ### Profile and node channel (R122, R167, R171, R177, R295, R425) -/

def checkProfile (s : Dev) (p : Nat) : Nat × Obj :=
  let o := Obj.profile p
  let b := bProf p
  let g (f : Fld) : Nat := s.g b f
  firstOf [
    (g F.PROF_ON_PLAT_I == 0 || g F.PROF_OFF_PLAT_I == 0 || g F.PROF_SOFT_SOFT_I == 0 || g F.PROF_SOFT_SOFT_T == 0 || g F.PROF_HOLD_VON == 0, 0x0701, o),
    (g F.PROF_BLANK_BLANK < 25 || 400 < g F.PROF_BLANK_BLANK || g F.PROF_BLANK_STEP == 0, 0x0702, o),
    (g F.PROF_DESAT_LIM_VMAX < g F.PROF_DESAT_LIM_VMIN || g F.PROF_DESAT_V25 < g F.PROF_DESAT_LIM_VMIN || g F.PROF_DESAT_LIM_VMAX < g F.PROF_DESAT_V25, 0x0703, o),
    (g F.PROF_OC_I_TRIP == 0, 0x0704, o),
    (g F.PROF_DIDT_DIDT_TH == 0 || g F.PROF_DIDT_DIDT_WIN < 5, 0x0705, o),
    (g F.PROF_UVLO_VPOS_LO == 0 || g F.PROF_HOLD_VON ≤ g F.PROF_UVLO_VPOS_LO + g F.PROF_UVLO_VPOS_HYS
      || (g F.PROF_UVLO_VNEG_LO != 0 && g F.PROF_HOLD_VOFF ≤ g F.PROF_UVLO_VNEG_LO) || g F.PROF_UVLO_UV_FILT == 0, 0x0706, o),
    (g F.PROF_BS_BS_MIN != 0 && g F.PROF_BS_BS_MIN ≤ g F.PROF_UVLO_VPOS_LO + g F.PROF_UVLO_VPOS_HYS, 0x0707, o)]

/-- The legs R168 covers: legs A and B of a cell, every used leg of an LV leg node. -/
def pulseLegs (s : Dev) (n : Nat) : List Nat := (s.usedLegs n).filter (fun y => !s.isCell n || y < 2)

def checkNode (s : Dev) (n : Nat) : Nat × Obj :=
  let o := Obj.node n
  let b := bNode n
  let g (f : Fld) : Nat := s.g b f
  let p := g F.NODE_CFG_PORT
  let q := s.port p
  let used := s.usedLegs n
  let legs := fieldLE q.ident 3 1
  let off := (profilesOf s n).find? (fun i => !s.enabled (.profile i))
  let dmin := g F.NODE_DT_LIM_DT_MIN
  let dmax := g F.NODE_DT_LIM_DT_MAX
  let bs := g F.NODE_BS_LEGS
  firstOf [
    (off.isSome, 0x030A, .profile (off.getD 0)),
    ((enabledNodes s).any (fun m => m != n && s.portOf m == p), 0x0314, o),
    (!s.gb (bPort p) F.LNK_PCFG_EN, 0x0501, o),
    (!portUp s p, 0x0502, o),
    (fieldLE q.ident 2 1 != g F.NODE_CFG_CLASS, 0x0503, o),
    (fieldLE q.ident 1 1 != 1, 0x0504, o),
    (5120 < s.g (bPort p) F.LNK_PCFG_DMAX, 0x0505, o),
    (s.g (bPort p) F.LNK_PCFG_DMAX * 64 < q.dapp, 0x0506, o),
    ((g F.NODE_HOLD_SAFE == 1 || g F.NODE_HOLD_SAFE == 2) && (!s.isCell n || legs % 4 != 3), 0x0507, o),
    (g F.NODE_HOLD_HOLD_PERIODS < 1 || 8 < g F.NODE_HOLD_HOLD_PERIODS || g F.NODE_HOLD_SAFE_DT < 320 || 64000 < g F.NODE_HOLD_SAFE_DT, 0x0508, o),
    (used.any (fun y => !bitOf legs y), 0x0509, o),
    (!(s.node n).params, 0x050A, o),
    (q.dlFail, 0x050B, o),
    (used.any (fun y => let f := g (F.NODE_DT_FIXED.at y); dmin < 320 || f < dmin || dmax < f || 64000 < dmax), 0x0404, o),
    ((pulseLegs s n).any (fun y => let m := g (F.NODE_MINP_MINP.at y); 128000 < m || m < dmax + 320), 0x0405, o),
    ((s.isCell n && bs / 4 != 0) || (bs != 0 && g F.NODE_BS_WIDTH < dmax + 320), 0x0412, o),
    (used.any (fun y => bitOf bs y && s.g (bProf (s.profOf n y)) F.PROF_BS_BS_MIN == 0), 0x0711, o)]

/-! ### String and auxiliary pair (R15 to R18, R136, R148, R154 to R162, R200, R208) -/

/-- The slot of an enabled auxiliary pair with SRC = SLOT lies in a range. -/
def auxSlotIn (s : Dev) (lo n : Nat) : Bool :=
  (upto 8).any (fun p => s.enabled (.aux p) && s.gb (bAux p) F.AUX_CFG_SRC && (let j := s.g (bAux p) F.AUX_CFG_SLOT; lo ≤ j && j < lo + n))

/-- Every member leg of a string with its function: node, leg, function (R159). -/
def mappedLegs (s : Dev) (i : Nat) : List (Nat × Nat × Nat) :=
  (s.members i).flatMap (fun m => (upto 6).filterMap (fun y => let f := s.func m.2 y; if f = 0 then none else some (m.2, y, f)))

/-- R159: a function does not suit the kind, or the indices of a function are not 0 to K − 1. -/
def badLegMap (s : Dev) (i : Nat) : Bool :=
  let ls := mappedLegs s i
  let top := if s.kind i = 2 then 4 else 1
  s.kind i != 1 && (ls.any (fun l => top < l.2.2) || (upto 5).any (fun f =>
    let ks := (ls.filter (fun l => l.2.2 == f)).map (fun l => s.ilv l.1 l.2.1)
    (upto ks.length).any (fun k => !ks.contains k)))

def checkString (s : Dev) (i : Nat) : Nat × Obj :=
  let o := Obj.string i
  let b := bStr i
  let g (f : Fld) : Nat := s.g b f
  let kind := s.kind i
  let mem := s.members i
  let v : View := fun a => s.rdF a
  let per := s.gF b F.STR_PERIOD_PERIOD
  let ratio := s.gF b F.STR_DAB_RATIO
  let pd := per / ratio
  let off := mem.find? (fun m => !s.enabled (.node m.2))
  let wrong := mem.find? (fun m => s.g (bNode m.2) F.NODE_CFG_CLASS != (if kind = 1 then 1 else 2))
  let others := (enabledStrings s).filter (fun j => j != i)
  let shared := mem.find? (fun m => others.any (fun j => (s.members j).any (fun x => x.2 == m.2)))
  let r := slotRange s i
  let dmax := (mem.map (fun m => s.g (bPort (s.portOf m.2)) F.LNK_PCFG_DMAX)).foldl max 0
  firstOf [
    (off.isSome, 0x030A, .node ((off.map (·.2)).getD 0)),
    (kind != 0 && wrong.isSome, 0x0311, .node ((wrong.map (·.2)).getD 0)),
    (kind == 1 && (g F.STR_CFG_MEMBERS == 0 || 32 < g F.STR_CFG_MEMBERS || mem.length != g F.STR_CFG_MEMBERS), 0x0312, o),
    (shared.isSome, 0x0313, .node ((shared.map (·.2)).getD 0)),
    (kind == 1 && (g F.STR_CFG_TAG == 3 || others.any (fun j => s.kind j == 1 && s.g (bStr j) F.STR_CFG_TAG == g F.STR_CFG_TAG)), 0x0316, o),
    (s.dly < 3072 + dmax, 0x0401, o),
    (kind == 1 && (per < 800000 || 8000000 < per) || (2 ≤ kind && (per < 400000 || 8000000 < per)), 0x0402, o),
    (kind == 1 && (ratio == 0 || per % ratio != 0 || pd < 80000 || 800000 < pd), 0x0403, o),
    (kind != 0 && (256 < r.1 + r.2 || auxSlotIn s r.1 r.2 || others.any (fun j => let q := slotRange s j; r.1 < q.1 + q.2 && q.1 < r.1 + r.2)), 0x0409, o),
    (kind != 0 && badLegMap s i, 0x040D, o),
    (per ≤ s.gF b F.STR_ANCHOR_OFS_OFS, 0x040E, o),
    (kind == 1 && (activePos s i (s.gF b F.STR_ACTIVE_MASK)).isEmpty, 0x0411, o),
    (1 < mem.length && mem.any (fun m => 12 < worstEdges s i v m.2), 0x0413, o),
    (kind == 0, 0x0414, o),
    (s.gb (bProtStr i) F.PROT_STR_SAFE_FORM && kind != 1, 0x0713, o)]

def checkAux (s : Dev) (p : Nat) : Nat × Obj :=
  let b := bAux p
  let comp := !s.gb b F.AUX_CFG_MODE
  firstOf [
    (s.gF b F.AUX_PERIOD_PERIOD < 16000
      || (comp && s.gF b F.AUX_MINP_MINP < s.gF b F.AUX_DT_DT + 64)
      || (comp && s.g b F.AUX_CFG_IDLE_MAIN == 1 && s.g b F.AUX_CFG_IDLE_SECOND == 1)
      || (slotOwner s (s.g b F.AUX_CFG_SLOT)).isSome, 0x0410, .aux p)]

/-! ### Rate groups (R347, R348) -/

/-- The shortest firing interval of a group in ft (R347); 0: it never fires. `n` bounds the chain of GRID groups. -/
def shortest (s : Dev) : Nat → Nat → Nat
  | 0, _ => 0
  | n + 1, g =>
    let b := bRg g
    let div := s.g b F.RG_CFG_DIV + 1
    match s.g b F.RG_CFG_SRC with
    | 0 => div * s.gF (bStr (s.g b F.RG_CFG_EVENT / 2)) F.STR_PERIOD_PERIOD
    | 1 =>
      match pllOf s (s.g b F.RG_CFG_TRK) with
      | some l =>
        let c := coef s l 2
        let d := rnd (limHi s l * c.1) c.2
        if d ≤ 0 then 0 else
          let den := 64 * div * d.toNat
          (4294967296 * shortest s n (loopRg s l) + den - 1) / den * 64
      | none => 0
    | _ => s.g b F.RG_PERIOD_PERIOD * 64

/-- R347: the commit tick of a CARRIER group that commits the string of its own event falls in a band, at some fine-tick phase. -/
def lateBand (s : Dev) (g : Nat) : Bool :=
  let b := bRg g
  let ev := s.g b F.RG_CFG_EVENT
  let i := ev / 2
  let per := s.gF (bStr i) F.STR_PERIOD_PERIOD
  let half := per / 2
  let reloads := if s.gb (bStr i) F.STR_CFG_RELOAD then [0, half] else [0]
  s.g b F.RG_CFG_SRC == 0 && bitOf (s.g b F.RG_COMMITS_STRINGS) i && per != 0 && reloads.any (fun r =>
    let x : Int := r - (if ev % 2 = 1 then half else 0) - s.dly * 64
    decide ((x - (64 * (s.g b F.RG_DL_DL : Int) - 63)) % per ≤ 638) || decide (per ≤ 638))

def checkRg (s : Dev) (g : Nat) : Nat × Obj :=
  let o := Obj.rg g
  let b := bRg g
  let src := s.g b F.RG_CFG_SRC
  let dl := s.g b F.RG_DL_DL
  let short := shortest s 8 g
  firstOf [
    (src == 3 || (src == 0 && !s.enabled (.string (s.g b F.RG_CFG_EVENT / 2))) || (src == 1 && (pllOf s (s.g b F.RG_CFG_TRK)).isNone), 0x0620, o),
    (src == 2 && (s.g b F.RG_PERIOD_PERIOD < 250 || s.g b F.RG_PERIOD_PERIOD ≤ s.g b F.RG_PHASE_PHASE), 0x0621, o),
    (dl ≤ s.g b F.RG_CFG_LATCH_DLY || (short != 0 && short ≤ dl * 64), 0x0622, o),
    (lateBand s g, 0x0623, o),
    ((upto 8).any (fun i => bitOf (s.g b F.RG_COMMITS_STRINGS) i && !s.enabled (.string i))
      || (upto 8).any (fun p => bitOf (s.g b F.RG_COMMITS_AUX) p && !s.enabled (.aux p)), 0x0624, o)]

/-! ### Loops (R326, R335, R346, R348, R462) -/

/-- The loops a loop depends on currently, directly or through others, in at most `n` steps (R335). -/
def depClosure (s : Dev) : Nat → List Nat → List Nat
  | 0, l => l
  | n + 1, l => depClosure s n (l ++ ((l.flatMap (currentDeps s)).filter (fun j => !l.contains j)).eraseDups)

/-- The level that the check finds for a loop (R335). -/
def checkedLevel (s : Dev) (i : Nat) : Nat :=
  let l := if s.enabled (.loop i) then enabledLoops s else enabledLoops s ++ [i]
  tget (fun _ => 0) (levels s l 18) i

/-- An input names a quantity of a node class that has no scale (0x0602). -/
def unscaled (s : Dev) (sig : Nat) : Bool := 0x400 ≤ sig && sig < 0x1C00 && (teleScale s ((sig - 0x400) / 64) ((sig - 0x400) % 64)).1 == 0

/-- An input names the signal of a disabled channel or input (0x0801). -/
def inputOff (s : Dev) (sig : Nat) : Bool :=
  (sig < 0x20 && !chEnabled s (sig % 16))
    || (0x20 ≤ sig && sig < 0x38 && !s.gb (bSd (sig - 0x20)) F.SD_CFG_EN)
    || (0x40 ≤ sig && sig < 0x58 && !s.gb (bSd (sig - 0x40)) F.SD_CFG_EN)
    || (0x60 ≤ sig && sig < 0x78 && (!s.gb (bSd (sig - 0x60)) F.SD_CFG_EN || !s.gb (bSd (sig - 0x60)) F.SD_FAST_FEN))

def valOf (s : Dev) (i n : Nat) : Int := let c := coef s i n; valC c.1 c.2

def checkLoop (s : Dev) (i : Nat) : Nat × Obj :=
  let o := Obj.loop i
  let b := bLoopD i
  let lw := law s i
  let sigs := (reads s i).map (·.1)
  let nodeOff := (nodesRead s i).find? (fun n => !s.enabled (.node n))
  let loopOff := (loopsRead s i).find? (fun j => !s.enabled (.loop j))
  let rest := (enabledLoops s).filter (fun j => j != i)
  let grp := compGroup s i
  let peers := rest.filter (fun j => grp != 0 && compGroup s j == grp)
  let all := i :: peers
  let head := all.foldl min i
  let slot := slotOf s i
  let owned (j : Nat) : Bool :=
    (match slotOwner s j with | some k => !s.gb (bStr k) F.STR_CFG_SRC | none => false)
      || auxSlot s j
  let act := s.g b F.LD_OSC_ACTION
  let grouped (l : Nat) : Bool := l == 0 || l == 1 || l == 2 || l == 4
  firstOf [
    (nodeOff.isSome, 0x030A, .node (nodeOff.getD 0)),
    (loopOff.isSome, 0x030A, .loop (loopOff.getD 0)),
    ((stringOff s i).isSome, 0x030A, .string ((stringOff s i).getD 0)),
    (6 < lw, 0x0601, o),
    (sigs.any (fun n => sigReserved n || unscaled s n), 0x0602, o),
    (!s.enabled (.rg (loopRg s i)), 0x0603, o),
    ((depClosure s (rest.length + 1) (currentDeps s i)).contains i, 0x0604, o),
    (15 < checkedLevel s i, 0x0605, o),
    ((match slot with | some j => !owned j | none => false), 0x0606, o),
    (slot.isSome && rest.any (fun j => slotOf s j == slot), 0x0607, o),
    (decide (limHi s i ≤ limLo s i), 0x0608, o),
    (grp != 0 && !grouped lw, 0x0609, o),
    (peers.any (fun j => loopRg s j != loopRg s i), 0x060A, o),
    (16 < all.length, 0x060B, o),
    (grp != 0 && (all.any (fun j => j != head && (slotOf s j).isSome) || all.any (fun j => (currentDeps s j).any (fun k => all.contains k && k != j))), 0x060C, o),
    ((lw == 2 && (decide (valOf s i 5 < 0) || decide (4294967296 ≤ valOf s i 5)))
      || (lw == 4 && (decide (rnd (valOf s i 2) 8 ≤ 0) || decide (rnd (valOf s i 3) 8 ≤ 0)))
      || (lw == 6 && (decide ((coef s i 2).1 ≤ 0) || decide (rnd (valOf s i 3) 8 ≤ 0))), 0x060D, o),
    (4 < act || (act != 0 && (s.g b F.LD_OSC_WIN < 8 || s.g b F.LD_OSC_NCNT < 2 || s.g b F.LD_OSC_RESTORE == 0))
      || (act == 2 && (lw == 0 || lw == 3 || lw == 4 || lw == 5)), 0x060E, o),
    (lw == 5 && (upto 4).any (fun k => 11 < s.g b ⟨F.LD_ANGLE.off, 16 + 4 * k, 4⟩), 0x060F, o),
    (lw == 6 && rest.any (fun j => law s j == 6 && s.g (bLoopD j) F.LD_ROUTE_TRK == s.g b F.LD_ROUTE_TRK), 0x0610, o),
    (lw == 6 && s.g (bRg (loopRg s i)) F.RG_CFG_SRC == 1, 0x0611, o),
    (sigs.any (inputOff s), 0x0801, o)]

/-! ### Trace, CAN, PTP, timed outputs (R501, R592, R595, R599, R602, R624) -/

def checkTrace (s : Dev) : Nat × Obj :=
  let n := s.g bFlt F.TRC_CFG_NSIG
  let sig (k : Nat) : Nat := getBits (s.rd (bFlt + F.TRC_SIG.off + 4 * (k / 2))) (16 * (k % 2)) 16
  firstOf [(n < 1 || 32 < n || !s.enabled (.rg (s.g bFlt F.TRC_CFG_RG)) || (upto n).any (fun k => sigReserved (sig k)), 0x0737, .trace)]

def checkCan (s : Dev) (c : Nat) : Nat × Obj :=
  let o := Obj.can c
  let b := bCan c
  let v (f : Fld) : Nat := s.g b f + 1
  let fd := s.gb b F.CAN_CFG_FD_EN
  let nom := v F.CAN_NBT_NBRP * (1 + v F.CAN_NBT_NTSEG1 + v F.CAN_NBT_NTSEG2)
  let dat := v F.CAN_DBT_DBRP * (1 + v F.CAN_DBT_DTSEG1 + v F.CAN_DBT_DTSEG2)
  firstOf [
    (v F.CAN_NBT_NTSEG1 < 2 || v F.CAN_NBT_NTSEG2 < 2 || nom < 100 || (fd && (dat < 13 || nom < dat)), 0x0B01, o),
    (v F.CAN_NBT_NTSEG2 < v F.CAN_NBT_NSJW || v F.CAN_DBT_DTSEG2 < v F.CAN_DBT_DSJW, 0x0B02, o),
    (s.gb b F.CAN_CFG_TDC_EN && 2 < v F.CAN_DBT_DBRP, 0x0B09, o)]

def checkObj (s : Dev) (o : Nat) : Nat × Obj :=
  let b := bObj o
  let g (f : Fld) : Nat := s.g b f
  let dir := g F.OBJ_CFG_DIR
  let fmt := g F.OBJ_CFG_FMT
  let alarm := s.gb b F.OBJ_CFG_ALARM
  firstOf [
    (!s.enabled (.can (o / 256)), 0x030A, .can (o / 256)),
    (fmt != 0 && !s.gb (bCan (o / 256)) F.CAN_CFG_FD_EN, 0x0B03, .obj o),
    (dir == 0 || (fmt == 0 && (8 < g F.OBJ_CFG_DLC || s.gb b F.OBJ_CFG_BRS)) || (fmt == 2 && dir == 2)
      || (alarm && (dir == 1 || g F.OBJ_CFG_DLC < 8)) || (dir == 2 && g F.OBJ_MASK_MASK != 0), 0x0B04, .obj o)]

def checkPtp (s : Dev) : Nat × Obj :=
  let g (f : Fld) : Nat := s.g bTb f
  let logBad (lo : Nat) : Bool := let x := sgn 4 (g ⟨F.PTP_INTV.off, lo, 4⟩); decide (x < -7) || decide (4 < x)
  firstOf [
    ([0, 4, 8, 12].any logBad || g F.PTP_INTV_ANN_TMO < 2 || g F.PTP_INTV_SYNC_TMO < 2, 0x0A01, .ptp),
    (s.gb bTb F.PTP_CFG_PROFILE && (!s.gb bTb F.PTP_CFG_DELAY || s.gb bTb F.PTP_CFG_TRANSPORT), 0x0A02, .ptp)]

def checkTpo (s : Dev) (k : Nat) : Nat × Obj :=
  let b := bTpo k
  let per := s.g b F.TPO_PERIOD_PERIOD
  let w := s.g b F.TPO_WIDTH_WIDTH
  let rep := s.gb b F.TPO_CFG_MODE
  firstOf [
    ((rep && (per < 1000 || 4000000000 < per || w < 8 || per < w + 8)) || (!rep && w == 0) || 999999999 < s.g b F.TPO_START_NS_NS, 0x0A06, .tpo k)]

/-! ### The device (R16, R122, R194, R375, R425, R462, R501, R532 to R537, R563, R566, R595, R649) -/

/-- R375 for a string. -/
def balBad (s : Dev) (i : Nat) : Bool :=
  let b := bStr i
  let groups := (enabledGroups s).filter (fun g => bitOf (s.g (bRg g) F.RG_COMMITS_STRINGS) i)
  let named (l : Nat) : Bool := s.enabled (.loop l) && groups.contains (loopRg s l) && (law s l == 0 || law s l == 1 || law s l == 2)
  let ca := s.g b F.STR_SUBST_CA
  let cb := s.g b F.STR_SUBST_CB
  let l := s.g b F.STR_SUBST_LOOP
  s.enabled (.string i) && balances s i &&
    ((s.gb b F.STR_BAL_CFG_SCALE_EN && (s.g b F.STR_BAL_CFG_NREF < nmin s i || s.g b F.STR_CFG_MEMBERS < s.g b F.STR_BAL_CFG_NREF))
      || groups.length != 1
      || (balEntries s i).any (fun e => !named e.1 || 5 < e.2)
      || (s.gb b F.STR_SUBST_EN && (!named l || 5 < ca || 5 < cb || ca == cb || (coef s l ca).2 != (coef s l cb).2)))

/-- A source of the PLL breaks R535 or the range of N; the pair of f_pfd and the word at the offset in force. -/
def pfdBad (s : Dev) (x : Nat) : Bool :=
  let p := fPfd s x
  let n := feedback s x (ofsInForce s) / 4294967296
  let lo := if s.gb bClk F.CLK_CFG_LOOP then 25000 else 10000
  p.1 < lo * p.2 || 50000 * p.2 < p.1 || n < 48 || 250 < n

def bandBad (s : Dev) (k : Nat) : Bool :=
  let w := s.rd (bClk + F.CLK_BAND.off + 4 * k)
  let lo := getBits w 0 12
  let hi := getBits w 16 12
  !(lo == 0 && hi == 0) && (hi ≤ lo || lo < 1000 || 3000 < lo || hi < 1000 || 3000 < hi)

/-- A mirrored snapshot of a group does not fit (R532). -/
def mirrorLoad (s : Dev) (g : Nat) : Bool :=
  let bytes := Sys2Proof.Config.mirrorBytes (groupSignals s g).length
  let lanes := s.g bSs F.SS_CFG_MIN_LANES
  let room := min (2 * s.g bSs F.SS_CFG_MWAIT) (s.g (bRg g) F.RG_DL_DL - s.g (bRg g) F.RG_CFG_LATCH_DLY)
  lanes == 0 || room * 5 * lanes < 2 * (4 * bytes + 64 * 5 * lanes)

/-- The objects the device check passes again (R122), in the order of R39. -/
def recheck (s : Dev) : List (Nat × Obj) :=
  ((upto 16).filter (fun p => s.enabled (.profile p))).map (checkProfile s)
    ++ (enabledNodes s).map (checkNode s)
    ++ (enabledStrings s).map (checkString s)
    ++ ((upto 8).filter (fun p => s.enabled (.aux p))).map (checkAux s)
    ++ (enabledGroups s).map (checkRg s)
    ++ (enabledLoops s).map (checkLoop s)
    ++ (if s.enabled .trace then [checkTrace s] else [])
    ++ ((upto 2).filter (fun c => s.enabled (.can c))).map (checkCan s)
    ++ (enabledObjs s).map (checkObj s)
    ++ (if s.enabled .ptp then [checkPtp s] else [])
    ++ ((upto 8).filter (fun k => s.enabled (.tpo k))).map (checkTpo s)

def checkDevice (s : Dev) : Nat × Obj :=
  let o := Obj.device
  let mv := (enabledStrings s).filter (fun i => s.kind i == 1)
  let again := (recheck s).find? (fun r => r.1 != 0)
  let bal := (upto 8).find? (balBad s)
  let sds := (upto 24).filter (fun i => s.gb (bSd i) F.SD_CFG_EN)
  let clkOf (i : Nat) : Nat := s.g (bSd i) F.SD_CFG_CLK
  let srcs := (upto 3).filter (srcEnabled s)
  let mdll := s.gb bClk F.CLK_CFG_LOOP
  let refBad (x : Nat) : Bool :=
    let w := s.rd (bClk + (match x with | 0 => F.CLK_REFA.off | 1 => F.CLK_REFB.off | _ => F.CLK_TCXO.off))
    (x != 2 && (getBits w 0 17 < 10000 || 100000 < getBits w 0 17)) || getBits w 21 2 == 3
  let ofs := ofsInForce s
  let pair := s.gb bSs F.SS_CFG_PAIR_EN
  let mons := (upto 16).filter (fun m => s.gb (bMon m) F.MON_CFG_EN)
  firstOf [
    (!(mv.length == 0 || mv.length == 3), 0x0315, o),
    (again.isSome, (again.getD (0, o)).1, (again.getD (0, o)).2),
    (s.gb bMod F.CSYNC_CFG_OUT_EN && !s.enabled (.string (s.g bMod F.CSYNC_CFG_SRC)), 0x040F, .string (s.g bMod F.CSYNC_CFG_SRC)),
    (bal.isSome, 0x0425, .string (bal.getD 0)),
    (s.g bProt F.PROT_CFG_STEP_TMO == 0 || s.g bProt F.PROT_CFG_BS_PRE == 0 || s.g bProt F.PROT_CFG_ADAPT_MS == 0, 0x0712, o),
    ((upto 512).any (fun n =>
      s.g (bFltPol n) F.FLT_CNT_WIN == 0 || 3 ≤ getBits (s.rd (bFltPol n + F.FLT_REACT.off)) 0 2 || 3 ≤ getBits (s.rd (bFltPol n + F.FLT_REACT.off)) 4 2
        || 3 ≤ getBits (s.rd (bFltPol n + F.FLT_REACT.off)) 8 2 || 3 ≤ getBits (s.rd (bFltPol n + F.FLT_REACT.off)) 12 2), 0x0736, o),
    (mons.any (fun m => decide (s.gi (bMon m) F.MON_HI_VALUE ≤ s.gi (bMon m) F.MON_LO_VALUE) || s.g (bMon m) F.MON_CFG_FILT == 0
      || s.g (bMon m) F.MON_CFG_CLR == 0 || sigReserved (s.g (bMon m) F.MON_CFG_SIG) || !s.enabled (.rg (s.g (bMon m) F.MON_CFG_RG))), 0x0739, o),
    (s.gb bSens F.ADC_TRIG_SRC && !s.enabled (.string (s.g bSens F.ADC_TRIG_EVENT / 2)), 0x0802, .string (s.g bSens F.ADC_TRIG_EVENT / 2)),
    (sds.any (fun i => 5 < clkOf i || !s.gb bSens (F.SD_CLKDIV_EN.at (clkOf i)) || sdDiv s i < 10 || 25 < sdDiv s i), 0x0803, o),
    (sds.any (fun i => let k := s.g (bSd i) F.SD_CFG_ORDER; let r := s.g (bSd i) F.SD_CFG_DECIM; let l := s.g (bSd i) F.SD_NOTCH_LEN
      k < 1 || 5 < k || r < 4 || 256 < r || l == 1 || 4096 < l), 0x0804, o),
    (sds.any (fun i => let d := s.g (bSd i) F.SD_CFG_SDLY; d < 1 || sdDiv s i ≤ d), 0x0805, o),
    (sds.any (fun i => s.gb (bSd i) F.SD_FAST_FEN && (let r := s.g (bSd i) F.SD_FAST_FR; r < 4 || 32 < r)), 0x0806, o),
    ((upto 16).any (fun k => bitOf (s.g bSens F.ADC_INJ_CFG_MASK) k && !chEnabled s k), 0x080A, o),
    (srcs.any (pfdBad s), 0x0901, o),
    (mdll && srcs.any (fun x => let w := feedback s x ofs; w % 4294967296 != 0 || 100 < w / 4294967296), 0x0902, o),
    (srcs.any refBad || !(srcOrder s).any (srcEnabled s), 0x0903, o),
    ((upto 64).any (bandBad s), 0x0904, o),
    (decide (ofs < -40000000) || decide (0 < ofs), 0x0905, o),
    (!divValue (s.gF bClk F.CLK_DIV_CORE), 0x0908, o),
    (pair && (s.g bClk F.CLK_CFG_REFOUT != 2 || !s.gb bClk F.CLK_CFG_SYNC_IN_EN), 0x090D, o),
    (5 < s.g bClk F.CLK_CFG_BW || s.g bClk F.CLK_CFG_GLIDE_RATE == 0, 0x090E, o),
    (20 < s.g bTb F.TB_SERVO_KP_SH || 24 < s.g bTb F.TB_SERVO_KI_SH || s.g bTb F.TB_SERVO_FI_STEP == 0 || s.g bTb F.TB_CFG_HO_MAX == 0, 0x0A03, o),
    (srcPtp s && !s.enabled .ptp, 0x0A05, o),
    (s.g bPwr F.PWR_CFG_RECOVER == 0, 0x0C0A, o),
    (let l := s.g bSs F.SS_CFG_MIN_LANES; l < 1 || 4 < l || s.g bSs F.SS_CFG_NVERIFY < 4 || s.g bSs F.SS_CFG_MWAIT < 64
      || s.g bSs F.SS_CFG_REPLAY_MAX == 0 || s.g bSs F.SS_REVERT_HOLD < 10, 0x0D0E, o),
    (pair && (enabledGroups s).any (mirrorLoad s), 0x0D09, o),
    (pair && (enabledStrings s).any (fun i => (s.members i).any (fun m => 8 < worstEdges s i (fun a => s.rdF a) m.2)), 0x0D0A, o)]

/-- The outcome of the check of an object: 0 and no culprit, or the first failing reason and the object on which the test ran (R121 to R124). A slot that is FREE fails with 0x0309. -/
def checkOf (s : Dev) (o : Obj) : Nat × Obj :=
  if !s.occupied o then (0x0309, o)
  else match o with
    | .device => checkDevice s
    | .profile p => checkProfile s p
    | .node n => checkNode s n
    | .string i => checkString s i
    | .loop i => checkLoop s i
    | .rg g => checkRg s g
    | .aux p => checkAux s p
    | .can c => checkCan s c
    | .obj k => checkObj s k
    | .ptp => checkPtp s
    | .tpo k => checkTpo s k
    | .trace => checkTrace s

end Sys2Proof.Machine
end

