-- ==== Sys2Proof/Machine/Enables.lean ====
section
/-! DEFINITION. Enable bits and the queue of consistency checks (R120 to R129): what a write of an enable bit does, and the beginning and the end of a check. -/

namespace Sys2Proof.Machine

/-- Report in the CHECK register of an object, or in the CHECK field of a sub-object's status (R130, R207, R348, R595, R624). Message objects and the trace have none. -/
def setCheck (o : Obj) (r : Nat × Obj) (s : Dev) : Dev :=
  let w := w32 (r.1 + 2 ^ 16 * r.2.idx + 2 ^ 28 * r.2.type)
  match o with
  | .device => s.wr (bDev + F.DEV_CHECK.off) w
  | .string i => s.wr (bStr i + F.STR_CHECK.off) w
  | .node i => s.wr (bNode i + F.NODE_CHECK.off) w
  | .loop i => s.wr (bLoopChk i) w
  | .profile i => s.wr (bProf i + F.PROF_CHECK.off) w
  | .rg i => s.p (bRg i) F.RG_STATUS_CHECK r.1
  | .aux i => s.p (bAux i) F.AUX_STATUS_CHECK r.1
  | .can i => s.p (bCan i) F.CAN_ERR_CHECK r.1
  | .ptp => s.p bTb F.PTP_STATUS_CHECK r.1
  | .tpo i => s.p (bTpo i) F.TPO_STATUS_CHECK r.1
  | .obj _ | .trace => s

/-- What a change of an enable bit brings with it. -/
def enableEffect (o : Obj) (on : Bool) (s : Dev) : Dev :=
  match o with
  | .string i =>
    if on then
      let s := s.on (s.kind i == 1) (fun s =>
        let s := s.each (upto 32) (fun k d => setPos i k (if bitOf (s.gF (bStr i) F.STR_ACTIVE_MASK) k then 0 else 1) d)
        let s := s.p (bStr i) F.STR_CELL_STATUS_N (activeCount s i (s.gF (bStr i) F.STR_ACTIVE_MASK))
        s.each (s.members i) (fun m d => noteWindow i m.2 (d.setNode m.2 (fun x => { x with winOut := false, inWin := none }))))
      s.on s.driveMode (startString i)
    else stopString i s
  | .node n => refreshToken (s.portOf n) (s.on on (fun s => s.setNode n (fun x => { x with jWarn := false, jTrip := false, winOut := false })))
  | .loop i =>
    let s := refreshLevels s
    refreshPlaced (if on then placeLoop i s else s)
  | .rg g =>
    let s := s.setRg g (fun x => { rgSt0 with thaw := x.thaw, commitFrom := x.commitFrom, commitLast := x.commitLast })
    s.on on (fun s => seeSector g (s.p (bRg g) F.RG_TIMING_WORST 0))
  | .aux p => auxEnabled p on s
  | .can c => canEnabled c on s
  | .obj k => if on then s else objDisabled k s
  | .ptp => if on then ptpStart s else ptpStop s
  | .tpo k => if on then tpoArm k s else tpoStop k s
  | .trace =>
    if on then { s.p bFlt F.TRC_STATUS_STATE 1 with flt := { s.flt with ring := [], ringPos := 0, postLeft := 0, trigPos := 0 } }
    else if s.g bFlt F.TRC_STATUS_STATE = 3 then s else s.p bFlt F.TRC_STATUS_STATE 0
  | .profile _ | .device => s

/-- A check is withdrawn by a write of 0 (R120). -/
def withdrawCheck (o : Obj) (s : Dev) : Dev :=
  let run := if s.ms.checking == some o then none else s.ms.checking
  let s := { s with ms := { s.ms with checking := run, checks := s.ms.checks.filter (fun x => x != o) } }
  (setCheck o (0x0317, o) s).irq F.DEV_IRQ_STATUS_CHECK

/-- Why a write of 0 to the enable bit of an enabled object is refused (R127 to R129); 0: it is accepted. -/
def disableReason (o : Obj) (s : Dev) : Nat :=
  match o with
  | .device => if s.mode == .hold then 0 else 0x0109
  | .string i => if (s.str i).started && s.cmdMode then 0x0109 else if inUse s o then 0x0306 else 0
  | _ => if inUse s o then 0x0306 else 0

/-- A write of an enable bit (R120, R126 to R129): the reason of a refusal, 0 for none, and the module. One check runs, up to 16 wait. -/
def enableWrite (o : Obj) (v : Bool) (s : Dev) : Nat × Dev :=
  if v then
    if s.enabled o || s.checkOpen o then (0, s)
    else if s.ms.checking.isNone && s.ms.checks.isEmpty then
      (0, setCheck o (0x0101, .device) { s with ms := { s.ms with checking := some o } })
    else if s.ms.checks.length < 16 then
      (0, setCheck o (0x0101, .device) { s with ms := { s.ms with checks := s.ms.checks ++ [o] } })
    else (0x0102, setCheck o (0x0102, o) s)
  else if o == .device && s.mode != .hold then (0x0109, s)
  else if s.checkOpen o then (0, withdrawCheck o s)
  else if !s.enabled o then (0, s)
  else
    let r := disableReason o s
    if r != 0 then (r, s) else (0, enableEffect o false (s.setEnabled o false))

/-- A waiting check begins when the one before it has ended (R126). -/
def checkStart (s : Dev) : Dev :=
  match s.ms.checking, s.ms.checks with
  | none, o :: t => { s with ms := { s.ms with checking := some o, checks := t } }
  | _, _ => s

/-- The object passes its check, or CHECK holds the first failing reason (R121). -/
def finishCheck (o : Obj) (s : Dev) : Nat × Dev :=
  let r := checkOf s o
  let s := setCheck o (if r.1 = 0 then (0, .device) else r) s
  (r.1, if r.1 = 0 then enableEffect o true (s.setEnabled o true) else s)

/-- The check that runs completes (R121, R125). -/
def checkEnd (s : Dev) : Dev :=
  match s.ms.checking with
  | none => s
  | some o => ((finishCheck o { s with ms := { s.ms with checking := none } }).2).irq F.DEV_IRQ_STATUS_CHECK

end Sys2Proof.Machine
end

