-- ==== Sys2Proof/Machine/HostWrite.lean ====
section
/-! DEFINITION. A register write at the register bus (R108 to R119, R672 to R674): class rules, refusals, and what the registers with a behaviour of their own do; and the side effects of reads (R679). -/

namespace Sys2Proof.Machine

/-- Where a register write comes from: a host path (R672), an OBJ_WRITE (R95), a record of the CONFIG image (R36), the mirror (R511). -/
inductive Via where | host (p : Path) | cmd | record | mirror
deriving DecidableEq, Repr

/-- One register write that the bus has located: place, block base, number in its row, stored word, word the RW and W1C rules make of it (R6), bits written. -/
structure Wr where
  loc : Loc
  b : Nat
  k : Nat
  old : Word
  new : Word
  act : Word
deriving DecidableEq, Repr

/-- The byte address of the write. -/
def Wr.addr (w : Wr) : Nat := w.b + w.loc.off

/-- The write reaches the register of the field. -/
def Wr.is (w : Wr) (f : Fld) : Bool := w.loc.off - 4 * w.k == f.off

/-- A field of the word to be stored. -/
def Wr.f (w : Wr) (f : Fld) : Nat := getBits w.new f.lo f.w

/-- A bit is written as 1. -/
def Wr.one (w : Wr) (f : Fld) : Bool := getBits w.act f.lo 1 == 1

/-- The RW and W1C rules (R6, R7, R97): masked RW bits are replaced, W1C bits written as 1 are cleared, every other bit keeps its value. -/
def merge (r : RegD) (old v mask : Word) : Word :=
  let keep := Nat.land old.toNat (Nat.xor 4294967295 (Nat.land r.rw mask.toNat))
  let put := Nat.land (Nat.land r.rw mask.toNat) v.toNat
  let clear := Nat.land (Nat.land r.w1c mask.toNat) v.toNat
  w32 (Nat.land (Nat.lor keep put) (Nat.xor 4294967295 clear))

/-- The owning object of a register (R109), for the windows whose owner is one object. -/
def ownerOf (l : Loc) : Obj :=
  match slotOfLoc l, l.fam with
  | some o, _ => o
  | none, .rg => .rg l.idx
  | none, .aux => .aux l.idx
  | none, .can => .can l.idx
  | none, .obj => .obj l.idx
  | none, .tpo => .tpo l.idx
  | none, .ptpPort => .ptp
  | none, .tb => if 0x100 ≤ l.off then .ptp else .device
  | none, .flt => if 0x200 ≤ l.off && l.off < 0x280 then .trace else .device
  | none, _ => .device

/-- The owner is enabled. A port is owned by the enabled node channel bound to it, a modulation reference slot by the enabled string whose range holds it, or the enabled auxiliary pair that takes it; a port or slot without one is free to be written. -/
def ownerEnabled (s : Dev) (l : Loc) : Bool :=
  match l.fam with
  | .port => (enabledNodes s).any (fun n => s.portOf n == l.idx)
  | .mod => if F.MOD_REF.off ≤ l.off then ((slotOwner s ((l.off - F.MOD_REF.off) / 4)).isSome || auxSlot s ((l.off - F.MOD_REF.off) / 4)) else s.enabled .device
  | _ => s.enabled (ownerOf l)

/-- The object whose enable bit a register holds (R38). -/
def enableOf (w : Wr) : Option Obj :=
  let i := w.loc.idx
  let pick (f : Fld) (o : Obj) : Option Obj := if w.is f then some o else none
  match w.loc.fam with
  | .dev => pick F.DEV_ENABLE .device
  | .str => pick F.STR_ENABLE (.string i)
  | .node => pick F.NODE_ENABLE (.node i)
  | .loopD => pick F.LD_CTRL (.loop i)
  | .prof => pick F.PROF_ENABLE (.profile i)
  | .rg => pick F.RG_ENABLE (.rg i)
  | .aux => pick F.AUX_ENABLE (.aux i)
  | .can => pick F.CAN_ENABLE (.can i)
  | .obj => pick F.OBJ_ENABLE (.obj i)
  | .tb => pick F.PTP_ENABLE .ptp
  | .tpo => pick F.TPO_ENABLE (.tpo i)
  | .flt => pick F.TRC_CTRL .trace
  | _ => none

/-- The registers of the mailbox that LMP may not write (R103). -/
def mailboxReg (a : Nat) : Bool := F.CMD_ARG.off ≤ a && a ≤ F.CMD_OP.off

/-- The windows whose writes a STANDBY module accepts (R513), and the mailbox registers, whose commands are judged one by one. -/
def standbyMay (a : Nat) : Bool := mailboxReg a || (0x440000 ≤ a && a < 0x480000) || 0x580000 ≤ a

/-- The windows that ROM hold offers (R49). -/
def romMay (a : Nat) : Bool := a < 0x10000 || 0x580000 ≤ a

/-- The tests that a write passes before its register is looked at (R49, R92, R101, R103, R513, R674); 0: it passes. The order is DEDUCED, log entry 24. -/
def busReason (via : Via) (l : Option Loc) (a : Nat) (s : Dev) : Nat :=
  let host := match via with | .host _ => true | _ => false
  let slot := l.bind slotOfLoc
  if host && slot.isSome && (match s.ms.cmd with | some c => c.lock == slot | none => false) then 0x0112
  else if (match slot with | some o => !s.occupied o | none => false) then 0x0309
  else if (match l with | some x => x.reg.isNone | none => true) then 0x0111
  else if host && romHold s && !romMay a then 0x0109
  else if via == .host .lmp && mailboxReg a then 0x0110
  else if host && s.role == .standby && !standbyMay a then 0x0D01
  else 0

/-- The value of a Q1.23 field is above 1/4 or 1 (R153). -/
def q23Above (w : Wr) (f : Fld) (lim : Nat) : Bool := w.is f && lim < w.f f

/-- The tests of the registers of the device, string, node and modulator windows (R81, R153, R371, with the codes of R131, R208 and R376). -/
def valueReason1 (w : Wr) (s : Dev) : Nat :=
  let i := w.loc.idx
  match w.loc.fam with
  | .dev =>
    if w.is F.DEV_MODE_CFG && (w.f F.DEV_MODE_CFG_RIDE_MAX < 10 || 4000 < w.f F.DEV_MODE_CFG_RIDE_MAX || w.f F.DEV_MODE_CFG_RIDE_SETTLE == 0
        || w.f F.DEV_MODE_CFG_CHARGE_MAX == 0) then 0x0105
    else 0
  | .str =>
    if w.is F.STR_MEMBER && 96 ≤ w.f F.STR_MEMBER_NODE then 0x0105
    else if q23Above w F.STR_DAB_ALPHA_ALPHA 0x200000 || q23Above w F.STR_DAB_PHIMAX_PHIMAX 0x200000 then 0x0408
    else if w.is F.STR_ACTIVE && s.enabled (.string i) && s.kind i == 1 then 0x0421
    else if w.is F.STR_CELL_WIN && w.f F.STR_CELL_WIN_WIN_HI ≤ w.f F.STR_CELL_WIN_WIN_LO then 0x0426
    else if w.is F.STR_COMMIT && w.one F.STR_COMMIT_GO then commitReason s [i]
    else 0
  | .node =>
    if w.is F.NODE_CFG && 96 ≤ w.f F.NODE_CFG_PORT then 0x0105
    else if w.is F.NODE_OVR then overrideReason i w.new s
    else 0
  | .mod =>
    if F.MOD_REF.off ≤ w.loc.off then
      (match slotOwner s ((w.loc.off - F.MOD_REF.off) / 4) with
       | some j => if s.gb (bStr j) F.STR_CFG_SRC then 0 else 0x040A
       | none => 0)
    else if w.is F.LOAD_ALL then commitReason s ((upto 8).filter (bitOf (getBits w.act 0 8)))
    else 0
  | .aux => if q23Above w F.AUX_DUTY_DUTY 0x800000 || q23Above w F.AUX_DUTY2_DUTY2 0x800000 then 0x0408 else 0
  | _ => 0

/-- The enabled loops whose mode mask holds the current mode read a SAR channel (R447). -/
def channelInUse (k : Nat) (s : Dev) : Bool :=
  (enabledLoops s).any (fun i => bitOf (s.g (bLoopD i) F.LD_CFG_MODES) s.mode.code && (reads s i).any (fun r => r.1 == k || r.1 == 0x10 + k))

/-- The tests of the registers of the other windows. -/
def valueReason2 (w : Wr) (s : Dev) : Nat :=
  let i := w.loc.idx
  match w.loc.fam with
  | .prot => if w.is F.PROT_TJ && w.f F.PROT_TJ_TJ_TRIP ≤ w.f F.PROT_TJ_TJ_WARN then 0x0723 else 0
  | .flt =>
    if w.is F.FAULT_PIN_CFG && (w.f F.FAULT_PIN_CFG_MINPULSE < 1 || 1000 < w.f F.FAULT_PIN_CFG_MINPULSE) then 0x0738 else 0
  | .sd => if w.is F.SD_FAST_TH && sgn 16 (w.f F.SD_FAST_TH_HI) ≤ sgn 16 (w.f F.SD_FAST_TH_LO) then 0x080B else 0
  | .sens =>
    if w.is F.ADC_TDAC && w.f F.ADC_TDAC_EN == 1 && s.mode != .hold && s.mode != .safe && channelInUse (w.f F.ADC_TDAC_CH) s then 0x0809
    else if w.is F.ADC_CAL_REQ then (calRequest (getBits w.act 0 16) s).1
    else 0
  | .clk =>
    if w.is F.CLK_QUAL && (w.f F.CLK_QUAL_TOL == 0 || w.f F.CLK_QUAL_QUAL == 0 || w.f F.CLK_QUAL_MISS < 2) then 0x090F else 0
  | .tb =>
    if w.is F.TB_LIMIT && (w.f F.TB_LIMIT_SLEW_MAX == 0 || w.f F.TB_LIMIT_LOCK_TH == 0 || w.f F.TB_LIMIT_LOCK_N == 0
        || w.f F.TB_LIMIT_QUAL_N == 0) then 0x0A07
    else 0
  | .pwr =>
    let bad (t h x : Nat) : Bool := t < 5 || 250 < t || x == 0 || 100 * t ≤ 50 * h
    if w.is F.PWR_WAKE_A && bad (w.f F.PWR_WAKE_A_THRESH) (w.f F.PWR_WAKE_A_HYS) (w.f F.PWR_WAKE_A_FILT) then 0x0C09
    else if w.is F.PWR_WAKE_B && bad (w.f F.PWR_WAKE_B_THRESH) (w.f F.PWR_WAKE_B_HYS) (w.f F.PWR_WAKE_B_FILT) then 0x0C09
    else if w.is F.PWR_AVS && (w.f F.PWR_AVS_VFIX < 720 || 850 < w.f F.PWR_AVS_VFIX || w.f F.PWR_AVS_MARGIN < 4 || 64 < w.f F.PWR_AVS_MARGIN) then 0x0C08
    else 0
  | .obj =>
    if w.is F.OBJ_DATA && objDataRefused s i then 0x0B05
    else if w.is F.OBJ_CMD && w.one F.OBJ_CMD_REQ then (objReq i (s.on (w.one F.OBJ_CMD_ABORT) (objAbort i))).1
    else 0
  | .can => if w.is F.CAN_CTRL && w.one F.CAN_CTRL_RECOVER then (canRecover i s).1 else 0
  | _ => 0

/-- New limits of DEV_MODE_CFG act at once where they have already passed (R82). -/
def newLimits (s : Dev) : Dev := chargeMaxElapsed (chargeRide (rideMaxElapsed s))

/-- The oldest fault record is removed (R487). -/
def fifoPop (s : Dev) : Dev := { s with flt := { s.flt with fifo := s.flt.fifo.drop 1 } }

/-- What a write does beyond the stored word, in the device, string, node, loop, modulator and link windows. `old`: the module before the write. -/
def writeEffect1 (w : Wr) (old s : Dev) : Dev :=
  let i := w.loc.idx
  match w.loc.fam with
  | .dev =>
    if w.is F.DEV_MODE_REQ then modeRequest (s.g bDev F.DEV_MODE_REQ_TARGET) s
    else if w.is F.DEV_MODE_CFG then newLimits s
    else s
  | .str =>
    if w.is F.STR_COMMIT && w.one F.STR_COMMIT_GO then goCommit i s
    else if w.is F.STR_CELL_WIN && s.kind i == 1 && s.enabled (.string i) then s.each (s.members i) (fun m d => noteWindow i m.2 d)
    else s
  | .node =>
    let s := redownload [i] old s
    if w.is F.NODE_CFG then download i (showIdent i s)
    else if w.is F.NODE_OVR then override i w.new s
    else s
  | .prof => redownload ((upto 96).filter (fun n => s.occupied (.node n) && (profilesOf s n).contains i)) old s
  | .loopCom =>
    if w.is F.LOOP_COMMIT then
      s.each ((upto 8).filter (bitOf (getBits w.act 0 8))) (fun g d => d.setRg g (fun x => { x with commitFrom := x.commitFrom.or (some d.tick), commitLast := some d.tick }))
    else s
  | .loopStat =>
    if w.one F.LOOP_STAT_THAW then s.setRg (loopRg s i) (fun x => { x with thaw := if x.thaw.contains i then x.thaw else x.thaw ++ [i] }) else s
  | .mod =>
    let j := (w.loc.off - F.MOD_REF.off) / 4
    if w.is F.LOAD_ALL then loadAll (getBits w.act 0 8) (getBits w.act 8 8) s
    else if F.MOD_REF.off ≤ w.loc.off && (slotOwner s j).isNone then { s with slotVals := tset (fun _ => 0#32) s.slotVals j w.new }
    else s
  | .port =>
    let on (d : Dev) : Bool := d.gb (bPort i) F.LNK_PCFG_EN
    if w.is F.LNK_PCFG && on s != on old then portEnable i (on s) s else s
  | _ => s

/-- The outcome of CLK_CMD (R546, R549, R559). -/
def clkCommand (w : Wr) (s : Dev) : Dev :=
  let s := s.on (w.one F.CLK_CMD_APPLY) clkApply
  let s := s.on (w.one F.CLK_CMD_SYNC_ARM) clkSyncArm
  s.on (w.one F.CLK_CMD_RELOCK) clkRelock

/-- What a write does beyond the stored word, in the other windows. -/
def writeEffect2 (w : Wr) (old s : Dev) : Dev :=
  let i := w.loc.idx
  match w.loc.fam with
  | .sens =>
    if w.is F.ADC_INJ_REQ && w.one F.ADC_INJ_REQ_GO then injRequest s
    else if w.is F.ADC_CAL_REQ then (calRequest (getBits w.act 0 16) s).2
    else if w.is F.ADC_INJ_STATUS && w.one F.ADC_INJ_STATUS_FULL then s.p bSens F.ADC_INJ_STATUS_LOST 0
    else s
  | .sd => if w.is F.SD_CFG && s.gb (bSd i) F.SD_CFG_EN && !old.gb (bSd i) F.SD_CFG_EN then sdEnable i s else s
  | .flt =>
    if w.is F.FAULT_CLEAR && w.one F.FAULT_CLEAR_GO then
      let f (x : Fld) : Nat := getBits w.act x.lo x.w
      if f F.FAULT_CLEAR_TARGET = 3 then s.p bFlt F.FAULT_CLEAR_RESULT 0x0105
      else faultClear (f F.FAULT_CLEAR_SOURCE) (w.one F.FAULT_CLEAR_ALL) (f F.FAULT_CLEAR_TARGET) s
    else if w.is F.FAULT_PIN_CTRL then releasePin (s.pb bFlt F.FAULT_PIN_CTRL_WRITTEN true)
    else if w.is F.FLT_FIFO_POP && w.one F.FLT_FIFO_POP_POP then fifoPop s
    else if w.is F.FLT_TEST && s.gb bFlt F.FLT_TEST_CAUSE != old.gb bFlt F.FLT_TEST_CAUSE then cause 0x1FF 0x11FF (s.gb bFlt F.FLT_TEST_CAUSE) s
    else if w.is F.TRC_CTRL && w.one F.TRC_CTRL_TRIG then traceTrigger none s
    else s
  | .fltPol => s.post .ride
  | .clk =>
    if w.is F.CLK_CMD then clkCommand w s
    else if w.is F.CLK_SEL then selChanged s
    else if w.is F.CLK_REFA then (if srcEnabled s 0 then goodFrom 0 s else loseQual 0 s)
    else if w.is F.CLK_REFB then (if srcEnabled s 1 then goodFrom 1 s else loseQual 1 s)
    else s
  | .tb =>
    if w.is F.TB_CTRL && w.one F.TB_CTRL_STEP then tbStep s
    else if w.is F.TB_CFG && s.g bTb F.TB_CFG_SRC != old.g bTb F.TB_CFG_SRC then srcChanged s
    else s
  | .can => if w.is F.CAN_CTRL && w.one F.CAN_CTRL_RECOVER then (canRecover i s).2 else s
  | .obj =>
    if w.is F.OBJ_CMD then
      let s := s.on (w.one F.OBJ_CMD_ABORT) (objAbort i)
      if w.one F.OBJ_CMD_REQ then (objReq i s).2 else s
    else s
  | .pwr =>
    if w.is F.PWR_REQ then pwrRequest (s.g bPwr F.PWR_REQ_TARGET) (wake 3 s)
    else if w.is F.PWR_AVS && s.gb bPwr F.PWR_AVS_MODE then setVdd (2 * s.g bPwr F.PWR_AVS_VFIX) s
    else s
  | _ => s

/-- A class C register of the clock window is written while the device is disabled: the change of frequency it asks for is made at once (R111, R546, R547). A value out of range is kept for the device check to refuse. -/
def clockShadow (w : Wr) (s : Dev) : Nat × Dev :=
  let t := s.wr w.addr w.new
  let r := clkChange (t.rd (bClk + F.CLK_VCO_OFS.off)) (t.rd (bClk + F.CLK_DIV.off)) t
  if r.1 = 0x0905 || r.1 = 0x0908 then (0, t.wrF w.addr w.new)
  else if r.1 != 0 then (r.1, s.p bClk F.CLK_RESULT_REASON r.1)
  else (0, r.2)

/-- Store the word: the shadow, and with a disabled owner the value in force (R111, R112). -/
def storeWord (via : Via) (r : RegD) (w : Wr) (s : Dev) : Nat × Dev :=
  if r.cls == .c && !ownerEnabled s w.loc then
    if via != .record && w.loc.fam == .clk then clockShadow w s else (0, (s.wr w.addr w.new).wrF w.addr w.new)
  else
    let t := s.wr w.addr w.new
    let loop (d : Dev) : Bool := d.gb bClk F.CLK_CFG_LOOP
    (0, t.on (via != .record && w.loc.fam == .clk && loop t != loop s) startHop)

/-- A write that the bus has passed on to its register: the reason of a refusal, 0 for none, and the module. -/
def regWrite (via : Via) (r : RegD) (w : Wr) (mask : Word) (s : Dev) : Nat × Dev :=
  if r.cls == .s && ownerEnabled s w.loc then (0x0310, s)
  else
    let why := if valueReason1 w s != 0 then valueReason1 w s else valueReason2 w s
    if why != 0 then (why, s)
    else
      match enableOf w with
      | some o =>
        let e := if via == .record || getBits mask 0 1 = 0 then (0, s) else enableWrite o (getBits w.new 0 1 == 1) s
        if e.1 != 0 then e
        else
          let s := e.2.wr w.addr (putBits w.new 0 1 (getBits (e.2.rd w.addr) 0 1))
          (0, writeEffect2 w s s)
      | none =>
        let t := storeWord via r w s
        if t.1 != 0 then t else (0, writeEffect2 w s (writeEffect1 w s t.2))

/-- One register write (R108 to R119): the reason of a refusal, 0 for none, and the module. A submission of CMD_OP is left to the mailbox. -/
def writeDev (via : Via) (a : Nat) (v mask : Word) (s : Dev) : Nat × Dev :=
  let l := locate a
  let why := busReason via l a s
  if why != 0 then (why, s)
  else
    match l with
    | some ⟨fam, idx, off, some r⟩ =>
      let old := s.rd a
      let w : Wr := { loc := ⟨fam, idx, off, some r⟩, b := a - off, k := (off - r.off) / 4, old := old, new := merge r old v mask, act := v &&& mask }
      regWrite via r w mask s
    | _ => (0x0111, s)

/-- Record a refused write (R119). -/
def noteRefused (a reason : Nat) (s : Dev) : Dev :=
  let s := (s.wr (bDev + F.DEV_WR_ADDR.off) (w32 a)).p bDev F.DEV_WR_REASON_REASON reason
  let s := s.on (!s.ms.wrRead) (fun s => s.pb bDev F.DEV_WR_REASON_LOST true)
  { s.irq F.DEV_IRQ_STATUS_WR_REFUSED with ms := { s.ms with wrRead := false } }

/-- A host write: refused ones are recorded (R119). -/
def hostWriteDev (p : Path) (a : Nat) (v : Word) (s : Dev) : Nat × Dev :=
  let r := writeDev (.host p) a v 4294967295#32 s
  (r.1, if r.1 = 0 then r.2 else noteRefused a r.1 r.2)

/-! ### Reads with a side effect (R119, R490, R569, R605, R679) -/

/-- What a read does before the word is taken: TB_NS and OBJ_RXINFO latch. -/
def readBefore (a : Nat) (s : Dev) : Dev :=
  match locate a with
  | some ⟨.tb, _, off, some _⟩ => if off = F.TB_NS.off then latchTime s else s
  | some ⟨.obj, i, off, some _⟩ => if off = F.OBJ_RXINFO.off then latchRx i s else s
  | _ => s

/-- What a read does after the word is taken: DEV_WR_REASON counts as read, TRC_READ.ADDR advances while the trace is frozen. -/
def readAfter (a : Nat) (s : Dev) : Dev :=
  if a = bDev + F.DEV_WR_REASON.off then { s with ms := { s.ms with wrRead := true } }
  else if a = bFlt + F.TRC_DATA.off && s.g bFlt F.TRC_STATUS_STATE == 3 then
    s.p bFlt F.TRC_READ_ADDR ((s.g bFlt F.TRC_READ_ADDR + 4) % max 1 (ringBytes s))
  else s

/-- A register read of the host (R672, R674): the word and the state. In ROM hold only the windows of R49 are offered; the rest reads 0. -/
def hostReadWord (a : Nat) (s : State) : Word × State :=
  if romHold s.d && !romMay a then (0#32, s)
  else
    let s := { s with d := readBefore a s.d }
    (shown s a, { s with d := readAfter a s.d })

end Sys2Proof.Machine
end

