-- ==== Sys2Proof/Machine/Mailbox.lean ====
section
/-! DEFINITION. The mailbox and its executor (R94 to R107, R692, R693), RELOAD (R57) and the end of a command (R101). -/

namespace Sys2Proof.Machine

/-! ### RELOAD -/

/-- Disable whatever is enabled of a list of objects. -/
def disableAll (l : List Obj) (s : Dev) : Dev := s.each (l.filter s.enabled) (fun o d => enableEffect o false (d.setEnabled o false))

/-- Every sub-object with an enable bit of its own. -/
def subObjects : List Obj :=
  [.ptp, .trace] ++ (upto 8).map Obj.tpo ++ (upto 512).map Obj.obj ++ (upto 2).map Obj.can ++ (upto 8).map Obj.rg ++ (upto 8).map Obj.aux

/-- Every slot of the four kinds (R86). -/
def allSlots : List Obj := (upto 8).map Obj.string ++ (upto 2048).map Obj.loop ++ (upto 96).map Obj.node ++ (upto 16).map Obj.profile

/-- RELOAD discards every object and disables what is left; generations stay (R57, R89). The other windows keep their registers (DEDUCED, log entry 25). -/
def discardAll (s : Dev) : Dev :=
  let s := { s with ms := { s.ms with checking := none, checks := [] } }
  let s := disableAll subObjects (s.setEnabled .device false)
  s.each (allSlots.filter s.occupied) (fun o d => freeSlot o (enableEffect o false (d.setEnabled o false)))

/-- RELOAD (R51, R55, R57, R688): the reason, and the block. A choice that falls back to another firmware, or that runs one where ROM hold ran none, differs from the running firmware and makes a warm reset (DESIGN CHOICE, log entry 94); RELOAD tests the mode before the busy background command (log entry 88). -/
def reload (a0 : Word) (s : State) : Nat × State :=
  let d := s.d
  if !(d.mode == .hold || romHold d) then (0x0214, s)
  else if imgBusy d then (0x0213, s)
  else
    let skip := getBits a0 0 1 == 1
    let was := d.img.runFw
    let d := enterMode .load 0x00 (discardAll (closeSess (fun _ => true) (setRole .out d)))
    let d := d.pb bImg F.IMG_STATUS_WARM_RESET false
    let e := chooseImages s.nv { d with img := { d.img with skipHalf := skip } }
    if !romHold e && e.img.runFw != was then
      let r := resetDev 2 true (d.pb bImg F.IMG_STATUS_WARM_RESET true)
      (0, startRom { s with d := { r with img := { r.img with skipHalf := skip } } })
    else (0, { s with d := e })

/-! ### The commands -/

/-- What a submission answers: the reason, the arguments written on success, the slot held, whether it is a background command, and the block. -/
structure CmdOut where
  reason : Nat
  res : List (Nat × Word)
  lock : Option Obj
  bg : Bool
  s : State

/-- An outcome that changes the module only. -/
def cmdDev (s : State) (r : Nat × Dev) : CmdOut := ⟨r.1, [], none, false, { s with d := r.2 }⟩

/-- An outcome of a background command (R51). -/
def cmdBg (s : State) (r : Nat × Dev) : CmdOut := { cmdDev s r with bg := true }

/-- An outcome that may change slot memory and OTP. -/
def cmdNv (s : State) (r : Nat × Nv × Dev) : CmdOut := ⟨r.1, [], none, false, { s with nv := r.2.1, d := r.2.2 }⟩

/-- The slot that an object command names (R101). -/
def slotOfArg (w : Word) : Option Obj := objOf (getBits w 28 4) (getBits w 0 16)

/-- OBJ_WRITE (R94 to R97). -/
def objWrite (a0 a1 a2 a3 : Word) (s : Dev) : Nat × Dev :=
  let h := openHandle s a0 none
  if h.1 != 0 then (h.1, s)
  else match blockAddr h.2 a1.toNat with
    | none => (0x0105, s)
    | some a => writeDev .cmd a a2 a3 s

/-- OBJ_READ (R94): the reason, and the word. -/
def objRead (a0 a1 : Word) (s : State) : Nat × Word :=
  let h := openHandle s.d a0 none
  if h.1 != 0 then (h.1, 0#32)
  else match blockAddr h.2 a1.toNat with
    | none => (0x0105, 0#32)
    | some a => (0, shown s a)

/-- PROT_SELFTEST (R404). -/
def selfTestSubmit (a0 a1 : Word) (s : Dev) : Nat × Dev :=
  let h := openHandle s a0 (some 2)
  if h.1 != 0 then (h.1, s) else selfTestCmd h.2.idx (getBits a1 0 12) (getBits a1 16 4) s

/-- RESET (R693): a warm reset with cause 3. -/
def resetCmd (s : State) : Nat × State :=
  if s.d.mode == .hold || romHold s.d then (0, warmReset 3 s) else (0x0109, s)

/-- The object commands are refused in LOAD and in ROM hold (R100). -/
def objectMode (s : Dev) : Bool := !(s.mode == .load || romHold s)

/-- Carry out an object command, opcodes 0x10 to 0x14 (R94). -/
def objectCmd (op : Nat) (a0 a1 a2 a3 : Word) (s : State) : CmdOut :=
  if !objectMode s.d then cmdDev s (0x0109, s.d)
  else match op with
    | 0x10 => let r := objCreate a0 s.d; ⟨r.1, [(0, handleOf r.2.2 r.2.1)], some r.2.1, false, { s with d := r.2.2 }⟩
    | 0x11 => let r := objDestroy a0 s.d; ⟨r.1, [], slotOfArg a0, false, { s with d := r.2.2 }⟩
    | 0x12 => let r := objLookup a0 s.d; ⟨r.1, [(0, r.2.2)], some r.2.1, false, s⟩
    | 0x13 => { cmdDev s (objWrite a0 a1 a2 a3 s.d) with lock := slotOfArg a0 }
    | _ => let r := objRead a0 a1 s; ⟨r.1, [(2, r.2)], slotOfArg a0, false, { s with d := s.d }⟩

/-- The opcodes of R692. -/
def opcodes : List Nat := (upto 9).map (· + 1) ++ (upto 5).map (· + 0x10) ++ (upto 4).map (· + 0x20) ++ [0x28] ++ (upto 4).map (· + 0x30) ++ [0x38, 0x3F]

/-- The commands of ROM hold (R49). -/
def romCommand (op : Nat) : Bool := [1, 2, 3, 4, 5, 0x3F].contains op

/-- The commands of a STANDBY module (R513). -/
def standbyCommand (op : Nat) : Bool := (1 ≤ op && op ≤ 9) || (0x30 ≤ op && op ≤ 0x33)

/-- The pair commands as the standby takes them from the mirror (R511, R528): a switch-over raised at the active module, a resync of this one. -/
def mirroredPair (op : Nat) (s : Dev) : Nat × Dev :=
  match op with
  | 0x30 => (0, decide_ true false s)
  | 0x31 => (0, decide_ true true s)
  | 0x33 => (0, beginResync s)
  | _ => (0, s)

/-- Carry out a command (R692). `mirror`: it comes from the active module (R511). -/
def runCommand (mirror lmp : Bool) (op : Nat) (a0 a1 a2 a3 : Word) (s : State) : CmdOut :=
  let d := s.d
  if !opcodes.contains op then cmdDev s (0x0103, d)
  else if romHold d && !romCommand op then cmdDev s (0x0109, d)
  else if !mirror && d.role == .standby && !standbyCommand op then cmdDev s (0x0D01, d)
  else if mirror && 0x30 ≤ op && op ≤ 0x33 then cmdDev s (mirroredPair op d)
  else match op with
    | 0x01 => let r := reload a0 s; ⟨r.1, [], none, false, r.2⟩
    | 0x02 => cmdBg s (bankErase a0 d)
    | 0x03 => cmdBg s (bankWrite a0 a1 a2 d)
    | 0x04 => cmdBg s (bankSeal a0 d)
    | 0x05 => cmdBg s (nvReadCmd a0 a1 d)
    | 0x06 => cmdNv s (enrol lmp s.nv d)
    | 0x07 => cmdNv s (revoke lmp s.nv d)
    | 0x08 => cmdNv s (rollbackCommit a0 s.nv d)
    | 0x09 => cmdDev s (attest s.nv d)
    | 0x20 => cmdDev s (cellOut a0 a1 d)
    | 0x21 => cmdDev s (cellIn a0 a1 d)
    | 0x22 => cmdDev s (cellPrecharge a0 a1 d)
    | 0x23 => cmdDev s (cellSwap a0 a1 a2 d)
    | 0x28 => cmdDev s (selfTestSubmit a0 a1 d)
    | 0x30 => cmdDev s (pairSwitch d)
    | 0x31 => cmdDev s (pairOut d)
    | 0x32 => cmdDev s (pairJoin d)
    | 0x33 => cmdDev s (pairResync d)
    | 0x38 => cmdDev s (locateCmd a0 d)
    | 0x3F => let r := resetCmd s; ⟨r.1, [], none, false, r.2⟩
    | _ => objectCmd op a0 a1 a2 a3 s

/-! ### The executor -/

/-- CMD_RESULT when a command ends (R107, R690). -/
def publishResult (op : Nat) (lmp : Bool) (reason : Nat) (s : Dev) : Dev :=
  let s := (((s.p bDev F.CMD_RESULT_REASON reason).p bDev F.CMD_RESULT_BUSY 0).p bDev F.CMD_RESULT_DONE 1).pb bDev F.CMD_RESULT_VIA_LMP lmp
  (s.p bDev F.CMD_RESULT_OP op).irq F.DEV_IRQ_STATUS_CMD_DONE

/-- A reply of LMP (R682, R685): bit 7 of the type, STATUS and three reserved bytes, then the body; it is kept for a repeated request (R684). -/
def lmpReply (num : BitVec 16) (type status : Nat) (body : List Byte) (s : Dev) : Dev :=
  let s := lmpPush num (type + 0x80) (leBytes 1 status ++ leBytes 3 0 ++ body) s
  { s with hs := { s.hs with sess := s.hs.sess.map (fun x => if x.num == num then { x with cache := s.hs.out.getLast? } else x) } }

/-- The arguments of a command after it has ended. -/
def argsAfter (c : CmdRun) : List Word := (upto 4).map (fun k => match c.res.find? (fun w => w.1 == k) with | some w => if c.reason = 0 then w.2 else c.args.getD k 0#32 | none => c.args.getD k 0#32)

/-- The reply to a COMMAND of LMP (R685): CMD_RESULT and the four arguments. -/
def commandReply (c : CmdRun) (s : Dev) : Dev :=
  match c.sess with
  | none => s
  | some n =>
    lmpReply n 0x13 (if c.reason = 0 then 0 else 4) (leBytes 4 (s.rd (bDev + F.CMD_RESULT.off)).toNat ++ (argsAfter c).flatMap (fun w => leBytes 4 w.toNat)) s

/-- The results of a command submitted over SPI stand in the argument registers. -/
def writeArgs (c : CmdRun) (s : Dev) : Dev :=
  if c.lmp || c.reason != 0 then s else s.each c.res (fun w d => d.wr (bDev + F.CMD_ARG.off + 4 * w.1) w.2)

/-- A command ends: results, CMD_RESULT, reply; the executor and the slot are free (R101, R107). -/
def endCommand (c : CmdRun) (s : Dev) : Dev :=
  let s := publishResult c.op c.lmp c.reason (writeArgs c { s with ms := { s.ms with cmd := none } })
  commandReply c s

/-- A command begins to execute (R101, R107). -/
def beginCommand (c : CmdRun) (s : Dev) : Dev :=
  let s := { s with ms := { s.ms with cmd := some c } }
  (((s.p bDev F.CMD_RESULT_REASON 0).p bDev F.CMD_RESULT_BUSY 1).pb bDev F.CMD_RESULT_VIA_LMP c.lmp).p bDev F.CMD_RESULT_OP c.op

/-- IMG_NONCE is renewed after every ENROL or REVOKE, accepted or refused (R47). -/
def afterAnchor (op : Nat) (s : State) : State := if op = 6 || op = 7 then { s with d := renewNonce s.d } else s

/-- Submit a command (R102 to R106): the reason of a refusal that no CMD_RESULT reports (0x0104), else 0. A refused and a background command end at once (DEDUCED, log entry 26); any other runs until its end. A command that resets the module leaves nothing of itself. -/
def submit (lmp : Bool) (sess : Option (BitVec 16)) (op : Nat) (a0 a1 a2 a3 : Word) (s : State) : Nat × State :=
  if s.d.ms.cmd.isSome then (0x0104, afterAnchor op s)
  else
    let r := runCommand false lmp op a0 a1 a2 a3 s
    let r := { r with s := afterAnchor op r.s }
    let c : CmdRun := { op := op, lmp := lmp, reason := r.reason, res := r.res, lock := r.lock, sess := sess, args := [a0, a1, a2, a3] }
    if r.s.d.img.boots != s.d.img.boots then (0, r.s.run id)
    else (0, r.s.run (if r.bg || r.reason != 0 then endCommand c else beginCommand c))

/-- The command that executes completes (R101). -/
def commandEnd (s : Dev) : Dev := match s.ms.cmd with | none => s | some c => endCommand c s

end Sys2Proof.Machine
end

