-- ==== Sys2Proof/Machine/Start.lean ====
section
/-! DEFINITION. The CONFIG image in application (R36 to R39): records, enable requests, the end of LOAD. -/

namespace Sys2Proof.Machine

/-- The object whose enable bit a record word would set (R38), with the address of the word. -/
def requestOf (a : Nat) (v : Word) : Option Obj :=
  match locate a with
  | some ⟨fam, idx, off, some r⟩ =>
    if getBits v 0 1 = 1 then enableOf { loc := ⟨fam, idx, off, some r⟩, b := a - off, k := (off - r.off) / 4, old := v, new := v, act := v } else none
  | _ => none

/-- Note an enable request (R38). -/
def noteRequest (o : Obj) (s : Dev) : Dev :=
  if s.img.requests.contains o then s else { s with img := { s.img with requests := s.img.requests ++ [o] } }

/-- Apply one word of a record: the target's reason, and the module. A word that writes 0 to an enable field withdraws no request noted before (DESIGN CHOICE, log entry 93). -/
def applyWord (type idx : Nat) (w : Nat × Word) (s : Dev) : Nat × Dev :=
  match recTarget type idx w.1 with
  | none => (0x0111, s)
  | some a =>
    let r := writeDev .record a w.2 4294967295#32 s
    if r.1 != 0 then r else (0, match requestOf a w.2 with | some o => noteRequest o r.2 | none => r.2)

/-- The CREATE and ENABLE flags of a record (R35, R38, R98). -/
def applyFlags (r : CfgRec) (s : Dev) : Nat × Dev :=
  match recObj r.type r.idx with
  | none => (0, s)
  | some o =>
    if r.create && s.occupied o then (0x0307, s)
    else
      let s := if r.create then createSlot o s else s
      (0, if r.enable then noteRequest o s else s)

/-- Apply the words of a record up to the first refused one. -/
def applyWords (type idx : Nat) : List (Nat × Word) → Dev → Nat × Dev
  | [], s => (0, s)
  | w :: t, s => let r := applyWord type idx w s; if r.1 != 0 then r else applyWords type idx t r.2

/-- Apply records up to the first refusal: the reason, the section type, the module (R36, R37). -/
def applyRecs : List CfgRec → Dev → Nat × Nat × Dev
  | [], s => (0, 0, s)
  | r :: t, s =>
    let f := applyFlags r s
    if f.1 != 0 then (f.1, r.type, f.2)
    else
      let w := applyWords r.type r.idx r.words f.2
      if w.1 != 0 then (w.1, r.type, w.2) else applyRecs t w.2

/-- The CONFIG image of the chosen bank is applied (R36 to R38, R48, R716); then the root PLL starts. A refused write ends LOAD with 0x0210. -/
def configApply (s : State) : State :=
  match s.d.img.applyBank with
  | none => s
  | some b =>
    if s.d.gb bImg F.IMG_STATUS_CFG_APPLIED then s
    else
      let r := applyRecs (configRecs s.nv.mem b) s.d
      let d := startPll r.2.2
      if r.1 != 0 then
        let d := ((d.p bImg F.IMG_CHECK_REASON 0x0210).p bImg F.IMG_DETAIL_TARGET_REASON r.1).p bImg F.IMG_DETAIL_SECTION r.2.1
        { s with d := endLoad s.nv.mem d }
      else
        let h := imgHeader s.nv.mem b .config
        let d := (d.pb bImg F.IMG_STATUS_CFG_APPLIED true).p bImg F.IMG_RUN_SEQ_SEQ (hdSeq h)
        { s with d := { d with img := { d.img with runCfg := h, startCharge := fieldLE h 0x98 1 == 1 } } }

/-- Try to enable an object at the end of LOAD; an object that is enabled already is left. -/
def tryEnable (o : Obj) (s : Dev) : Nat × Dev := if s.enabled o then (0, s) else finishCheck o s

/-- Enable a list of objects in order; true: one was refused. -/
def enableList : List Obj → Dev → Bool × Dev
  | [], s => (false, s)
  | o :: t, s =>
    let r := tryEnable o s
    let u := enableList t r.2
    (r.1 != 0 || u.1, u.2)

/-- One pass of R39 step 4: the objects to be tried again, whether one was refused for good, whether one was enabled, the module. -/
def enablePass : List Obj → Dev → List Obj × Bool × Bool × Dev
  | [], s => ([], false, false, s)
  | o :: t, s =>
    let r := tryEnable o s
    let u := enablePass t r.2
    if r.1 = 0 then (u.1, u.2.1, true, u.2.2.2)
    else if r.1 = 0x030A || r.1 = 0x0603 || r.1 = 0x0620 then (o :: u.1, u.2)
    else (u.1, true, u.2.2)

/-- The passes of R39 step 4, until one enables nothing new; true: something is left refused. -/
def enablePasses : Nat → List Obj → Dev → Bool × Dev
  | 0, l, s => (!l.isEmpty, s)
  | n + 1, l, s =>
    let r := enablePass l s
    if r.1.isEmpty then (r.2.1, r.2.2.2)
    else if !r.2.2.1 then (true, r.2.2.2)
    else
      let u := enablePasses n r.1 r.2.2.2
      (r.2.1 || u.1, u.2)

/-- The requests for objects of one kind in ascending index. -/
def requested (s : Dev) (l : List Obj) : List Obj := l.filter s.img.requests.contains

/-- R39 step 1: every enabled port is READY and every node channel to be enabled reads PARAM_OK, or 50 ms have passed since the root PLL locked. -/
def startReady (s : Dev) : Bool :=
  ((upto 96).all (fun p => !s.gb (bPort p) F.LNK_PCFG_EN || (s.port p).st == .ready) &&
    (upto 96).all (fun n => !s.img.requests.contains (.node n) || s.gb (bNode n) F.NODE_STATE_PARAM_OK))
  || s.img.lockAt.any (fun t => t + 12500000 ≤ s.tick)

/-- The enable requests are carried out (R39): profiles, node channels, strings; auxiliary pairs; rate groups and loops in passes; trace, CAN, message objects, PTP, timed outputs; the device. LOAD ends in HOLD. -/
def enableRequests (s : State) : State :=
  let d := s.d
  if d.img.applyBank.isNone || !d.gb bImg F.IMG_STATUS_CFG_APPLIED || !startReady d then s
  else
    let any := !d.img.requests.isEmpty
    let first := requested d ((upto 16).map Obj.profile ++ (upto 96).map Obj.node ++ (upto 8).map Obj.string ++ (upto 8).map Obj.aux)
    let loops := requested d ((upto 8).map Obj.rg ++ (upto 2048).map Obj.loop)
    let last := requested d ([.trace] ++ (upto 2).map Obj.can ++ (upto 512).map Obj.obj ++ [.ptp] ++ (upto 8).map Obj.tpo ++ [.device])
    let a := enableList first d
    let b := enablePasses (loops.length + 1) loops a.2
    let c := enableList last b.2
    let bad := a.1 || b.1 || c.1
    let d := c.2.on any (fun d => d.irq F.DEV_IRQ_STATUS_CHECK)
    let d := d.on bad (fun d => d.p bImg F.IMG_CHECK_REASON 0x021D)
    { s with d := endLoad s.nv.mem { d with img := { d.img with requests := [], enableRefused := bad } } }

end Sys2Proof.Machine
end

