-- ==== Sys2Proof/Machine/Host.lean ====
section
/-! DEFINITION. The host paths (R672 to R688): the SPI target, the sessions and messages of LMP, ARP and ICMP, and what the mirror applies (R511). -/

namespace Sys2Proof.Machine

/-! ### One register access from a host path -/

/-- One register write of a host path (R102, R105, R119): refused or not, and the block. A write of CMD_OP submits a command. -/
def busWrite (p : Path) (a : Nat) (v : Word) (s : State) : Nat × State :=
  let opReg := bDev + F.CMD_OP.off
  if a = opReg ∧ busReason (.host p) (locate a) a s.d = 0 then
    let arg (k : Nat) : Word := s.d.rd (bDev + F.CMD_ARG.off + 4 * k)
    let r := submit false none (getBits v 0 16) (arg 0) (arg 1) (arg 2) (arg 3) s
    (r.1, if r.1 = 0 then r.2 else r.2.run (noteRefused a r.1))
  else
    let r := hostWriteDev p a v s.d
    (r.1, s.run (fun _ => r.2))

/-- The words of one WRITE at advancing addresses (R676, R686): the reasons in order, and the block. The address has 24 bits on the SPI. -/
def busWrites (p : Path) : Nat → List Word → State → List Nat × State
  | _, [], s => ([], s)
  | a, v :: t, s =>
    let r := busWrite p a v s
    let u := busWrites p (match p with | .spi => (a + 4) % 0x1000000 | .lmp => a + 4) t r.2
    (r.1 :: u.1, u.2)

/-- Words read from an address, advancing by `step` (R676, R685). -/
def busReads (step : Nat) : Nat → Nat → State → List Word × State
  | 0, _, s => ([], s)
  | n + 1, a, s =>
    let r := hostReadWord a s
    let u := busReads step n ((a + step) % 0x100000000) r.2
    (r.1 :: u.1, u.2)

/-! ### The SPI target (R676 to R680) -/

/-- The MGMT domain is changing or has gone (R630, R678). -/
def mgmtMoves (s : Dev) : Bool := pwrTrans s && (s.pwr.agents.head? == some 5 || (s.pwr.done.contains 5 && pwrTarget s == 3))

/-- READY for a transaction; `a`: the address of a READ (R678). -/
def spiReady (a : Option Nat) (s : Dev) : Bool :=
  !(pwrState s == 3) && !mgmtMoves s && !(match a with | some x => romHold s && !romMay x | none => false)

/-- HS_IRQ_N is asserted (R680). -/
def irqAsserted (s : Dev) : Bool := Nat.land (s.rd (bDev + F.DEV_IRQ_STATUS.off)).toNat (s.rd (bDev + F.DEV_IRQ_MASK.off)).toNat != 0

/-- The status byte (R677). -/
def statusByte (a : Option Nat) (s : Dev) : Nat :=
  b2n (spiReady a s) + 2 * b2n s.hs.refused + 4 * b2n s.hs.addrErr + 8 * b2n (irqAsserted s)
    + 16 * s.g bDev F.DEV_IRQ_STATUS_RESET + 32 * s.g bDev F.CMD_RESULT_BUSY

/-- Every SPI transaction wakes a module in DOZE or SLEEP (R626, R634) and drops what earlier commands sent. -/
def spiBegin (s : State) : State := s.upd (wake 3)

/-- Note how a transaction ended. -/
def spiNote (f : HostSt → HostSt) (s : State) : State := { s with d := { s.d with hs := f s.d.hs } }

/-- A STATUS transaction. -/
def spiStatusOp (s : State) : State :=
  let b := statusByte none s.d
  let ready := spiReady none s.d
  spiNote (fun h => { h with spiStatus := b, spiOut := [], addrErr := if ready then false else h.addrErr }) (spiBegin s)

/-- The LMP writes that waited for an SPI write to the same register are applied once no such write waits (R118). -/
def applyLater (s : State) : State :=
  let go := s.d.hs.later.filter (fun w => !spiWaits s.pending w.1)
  let s := spiNote (fun h => { h with later := h.later.filter (fun w => spiWaits s.pending w.1) }) s
  go.foldl (fun s w => (busWrite .lmp w.1 w.2 s).2) s

/-- The words of a WRITE, with a partial word at its end or without one (R674, R676). -/
def spiWriteWords (a : Nat) (ws : List Word) (partWord : Bool) (s : State) : State :=
  let ready := spiReady none s.d
  let s := spiBegin s
  if !ready then s
  else if a % 4 != 0 then spiNote (fun h => { h with addrErr := true, refused := false }) s
  else
    let r := busWrites .spi a ws s
    spiNote (fun h => { h with addrErr := partWord, refused := r.1.any (· != 0) }) r.2

/-- A WRITE over the SPI, and the LMP writes of the same tick that it goes before (R118). -/
def spiWrite (a : Nat) (ws : List Word) (partWord : Bool) (s : State) : State :=
  let t := spiWriteWords a ws partWord s
  if s.d.hs.later.isEmpty then t else applyLater t

/-- READ or READ_FIXED of n words (R674, R676, R678, R679). A READ fetches one word more than it shifts out. -/
def spiReadOp (fixed : Bool) (a n : Nat) (s : State) : State :=
  let ready := spiReady (some a) s.d
  let b := statusByte (some a) s.d
  let s := spiNote (fun h => { h with spiStatus := b, spiOut := [] }) (spiBegin s)
  if !ready then s
  else if a % 4 != 0 then spiNote (fun h => { h with addrErr := true, spiOut := List.replicate n 0#32 }) s
  else
    let r := busReads (if fixed then 0 else 4) (if fixed then n else n + 1) a s
    spiNote (fun h => { h with addrErr := false, spiOut := r.1.take n }) r.2

/-- A transaction with an opcode that is none (R676). -/
def spiBadOp (s : State) : State :=
  let ready := spiReady none s.d
  let s := spiBegin s
  if ready then spiNote (fun h => { h with addrErr := true }) s else s

/-- LMP runs (R49, R681). -/
def lmpRuns (s : Dev) : Bool := s.rd (bDev + F.LMP_IP.off) != 0#32 && netOn s && mgmtOn s && s.shed < 2 && !romHold s

/-- A register write on either path: one WRITE of the SPI, or one word that an LMP WRITE brings to the register bus. Where LMP does not run, nothing comes by it; where an SPI write to the same register falls into the same tick, the LMP write waits for it (R118). -/
def hostWrite (p : Path) (a : Nat) (v : Word) (s : State) : State :=
  match p with
  | .spi => spiWrite a [v] false s
  | .lmp =>
    if a % 4 != 0 || !lmpRuns s.d then s.upd id
    else if spiWaits s.pending a then spiNote (fun h => { h with later := h.later ++ [(a, v)] }) (s.upd id)
    else (busWrite .lmp a v (s.upd id)).2

/-- A register read on either path whose side effect is wanted once (R679). -/
def hostRead (p : Path) (a : Nat) (s : State) : State :=
  match p with
  | .spi => spiReadOp true a 1 s
  | .lmp => let s := s.upd id; if a % 4 != 0 || !lmpRuns s.d then s else (hostReadWord a s).2

/-- A mailbox command: the SPI writes CMD_ARG0 to CMD_ARG3 and CMD_OP in one WRITE (R102); over LMP opcode and arguments come together. -/
def mailbox (p : Path) (op : Nat) (a0 a1 a2 a3 : Word) (s : State) : State :=
  match p with
  | .spi => spiWrite (bDev + F.CMD_ARG.off) [a0, a1, a2, a3, w32 op] false s
  | .lmp => if lmpRuns s.d then (submit true none op a0 a1 a2 a3 (s.upd id)).2 else s.upd id

/-! ### LMP (R681 to R688) -/

/-- The header bytes of R682. -/
def lmpHeader (type : Nat) (sess : BitVec 16) (len : Nat) (seq : Nat) : List Byte :=
  [0x4C#8, 0x4D#8, 0x01#8, BitVec.ofNat 8 type] ++ leBytes 2 sess.toNat ++ leBytes 2 len ++ leBytes 4 seq

/-- TAG: the first 16 bytes of the HMAC over header and body (R684). -/
def lmpTag (key : BitVec 256) (bytes : List Byte) : BitVec 128 := BitVec.ofNat 128 ((Sys2Proof.Config.hmac key bytes).toNat / 2 ^ 384)

def Dev.setHs (s : Dev) (f : HostSt → HostSt) : Dev := { s with hs := f s.hs }

/-- Change one session. -/
def setSess (num : BitVec 16) (f : Sess → Sess) (s : Dev) : Dev := s.setHs (fun h => { h with sess := h.sess.map (fun x => if x.num == num then f x else x) })

/-- A datagram is dropped and counted (R684). -/
def lmpDrop (s : Dev) : Dev := s.inc bDev F.LMP_STATUS_DROPPED

/-- Take a datagram of a session (R684): dropped, answered again from the cache, or carried out once by `act`. -/
def lmpTake (h : LmpHdr) (type : Nat) (body : List Byte) (act : State → State) (s : State) : State :=
  let s := s.upd id
  let d := s.d
  if !lmpRuns d then s
  else match d.hs.sess.find? (fun x => x.num == h.sess) with
    | none => s.run lmpDrop
    | some x =>
      if lmpTag x.key (lmpHeader type h.sess body.length h.seq.toNat ++ body) != h.tag || h.seq.toNat < x.seqIn then s.run lmpDrop
      else
        let s := s.run (fun d => wake 4 (setSess h.sess (fun x => { x with heard := d.tick }) d))
        if h.seq.toNat = x.seqIn then s.run (fun d => d.setHs (fun y => { y with out := y.out ++ x.cache.toList }))
        else
          let s := s.run (setSess h.sess (fun x => { x with seqIn := h.seq.toNat, cache := none }))
          if mgmtMoves s.d then s.run (lmpReply h.sess type 3 []) else act s

/-- OPEN_REQ: a challenge with a nonce (R683). -/
def lmpOpenReq (s : Dev) : Dev :=
  if !lmpRuns s then s
  else
    let r := s.draw 256
    r.2.setHs (fun h => { h with
      chal := h.chal ++ [(r.1, s.tick)],
      out := h.out ++ [{ sess := none, type := 0x82, seq := 0, body := leBytes 4 0 ++ leBytes 32 r.1.toNat }] })

/-- A session number that is not 0 and not in use, free otherwise. -/
def freeSession (s : Dev) (n : BitVec 16) : BitVec 16 :=
  let used (m : BitVec 16) : Bool := m == 0#16 || s.hs.sess.any (fun x => x.num == m)
  if used n then (((upto 6).map (fun k => BitVec.ofNat 16 (k + 1))).find? (fun m => !used m)).getD n else n

/-- OPEN (R683, R688). -/
def lmpOpen (o : LmpOpen) (nv : Nv) (s : Dev) : Dev :=
  if !lmpRuns s then s
  else
    let fresh := s.hs.chal.any (fun c => c.1 == o.nonce && decide (s.tick ≤ c.2 + 1250000000))
    let s := s.setHs (fun h => { h with chal := h.chal.filter (fun c => c.1 != o.nonce && decide (s.tick ≤ c.2 + 1250000000)) })
    let msg := beBytes 32 o.nonce.toNat ++ leBytes 1 o.slot.val ++ beBytes 32 o.x25519.toNat
    let good := fresh && o.slot.val < 4 && nv.otp.state o.slot.val == .enrolled && keyHash (beBytes 32 o.owner.toNat) == nv.otp.hash o.slot.val
      && Sys2Proof.Config.ed25519Verify o.owner msg o.sig
    if !good then s
    else if s.g bDev F.LMP_CFG_MAXSESS ≤ s.hs.sess.length then
      s.setHs (fun h => { h with out := h.out ++ [{ sess := none, type := 0x84, seq := 0, body := leBytes 1 2 ++ leBytes 3 0 }] })
    else
      let r := s.draw 16
      let num := freeSession s r.1
      let pub := Sys2Proof.Config.x25519Public s.free
      let keys := beBytes 32 o.x25519.toNat ++ beBytes 32 pub.toNat
      let k := (Sys2Proof.Config.sha512 (beBytes 32 (Sys2Proof.Config.x25519 s.free o.x25519).toNat ++ beBytes 32 o.nonce.toNat ++ keys)).toNat / 2 ^ 256
      let sig := Sys2Proof.Config.ed25519Sign (keys ++ leBytes 2 num.toNat)
      let x : Sess := { num := num, slot := o.slot.val, key := BitVec.ofNat 256 k, seqIn := 0, seqOut := 0, cache := none, alarms := false, trace := false, heard := s.tick }
      r.2.setHs (fun h => { h with
        sess := h.sess ++ [x],
        out := h.out ++ [{ sess := some num, type := 0x84, seq := 0,
                           body := leBytes 4 0 ++ leBytes 2 num.toNat ++ beBytes 32 pub.toNat ++ beBytes 64 sig.toNat }] })

/-- READ and READ_FIXED over LMP (R674, R685, R686). -/
def lmpReadAct (num : BitVec 16) (fixed : Bool) (a n : Nat) (s : State) : State :=
  let type := if fixed then 0x11 else 0x10
  if a % 4 != 0 || n < 1 || 256 < n then s.run (lmpReply num type 1 [])
  else
    let r := busReads (if fixed then 0 else 4) n a s
    r.2.run (lmpReply num type 0 (r.1.flatMap (fun w => leBytes 4 w.toNat)))

/-- WRITE over LMP (R674, R686): words accepted, byte offset and reason of the first refused one. -/
def lmpWriteAct (num : BitVec 16) (a : Nat) (ws : List Word) (s : State) : State :=
  if a % 4 != 0 || ws.length < 1 || 256 < ws.length then s.run (lmpReply num 0x12 1 [])
  else
    let r := busWrites .lmp a ws s
    let ok := (r.1.filter (· == 0)).length
    let first := findIdx (fun x => x != 0) r.1 0
    let body := leBytes 2 ok ++ leBytes 2 (4 * first.getD 0) ++ leBytes 2 (match first with | some k => r.1.getD k 0 | none => 0)
    r.2.run (lmpReply num 0x12 (if first.isSome then 4 else 0) body)

/-- COMMAND over LMP (R104, R105, R685, R686). -/
def lmpCommandAct (num : BitVec 16) (op : Nat) (a0 a1 a2 a3 : Word) (s : State) : State :=
  let r := submit true (some num) op a0 a1 a2 a3 s
  if r.1 = 0 then r.2 else r.2.run (lmpReply num 0x13 4 (leBytes 2 r.1))

/-- SUBSCRIBE (R685, R687). -/
def lmpSubscribeAct (num : BitVec 16) (alarms trace : Bool) (s : Dev) : Dev :=
  let s := setSess num (fun x => { x with alarms := alarms, trace := trace }) s
  let s := s.setHs (fun h => { h with traceTo := if trace then some num else if h.traceTo == some num then none else h.traceTo })
  lmpReply num 0x20 0 [] s

/-- ALARM_ACK (R687): the session has received the alarm. -/
def lmpAlarmAckAct (num : BitVec 16) (rseq : Nat) (s : Dev) : Dev :=
  let q := s.flt.lmpQ.map (fun a => if a.fr.rseq % 4294967296 == rseq then { a with waits := a.waits.filter (fun n => n != num) } else a)
  { s with flt := { s.flt with lmpQ := q.filter (fun a => !a.waits.isEmpty) } }

/-- An unacknowledged alarm is sent again every 100 ms, or closes its sessions after 5 s (R687). -/
def lmpAlarmRepeat (rseq : Nat) (s : Dev) : Dev :=
  match s.flt.lmpQ.find? (fun a => a.fr.rseq == rseq) with
  | none => s
  | some a =>
    if a.since + 1250000000 ≤ s.tick then closeSess (fun x => a.waits.contains x.num) s
    else if !lmpRuns s || s.tick < a.sent + 25000000 then s
    else
      let q := s.flt.lmpQ.map (fun y => if y.fr.rseq == rseq then { y with sent := s.tick } else y)
      { s with flt := { s.flt with lmpQ := q } }.each a.waits (fun n d => lmpPush n 0x21 (recBytes a.fr) d)

/-- CLOSE (R685, R688). -/
def lmpCloseAct (num : BitVec 16) (s : Dev) : Dev := closeSess (fun x => x.num == num) (lmpReply num 0x31 0 [] s)

/-- A session has been silent for LMP_CFG.IDLE seconds (R687). -/
def lmpIdle (num : BitVec 16) (s : Dev) : Dev :=
  closeSess (fun x => x.num == num && decide (x.heard + s.g bDev F.LMP_CFG_IDLE * 250000000 ≤ s.tick)) s

/-- ARP for LMP_IP (R681): the answer names the MAC address and the IP address. -/
def arpRequest (ip : Word) (s : Dev) : Dev :=
  if lmpRuns s && ip == s.rd (bDev + F.LMP_IP.off) then s.setHs (fun h => { h with netOut := some (leBytes 6 Sys2Proof.Config.mac.toNat ++ leBytes 4 ip.toNat) })
  else s

/-- An ICMP echo request (R681): its payload is sent back. -/
def icmpEcho (ip : Word) (payload : List Byte) (s : Dev) : Dev :=
  if lmpRuns s && ip == s.rd (bDev + F.LMP_IP.off) then s.setHs (fun h => { h with netOut := some payload }) else s

/-! ### The mirror -/

/-- A mirrored write or command is applied at the standby (R511). -/
def mirrorWrite (x : MirrorOp) (s : State) : State :=
  if !s.d.follows then s
  else match x with
    | .write a v => s.upd (fun d => (writeDev .mirror a v 4294967295#32 d).2)
    | .command op args =>
      let arg (k : Nat) : Word := args.getD k 0#32
      ((runCommand true false op (arg 0) (arg 1) (arg 2) (arg 3) (s.upd id)).s).run id

end Sys2Proof.Machine
end

