-- ==== Sys2Proof/WellFormed.lean ====
section
/-! DEFINITION. Which operands describe something the hardware can see: every field of a frame within its width, no list longer than its frame. -/

namespace Sys2Proof.Machine

/-- A signed number of w bits. -/
def inSigned (w : Nat) (v : Int) : Bool := decide (-(2 ^ (w - 1) : Int) ≤ v) && decide (v < (2 ^ (w - 1) : Int))

/-- The fields of an RPT payload (R255). -/
def RptBody.wf (b : RptBody) : Bool :=
  b.sampleTime < 16777216 && b.page < 256 && b.valid < 4294967296 && b.nodeTerm < 4294967296 && inSigned 16 b.ofs
    && b.errP < 256 && b.errQ < 256 && b.values.length == 26 && b.values.all (inSigned 32)

/-- The fields of an echo entry (R259). -/
def Echo.wf (e : Echo) : Bool := e.leg < 8 && e.state < 4 && e.dir < 4 && inSigned 8 e.execErr && e.body < 65536 && e.time < 65536

/-- The fields of an event entry (R263). -/
def EvtEntry.wf (e : EvtEntry) : Bool :=
  e.code < 65536 && e.sw < 16 && e.leg < 8 && e.eseq < 256 && e.time < 16777216 && e.count < 256 && e.data.length == 8

/-- The entries of an ECHO frame (R258). -/
def echoesWf (es : List Echo) : Bool := es.length ≤ 18 && es.all Echo.wf

/-- The entries of an EVT frame (R263). -/
def eventsWf (es : List EvtEntry) : Bool := es.length ≤ 7 && es.all EvtEntry.wf

/-- The identity bytes that a report CAL carries (R265). -/
def identWf (l : List Byte) : Bool := l.length == 64

/-- The identity of a node: the bytes 0x000 to 0x1FF of its parameter space (R288). -/
def nodeIdentWf (l : List Byte) : Bool := l.length == 512

/-- What a frame that carries edges has (R229 to R231): TYPE 1, its SIDE bytes and at most 24 edges; what a frame that carries a segment of a message alone has (R216, R284): TYPE 3, no edge and at most 118 bytes. -/
def CmdFrame.shape (f : CmdFrame) : Bool :=
  if f.type = 3 then f.side.length ≤ 118 && f.rep.isEmpty && f.new.isEmpty
  else f.type == 1 && f.side.length ≤ 6 && f.rep.length + f.new.length ≤ 24

/-- The fields of a frame that a node takes commands from (R229 to R231, R284). -/
def CmdFrame.wf (f : CmdFrame) : Bool :=
  f.shape && f.seq < 512 && f.term < 4294967296 && f.fenceNew < 128 && f.fenceRep < 128 && f.hor < 16777216 && f.perAB < 16777216
    && f.perCF < 16777216

/-- The fields of a management message (R283). -/
def Msg.wf (m : Msg) : Bool := m.tid < 256 && m.op < 256 && m.addr < 4294967296 && m.len < 65536 && m.data.length ≤ 248

/-- The sample a node sends (R255). -/
def Sample.wf (m : Sample) : Bool := m.valid < 67108864 && m.values.length == 26 && m.values.all (inSigned 32)

/-- One value for each of the 16 SAR channels (R426). -/
def sarWf (vs : List Int) : Bool := vs.length == 16

/-- A CAN frame (R603, R604): identifier, DLC and data agree. -/
def CanFrame.wf (f : CanFrame) : Bool :=
  f.id < (if f.ide then 536870912 else 2048) && f.dlc < 16 && !(f.rtr && f.fdf) && !(f.brs && !f.fdf)
    && f.data.length == (if f.rtr then 0 else dlcLen f.dlc f.fdf)

/-- The fields of a PTP header (IEEE 1588-2019, R577). -/
def PtpHdr.wf (h : PtpHdr) : Bool :=
  h.domain < 256 && h.sdo < 4096 && h.srcPort < 65536 && h.seq < 65536 && inSigned 64 h.corr && inSigned 8 h.logIntv

/-- The fields of an Announce (R583). -/
def AnnBody.wf (a : AnnBody) : Bool :=
  a.prio1 < 256 && a.clockClass < 256 && a.accuracy < 256 && a.variance < 65536 && a.prio2 < 256 && a.steps < 65536

end Sys2Proof.Machine

open Sys2Proof.Machine

/-- The operands of a command describe something the hardware can see. -/
def Sys2Proof.Instr.wf : Instr → Bool
  | .rptFrame _ _ b => b.wf
  | .echoFrame _ _ _ es => echoesWf es
  | .evtFrame _ _ _ es => eventsWf es
  | .reportCalFrame _ _ ident _ => identWf ident
  | .nodeCmdFrame _ _ f _ => f.wf
  | .nodeReportSlot _ _ m => m.wf
  | .nodePowerUp _ ident => nodeIdentWf ident
  | .nodeMgmtMessage _ _ m => m.wf
  | .sarSample vs => sarWf vs
  | .ptpSync h _ => h.wf
  | .ptpFollowUp h _ => h.wf
  | .ptpAnnounce h a => h.wf && a.wf
  | .ptpDelayResp h _ _ => h.wf
  | .ptpTcForward h _ _ => h.wf
  | .canRxFrame _ f _ => f.wf
  | .ptpDelayReqRx h _ => h.wf
  | _ => true
end

