-- ==== Sys2Proof/Machine/Pins.lean ====
section
/-! DEFINITION. How a command changes the whole state, and the small events of pins, heartbeat and indicators. -/

namespace Sys2Proof.Machine

/-! ### How a command changes the state -/

/-- A command with an effect on the module and on the non-volatile memories. -/
def State.updNv (s : State) (f : Nv → Dev → Nv × Dev) : State :=
  let r := f s.nv { s.d with hs := { s.d.hs with out := [] } }
  { s with nv := r.1 }.run (fun _ => r.2)

/-- A command with an effect on the whole block. -/
def State.updAll (s : State) (f : State → State) : State := (f (s.upd id)).run id

/-- The effect of a command on the node at the far end of a port. -/
def State.updFar (s : State) (p : Nat) (f : FarSt → FarSt) : State := s.upd (fun d => d.setFar p f)

/-- An event whose operands the hardware can see has its effect; any other stops the machine. -/
def checked (ok : Bool) (s : State) : Host.Outcome State Fault Refusal := if ok then .next s else .fault .malformedOperand

/-- A tick of CLK_TIME (R4, R568): the tick count and the time value advance, and what was said of the present tick no longer holds (R76). -/
def idleTick (s : State) : State := { s with d := tickUp { s.d with ms := { s.d.ms with changed := false } } }

/-! ### Pins and indicators -/

/-- CAN_STBY: HIGH puts the transceivers in standby (R620); none while it floats (R660). -/
def canStby (s : Dev) : Option Bool :=
  if floats s .canStby then none
  else some <| s.mode == .load || s.role == .out || pwrState s ≥ 2 || !(s.enabled (.can 0) || s.enabled (.can 1))

/-- T_MINPULSE ends (R479): FAULT_N goes on as CTRL gives, or stays asserted while nothing has written it. -/
def minPulseEnd (s : Dev) : Dev := if s.flt.pinMin.any (· ≤ s.tick) then releasePin { s with flt := { s.flt with pinMin := none } } else s

/-- HB_OUT toggles every 256 ticks while the core clock runs and both lockstep pairs agree (R509). -/
def heartbeatToggle (s : Dev) : Dev :=
  if pwrState s == 3 || s.gb bSs F.SS_HEALTH_LOCKSTEP || s.tick < s.pair.hbAt + 256 then s
  else s.setPair (fun p => { p with hbOut := !p.hbOut, hbAt := s.tick })

/-- HB_IN has shown no edge for 750 ticks, or shows one (R509). -/
def heartbeat (ok : Bool) (s : Dev) : Dev :=
  if ok then checkPeer ((s.pb bSs F.SS_STATUS_HB_OK true).setPair (fun p => { p with hbIn := s.tick }))
  else if s.tick < s.pair.hbIn + 750 then s else checkPeer (s.pb bSs F.SS_STATUS_HB_OK false)

/-- A lane of the pair link goes out of use or comes into use (R509, R529): a lane lost that was in use fails the self-test LANES, and the last lost one back passes it. -/
def laneMoved (l : Nat) (up : Bool) (s : Dev) : Dev :=
  let was := bitOf s.pair.lanes l
  let s := (setLane l up s).setPair (fun p => { p with lostLanes := bitPut p.lostLanes l (!up && (was || bitOf p.lostLanes l)) })
  if was && !up then selfTest 5 true s else if up && s.gb bSs F.SS_HEALTH_LANES && s.pair.lostLanes == 0 then selfTest 5 false s else s

/-- A lane of the pair link is lost, or with its LINK domain on comes into use (R509, R625). -/
def pairLane (l : Nat) (up : Bool) (s : Dev) : Dev := if up && !linkOn s then s else checkPeer (laneMoved l up s)

/-- The indicator test ends 500 ms after power-good (R670). -/
def lampEnd (s : Dev) : Dev := if 125000000 ≤ s.upTicks then { s with box := { s.box with lamp := false } } else s

/-- REMOVE stops flashing 5 s after EJECT_REFUSED was set (R670). -/
def refusedFlashEnd (s : Dev) : Dev := if s.box.refusedFlash.any (· ≤ s.tick) then { s with box := { s.box with refusedFlash := none } } else s

/-! ### Plain frames at a node -/

/-- A command CAL frame at the node (R220, R266): a node whose counter is set owes one report CAL. -/
def FarSt.calFrame (x : FarSt) (l : Lane) (seq arr : Nat) : FarSt :=
  let r := x.frame l seq arr
  { r.1 with oweCal := r.1.oweCal || (r.2 && x.set) }

/-- A command frame at the node that carries neither edges nor training (R220): it sets or keeps the counter's phase. -/
def FarSt.idleFrame (x : FarSt) (l : Lane) (seq arr : Nat) : FarSt := (x.frame l seq arr).1

end Sys2Proof.Machine
end

