-- ==== Sys2Proof/Machine/CmdBalance.lean ====
section
/-! DEFINITION. The meanings of the commands of cell changes: one definition a command. -/

namespace Sys2Proof.Machine

/-- CELL_OUT (R364): The command requests a cell change removing an ACTIVE position. -/
def execCellOut (p : Path) (a0 : Word) (a1 : Word) (a2 : Word) (a3 : Word) (s : State) : Host.Outcome State Fault Refusal :=
  .next (mailbox p 0x20 a0 a1 a2 a3 s)

/-- CELL_IN (R364): The command requests a cell change restoring a BYPASSED position. -/
def execCellIn (p : Path) (a0 : Word) (a1 : Word) (a2 : Word) (a3 : Word) (s : State) : Host.Outcome State Fault Refusal :=
  .next (mailbox p 0x21 a0 a1 a2 a3 s)

/-- CELL_PRECHARGE (R365): The command blocks a bypassed cell so the string current charges it. -/
def execCellPrecharge (p : Path) (a0 : Word) (a1 : Word) (a2 : Word) (a3 : Word) (s : State) : Host.Outcome State Fault Refusal :=
  .next (mailbox p 0x22 a0 a1 a2 a3 s)

/-- CELL_PRECHARGE_FAIL (R365): Without the window reached within PRE_TMO the device bypasses the cell and raises CELL_PRECHARGE_FAIL. -/
def execCellPrechargeFail (i : Fin 8) (k : Fin 32) (s : State) : Host.Outcome State Fault Refusal := .next (s.upd (prechargeFail i.val k.val))

/-- CELL_SWAP (R366): The command writes a new node channel into a BYPASSED position. -/
def execCellSwap (p : Path) (a0 : Word) (a1 : Word) (a2 : Word) (a3 : Word) (s : State) : Host.Outcome State Fault Refusal :=
  .next (mailbox p 0x23 a0 a1 a2 a3 s)

end Sys2Proof.Machine
end

