-- ==== Sys2Proof/Machine/CmdCan.lean ====
section
/-! DEFINITION. The meanings of the commands of the CAN FD controllers: one definition a command. -/

namespace Sys2Proof.Machine

/-- CAN_RX_FRAME (R603): A valid received frame is stored in the lowest matching receive object. -/
def execCanRxFrame (c : Fin 2) (f : CanFrame) (stamp : Word) (s : State) : Host.Outcome State Fault Refusal :=
  checked (f.wf) (s.upd (canRx c.val f stamp))

/-- CAN_TX_START (R606): Before each start of frame the controller chooses the PENDING object of lowest arbitration field. -/
def execCanTxStart (c : Fin 2) (s : State) : Host.Outcome State Fault Refusal := .next (s.upd (canTxStart c.val))

/-- CAN_TX_END (R608): An attempt ends in success, error, lost arbitration or conflict and updates the object. -/
def execCanTxEnd (c : Fin 2) (x : CanEnd) (tdcv : Option (BitVec 7)) (s : State) : Host.Outcome State Fault Refusal :=
  .next (s.upd (canTxEnd c.val x (tdcv.map (·.toNat))))

/-- CAN_RECOVER (R612): A write of CAN_CTRL.RECOVER starts bus-off recovery. -/
def execCanRecover (p : Path) (c : Fin 2) (v : Word) (s : State) : Host.Outcome State Fault Refusal :=
  .next (hostWrite p (bCan c.val + F.CAN_CTRL.off) v s)

/-- CAN_RECOVERY_END (R612): After 128 recessive sequences recovery ends and the held object is sent first. -/
def execCanRecoveryEnd (c : Fin 2) (s : State) : Host.Outcome State Fault Refusal := .next (s.upd (canRecoveryEnd c.val))

/-- OBJ_CMD_REQ (R606): A write of OBJ_CMD.REQ makes a transmit object PENDING. -/
def execObjCmdReq (p : Path) (o : Fin 512) (v : Word) (s : State) : Host.Outcome State Fault Refusal :=
  .next (hostWrite p (bObj o.val + F.OBJ_CMD.off) v s)

/-- OBJ_CMD_ABORT (R607): A write of OBJ_CMD.ABORT clears a pending or held request. -/
def execObjCmdAbort (p : Path) (o : Fin 512) (v : Word) (s : State) : Host.Outcome State Fault Refusal :=
  .next (hostWrite p (bObj o.val + F.OBJ_CMD.off) v s)

/-- OBJ_DATA_WRITE (R607): A write of OBJ_DATA to an object is accepted or refused by its state. -/
def execObjDataWrite (p : Path) (o : Fin 512) (w : Fin 16) (v : Word) (s : State) : Host.Outcome State Fault Refusal :=
  .next (hostWrite p (bObj o.val + F.OBJ_DATA.off + 4 * w.val) v s)

/-- OBJ_RXINFO_READ (R605): A read of OBJ_RXINFO latches the data, length and time stamp of the stored frame. -/
def execObjRxinfoRead (p : Path) (o : Fin 512) (s : State) : Host.Outcome State Fault Refusal := .next (hostRead p (bObj o.val + F.OBJ_RXINFO.off) s)

/-- CAN_ERROR_FRAME (R610): A receive error, error frame or protocol exception occurs on a CAN bus, updating REC and the error state. -/
def execCanErrorFrame (c : Fin 2) (x : CanErr) (s : State) : Host.Outcome State Fault Refusal := .next (s.upd (canError c.val x))

/-- MIRROR_CAN_ATTEMPT (R618): The standby applies the mirrored end of a CAN transmit attempt of the active module to the same object. -/
def execMirrorCanAttempt (o : Fin 512) (x : CanEnd) (busOff : Bool) (s : State) : Host.Outcome State Fault Refusal :=
  .next (s.upd (mirrorCan o.val x busOff))

end Sys2Proof.Machine
end

