-- ==== Sys2Proof/Machine/CmdClock.lean ====
section
/-! DEFINITION. The meanings of the commands of reference, root PLL and clock tree: one definition a command. -/

namespace Sys2Proof.Machine

/-- REF_EDGE_MISSING (R551): MISS missing reference edges drop qualification and put the PLL in holdover, raising REF_LOSS. -/
def execRefEdgeMissing (x : Fin 2) (s : State) : Host.Outcome State Fault Refusal := .next (s.upd (loseQual x.val))

/-- REF_FREQ_MEASURE (R538): Each 1 ms measurement of a source against the TCXO may drop its qualification. -/
def execRefFreqMeasure (x : Fin 2) (ppb : Int) (s : State) : Host.Outcome State Fault Refusal := .next (s.upd (refMeasure x.val ppb))

/-- REF_QUALIFIED (R538): A source that has met its conditions for QUAL ms becomes qualified. -/
def execRefQualified (x : Fin 2) (s : State) : Host.Outcome State Fault Refusal := .next (s.upd (refQualified x.val))

/-- CLK_SEL (R539): A write of CLK_SEL may change the source in use through holdover and return. -/
def execClkSel (p : Path) (v : Word) (s : State) : Host.Outcome State Fault Refusal := .next (hostWrite p (bClk + F.CLK_SEL.off) v s)

/-- CLK_APPLY (R546): A write of CLK_CMD.APPLY brings VCO offset and divider shadows into force by glide or hop. -/
def execClkApply (p : Path) (s : State) : Host.Outcome State Fault Refusal :=
  .next (hostWrite p (bClk + F.CLK_CMD.off) (w32 (2 ^ F.CLK_CMD_APPLY.lo)) s)

/-- CLK_SYNC_ARM (R559): A write of CLK_CMD.SYNC_ARM arms a divider restart on the next CLKSYNC_IN edge. -/
def execClkSyncArm (p : Path) (s : State) : Host.Outcome State Fault Refusal :=
  .next (hostWrite p (bClk + F.CLK_CMD.off) (w32 (2 ^ F.CLK_CMD_SYNC_ARM.lo)) s)

/-- CLK_RELOCK (R549): A write of CLK_CMD.RELOCK starts a hop to the frequency in force. -/
def execClkRelock (p : Path) (s : State) : Host.Outcome State Fault Refusal :=
  .next (hostWrite p (bClk + F.CLK_CMD.off) (w32 (2 ^ F.CLK_CMD_RELOCK.lo)) s)

/-- GLIDE_END (R548): A glide reaches its new feedback word. -/
def execGlideEnd (s : State) : Host.Outcome State Fault Refusal := .next (s.upd (glideEnd))

/-- HOP_LOCK (R549): A hop locks and the dividers and core return to the PLL, links resuming. -/
def execHopLock (temp : BitVec 16) (found : Fin 64) (tune : Bool) (s : State) : Host.Outcome State Fault Refusal :=
  .next (s.upd (hopLock temp.toInt found.val tune))

/-- HOP_TIMEOUT (R549): A hop not locked in 10 ms leaves the core on Onyx and raises PLL_UNLOCK. -/
def execHopTimeout (s : State) : Host.Outcome State Fault Refusal := .next (s.upd (hopTimeout))

/-- BUILD_OUT (R553): When a source is to be used after holdover its phase is taken as build-out and the loop glides to it. -/
def execBuildOut (phase : Int) (s : State) : Host.Outcome State Fault Refusal := .next (s.upd (buildOut phase))

/-- PLL_LOCKED (R554): Phase error within 1 ft for 64 periods sets STATE LOCKED. -/
def execPllLocked (tune : Bool) (s : State) : Host.Outcome State Fault Refusal := .next (s.upd (pllLocked tune))

/-- PLL_UNLOCK (R557): Phase error beyond 64 ft for 16 periods moves the core to Onyx and raises PLL_UNLOCK. -/
def execPllUnlock (s : State) : Host.Outcome State Fault Refusal := .next (s.upd (pllUnlock))

/-- OVERSPEED (R542): CLK_CORE above its limit is moved to Onyx and PLL_UNLOCK is raised. -/
def execOverspeed (s : State) : Host.Outcome State Fault Refusal := .next (s.upd (overspeed))

/-- CLKSYNC_IN_EDGE (R561): A CLKSYNC_IN edge restarts the dividers after SYNC_ARM or adjusts the standby build-out. -/
def execClksyncInEdge (e : Int) (s : State) : Host.Outcome State Fault Refusal := .next (s.upd (syncEdge e))

end Sys2Proof.Machine
end

