-- ==== Sys2Proof/Machine/CmdFaults.lean ====
section
/-! DEFINITION. The meanings of the commands of faults, FAULT_N and trace: one definition a command. -/

namespace Sys2Proof.Machine

/-- FAULT_WINDOW_CLOSE (R471): A source's counting window closes, resetting COUNT and returning an ACTIVE source to IDLE if its cause is inactive. -/
def execFaultWindowClose (n : Fin 512) (s : State) : Host.Outcome State Fault Refusal := .next (s.upd (closeWindow n.val))

/-- HOLDOFF_END (R483): A holdoff ends and writes a COALESCED record if events were suppressed. -/
def execHoldoffEnd (n : Fin 512) (s : State) : Host.Outcome State Fault Refusal := .next (s.upd (endHold n.val))

/-- FAULT_CLEAR (R496): A write of FAULT_CLEAR with GO is tested and clears the named sources, sending CLEAR_LATCH where needed. -/
def execFaultClear (p : Path) (v : Word) (s : State) : Host.Outcome State Fault Refusal := .next (hostWrite p (bFlt + F.FAULT_CLEAR.off) v s)

/-- FAULT_PIN_CTRL (R479): A write of FAULT_PIN_CTRL sets WRITTEN and selects how FAULT_N behaves after its minimum pulse. -/
def execFaultPinCtrl (p : Path) (v : Word) (s : State) : Host.Outcome State Fault Refusal := .next (hostWrite p (bFlt + F.FAULT_PIN_CTRL.off) v s)

/-- MINPULSE_END (R479): T_MINPULSE ends and FAULT_N follows CTRL or stays asserted. -/
def execMinpulseEnd (s : State) : Host.Outcome State Fault Refusal := .next (s.upd (minPulseEnd))

/-- FLT_FIFO_POP (R487): A write of FLT_FIFO_POP removes the oldest fault record. -/
def execFltFifoPop (p : Path) (v : Word) (s : State) : Host.Outcome State Fault Refusal := .next (hostWrite p (bFlt + F.FLT_FIFO_POP.off) v s)

/-- FLT_TEST (R470): A write of FLT_TEST.CAUSE sets or ends the HOST_TEST cause. -/
def execFltTest (p : Path) (v : Word) (s : State) : Host.Outcome State Fault Refusal := .next (hostWrite p (bFlt + F.FLT_TEST.off) v s)

/-- TRC_TRIG (R489): A write of TRC_CTRL.TRIG triggers the armed trace. -/
def execTrcTrig (p : Path) (v : Word) (s : State) : Host.Outcome State Fault Refusal := .next (hostWrite p (bFlt + F.TRC_CTRL.off) v s)

/-- TRC_DATA_READ (R490): A read of TRC_DATA returns a trace word and advances the read address. -/
def execTrcDataRead (p : Path) (s : State) : Host.Outcome State Fault Refusal := .next (hostRead p (bFlt + F.TRC_DATA.off) s)

end Sys2Proof.Machine
end

