-- ==== Sys2Proof/Machine/CmdGate.lean ====
section
/-! DEFINITION. The meanings of the commands of gate-drive supervision: one definition a command. -/

namespace Sys2Proof.Machine

/-- PROFILE_FIELD_WRITE (R381): A class L profile write takes effect in the device and clears PARAM_OK until the node commits it. -/
def execProfileFieldWrite (p : Path) (i : Fin 16) (w : Fin 16) (v : Word) (s : State) : Host.Outcome State Fault Refusal :=
  .next (hostWrite p (bProf i.val + 4 * w.val) v s)

/-- DESAT_ADAPT (R387): Every ADAPT_MS the device recomputes DESAT thresholds from junction temperature and sends changes. -/
def execDesatAdapt (s : State) : Host.Outcome State Fault Refusal := .next (s.upd (desatAdapt))

/-- RECOVERY_END (R390): After RECOV ms a node leaves recovery and is sent DESAT in RUN or RIDE. -/
def execRecoveryEnd (n : Fin 96) (s : State) : Host.Outcome State Fault Refusal := .next (s.upd (recoveryEnd n.val))

/-- PROT_SELFTEST (R404): The command starts a comparator self-test on undriven switches of a node. -/
def execProtSelftest (p : Path) (a0 : Word) (a1 : Word) (a2 : Word) (a3 : Word) (s : State) : Host.Outcome State Fault Refusal :=
  .next (mailbox p 0x28 a0 a1 a2 a3 s)

/-- START_STEP (R408): A protection start step of a node begins once the previous one has completed. -/
def execStartStep (n : Fin 96) (s : State) : Host.Outcome State Fault Refusal := .next (s.upd (startStep n.val))

/-- BS_PRECHARGE_TIMEOUT (R402): A bootstrap pre-charge incomplete 1 ms after its OFF edge is repeated once, then raises BOOTSTRAP_FAIL. -/
def execBsPrechargeTimeout (n : Fin 96) (s : State) : Host.Outcome State Fault Refusal := .next (s.upd (preChargeLate n.val))

/-- CHARGE_STEP_TIMEOUT (R410): String start steps still open after STEP_TMO raise CHARGE_STEP_TIMEOUT. -/
def execChargeStepTimeout (i : Fin 8) (s : State) : Host.Outcome State Fault Refusal := .next (s.upd (stepTimeout i.val))

end Sys2Proof.Machine
end

