-- ==== Sys2Proof/Machine/CmdHost.lean ====
section
/-! DEFINITION. The meanings of the commands of the host SPI and LMP: one definition a command. -/

namespace Sys2Proof.Machine

/-- SPI_STATUS (R677): A STATUS transaction returns the status byte. -/
def execSpiStatus (s : State) : Host.Outcome State Fault Refusal := .next (spiStatusOp s)

/-- SPI_WRITE (R676): A WRITE transaction applies its words in order as register writes. -/
def execSpiWrite (a : BitVec 24) (ws : List Word) (part : Bool) (s : State) : Host.Outcome State Fault Refusal := .next (spiWrite a.toNat ws part s)

/-- SPI_READ (R679): A READ transaction returns words from advancing addresses. -/
def execSpiRead (a : BitVec 24) (n : Nat) (s : State) : Host.Outcome State Fault Refusal := .next (spiReadOp false a.toNat n s)

/-- SPI_READ_FIXED (R676): A READ_FIXED transaction returns words from one address. -/
def execSpiReadFixed (a : BitVec 24) (n : Nat) (s : State) : Host.Outcome State Fault Refusal := .next (spiReadOp true a.toNat n s)

/-- LMP_OPEN_REQ (R683): An OPEN_REQ is answered with a CHALLENGE nonce. -/
def execLmpOpenReq (s : State) : Host.Outcome State Fault Refusal := .next (s.updAll (fun s => s.run lmpOpenReq))

/-- LMP_OPEN (R683): An OPEN is verified against an enrolled anchor and answered with OPEN_ACK and a session key. -/
def execLmpOpen (o : LmpOpen) (s : State) : Host.Outcome State Fault Refusal := .next (s.updAll (fun s => s.run (lmpOpen o s.nv)))

/-- LMP_READ (R685): An LMP READ returns words from advancing addresses. -/
def execLmpRead (h : LmpHdr) (a : Word) (n : BitVec 16) (s : State) : Host.Outcome State Fault Refusal :=
  .next (lmpTake h 0x10 (leBytes 4 a.toNat ++ leBytes 2 n.toNat) (lmpReadAct h.sess false a.toNat n.toNat) s)

/-- LMP_READ_FIXED (R685): An LMP READ_FIXED returns words from one address. -/
def execLmpReadFixed (h : LmpHdr) (a : Word) (n : BitVec 16) (s : State) : Host.Outcome State Fault Refusal :=
  .next (lmpTake h 0x11 (leBytes 4 a.toNat ++ leBytes 2 n.toNat) (lmpReadAct h.sess true a.toNat n.toNat) s)

/-- LMP_WRITE (R686): An LMP WRITE applies its words as separate register writes and reports refusals. -/
def execLmpWrite (h : LmpHdr) (a : Word) (ws : List Word) (s : State) : Host.Outcome State Fault Refusal :=
  .next (lmpTake h 0x12 (leBytes 4 a.toNat ++ ws.flatMap (fun w => leBytes 4 w.toNat)) (lmpWriteAct h.sess a.toNat ws) s)

/-- LMP_COMMAND (R686): An LMP COMMAND passes a mailbox command to the executor and replies with its result. -/
def execLmpCommand (h : LmpHdr) (op : BitVec 16) (a0 : Word) (a1 : Word) (a2 : Word) (a3 : Word) (s : State) : Host.Outcome State Fault Refusal :=
  .next (lmpTake h 0x13 (leBytes 2 op.toNat ++ leBytes 4 a0.toNat ++ leBytes 4 a1.toNat ++ leBytes 4 a2.toNat ++ leBytes 4 a3.toNat) (lmpCommandAct h.sess op.toNat a0 a1 a2 a3) s)

/-- LMP_SUBSCRIBE (R687): A SUBSCRIBE selects alarms and trace streaming for the session. -/
def execLmpSubscribe (h : LmpHdr) (alarms : Bool) (trace : Bool) (s : State) : Host.Outcome State Fault Refusal :=
  .next (lmpTake h 0x20 (leBytes 1 (b2n alarms + 2 * b2n trace)) (fun s => s.run (lmpSubscribeAct h.sess alarms trace)) s)

/-- LMP_ALARM_ACK (R687): An ALARM_ACK marks an alarm received by the session. -/
def execLmpAlarmAck (h : LmpHdr) (rseq : Word) (s : State) : Host.Outcome State Fault Refusal :=
  .next (lmpTake h 0x22 (leBytes 4 rseq.toNat) (fun s => s.run (lmpAlarmAckAct h.sess rseq.toNat)) s)

/-- LMP_ALARM_REPEAT (R687): An unacknowledged ALARM is repeated every 100 ms, and after 5 s the session closes. -/
def execLmpAlarmRepeat (rseq : Nat) (s : State) : Host.Outcome State Fault Refusal := .next (s.upd (lmpAlarmRepeat rseq))

/-- LMP_KEEPALIVE (R687): A KEEPALIVE keeps the session from idling out. -/
def execLmpKeepalive (h : LmpHdr) (s : State) : Host.Outcome State Fault Refusal :=
  .next (lmpTake h 0x30 ([]) (fun s => s.run (lmpReply h.sess 0x30 0 [])) s)

/-- LMP_CLOSE (R688): A CLOSE ends the session. -/
def execLmpClose (h : LmpHdr) (s : State) : Host.Outcome State Fault Refusal := .next (lmpTake h 0x31 ([]) (fun s => s.run (lmpCloseAct h.sess)) s)

/-- LMP_IDLE_TIMEOUT (R687): A session silent for IDLE seconds is closed. -/
def execLmpIdleTimeout (num : BitVec 16) (s : State) : Host.Outcome State Fault Refusal := .next (s.upd (lmpIdle num))

/-- ARP_REQUEST (R681): The management port answers ARP for LMP_IP. -/
def execArpRequest (ip : Word) (s : State) : Host.Outcome State Fault Refusal := .next (s.upd (arpRequest ip))

/-- ICMP_ECHO (R681): The management port answers an ICMP echo request. -/
def execIcmpEcho (ip : Word) (payload : List Byte) (s : State) : Host.Outcome State Fault Refusal := .next (s.upd (icmpEcho ip payload))

/-- SPI_BAD_OPCODE (R676): A host SPI transaction begins with an opcode not in the table and only sets ADDR_ERR. -/
def execSpiBadOpcode (s : State) : Host.Outcome State Fault Refusal := .next (spiBadOp s)

end Sys2Proof.Machine
end

