-- ==== Sys2Proof/Machine/CmdImage.lean ====
section
/-! DEFINITION. The meanings of the commands of start, images and security: one definition a command. -/

namespace Sys2Proof.Machine

/-- POWER_GOOD (R664): VHOLD has held at or above 17.5 V for 10 ms and PRESENT_N has held asserted for 50 ms; outputs are released and ROM starts the choice of images. -/
def execPowerGood (slot : Fin 64) (pref : Bool) (peer : Bool) (eject : Bool) (s : State) (mem : NvFit := .good) (otp : Bool := true) : Host.Outcome State Fault Refusal :=
  .next (s.updAll (powerGood slot.val pref peer eject mem otp))

/-- RESET_N_ASSERTED (R6): Assertion of RESET_N causes a warm reset that keeps RWS fields and restarts the choice of images. -/
def execResetNAsserted (s : State) : Host.Outcome State Fault Refusal := .next (s.updAll (resetN))

/-- CONFIG_APPLY (R36): Once the CONFIG image has been read and verified, its sections are applied in the fixed order with enable writes noted as requests. -/
def execConfigApply (s : State) : Host.Outcome State Fault Refusal := .next (s.updAll (configApply))

/-- ENABLE_REQUESTS (R39): After enabled ports are READY and parameters are committed, or 50 ms after lock, the device carries out the requested enables in order and ends LOAD. -/
def execEnableRequests (s : State) : Host.Outcome State Fault Refusal := .next (s.updAll (enableRequests))

/-- RELOAD (R57): The command discards run-time objects and repeats the choice of images, with a warm reset if the firmware differs. -/
def execReload (p : Path) (a0 : Word) (a1 : Word) (a2 : Word) (a3 : Word) (s : State) : Host.Outcome State Fault Refusal :=
  .next (mailbox p 1 a0 a1 a2 a3 s)

/-- BANK_ERASE (R52): The command starts a background erase of a bank, refused on the running bank outside HOLD and ROM hold. -/
def execBankErase (p : Path) (a0 : Word) (a1 : Word) (a2 : Word) (a3 : Word) (s : State) : Host.Outcome State Fault Refusal :=
  .next (mailbox p 2 a0 a1 a2 a3 s)

/-- BANK_WRITE (R53): The command starts a background program of IMG_BUF into a bank, writing BEGIN first after an erase and verifying by read-back. -/
def execBankWrite (p : Path) (a0 : Word) (a1 : Word) (a2 : Word) (a3 : Word) (s : State) : Host.Outcome State Fault Refusal :=
  .next (mailbox p 3 a0 a1 a2 a3 s)

/-- BANK_SEAL (R54): The command checks both images of a bank and writes the SEAL word only if both pass. -/
def execBankSeal (p : Path) (a0 : Word) (a1 : Word) (a2 : Word) (a3 : Word) (s : State) : Host.Outcome State Fault Refusal :=
  .next (mailbox p 4 a0 a1 a2 a3 s)

/-- NV_READ (R51): The command starts a background read of slot memory into IMG_BUF. -/
def execNvRead (p : Path) (a0 : Word) (a1 : Word) (a2 : Word) (a3 : Word) (s : State) : Host.Outcome State Fault Refusal :=
  .next (mailbox p 5 a0 a1 a2 a3 s)

/-- BACKGROUND_COMMAND_END (R51): Completion of a background slot-memory command sets IMG_OP_STATUS.DONE and its RESULT. -/
def execBackgroundCommandEnd (done : Nat) (fault : Bool) (s : State) : Host.Outcome State Fault Refusal := .next (s.updNv (bgEnd done fault))

/-- ENROL (R46): The command writes a new owner-anchor entry to slot memory and then the anchor hash and ENROLLED state to OTP, and renews the nonce. -/
def execEnrol (p : Path) (a0 : Word) (a1 : Word) (a2 : Word) (a3 : Word) (s : State) : Host.Outcome State Fault Refusal :=
  .next (mailbox p 6 a0 a1 a2 a3 s)

/-- REVOKE (R47): The command marks an ENROLLED anchor slot REVOKED if another slot stays ENROLLED, and renews the nonce. -/
def execRevoke (p : Path) (a0 : Word) (a1 : Word) (a2 : Word) (a3 : Word) (s : State) : Host.Outcome State Fault Refusal :=
  .next (mailbox p 7 a0 a1 a2 a3 s)

/-- ROLLBACK_COMMIT (R42): The command programs the OTP rollback counter to the target value if it is allowed. -/
def execRollbackCommit (p : Path) (a0 : Word) (a1 : Word) (a2 : Word) (a3 : Word) (s : State) : Host.Outcome State Fault Refusal :=
  .next (mailbox p 8 a0 a1 a2 a3 s)

/-- ATTEST (R60): The command writes a signed attestation report over the host nonce to IMG_ATTEST. -/
def execAttest (p : Path) (a0 : Word) (a1 : Word) (a2 : Word) (a3 : Word) (s : State) : Host.Outcome State Fault Refusal :=
  .next (mailbox p 9 a0 a1 a2 a3 s)

end Sys2Proof.Machine
end

