-- ==== Sys2Proof/Machine/CmdLink.lean ====
section
/-! DEFINITION. The meanings of the commands of the Golrus link at the device: one definition a command. -/

namespace Sys2Proof.Machine

/-- CMD_FRAME_START (R218): At each multiple of 512 ticks the device starts a command frame on every port, placing new and repeated edges, HOR and periods. -/
def execCmdFrameStart (s : State) : Host.Outcome State Fault Refusal := .next (s.upd (frameStart))

/-- RPT_FRAME (R255): A valid RPT frame delivers telemetry, term and error counts and a calibration sample. -/
def execRptFrame (p : Fin 96) (h : RptHdr) (b : RptBody) (s : State) : Host.Outcome State Fault Refusal :=
  checked (b.wf) (s.upd (reportFrame p.val h true (rptBody p.val b)))

/-- ECHO_FRAME (R262): A valid ECHO frame delivers echoes that are matched to sent edges. -/
def execEchoFrame (p : Fin 96) (h : RptHdr) (dropped : BitVec 8) (es : List Echo) (s : State) : Host.Outcome State Fault Refusal :=
  checked (echoesWf es) (s.upd (reportFrame p.val h true (echoBody p.val dropped.toNat es)))

/-- EVT_FRAME (R263): A valid EVT frame delivers node events for counting, reaction and acknowledgement. -/
def execEvtFrame (p : Fin 96) (h : RptHdr) (lost : BitVec 8) (es : List EvtEntry) (s : State) : Host.Outcome State Fault Refusal :=
  checked (eventsWf es) (s.upd (reportFrame p.val h true (evtBody p.val lost.toNat es)))

/-- REPORT_CAL_FRAME (R281): A valid report CAL frame delivers the node identity and counter state. -/
def execReportCalFrame (p : Fin 96) (h : RptHdr) (ident : List Byte) (set : Bool) (s : State) : Host.Outcome State Fault Refusal :=
  checked (identWf ident) (s.upd (reportFrame p.val h set (calBody p.val ident)))

/-- ERROR_SLOT (R719): A frame position of a locked receiver without a valid frame is counted by its cause and may end lock. -/
def execErrorSlot (p : Fin 96) (e : SlotError) (s : State) : Host.Outcome State Fault Refusal := .next (s.upd (errorSlot p.val e))

/-- CAL_BLOCK_END (R246): After 256 samples the device forms the delay estimate, updates d_app and judges calibration or instability. -/
def execCalBlockEnd (p : Fin 96) (s : State) : Host.Outcome State Fault Refusal := .next (s.upd (calBlockEnd p.val))

/-- PORT_UNREACHABLE (R277): With no valid frame in the last 3 report slots a port raises LINK_LOS and freezes d_app. -/
def execPortUnreachable (p : Fin 96) (s : State) : Host.Outcome State Fault Refusal := .next (s.upd (unreachable p.val))

/-- PORT_DOWN (R278): After 64 report slots without a valid frame the port enters DOWN. -/
def execPortDown (p : Fin 96) (s : State) : Host.Outcome State Fault Refusal := .next (s.upd (portDown p.val))

/-- PORT_TRAINING (R281): A DOWN port enters TRAINING after 16 consecutive valid report frames. -/
def execPortTraining (p : Fin 96) (s : State) : Host.Outcome State Fault Refusal := .next (s.upd (portTraining p.val))

/-- LNK_PCFG_WRITE (R280): A write of LNK_PCFG enables or disables a port, which starts training or turns it OFF. -/
def execLnkPcfgWrite (p : Path) (q : Fin 96) (v : Word) (s : State) : Host.Outcome State Fault Refusal :=
  .next (hostWrite p (bPort q.val + F.LNK_PCFG.off) v s)

/-- MGMT_TIMEOUT (R286): After MGMT_TIMEOUT frames without acknowledgement the message is resent or MGMT_TIMEOUT is raised. -/
def execMgmtTimeout (p : Fin 96) (s : State) : Host.Outcome State Fault Refusal := .next (s.upd (mgmtTimeout p.val))

end Sys2Proof.Machine
end

