-- ==== Sys2Proof/Machine/CmdLoops.lean ====
section
/-! DEFINITION. The meanings of the commands of rate groups and loops: one definition a command. -/

namespace Sys2Proof.Machine

/-- RG_FIRE (R297): A rate group fires at a carrier event, tracker sector change or fixed period, or counts an overrun if its previous firing is open. -/
def execRgFire (g : Fin 8) (s : State) : Host.Outcome State Fault Refusal := .next (s.upd (fire g.val))

/-- RG_LATCH (R299): At the latch instant the snapshot is latched and evaluation begins. -/
def execRgLatch (g : Fin 8) (s : State) : Host.Outcome State Fault Refusal := .next (s.upd (latchPair g.val))

/-- RG_EVAL_DONE (R343): The evaluations of a firing complete and RG_TIMING is updated. -/
def execRgEvalDone (g : Fin 8) (t : Nat) (s : State) : Host.Outcome State Fault Refusal := .next (s.upd (evalDone g.val t))

/-- RG_COMMIT_TICK (R300): At the commit tick outputs, state and slots are published and named strings and pairs are committed. -/
def execRgCommitTick (g : Fin 8) (s : State) : Host.Outcome State Fault Refusal := .next (s.upd (commitPair g.val))

/-- LOOP_COMMIT (R305): A write of LOOP_COMMIT.GO commits the loop shadows of a group for its next latch instant. -/
def execLoopCommit (p : Path) (v : Word) (s : State) : Host.Outcome State Fault Refusal := .next (hostWrite p (bLoopCom + F.LOOP_COMMIT.off) v s)

/-- LOOP_THAW (R333): A write of LOOP_STAT.THAW unfreezes a loop at the next latch instant of its group. -/
def execLoopThaw (p : Path) (i : Fin 2048) (v : Word) (s : State) : Host.Outcome State Fault Refusal :=
  .next (hostWrite p (bLoopStat i.val + F.LOOP_STAT.off) v s)

end Sys2Proof.Machine
end

