-- ==== Sys2Proof/Machine/CmdModes.lean ====
section
/-! DEFINITION. The meanings of the commands of the operating mode: one definition a command. -/

namespace Sys2Proof.Machine

/-- DEV_MODE_REQ (R76): A write of DEV_MODE_REQ.TARGET is judged in order and either refused or starts the requested mode transition. -/
def execDevModeReq (p : Path) (v : Word) (s : State) : Host.Outcome State Fault Refusal := .next (hostWrite p (bDev + F.DEV_MODE_REQ.off) v s)

/-- STOP_SEQUENCE_END (R74): At the echo deadline the links go to IDLE without token and the mode becomes HOLD, unconfirmed stops being raised. -/
def execStopSequenceEnd (s : State) : Host.Outcome State Fault Refusal := .next (s.upd (stopEnd))

/-- RIDE_SETTLE_ELAPSED (R69): When no RIDE source has been active for RIDE_SETTLE, RIDE returns to RUN. -/
def execRideSettleElapsed (s : State) : Host.Outcome State Fault Refusal := .next (s.upd (rideSettled))

/-- RIDE_MAX_ELAPSED (R69): When RIDE_MAX elapses from entry to RIDE the mode goes to SAFE or to RUN with cause 0x07. -/
def execRideMaxElapsed (s : State) : Host.Outcome State Fault Refusal := .next (s.upd (rideMaxElapsed))

/-- CHARGE_MAX_ELAPSED (R69): When CHARGE_MAX elapses with CHARGE incomplete the device enters SAFE. -/
def execChargeMaxElapsed (s : State) : Host.Outcome State Fault Refusal := .next (s.upd (chargeMaxElapsed))

/-- CHARGE_RIDE_TIMEOUT (R68): A RIDE interval in CHARGE that lasts RIDE_MAX sends the device to SAFE with cause CHARGE_RIDE_TIMEOUT. -/
def execChargeRideTimeout (s : State) : Host.Outcome State Fault Refusal := .next (s.upd (chargeRide))

/-- CHARGE_COMPLETE (R369): When start steps are done and every active cell has been in its window for DWELL, CHARGE_DONE is set. -/
def execChargeComplete (s : State) : Host.Outcome State Fault Refusal := .next (s.upd (chargeComplete))

/-- DEV_MODE_CFG (R82): A write of DEV_MODE_CFG is range-checked and new limits apply at once to any RIDE, RIDE interval or CHARGE in progress. -/
def execDevModeCfg (p : Path) (v : Word) (s : State) : Host.Outcome State Fault Refusal := .next (hostWrite p (bDev + F.DEV_MODE_CFG.off) v s)

end Sys2Proof.Machine
end

