-- ==== Sys2Proof/Machine/CmdModulator.lean ====
section
/-! DEFINITION. The meanings of the commands of strings, legs, carriers and auxiliary pairs: one definition a command. -/

namespace Sys2Proof.Machine

/-- STR_COMMIT (R180): A write of STR_COMMIT.GO copies the string's shadows and slot values into its pending set. -/
def execStrCommit (p : Path) (i : Fin 8) (v : Word) (s : State) : Host.Outcome State Fault Refusal :=
  .next (hostWrite p (bStr i.val + F.STR_COMMIT.off) v s)

/-- LOAD_ALL (R185): A write of LOAD_ALL commits every named string and auxiliary pair in one tick. -/
def execLoadAll (p : Path) (v : Word) (s : State) : Host.Outcome State Fault Refusal := .next (hostWrite p (bMod + F.LOAD_ALL.off) v s)

/-- LATCH_INSTANT (R179): Eight ticks before a reload the pending set is checked and becomes the latched set, or is refused. -/
def execLatchInstant (i : Fin 8) (s : State) : Host.Outcome State Fault Refusal := .next (s.upd (latchString i.val))

/-- STRING_RELOAD (R179): At a reload instant the latched set of a string comes into force. -/
def execStringReload (i : Fin 8) (s : State) : Host.Outcome State Fault Refusal := .next (s.upd (stringReload i.val))

/-- CARRIER_EVENT (R201): A period start or centre of a string's reference carrier occurs in execution time. -/
def execCarrierEvent (i : Fin 8) (centre : Bool) (ft : Fin 64) (s : State) : Host.Outcome State Fault Refusal :=
  .next (s.upd (carrierEvent i.val centre ft.val))

/-- LEG_PERIOD_GENERATE (R169): For each leg period the modulator computes widths with minimum pulse and carry and generates its edges by the schedule instant. -/
def execLegPeriodGenerate (n : Fin 96) (y : Fin 6) (s : State) : Host.Outcome State Fault Refusal := .next (s.upd (legGenerate n.val y.val))

/-- DL_CALIBRATE (R139): Every 1,024 ticks the device measures taps per tick and rebuilds the fine-tick table, or falls back to whole ticks. -/
def execDlCalibrate (tpt : BitVec 16) (s : State) : Host.Outcome State Fault Refusal := .next (s.upd (dlCalibrate tpt.toNat))

/-- NODE_OVR (R145): A write of NODE_OVR applies or releases a test override on a leg if allowed. -/
def execNodeOvr (p : Path) (n : Fin 96) (v : Word) (s : State) : Host.Outcome State Fault Refusal :=
  .next (hostWrite p (bNode n.val + F.NODE_OVR.off) v s)

/-- CSYNC_IN_EDGE (R192): A rising edge of CSYNC_IN is time-stamped and used as the anchor of CSYNC-anchored strings. -/
def execCsyncInEdge (ft : Nat) (s : State) : Host.Outcome State Fault Refusal := .next (s.upd (csyncEdge ft))

/-- CSYNC_LOST (R193): With no CSYNC_IN edge for 4 periods the device sets IN_LOST, raises CSYNC_LOST and runs untrimmed. -/
def execCsyncLost (s : State) : Host.Outcome State Fault Refusal := .next (s.upd (csyncLost))

/-- AUX_LATCH (R197): Eight ticks before an auxiliary period start the pending set of the pair is latched. -/
def execAuxLatch (i : Fin 8) (s : State) : Host.Outcome State Fault Refusal := .next (s.upd (auxLatch i.val))

/-- AUX_RELOAD (R197): At each auxiliary period start the latched set of the pair comes into force. -/
def execAuxReload (i : Fin 8) (s : State) : Host.Outcome State Fault Refusal := .next (s.upd (auxPeriod i.val))

/-- ECHO_DEADLINE (R166): A transition whose echo is unmatched by its deadline is counted, and four in a row return the leg to FIXED dead time. -/
def execEchoDeadline (n : Fin 96) (y : Fin 6) (s : State) : Host.Outcome State Fault Refusal := .next (s.upd (echoDeadline n.val y.val))

end Sys2Proof.Machine
end

