-- ==== Sys2Proof/Machine/CmdNode.lean ====
section
/-! DEFINITION. The meanings of the commands of the node at the far end of a port: one definition a command. -/

namespace Sys2Proof.Machine

/-- NODE_CMD_FRAME (R238): The node receives a valid CMD frame and takes its edges, token, term, fences and RESUME. -/
def execNodeCmdFrame (p : Fin 96) (l : Lane) (f : CmdFrame) (arr : Nat) (s : State) : Host.Outcome State Fault Refusal :=
  checked (f.wf) (s.updFar p.val (fun x => x.cmd l f arr))

/-- NODE_EDGE_DUE (R240): The node executes a held edge at its due time, enforcing the interlock floor, and queues its echo. -/
def execNodeEdgeDue (p : Fin 96) (y : Fin 7) (err : Int) (body : BitVec 16) (dir : Fin 4) (s : State) : Host.Outcome State Fault Refusal :=
  .next (s.updFar p.val (fun x => x.execEdge y.val err body.toNat dir.val))

/-- COUNTER_RELOAD (R222): After 4 consistent frames the node reloads its counter and reports COUNTER_RELOAD. -/
def execCounterReload (p : Fin 96) (s : State) : Host.Outcome State Fault Refusal := .next (s.updFar p.val (FarSt.reload))

/-- HOLDOVER_ENTER (R270): After 3 unserved slots the node enters HOLDOVER and repeats its legs. -/
def execHoldoverEnter (p : Fin 96) (s : State) : Host.Outcome State Fault Refusal := .next (s.updFar p.val (FarSt.holdover))

/-- SAFE_ENTER (R273): At t_s the node places its legs in the safe form and closes the contactor if configured. -/
def execSafeEnter (p : Fin 96) (s : State) : Host.Outcome State Fault Refusal := .next (s.updFar p.val (FarSt.holdEnd))

/-- CONTACTOR_CLOSED (R273): The bypass contactor reports closed and the node reports CONTACTOR_CLOSED. -/
def execContactorClosed (p : Fin 96) (s : State) : Host.Outcome State Fault Refusal := .next (s.updFar p.val (FarSt.closed))

/-- NODE_REPORT_SLOT (R251): At each node slot the node sends the report frame the slot calls for on both ports. -/
def execNodeReportSlot (p : Fin 96) (k : Nat) (m : Sample) (s : State) : Host.Outcome State Fault Refusal :=
  checked (m.wf) (s.updFar p.val (fun x => x.slot k m))

/-- NODE_POWER_UP (R269): A node powers up in INIT with every leg OFF and enters SAFE with cause power-up once its counter is set. -/
def execNodePowerUp (p : Fin 96) (ident : List Byte) (s : State) : Host.Outcome State Fault Refusal :=
  checked (nodeIdentWf ident) (s.updFar p.val (fun _ => farPowerUp ident))

/-- NODE_MGMT_MESSAGE (R287): The node takes a complete management message and applies, stages, commits or executes it, answering MGMT_ACK. -/
def execNodeMgmtMessage (p : Fin 96) (l : Lane) (m : Msg) (s : State) : Host.Outcome State Fault Refusal :=
  checked (m.wf) (s.updFar p.val (fun x => x.message l m))

/-- NODE_SELFTEST_END (R405): The node's self-test ends, completed or aborted, and it reports SELFTEST_RESULT. -/
def execNodeSelftestEnd (p : Fin 96) (pass : BitVec 48) (s : State) : Host.Outcome State Fault Refusal :=
  .next (s.updFar p.val (fun x => x.testEnd pass.toNat))

/-- SWITCH_TRIP (R393): A DESAT, L2 or DIDT comparator trips; the node turns the switch off softly, latches it, reports and enters SAFE. -/
def execSwitchTrip (p : Fin 96) (now : Nat) (sw : Fin 12) (method : BitVec 8) (onset : Nat) (cur : BitVec 16) (tj : BitVec 8) (s : State) : Host.Outcome State Fault Refusal :=
  .next (s.updFar p.val (fun x => (x.upTo now).trip sw.val method.toNat onset cur.toInt tj.toInt))

/-- SHOOT_THROUGH (R397): The node sees both switches of a leg on, turns both off, latches them and enters SAFE. -/
def execShootThrough (p : Fin 96) (now : Nat) (y : Fin 6) (last : Word) (s : State) : Host.Outcome State Fault Refusal :=
  .next (s.updFar p.val (fun x => (x.upTo now).shoot y.val last))

/-- GATE_FAULT (R383): A gate that misses its hold level in time is reported as GATE_FAULT, a switch fault. -/
def execGateFault (p : Fin 96) (now : Nat) (sw : Fin 12) (atOff : Bool) (v : BitVec 16) (s : State) : Host.Outcome State Fault Refusal :=
  .next (s.updFar p.val (fun x => (x.upTo now).gateFault sw.val atOff v.toInt))

/-- UVLO_FAULT (R392): A gate-supply rail below lock-out for UV_FILT turns the switch off and blocks it. -/
def execUvloFault (p : Fin 96) (now : Nat) (sw : Fin 12) (neg : Bool) (v : BitVec 16) (s : State) : Host.Outcome State Fault Refusal :=
  .next (s.updFar p.val (fun x => (x.upTo now).uv sw.val neg v.toNat))

/-- UVLO_RECOVERED (R392): A gate-supply rail at a node rises back above its lock-out level plus VPOS_HYS, so the switch may be turned on again and the UVLO cause of R398 ends. -/
def execUvloRecovered (p : Fin 96) (sw : Fin 12) (s : State) (neg : Bool := false) : Host.Outcome State Fault Refusal :=
  .next (s.upd (uvloRecovered p.val sw.val neg))

/-- NODE_CAL_FRAME (R266): A node receives a valid command CAL frame and owes one report CAL in its next slot whose SEQ modulo 4 is 3. -/
def execNodeCalFrame (p : Fin 96) (l : Lane) (seq : Fin 512) (arr : Nat) (s : State) : Host.Outcome State Fault Refusal :=
  .next (s.updFar p.val (fun x => x.calFrame l seq.val arr))

/-- NODE_IDLE_FRAME (R220): A node receives a valid IDLE frame on its timing port, which sets or keeps the phase of its counter. -/
def execNodeIdleFrame (p : Fin 96) (l : Lane) (seq : Fin 512) (arr : Nat) (s : State) : Host.Outcome State Fault Refusal :=
  .next (s.updFar p.val (fun x => x.idleFrame l seq.val arr))

/-- NODE_ERROR_SLOT (R719): A frame position of a node receiver holds no valid frame, counting in ERR_P or ERR_Q, possibly losing lock and moving the timing port. -/
def execNodeErrorSlot (p : Fin 96) (l : Lane) (s : State) : Host.Outcome State Fault Refusal := .next (s.updFar p.val (fun x => x.noFrame l))

end Sys2Proof.Machine
end

