-- ==== Sys2Proof/Machine/CmdObjects.lean ====
section
/-! DEFINITION. The meanings of the commands of objects, the mailbox, registers and the consistency check: one definition a command. -/

namespace Sys2Proof.Machine

/-- OBJ_CREATE (R94): The command allocates an object in a FREE slot, increments its generation and returns its handle. -/
def execObjCreate (p : Path) (a0 : Word) (a1 : Word) (a2 : Word) (a3 : Word) (s : State) : Host.Outcome State Fault Refusal :=
  .next (mailbox p 0x10 a0 a1 a2 a3 s)

/-- OBJ_DESTROY (R99): The command returns a disabled object's slot to FREE and zeroes its register block. -/
def execObjDestroy (p : Path) (a0 : Word) (a1 : Word) (a2 : Word) (a3 : Word) (s : State) : Host.Outcome State Fault Refusal :=
  .next (mailbox p 0x11 a0 a1 a2 a3 s)

/-- OBJ_LOOKUP (R94): The command returns the current handle of a slot, or zero if it is FREE. -/
def execObjLookup (p : Path) (a0 : Word) (a1 : Word) (a2 : Word) (a3 : Word) (s : State) : Host.Outcome State Fault Refusal :=
  .next (mailbox p 0x12 a0 a1 a2 a3 s)

/-- OBJ_WRITE (R95): The command writes a masked field of an object through its handle under the class rules. -/
def execObjWrite (p : Path) (a0 : Word) (a1 : Word) (a2 : Word) (a3 : Word) (s : State) : Host.Outcome State Fault Refusal :=
  .next (mailbox p 0x13 a0 a1 a2 a3 s)

/-- OBJ_READ (R94): The command reads a word of an object through its handle into CMD_ARG2. -/
def execObjRead (p : Path) (a0 : Word) (a1 : Word) (a2 : Word) (a3 : Word) (s : State) : Host.Outcome State Fault Refusal :=
  .next (mailbox p 0x14 a0 a1 a2 a3 s)

/-- REGISTER_WRITE (R110): A write to a register with no behaviour of its own is applied or refused under the class S, C and L rules and recorded if refused. -/
def execRegisterWrite (p : Path) (a : BitVec 24) (v : Word) (s : State) : Host.Outcome State Fault Refusal := .next (hostWrite p (a.toNat) v s)

/-- DEV_WR_REASON_READ (R119): A read of DEV_WR_REASON marks the refused-write record as read. -/
def execDevWrReasonRead (p : Path) (s : State) : Host.Outcome State Fault Refusal := .next (hostRead p (bDev + F.DEV_WR_REASON.off) s)

/-- DEV_ENABLE (R128): A write of DEV_ENABLE starts the device check, or disables the device only in HOLD. -/
def execDevEnable (p : Path) (v : Word) (s : State) : Host.Outcome State Fault Refusal := .next (hostWrite p (bDev + F.DEV_ENABLE.off) v s)

/-- STR_ENABLE (R120): A write of STR_ENABLE starts the string check or disables the string subject to dependants and mode. -/
def execStrEnable (p : Path) (i : Fin 8) (v : Word) (s : State) : Host.Outcome State Fault Refusal :=
  .next (hostWrite p (bStr i.val + F.STR_ENABLE.off) v s)

/-- NODE_ENABLE (R120): A write of NODE_ENABLE starts the node channel check or disables it subject to dependants. -/
def execNodeEnable (p : Path) (n : Fin 96) (v : Word) (s : State) : Host.Outcome State Fault Refusal :=
  .next (hostWrite p (bNode n.val + F.NODE_ENABLE.off) v s)

/-- LD_CTRL_ENABLE (R346): A write of LD_CTRL.ENABLE starts the loop check or disables the loop subject to dependants. -/
def execLdCtrlEnable (p : Path) (i : Fin 2048) (v : Word) (s : State) : Host.Outcome State Fault Refusal :=
  .next (hostWrite p (bLoopD i.val + F.LD_CTRL.off) v s)

/-- PROF_ENABLE (R377): A write of PROF_ENABLE starts the profile check or disables the profile subject to dependants. -/
def execProfEnable (p : Path) (i : Fin 16) (v : Word) (s : State) : Host.Outcome State Fault Refusal :=
  .next (hostWrite p (bProf i.val + F.PROF_ENABLE.off) v s)

/-- RG_ENABLE (R347): A write of RG_ENABLE starts the rate-group check or disables it unless an enabled loop names it. -/
def execRgEnable (p : Path) (g : Fin 8) (v : Word) (s : State) : Host.Outcome State Fault Refusal :=
  .next (hostWrite p (bRg g.val + F.RG_ENABLE.off) v s)

/-- AUX_ENABLE (R196): A write of AUX_ENABLE starts the auxiliary pair check, and its first period starts 16 ticks after acceptance. -/
def execAuxEnable (p : Path) (i : Fin 8) (v : Word) (s : State) : Host.Outcome State Fault Refusal :=
  .next (hostWrite p (bAux i.val + F.AUX_ENABLE.off) v s)

/-- CAN_ENABLE (R624): A write of CAN_ENABLE starts the controller check or disables it unless an object is enabled. -/
def execCanEnable (p : Path) (c : Fin 2) (v : Word) (s : State) : Host.Outcome State Fault Refusal :=
  .next (hostWrite p (bCan c.val + F.CAN_ENABLE.off) v s)

/-- OBJ_ENABLE (R602): A write of OBJ_ENABLE starts the message object check. -/
def execObjEnable (p : Path) (o : Fin 512) (v : Word) (s : State) : Host.Outcome State Fault Refusal :=
  .next (hostWrite p (bObj o.val + F.OBJ_ENABLE.off) v s)

/-- PTP_ENABLE (R583): A write of PTP_ENABLE starts the PTP check, or disables PTP, sending the time state from LOCKED to HOLDOVER. -/
def execPtpEnable (p : Path) (v : Word) (s : State) : Host.Outcome State Fault Refusal := .next (hostWrite p (bTb + F.PTP_ENABLE.off) v s)

/-- TPO_ENABLE (R590): A write of TPO_ENABLE starts the timed output check, or re-arms a fired ONCE output. -/
def execTpoEnable (p : Path) (k : Fin 8) (v : Word) (s : State) : Host.Outcome State Fault Refusal :=
  .next (hostWrite p (bTpo k.val + F.TPO_ENABLE.off) v s)

/-- TRC_ARM (R488): A write of TRC_CTRL.ARM arms the trace after its check, or empties the ring on a re-arm. -/
def execTrcArm (p : Path) (v : Word) (s : State) : Host.Outcome State Fault Refusal := .next (hostWrite p (bFlt + F.TRC_CTRL.off) v s)

/-- CONSISTENCY_CHECK_START (R126): A waiting consistency check begins when the one before it has ended. -/
def execConsistencyCheckStart (s : State) : Host.Outcome State Fault Refusal := .next (s.upd (checkStart))

/-- CONSISTENCY_CHECK_END (R121): A consistency check completes, enabling the object or leaving it disabled with the first failing reason in CHECK. -/
def execConsistencyCheckEnd (s : State) : Host.Outcome State Fault Refusal := .next (s.upd (checkEnd))

/-- BAD_OPCODE (R106): A command is submitted with an opcode that names no command and is refused with 0x0103. -/
def execBadOpcode (p : Path) (op : BitVec 16) (a0 : Word) (a1 : Word) (a2 : Word) (a3 : Word) (s : State) : Host.Outcome State Fault Refusal :=
  .next (mailbox p op.toNat a0 a1 a2 a3 s)

/-- COMMAND_END (R101): A mailbox command that is not a background command completes, setting CMD_RESULT.DONE and freeing the executor and the slot it locked. -/
def execCommandEnd (s : State) : Host.Outcome State Fault Refusal := .next (s.upd (commandEnd))

end Sys2Proof.Machine
end

