-- ==== Sys2Proof/Machine/CmdPair.lean ====
section
/-! DEFINITION. The meanings of the commands of the Seesaw pair: one definition a command. -/

namespace Sys2Proof.Machine

/-- ROLE_RESOLUTION (R503): In the tick after LOAD ends, or on PAIR_JOIN, the module resolves its pair role through PAIR_EN, peer presence, link training and identity exchange. -/
def execRoleResolution (s : State) : Host.Outcome State Fault Refusal := .next (s.upd (roleResolution))

/-- PAIR_SWITCH (R528): The command raises a coordinated switch-over if the standby is eligible. -/
def execPairSwitch (p : Path) (a0 : Word) (a1 : Word) (a2 : Word) (a3 : Word) (s : State) : Host.Outcome State Fault Refusal :=
  .next (mailbox p 0x30 a0 a1 a2 a3 s)

/-- PAIR_OUT (R528): The command takes the module to role OUT unless control would be lost. -/
def execPairOut (p : Path) (a0 : Word) (a1 : Word) (a2 : Word) (a3 : Word) (s : State) : Host.Outcome State Fault Refusal :=
  .next (mailbox p 0x31 a0 a1 a2 a3 s)

/-- PAIR_JOIN (R503): The command makes an OUT module resolve its role and join. -/
def execPairJoin (p : Path) (a0 : Word) (a1 : Word) (a2 : Word) (a3 : Word) (s : State) : Host.Outcome State Fault Refusal :=
  .next (mailbox p 0x32 a0 a1 a2 a3 s)

/-- PAIR_RESYNC (R519): The command copies the active module's state to the standby. -/
def execPairResync (p : Path) (a0 : Word) (a1 : Word) (a2 : Word) (a3 : Word) (s : State) : Host.Outcome State Fault Refusal :=
  .next (mailbox p 0x33 a0 a1 a2 a3 s)

/-- HEARTBEAT_TOGGLE (R509): HB_OUT toggles every 256 ticks while the core runs and lockstep agrees. -/
def execHeartbeatToggle (s : State) : Host.Outcome State Fault Refusal := .next (s.upd (heartbeatToggle))

/-- HEARTBEAT_LOST (R509): HB_IN without an edge for 750 ticks marks the heartbeat lost. -/
def execHeartbeatLost (s : State) : Host.Outcome State Fault Refusal := .next (s.upd (heartbeat false))

/-- LANE_LOST (R509): A pair-link lane without a valid frame for 750 ticks is lost. -/
def execLaneLost (l : Fin 4) (s : State) : Host.Outcome State Fault Refusal := .next (s.upd (pairLane l.val false))

/-- MIRROR_SNAPSHOT (R512): The standby receives a mirrored snapshot of a firing and compares its own inputs. -/
def execMirrorSnapshot (g : Fin 8) (tf : Nat) (snap : List (Nat × Word × Bool)) (s : State) : Host.Outcome State Fault Refusal :=
  .next (s.upd (takeSnapshot g.val tf snap))

/-- MIRROR_WAIT_EXPIRE (R512): A snapshot not arrived by latch plus MWAIT makes the standby use its own and count UNCOMPARED. -/
def execMirrorWaitExpire (g : Fin 8) (s : State) : Host.Outcome State Fault Refusal := .next (s.upd (mirrorExpire g.val))

/-- MIRROR_WRITE (R511): The standby applies a mirrored register write or mailbox command at its tick. -/
def execMirrorWrite (x : MirrorOp) (s : State) : Host.Outcome State Fault Refusal := .next (s.updAll (mirrorWrite x))

/-- MIRROR_MODE (R507): The standby changes mode at the mirrored tick with the same cause. -/
def execMirrorMode (m : Mode) (why : BitVec 8) (s : State) : Host.Outcome State Fault Refusal := .next (s.upd (mirrorMode m why.toNat))

/-- MIRROR_EVENT (R514): The standby counts a mirrored node event or reaction against its sources. -/
def execMirrorEvent (src : Fin 512) (kind : BitVec 16) (c : Option Bool) (severe : Bool) (form : Option Form) (hi : BitVec 32) (data : List Byte) (s : State) : Host.Outcome State Fault Refusal :=
  .next (s.upd (mirrorEvent src.val kind.toNat c severe form hi.toNat data))

/-- MIRROR_DT_LATCH (R511): The standby replaces its dead-time latch with the mirrored one. -/
def execMirrorDtLatch (l : List DtCopy) (s : State) : Host.Outcome State Fault Refusal := .next (s.upd (mirrorDt l))

/-- MIRROR_TOKEN_FRAME (R511): The standby records the start tick and HOR of a token frame of the active module. -/
def execMirrorTokenFrame (start : Nat) (hor : BitVec 24) (s : State) : Host.Outcome State Fault Refusal := .next (s.upd (mirrorToken start hor.toNat))

/-- MIRROR_TIME (R588): The standby applies the active module's addend or time step at the carried tick. -/
def execMirrorTime (add : Int) (jump : Int) (fi : Int) (st : Fin 4) (s : State) : Host.Outcome State Fault Refusal :=
  .next (s.upd (mirrorTime add jump fi st.val))

/-- COMMIT_DIGEST (R517): The peer's digests of a firing are compared and a mismatch raises PAIR_DIVERGE and starts a replay. -/
def execCommitDigest (g : Fin 8) (tf : Nat) (d : Option (BitVec 64)) (p : BitVec 64) (s : State) : Host.Outcome State Fault Refusal :=
  .next (s.upd (compareDigest g.val tf d p))

/-- REPLAY_END (R518): Replay digests are exchanged and the verdict decides resync, switch-over or standby OUT. -/
def execReplayEnd (own : BitVec 64) (peer : BitVec 64) (s : State) : Host.Outcome State Fault Refusal := .next (s.upd (replayEnd own peer))

/-- REPLAY_TIMEOUT (R518): A replay not finished within REPLAY_MAX gives TIMEOUT and sends the standby OUT. -/
def execReplayTimeout (s : State) : Host.Outcome State Fault Refusal := .next (s.upd (replayTimeout))

/-- RESYNC_TIMEOUT (R519): A resync not ended within 200 ms puts the standby OUT with 0x0D05. -/
def execResyncTimeout (s : State) : Host.Outcome State Fault Refusal := .next (s.upd (resyncTimeout))

/-- HEALTH_REPORT (R520): A peer health report updates eligibility and may trigger a coordinated switch-over. -/
def execHealthReport (health : BitVec 8) (elig : Bool) (severe : Bool) (role : Role) (phase : Fin 8) (dec : Option Nat) (s : State) (tick : Nat := 0) : Host.Outcome State Fault Refusal :=
  .next (s.upd (healthReport health.toNat elig severe role phase.val tick dec))

/-- HEALTH_SELFTEST (R529): A health self-test result sets or clears its SS_HEALTH bit and raises HEALTH_FAIL on failure. -/
def execHealthSelftest (bit : Fin 8) (fail : Bool) (engine : Fin 16) (s : State) : Host.Outcome State Fault Refusal :=
  .next (s.upd (healthTest bit.val fail engine.val))

/-- SWITCH_BOUNDARY (R522): At T_first the new active module takes the next term and sends token frames and new edges. -/
def execSwitchBoundary (s : State) : Host.Outcome State Fault Refusal := .next (s.upd (switchBoundary))

/-- REVERTIVE_RETURN (R524): Eligibility held for SS_REVERT.HOLD raises a coordinated switch-over back to the preferred module. -/
def execRevertiveReturn (s : State) : Host.Outcome State Fault Refusal := .next (s.upd (revertReturn))

/-- JOIN_PHASE_END (R526): A join phase completes and the next phase begins, ending in SYNCED. -/
def execJoinPhaseEnd (x : JoinEnd) (s : State) : Host.Outcome State Fault Refusal := .next (s.upd (joinPhaseEnd x))

/-- JOIN_PHASE_TIMEOUT (R526): A join phase exceeding its limit puts the module OUT with 0x0D05. -/
def execJoinPhaseTimeout (s : State) : Host.Outcome State Fault Refusal := .next (s.upd (joinPhaseTimeout))

/-- REJOIN_RETRY (R526): Ten seconds after a failed join with PAIR_EN set, role resolution runs again. -/
def execRejoinRetry (s : State) : Host.Outcome State Fault Refusal := .next (s.upd (rejoin))

/-- EJECT_REQ_TAKEN (R527): EJECT_REQ held for 10 ms acts by role: OUT, coordinated switch-over, or refusal. -/
def execEjectReqTaken (s : State) : Host.Outcome State Fault Refusal := .next (s.upd (ejectTaken))

/-- EJECT_RELEASED (R666): EJECT_REQ released for 1 s lets an ejected module resolve its role. -/
def execEjectReleased (s : State) (lift : Bool := false) : Host.Outcome State Fault Refusal := .next (s.upd (ejectReleased lift))

/-- WITHDRAWAL (R668): PRESENT_N deasserted for 20 µs is treated as withdrawal, with switch-over or role OUT. -/
def execWithdrawal (s : State) : Host.Outcome State Fault Refusal := .next (s.upd (withdrawal))

/-- PEER_PRESENT_CHANGE (R509): PEER_PRESENT_N changes level, which can complete the presumption that the peer has failed or change peer presence for role resolution. -/
def execPeerPresentChange (here : Bool) (s : State) : Host.Outcome State Fault Refusal := .next (s.upd (peerPresent here))

/-- HB_IN_EDGE (R509): An edge arrives on HB_IN, restarting the 750-tick loss timer and restoring the heartbeat after a loss. -/
def execHbInEdge (s : State) : Host.Outcome State Fault Refusal := .next (s.upd (heartbeat true))

/-- PAIR_LANE_UP (R509): A pair-link lane comes back into use, which can end the DOWN state of the pair link. -/
def execPairLaneUp (l : Fin 4) (s : State) : Host.Outcome State Fault Refusal := .next (s.upd (pairLane l.val true))

end Sys2Proof.Machine
end

