-- ==== Sys2Proof/Machine/CmdPower.lean ====
section
/-! DEFINITION. The meanings of the commands of power states, supply, module and indicators: one definition a command. -/

namespace Sys2Proof.Machine

/-- PWR_REQ (R628): A write of PWR_REQ starts a power-state transition or becomes the pending request. -/
def execPwrReq (p : Path) (v : Word) (s : State) : Host.Outcome State Fault Refusal := .next (hostWrite p (bPwr + F.PWR_REQ.off) v s)

/-- AGENT_ANSWER (R630): A domain agent answers ACK, DELAY or REFUSE and the transition proceeds or aborts. -/
def execAgentAnswer (x : AgentAns) (s : State) : Host.Outcome State Fault Refusal := .next (s.upd (agentAnswer x))

/-- AGENT_DELAY_EXPIRED (R630): An agent silent past its DELAY refuses with 0x0C07. -/
def execAgentDelayExpired (s : State) : Host.Outcome State Fault Refusal := .next (s.upd (agentExpired))

/-- WAKE_EVENT (R634): An enabled wake source in DOZE or SLEEP requests ON. -/
def execWakeEvent (code : Fin 16) (s : State) (levels : List (Nat × Nat) := []) : Host.Outcome State Fault Refusal :=
  .next (s.upd (wakeEvent code.val levels))

/-- AVS_EVALUATE (R636): Every 10 µs the device steers VDD_CORE by its slack. -/
def execAvsEvaluate (slack : BitVec 8) (s : State) : Host.Outcome State Fault Refusal := .next (s.upd (avsEvaluate slack.toNat))

/-- SHED_STAGE_REACHED (R639): VHOLD below a threshold for 20 µs reaches a shed stage and takes its actions. -/
def execShedStageReached (stage : Fin 6) (vhold : BitVec 16) (s : State) : Host.Outcome State Fault Refusal :=
  .next (s.updAll (shedReached stage.val vhold.toNat))

/-- LAST_GASP_DONE (R29): A programmed last-gasp record starts the erase of the next sector. -/
def execLastGaspDone (s : State) : Host.Outcome State Fault Refusal := .next (s.updNv (lgDone))

/-- LG_ERASE_DONE (R645): The target sector is blank and READY reads 1. -/
def execLgEraseDone (s : State) : Host.Outcome State Fault Refusal := .next (s.updNv (lgErased))

/-- SHED_STAGE_END (R640): VHOLD above threshold plus 0.3 V for RECOVER ms ends a stage and undoes S1 to S3 actions. -/
def execShedStageEnd (vhold : BitVec 16) (s : State) : Host.Outcome State Fault Refusal := .next (s.upd (shedEnd vhold.toNat))

/-- SUPPLY_RESTART (R641): After S5 the module restarts once VHOLD has held at 17.5 V for 10 ms. -/
def execSupplyRestart (s : State) : Host.Outcome State Fault Refusal := .next (s.updAll (supplyRestart))

/-- SUPPLY_INPUT (R642): A monitored input leaving 18 to 36 V sets or ends the SUPPLY_INPUT cause. -/
def execSupplyInput (inp : Fin 2) (mv : BitVec 16) (s : State) : Host.Outcome State Fault Refusal := .next (s.upd (supplyInput inp.val mv.toNat))

/-- MODULE_TEMP (R700): A temperature sensor crossing its level sets or ends the MODULE_TEMP cause. -/
def execModuleTemp (face : BitVec 8) (junc : BitVec 8) (s : State) : Host.Outcome State Fault Refusal :=
  .next (s.upd (moduleTemp face.toInt junc.toInt))

/-- LOCATE (R671): The command flashes the PWR indicator for the given duration or ends LOCATE. -/
def execLocate (p : Path) (a0 : Word) (a1 : Word) (a2 : Word) (a3 : Word) (s : State) : Host.Outcome State Fault Refusal :=
  .next (mailbox p 0x38 a0 a1 a2 a3 s)

/-- LOCATE_END (R671): The LOCATE duration elapses and the PWR indicator returns to state. -/
def execLocateEnd (s : State) : Host.Outcome State Fault Refusal := .next (s.upd (locateEnd))

/-- RESET (R693): The command performs a warm reset within 100 µs in HOLD or ROM hold. -/
def execReset (p : Path) (a0 : Word) (a1 : Word) (a2 : Word) (a3 : Word) (s : State) : Host.Outcome State Fault Refusal :=
  .next (mailbox p 0x3F a0 a1 a2 a3 s)

/-- INDICATOR_TEST_END (R670): 500 ms after power-good the four indicators stop lighting together and begin to show state. -/
def execIndicatorTestEnd (s : State) : Host.Outcome State Fault Refusal := .next (s.upd (lampEnd))

/-- EJECT_REFUSED_FLASH_END (R670): 5 s after EJECT_REFUSED is set the REMOVE indicator stops flashing at 4 Hz. -/
def execEjectRefusedFlashEnd (s : State) : Host.Outcome State Fault Refusal := .next (s.upd (refusedFlashEnd))

end Sys2Proof.Machine
end

