-- ==== Sys2Proof/Machine/CmdSensing.lean ====
section
/-! DEFINITION. The meanings of the commands of analogue inputs and sigma-delta channels: one definition a command. -/

namespace Sys2Proof.Machine

/-- SAR_SAMPLE (R427): All enabled SAR converters sample at a sample instant and produce corrected results with qualifiers. -/
def execSarSample (vs : List Int) (s : State) : Host.Outcome State Fault Refusal := checked (sarWf vs) (s.upd (sarSample vs))

/-- ADC_TRIGGER_ALIGN (R429): At e minus 8,000 ft the device aligns sample instants to a carrier trigger event. -/
def execAdcTriggerAlign (e : Nat) (s : State) : Host.Outcome State Fault Refusal := .next (s.upd (alignTrigger e))

/-- ADC_INJ_REQ (R437): A write of ADC_INJ_REQ.GO requests an injected conversion at the next allowed instant. -/
def execAdcInjReq (p : Path) (v : Word) (s : State) : Host.Outcome State Fault Refusal := .next (hostWrite p (bSens + F.ADC_INJ_REQ.off) v s)

/-- ADC_INJ_RELEASE (R439): A write of 1 to ADC_INJ_STATUS.FULL releases the held capture and clears LOST. -/
def execAdcInjRelease (p : Path) (v : Word) (s : State) : Host.Outcome State Fault Refusal := .next (hostWrite p (bSens + F.ADC_INJ_STATUS.off) v s)

/-- ADC_CAL_REQ (R442): A write of ADC_CAL_REQ queues channels for calibration. -/
def execAdcCalReq (p : Path) (v : Word) (s : State) : Host.Outcome State Fault Refusal := .next (hostWrite p (bSens + F.ADC_CAL_REQ.off) v s)

/-- CAL_SCHEDULE (R442): Every INTERVAL seconds the schedule requests the next channel for calibration. -/
def execCalSchedule (s : State) : Host.Outcome State Fault Refusal := .next (s.upd (calSchedule))

/-- CAL_START (R441): Calibration of a queued channel begins at its next sample instant. -/
def execCalStart (s : State) : Host.Outcome State Fault Refusal := .next (s.upd (calStart))

/-- CAL_END (R444): After 40 µs calibration ends and new coefficients take effect or CAL_FAIL is raised. -/
def execCalEnd (ofs : BitVec 16) (gain : BitVec 16) (s : State) : Host.Outcome State Fault Refusal := .next (s.upd (calEnd ofs.toInt gain.toNat))

/-- ADC_TDAC (R447): A write of ADC_TDAC connects or releases the test DAC on a channel if allowed. -/
def execAdcTdac (p : Path) (v : Word) (s : State) : Host.Outcome State Fault Refusal := .next (hostWrite p (bSens + F.ADC_TDAC.off) v s)

/-- SD_OUTPUT (R451): A sigma-delta main filter produces a result at its decimation tick. -/
def execSdOutput (i : Fin 24) (bits : List Bool) (s : State) : Host.Outcome State Fault Refusal := .next (s.upd (sdOutput i.val bits))

/-- SD_STUCK (R454): A bit held for 128 clock periods marks results STUCK and raises SD_STUCK. -/
def execSdStuck (i : Fin 24) (s : State) : Host.Outcome State Fault Refusal := .next (s.upd (sdStuck i.val))

/-- SD_FAST_OUTPUT (R455): The fast filter produces an output compared against its thresholds. -/
def execSdFastOutput (i : Fin 24) (bits : List Bool) (s : State) : Host.Outcome State Fault Refusal := .next (s.upd (sdFast i.val bits))

/-- SD_STUCK_END (R454): The bit of a stuck sigma-delta input changes, ending STUCK and restarting settling and fast comparison. -/
def execSdStuckEnd (i : Fin 24) (s : State) : Host.Outcome State Fault Refusal := .next (s.upd (sdStuckEnd i.val))

end Sys2Proof.Machine
end

