-- ==== Sys2Proof/Machine/CmdTime.lean ====
section
/-! DEFINITION. The meanings of the commands of time base, PTP and timed outputs: one definition a command. -/

namespace Sys2Proof.Machine

/-- PTP_SYNC (R578): An accepted Sync gives an offset sample that drives the servo addend. -/
def execPtpSync (h : PtpHdr) (origin : Nat) (s : State) : Host.Outcome State Fault Refusal := checked (h.wf) (s.upd (ptpSync h origin))

/-- PTP_FOLLOW_UP (R577): A Follow_Up completes a two-step Sync sample. -/
def execPtpFollowUp (h : PtpHdr) (precise : Nat) (s : State) : Host.Outcome State Fault Refusal := checked (h.wf) (s.upd (ptpFollowUp h precise))

/-- PTP_ANNOUNCE (R583): An Announce feeds the best master clock algorithm. -/
def execPtpAnnounce (h : PtpHdr) (a : AnnBody) (s : State) : Host.Outcome State Fault Refusal := checked (h.wf && a.wf) (s.upd (ptpAnnounce h a))

/-- PTP_DELAY_RESP (R577): A Delay_Resp or Pdelay response updates the path delay. -/
def execPtpDelayResp (h : PtpHdr) (kind : Fin 3) (time : Nat) (s : State) : Host.Outcome State Fault Refusal :=
  checked (h.wf) (s.upd (ptpDelayResp h kind.val time))

/-- PTP_TC_FORWARD (R584): The transparent clock forwards an event message with its residence time added. -/
def execPtpTcForward (h : PtpHdr) (type : Fin 16) (egress : Nat) (s : State) : Host.Outcome State Fault Refusal :=
  checked (h.wf) (s.upd (tcForward h type.val egress))

/-- PTP_MASTER_SYNC (R583): As master the ordinary clock sends a one-step Sync each sync interval. -/
def execPtpMasterSync (s : State) : Host.Outcome State Fault Refusal := .next (s.upd (masterSync))

/-- SYNC_TIMEOUT (R575): No accepted Sync for SYNC_TMO intervals puts the servo in holdover. -/
def execSyncTimeout (s : State) : Host.Outcome State Fault Refusal := .next (s.upd (syncTimeout))

/-- ANNOUNCE_TIMEOUT (R575): An announce receipt timeout with no other master puts the servo in holdover. -/
def execAnnounceTimeout (s : State) : Host.Outcome State Fault Refusal := .next (s.upd (announceTimeout))

/-- SG_LINK_LOSS (R575): Loss of link on the slave port puts the servo in holdover. -/
def execSgLinkLoss (q : Fin 2) (s : State) : Host.Outcome State Fault Refusal := .next (s.upd (sgLoss q.val))

/-- HOLDOVER_MAX_ELAPSED (R571): HOLDOVER lasting HO_MAX sends the time state to FREE. -/
def execHoldoverMaxElapsed (s : State) : Host.Outcome State Fault Refusal := .next (s.upd (holdoverMax))

/-- TB_STEP (R579): A write of TB_CTRL.STEP steps the time value in LOAD or HOLD. -/
def execTbStep (p : Path) (s : State) : Host.Outcome State Fault Refusal := .next (hostWrite p (bTb + F.TB_CTRL.off) (w32 (2 ^ F.TB_CTRL_STEP.lo)) s)

/-- TB_NS_READ (R569): A read of TB_NS latches the other time and tick registers. -/
def execTbNsRead (p : Path) (s : State) : Host.Outcome State Fault Refusal := .next (hostRead p (bTb + F.TB_NS.off) s)

/-- TPO_PULSE (R590): A timed output gives its pulse where the time value reaches its start. -/
def execTpoPulse (k : Fin 8) (s : State) : Host.Outcome State Fault Refusal := .next (s.upd (tpoPulse k.val))

/-- SG_LINK_UP (R575): An SGMII port regains link, so PTP messages can again be received on it. -/
def execSgLinkUp (q : Fin 2) (s : State) : Host.Outcome State Fault Refusal := .next (s.upd (sgUp q.val))

/-- PTP_DELAY_REQ_RX (R583): The ordinary clock receives a Delay_Req as master or a Pdelay_Req in P2P and answers it. -/
def execPtpDelayReqRx (h : PtpHdr) (pdelay : Bool) (s : State) : Host.Outcome State Fault Refusal := checked (h.wf) (s.upd (delayReqRx h pdelay))

/-- PTP_ANNOUNCE_SEND (R587): As master the ordinary clock sends an Announce each announce interval with the clockClass of its time state. -/
def execPtpAnnounceSend (s : State) : Host.Outcome State Fault Refusal := .next (s.upd (announceSend))

/-- PTP_DELAY_REQ_SEND (R583): As slave the ordinary clock sends a Delay_Req or Pdelay_Req each request interval. -/
def execPtpDelayReqSend (s : State) : Host.Outcome State Fault Refusal := .next (s.upd (delayReqSend))

end Sys2Proof.Machine
end

