-- ==== Sys2Proof/Machine/Dispatch.lean ====
section
/-! DEFINITION. One arm for each command: its meaning. -/

namespace Sys2Proof.Machine

def exec (i : Instr) (s : State) : Host.Outcome State Fault Refusal :=
  match i with
  | .powerGood slot pref peer eject mem otp => Sys2Proof.Machine.execPowerGood slot pref peer eject s mem otp
  | .resetNAsserted => Sys2Proof.Machine.execResetNAsserted s
  | .configApply => Sys2Proof.Machine.execConfigApply s
  | .enableRequests => Sys2Proof.Machine.execEnableRequests s
  | .roleResolution => Sys2Proof.Machine.execRoleResolution s
  | .reload p a0 a1 a2 a3 => Sys2Proof.Machine.execReload p a0 a1 a2 a3 s
  | .bankErase p a0 a1 a2 a3 => Sys2Proof.Machine.execBankErase p a0 a1 a2 a3 s
  | .bankWrite p a0 a1 a2 a3 => Sys2Proof.Machine.execBankWrite p a0 a1 a2 a3 s
  | .bankSeal p a0 a1 a2 a3 => Sys2Proof.Machine.execBankSeal p a0 a1 a2 a3 s
  | .nvRead p a0 a1 a2 a3 => Sys2Proof.Machine.execNvRead p a0 a1 a2 a3 s
  | .backgroundCommandEnd done fault => Sys2Proof.Machine.execBackgroundCommandEnd done fault s
  | .enrol p a0 a1 a2 a3 => Sys2Proof.Machine.execEnrol p a0 a1 a2 a3 s
  | .revoke p a0 a1 a2 a3 => Sys2Proof.Machine.execRevoke p a0 a1 a2 a3 s
  | .rollbackCommit p a0 a1 a2 a3 => Sys2Proof.Machine.execRollbackCommit p a0 a1 a2 a3 s
  | .attest p a0 a1 a2 a3 => Sys2Proof.Machine.execAttest p a0 a1 a2 a3 s
  | .devModeReq p v => Sys2Proof.Machine.execDevModeReq p v s
  | .stopSequenceEnd => Sys2Proof.Machine.execStopSequenceEnd s
  | .rideSettleElapsed => Sys2Proof.Machine.execRideSettleElapsed s
  | .rideMaxElapsed => Sys2Proof.Machine.execRideMaxElapsed s
  | .chargeMaxElapsed => Sys2Proof.Machine.execChargeMaxElapsed s
  | .chargeRideTimeout => Sys2Proof.Machine.execChargeRideTimeout s
  | .chargeComplete => Sys2Proof.Machine.execChargeComplete s
  | .devModeCfg p v => Sys2Proof.Machine.execDevModeCfg p v s
  | .objCreate p a0 a1 a2 a3 => Sys2Proof.Machine.execObjCreate p a0 a1 a2 a3 s
  | .objDestroy p a0 a1 a2 a3 => Sys2Proof.Machine.execObjDestroy p a0 a1 a2 a3 s
  | .objLookup p a0 a1 a2 a3 => Sys2Proof.Machine.execObjLookup p a0 a1 a2 a3 s
  | .objWrite p a0 a1 a2 a3 => Sys2Proof.Machine.execObjWrite p a0 a1 a2 a3 s
  | .objRead p a0 a1 a2 a3 => Sys2Proof.Machine.execObjRead p a0 a1 a2 a3 s
  | .registerWrite p a v => Sys2Proof.Machine.execRegisterWrite p a v s
  | .devWrReasonRead p => Sys2Proof.Machine.execDevWrReasonRead p s
  | .devEnable p v => Sys2Proof.Machine.execDevEnable p v s
  | .strEnable p idx v => Sys2Proof.Machine.execStrEnable p idx v s
  | .nodeEnable p n v => Sys2Proof.Machine.execNodeEnable p n v s
  | .ldCtrlEnable p idx v => Sys2Proof.Machine.execLdCtrlEnable p idx v s
  | .profEnable p idx v => Sys2Proof.Machine.execProfEnable p idx v s
  | .rgEnable p g v => Sys2Proof.Machine.execRgEnable p g v s
  | .auxEnable p idx v => Sys2Proof.Machine.execAuxEnable p idx v s
  | .canEnable p c v => Sys2Proof.Machine.execCanEnable p c v s
  | .objEnable p o v => Sys2Proof.Machine.execObjEnable p o v s
  | .ptpEnable p v => Sys2Proof.Machine.execPtpEnable p v s
  | .tpoEnable p k v => Sys2Proof.Machine.execTpoEnable p k v s
  | .trcArm p v => Sys2Proof.Machine.execTrcArm p v s
  | .consistencyCheckStart => Sys2Proof.Machine.execConsistencyCheckStart s
  | .consistencyCheckEnd => Sys2Proof.Machine.execConsistencyCheckEnd s
  | .strCommit p idx v => Sys2Proof.Machine.execStrCommit p idx v s
  | .loadAll p v => Sys2Proof.Machine.execLoadAll p v s
  | .latchInstant idx => Sys2Proof.Machine.execLatchInstant idx s
  | .stringReload idx => Sys2Proof.Machine.execStringReload idx s
  | .carrierEvent idx centre ft => Sys2Proof.Machine.execCarrierEvent idx centre ft s
  | .legPeriodGenerate n y => Sys2Proof.Machine.execLegPeriodGenerate n y s
  | .dlCalibrate tpt => Sys2Proof.Machine.execDlCalibrate tpt s
  | .nodeOvr p n v => Sys2Proof.Machine.execNodeOvr p n v s
  | .csyncInEdge ft => Sys2Proof.Machine.execCsyncInEdge ft s
  | .csyncLost => Sys2Proof.Machine.execCsyncLost s
  | .auxLatch idx => Sys2Proof.Machine.execAuxLatch idx s
  | .auxReload idx => Sys2Proof.Machine.execAuxReload idx s
  | .echoDeadline n y => Sys2Proof.Machine.execEchoDeadline n y s
  | .cmdFrameStart => Sys2Proof.Machine.execCmdFrameStart s
  | .rptFrame p h b => Sys2Proof.Machine.execRptFrame p h b s
  | .echoFrame p h dropped es => Sys2Proof.Machine.execEchoFrame p h dropped es s
  | .evtFrame p h lost es => Sys2Proof.Machine.execEvtFrame p h lost es s
  | .reportCalFrame p h ident set => Sys2Proof.Machine.execReportCalFrame p h ident set s
  | .errorSlot p e => Sys2Proof.Machine.execErrorSlot p e s
  | .calBlockEnd p => Sys2Proof.Machine.execCalBlockEnd p s
  | .portUnreachable p => Sys2Proof.Machine.execPortUnreachable p s
  | .portDown p => Sys2Proof.Machine.execPortDown p s
  | .portTraining p => Sys2Proof.Machine.execPortTraining p s
  | .lnkPcfgWrite p q v => Sys2Proof.Machine.execLnkPcfgWrite p q v s
  | .mgmtTimeout p => Sys2Proof.Machine.execMgmtTimeout p s
  | .nodeCmdFrame p l f arr => Sys2Proof.Machine.execNodeCmdFrame p l f arr s
  | .nodeEdgeDue p y err body dir => Sys2Proof.Machine.execNodeEdgeDue p y err body dir s
  | .counterReload p => Sys2Proof.Machine.execCounterReload p s
  | .holdoverEnter p => Sys2Proof.Machine.execHoldoverEnter p s
  | .safeEnter p => Sys2Proof.Machine.execSafeEnter p s
  | .contactorClosed p => Sys2Proof.Machine.execContactorClosed p s
  | .nodeReportSlot p k m => Sys2Proof.Machine.execNodeReportSlot p k m s
  | .nodePowerUp p ident => Sys2Proof.Machine.execNodePowerUp p ident s
  | .nodeMgmtMessage p l m => Sys2Proof.Machine.execNodeMgmtMessage p l m s
  | .nodeSelftestEnd p pass => Sys2Proof.Machine.execNodeSelftestEnd p pass s
  | .switchTrip p now sw method onset cur tj => Sys2Proof.Machine.execSwitchTrip p now sw method onset cur tj s
  | .shootThrough p now y last => Sys2Proof.Machine.execShootThrough p now y last s
  | .gateFault p now sw atOff v => Sys2Proof.Machine.execGateFault p now sw atOff v s
  | .uvloFault p now sw neg v => Sys2Proof.Machine.execUvloFault p now sw neg v s
  | .rgFire g => Sys2Proof.Machine.execRgFire g s
  | .rgLatch g => Sys2Proof.Machine.execRgLatch g s
  | .rgEvalDone g t => Sys2Proof.Machine.execRgEvalDone g t s
  | .rgCommitTick g => Sys2Proof.Machine.execRgCommitTick g s
  | .loopCommit p v => Sys2Proof.Machine.execLoopCommit p v s
  | .loopThaw p idx v => Sys2Proof.Machine.execLoopThaw p idx v s
  | .cellOut p a0 a1 a2 a3 => Sys2Proof.Machine.execCellOut p a0 a1 a2 a3 s
  | .cellIn p a0 a1 a2 a3 => Sys2Proof.Machine.execCellIn p a0 a1 a2 a3 s
  | .cellPrecharge p a0 a1 a2 a3 => Sys2Proof.Machine.execCellPrecharge p a0 a1 a2 a3 s
  | .cellPrechargeFail idx k => Sys2Proof.Machine.execCellPrechargeFail idx k s
  | .cellSwap p a0 a1 a2 a3 => Sys2Proof.Machine.execCellSwap p a0 a1 a2 a3 s
  | .profileFieldWrite p idx w v => Sys2Proof.Machine.execProfileFieldWrite p idx w v s
  | .desatAdapt => Sys2Proof.Machine.execDesatAdapt s
  | .recoveryEnd n => Sys2Proof.Machine.execRecoveryEnd n s
  | .protSelftest p a0 a1 a2 a3 => Sys2Proof.Machine.execProtSelftest p a0 a1 a2 a3 s
  | .startStep n => Sys2Proof.Machine.execStartStep n s
  | .bsPrechargeTimeout n => Sys2Proof.Machine.execBsPrechargeTimeout n s
  | .chargeStepTimeout idx => Sys2Proof.Machine.execChargeStepTimeout idx s
  | .sarSample vs => Sys2Proof.Machine.execSarSample vs s
  | .adcTriggerAlign e => Sys2Proof.Machine.execAdcTriggerAlign e s
  | .adcInjReq p v => Sys2Proof.Machine.execAdcInjReq p v s
  | .adcInjRelease p v => Sys2Proof.Machine.execAdcInjRelease p v s
  | .adcCalReq p v => Sys2Proof.Machine.execAdcCalReq p v s
  | .calSchedule => Sys2Proof.Machine.execCalSchedule s
  | .calStart => Sys2Proof.Machine.execCalStart s
  | .calEnd ofs gain => Sys2Proof.Machine.execCalEnd ofs gain s
  | .adcTdac p v => Sys2Proof.Machine.execAdcTdac p v s
  | .sdOutput idx bits => Sys2Proof.Machine.execSdOutput idx bits s
  | .sdStuck idx => Sys2Proof.Machine.execSdStuck idx s
  | .sdFastOutput idx bits => Sys2Proof.Machine.execSdFastOutput idx bits s
  | .faultWindowClose n => Sys2Proof.Machine.execFaultWindowClose n s
  | .holdoffEnd n => Sys2Proof.Machine.execHoldoffEnd n s
  | .faultClear p v => Sys2Proof.Machine.execFaultClear p v s
  | .faultPinCtrl p v => Sys2Proof.Machine.execFaultPinCtrl p v s
  | .minpulseEnd => Sys2Proof.Machine.execMinpulseEnd s
  | .fltFifoPop p v => Sys2Proof.Machine.execFltFifoPop p v s
  | .fltTest p v => Sys2Proof.Machine.execFltTest p v s
  | .trcTrig p v => Sys2Proof.Machine.execTrcTrig p v s
  | .trcDataRead p => Sys2Proof.Machine.execTrcDataRead p s
  | .pairSwitch p a0 a1 a2 a3 => Sys2Proof.Machine.execPairSwitch p a0 a1 a2 a3 s
  | .pairOut p a0 a1 a2 a3 => Sys2Proof.Machine.execPairOut p a0 a1 a2 a3 s
  | .pairJoin p a0 a1 a2 a3 => Sys2Proof.Machine.execPairJoin p a0 a1 a2 a3 s
  | .pairResync p a0 a1 a2 a3 => Sys2Proof.Machine.execPairResync p a0 a1 a2 a3 s
  | .heartbeatToggle => Sys2Proof.Machine.execHeartbeatToggle s
  | .heartbeatLost => Sys2Proof.Machine.execHeartbeatLost s
  | .laneLost l => Sys2Proof.Machine.execLaneLost l s
  | .mirrorSnapshot g tf snap => Sys2Proof.Machine.execMirrorSnapshot g tf snap s
  | .mirrorWaitExpire g => Sys2Proof.Machine.execMirrorWaitExpire g s
  | .mirrorWrite x => Sys2Proof.Machine.execMirrorWrite x s
  | .mirrorMode m why => Sys2Proof.Machine.execMirrorMode m why s
  | .mirrorEvent src kind c severe form hi data => Sys2Proof.Machine.execMirrorEvent src kind c severe form hi data s
  | .mirrorDtLatch l => Sys2Proof.Machine.execMirrorDtLatch l s
  | .mirrorTokenFrame start hor => Sys2Proof.Machine.execMirrorTokenFrame start hor s
  | .mirrorTime add jump fi st => Sys2Proof.Machine.execMirrorTime add jump fi st s
  | .commitDigest g tf d p => Sys2Proof.Machine.execCommitDigest g tf d p s
  | .replayEnd own peer => Sys2Proof.Machine.execReplayEnd own peer s
  | .replayTimeout => Sys2Proof.Machine.execReplayTimeout s
  | .resyncTimeout => Sys2Proof.Machine.execResyncTimeout s
  | .healthReport health elig severe role phase dec tick => Sys2Proof.Machine.execHealthReport health elig severe role phase dec s tick
  | .healthSelftest bit fail engine => Sys2Proof.Machine.execHealthSelftest bit fail engine s
  | .switchBoundary => Sys2Proof.Machine.execSwitchBoundary s
  | .revertiveReturn => Sys2Proof.Machine.execRevertiveReturn s
  | .joinPhaseEnd x => Sys2Proof.Machine.execJoinPhaseEnd x s
  | .joinPhaseTimeout => Sys2Proof.Machine.execJoinPhaseTimeout s
  | .rejoinRetry => Sys2Proof.Machine.execRejoinRetry s
  | .ejectReqTaken => Sys2Proof.Machine.execEjectReqTaken s
  | .ejectReleased lift => Sys2Proof.Machine.execEjectReleased s lift
  | .withdrawal => Sys2Proof.Machine.execWithdrawal s
  | .refEdgeMissing x => Sys2Proof.Machine.execRefEdgeMissing x s
  | .refFreqMeasure x ppb => Sys2Proof.Machine.execRefFreqMeasure x ppb s
  | .refQualified x => Sys2Proof.Machine.execRefQualified x s
  | .clkSel p v => Sys2Proof.Machine.execClkSel p v s
  | .clkApply p => Sys2Proof.Machine.execClkApply p s
  | .clkSyncArm p => Sys2Proof.Machine.execClkSyncArm p s
  | .clkRelock p => Sys2Proof.Machine.execClkRelock p s
  | .glideEnd => Sys2Proof.Machine.execGlideEnd s
  | .hopLock temp found tune => Sys2Proof.Machine.execHopLock temp found tune s
  | .hopTimeout => Sys2Proof.Machine.execHopTimeout s
  | .buildOut phase => Sys2Proof.Machine.execBuildOut phase s
  | .pllLocked tune => Sys2Proof.Machine.execPllLocked tune s
  | .pllUnlock => Sys2Proof.Machine.execPllUnlock s
  | .overspeed => Sys2Proof.Machine.execOverspeed s
  | .clksyncInEdge e => Sys2Proof.Machine.execClksyncInEdge e s
  | .ptpSync h origin => Sys2Proof.Machine.execPtpSync h origin s
  | .ptpFollowUp h precise => Sys2Proof.Machine.execPtpFollowUp h precise s
  | .ptpAnnounce h a => Sys2Proof.Machine.execPtpAnnounce h a s
  | .ptpDelayResp h kind time => Sys2Proof.Machine.execPtpDelayResp h kind time s
  | .ptpTcForward h type egress => Sys2Proof.Machine.execPtpTcForward h type egress s
  | .ptpMasterSync => Sys2Proof.Machine.execPtpMasterSync s
  | .syncTimeout => Sys2Proof.Machine.execSyncTimeout s
  | .announceTimeout => Sys2Proof.Machine.execAnnounceTimeout s
  | .sgLinkLoss q => Sys2Proof.Machine.execSgLinkLoss q s
  | .holdoverMaxElapsed => Sys2Proof.Machine.execHoldoverMaxElapsed s
  | .tbStep p => Sys2Proof.Machine.execTbStep p s
  | .tbNsRead p => Sys2Proof.Machine.execTbNsRead p s
  | .tpoPulse k => Sys2Proof.Machine.execTpoPulse k s
  | .canRxFrame c f stamp => Sys2Proof.Machine.execCanRxFrame c f stamp s
  | .canTxStart c => Sys2Proof.Machine.execCanTxStart c s
  | .canTxEnd c x tdcv => Sys2Proof.Machine.execCanTxEnd c x tdcv s
  | .canRecover p c v => Sys2Proof.Machine.execCanRecover p c v s
  | .canRecoveryEnd c => Sys2Proof.Machine.execCanRecoveryEnd c s
  | .objCmdReq p o v => Sys2Proof.Machine.execObjCmdReq p o v s
  | .objCmdAbort p o v => Sys2Proof.Machine.execObjCmdAbort p o v s
  | .objDataWrite p o w v => Sys2Proof.Machine.execObjDataWrite p o w v s
  | .objRxinfoRead p o => Sys2Proof.Machine.execObjRxinfoRead p o s
  | .pwrReq p v => Sys2Proof.Machine.execPwrReq p v s
  | .agentAnswer x => Sys2Proof.Machine.execAgentAnswer x s
  | .agentDelayExpired => Sys2Proof.Machine.execAgentDelayExpired s
  | .wakeEvent code levels => Sys2Proof.Machine.execWakeEvent code s levels
  | .avsEvaluate slack => Sys2Proof.Machine.execAvsEvaluate slack s
  | .shedStageReached stage vhold => Sys2Proof.Machine.execShedStageReached stage vhold s
  | .lastGaspDone => Sys2Proof.Machine.execLastGaspDone s
  | .lgEraseDone => Sys2Proof.Machine.execLgEraseDone s
  | .shedStageEnd vhold => Sys2Proof.Machine.execShedStageEnd vhold s
  | .supplyRestart => Sys2Proof.Machine.execSupplyRestart s
  | .supplyInput inp mv => Sys2Proof.Machine.execSupplyInput inp mv s
  | .moduleTemp face junc => Sys2Proof.Machine.execModuleTemp face junc s
  | .locate p a0 a1 a2 a3 => Sys2Proof.Machine.execLocate p a0 a1 a2 a3 s
  | .locateEnd => Sys2Proof.Machine.execLocateEnd s
  | .reset p a0 a1 a2 a3 => Sys2Proof.Machine.execReset p a0 a1 a2 a3 s
  | .spiStatus => Sys2Proof.Machine.execSpiStatus s
  | .spiWrite a ws part => Sys2Proof.Machine.execSpiWrite a ws part s
  | .spiRead a n => Sys2Proof.Machine.execSpiRead a n s
  | .spiReadFixed a n => Sys2Proof.Machine.execSpiReadFixed a n s
  | .lmpOpenReq => Sys2Proof.Machine.execLmpOpenReq s
  | .lmpOpen o => Sys2Proof.Machine.execLmpOpen o s
  | .lmpRead h a n => Sys2Proof.Machine.execLmpRead h a n s
  | .lmpReadFixed h a n => Sys2Proof.Machine.execLmpReadFixed h a n s
  | .lmpWrite h a ws => Sys2Proof.Machine.execLmpWrite h a ws s
  | .lmpCommand h op a0 a1 a2 a3 => Sys2Proof.Machine.execLmpCommand h op a0 a1 a2 a3 s
  | .lmpSubscribe h alarms trace => Sys2Proof.Machine.execLmpSubscribe h alarms trace s
  | .lmpAlarmAck h rseq => Sys2Proof.Machine.execLmpAlarmAck h rseq s
  | .lmpAlarmRepeat rseq => Sys2Proof.Machine.execLmpAlarmRepeat rseq s
  | .lmpKeepalive h => Sys2Proof.Machine.execLmpKeepalive h s
  | .lmpClose h => Sys2Proof.Machine.execLmpClose h s
  | .lmpIdleTimeout num => Sys2Proof.Machine.execLmpIdleTimeout num s
  | .arpRequest ip => Sys2Proof.Machine.execArpRequest ip s
  | .icmpEcho ip payload => Sys2Proof.Machine.execIcmpEcho ip payload s
  | .uvloRecovered p sw neg => Sys2Proof.Machine.execUvloRecovered p sw s neg
  | .peerPresentChange here => Sys2Proof.Machine.execPeerPresentChange here s
  | .hbInEdge => Sys2Proof.Machine.execHbInEdge s
  | .pairLaneUp l => Sys2Proof.Machine.execPairLaneUp l s
  | .nodeCalFrame p l seq arr => Sys2Proof.Machine.execNodeCalFrame p l seq arr s
  | .nodeIdleFrame p l seq arr => Sys2Proof.Machine.execNodeIdleFrame p l seq arr s
  | .nodeErrorSlot p l => Sys2Proof.Machine.execNodeErrorSlot p l s
  | .sdStuckEnd idx => Sys2Proof.Machine.execSdStuckEnd idx s
  | .canErrorFrame c x => Sys2Proof.Machine.execCanErrorFrame c x s
  | .sgLinkUp q => Sys2Proof.Machine.execSgLinkUp q s
  | .ptpDelayReqRx h pdelay => Sys2Proof.Machine.execPtpDelayReqRx h pdelay s
  | .ptpAnnounceSend => Sys2Proof.Machine.execPtpAnnounceSend s
  | .ptpDelayReqSend => Sys2Proof.Machine.execPtpDelayReqSend s
  | .badOpcode p op a0 a1 a2 a3 => Sys2Proof.Machine.execBadOpcode p op a0 a1 a2 a3 s
  | .spiBadOpcode => Sys2Proof.Machine.execSpiBadOpcode s
  | .commandEnd => Sys2Proof.Machine.execCommandEnd s
  | .mirrorCanAttempt o x busOff => Sys2Proof.Machine.execMirrorCanAttempt o x busOff s
  | .indicatorTestEnd => Sys2Proof.Machine.execIndicatorTestEnd s
  | .ejectRefusedFlashEnd => Sys2Proof.Machine.execEjectRefusedFlashEnd s

end Sys2Proof.Machine
end

