-- ==== Sys2Proof/Safety.lean ====
section
/-! DEFINITION. What the claims call safe: the form of the non-volatile memories, what OTP may become, a machine that goes on, and the shape of what a command does. -/

namespace Sys2Proof.Machine

/-- The non-volatile memories in their canonical form, with a rollback counter that its commands can reach (R24, R40, R42). -/
def Nv.Inv (n : Nv) : Prop :=
  Memory.wf n.mem ∧ twf (fun _ => Anchor.empty) n.otp.anchor = true ∧ twf (fun _ => 0#256) n.otp.anchorHash = true ∧ n.otp.rollback ≤ 64

/-- How far a slot has been written. -/
def Anchor.rank : Anchor → Nat | .empty => 0 | .enrolled => 1 | .revoked => 2

/-- OTP only grows: a slot goes from EMPTY to ENROLLED to REVOKED, its hash stays once it is written, the rollback counter never falls (R40, R42, R47). -/
def Otp.Grows (o o' : Otp) : Prop :=
  (∀ k, (o.state k).rank ≤ (o'.state k).rank) ∧ (∀ k, o.state k ≠ Anchor.empty → o'.hash k = o.hash k) ∧ o.rollback ≤ o'.rollback

/-- The machine goes on: the outcome is a next state with the property. -/
def Goes (o : Host.Outcome State Fault Refusal) (P : State → Prop) : Prop := ∃ t, o = .next t ∧ P t

/-! ### The module between two commands -/

/-- Nothing waits: no event raised and not taken, no start mode to take. -/
abbrev Dev.Quiet (d : Dev) : Prop := d.due = [] ∧ d.img.startCharge = false

/-- The module as a command finds it: the datagrams that an earlier one sent are gone. -/
abbrev Dev.fresh (d : Dev) : Dev := { d with hs := { d.hs with out := [] } }

/-- The registers that hold the states of message objects, which follow the alarm queue and the pair role (R602, R615). -/
abbrev IsObjStatus (a : Nat) : Prop := ∃ o < 512, a = bObj o + F.OBJ_STATUS.off

/-- The registers of a module outside a list of addresses are as they were; the states of message objects are not spoken of. -/
abbrev KeepsRegs (d e : Dev) (l : List Nat) : Prop := ∀ a, a ∉ l → ¬ IsObjStatus a → e.rd a = d.rd a

/-- The module without its registers, its host paths, the stored parts of message objects and the start of its eligibility: what a register access leaves alone unless its register says otherwise. -/
def Dev.rest (d : Dev) : Dev :=
  { d with regs := [], hs := hostSt0, objs := [], pair := { d.pair with eligFrom := none } }

/-! ### The shape of what a command does -/

/-- The outcome is a next state: the command's own effect leaves a module with the property, and then `State.run` takes the events that the effect raised. -/
def Does (o : Host.Outcome State Fault Refusal) (s : State) (P : Dev → Prop) : Prop := ∃ e, o = .next (s.run (fun _ => e)) ∧ P e

/-- The same for a command that may also change the non-volatile memories. -/
def DoesNv (o : Host.Outcome State Fault Refusal) (s : State) (P : Nv → Dev → Prop) : Prop :=
  ∃ nv e, o = .next (State.run { s with nv := nv } (fun _ => e)) ∧ P nv e

/-- The node at the far end of port p becomes one with the property; nothing else of the module or of another node changes. -/
def AtNode (o : Host.Outcome State Fault Refusal) (s : State) (p : Nat) (P : FarSt → Prop) : Prop :=
  ∃ x, o = .next (s.run (fun _ => s.d.fresh.setFar p (fun _ => x))) ∧ P x

/-- A node has an event of a code to report. -/
def FarSt.Tells (x : FarSt) (code : Nat) : Prop := ∃ e ∈ x.events, e.code = code

/-- An event has been raised against a fault source: an occurrence (none), a cause that begins (true) or one that ends (false). -/
def Raised (e : Dev) (src kind : Nat) (c : Option Bool) : Prop := ∃ ev : Ev, Due.event ev ∈ e.due ∧ ev.src = src ∧ ev.kind = kind ∧ ev.cause = c

/-- The same for a host access, which may also change the non-volatile memories and notes how its transaction ended. -/
def Acts (o : Host.Outcome State Fault Refusal) (s : State) (P : Nv → Dev → Prop) : Prop :=
  ∃ nv e h, o = .next (spiNote (fun _ => h) (State.run { s with nv := nv } (fun _ => e))) ∧ P nv e

/-- A host can reach the registers: the module is ON with no transition, out of ROM hold and not the STANDBY of a pair, nothing waits, and no mailbox command executes (R49, R101, R513, R626, R678). -/
abbrev Responsive (d : Dev) : Prop :=
  d.Quiet ∧ pwrState d = 0 ∧ pwrTrans d = false ∧ romHold d = false ∧ d.role ≠ .standby ∧ d.ms.cmd = none

/-- A host reaches them by a path: no LMP write is held back, and by LMP, LMP runs and no SPI write waits that would go first (R118, R681). -/
abbrev HostReady (p : Path) (s : State) : Prop :=
  Responsive s.d ∧ s.d.hs.later = [] ∧ (p = .lmp → lmpRuns s.d = true ∧ ∀ a, spiWaits s.pending a = false)

/-- The module `e` is `d` but for the argument registers of the mailbox, message object states, eligibility and the last transaction of the host. -/
def ArgsOnly (d e : Dev) : Prop :=
  e.rest = d.rest ∧ KeepsRegs d e [bDev + F.CMD_ARG.off, bDev + F.CMD_ARG.off + 4, bDev + F.CMD_ARG.off + 8, bDev + F.CMD_ARG.off + 12]

/-- The same for a mailbox command: `d` is the module with the arguments written, as the executor finds it. -/
def Serves (o : Host.Outcome State Fault Refusal) (s : State) (P : Dev → Nv → Dev → Prop) : Prop :=
  ∃ d nv e h, ArgsOnly s.d d ∧ Responsive d ∧ o = .next (spiNote (fun _ => h) (State.run { s with nv := nv } (fun _ => e))) ∧ P d nv e

/-- A command executes: CMD_RESULT names it and reads BUSY, and the executor holds what it will answer (R101, R107). -/
def Executes (e : Dev) (op : Nat) (lmp : Bool) (res : List (Nat × Word)) (lock : Option Obj) : Prop :=
  e.gb bDev F.CMD_RESULT_BUSY = true ∧ e.g bDev F.CMD_RESULT_REASON = 0 ∧ e.g bDev F.CMD_RESULT_OP = op % 256 ∧ e.gb bDev F.CMD_RESULT_VIA_LMP = lmp ∧
    ∃ c, e.ms.cmd = some c ∧ c.op = op ∧ c.lmp = lmp ∧ c.reason = 0 ∧ c.res = res ∧ c.lock = lock

/-- A command has ended at once with a reason (R51, R107). -/
def Ended (e : Dev) (op : Nat) (lmp : Bool) (reason : Nat) : Prop :=
  e.gb bDev F.CMD_RESULT_BUSY = false ∧ e.gb bDev F.CMD_RESULT_DONE = true ∧ e.g bDev F.CMD_RESULT_REASON = reason ∧ e.g bDev F.CMD_RESULT_OP = op % 256 ∧
    e.gb bDev F.CMD_RESULT_VIA_LMP = lmp ∧ e.g bDev F.DEV_IRQ_STATUS_CMD_DONE = 1 ∧ e.ms.cmd = none

/-! ### Enable bits -/

/-- Where the outcome of the check of an object is read: address and field of the reason (R121, R130); message objects and the trace have none. -/
def checkField : Obj → Option (Nat × Fld)
  | .device => some (bDev, F.DEV_CHECK_REASON)
  | .string i => some (bStr i, F.STR_CHECK_REASON)
  | .node n => some (bNode n, F.NODE_CHECK_REASON)
  | .loop i => some (bLoopChk i, ⟨0, 0, 16⟩)
  | .profile i => some (bProf i, F.PROF_CHECK_REASON)
  | .rg g => some (bRg g, F.RG_STATUS_CHECK)
  | .aux i => some (bAux i, F.AUX_STATUS_CHECK)
  | .can c => some (bCan c, F.CAN_ERR_CHECK)
  | .ptp => some (bTb, F.PTP_STATUS_CHECK)
  | .tpo k => some (bTpo k, F.TPO_STATUS_CHECK)
  | .obj _ | .trace => none

/-- The address of the register of `checkField`. -/
def checkAddr (o : Obj) : List Nat := ((checkField o).map (fun w => w.1 + w.2.off)).toList

/-- In a module that a host reaches, the command that writes `v` with a 1 for the enable bit of a disabled object with no check open lets its check begin, or wait behind others, and changes nothing else but the bits beside it (R120, R121, R126). -/
def StartsCheck (p : Path) (v : Word) (o : Obj) (c : Instr) : Prop :=
  ∀ s, HostReady p s → s.d.occupied o = true → s.d.enabled o = false → s.d.checkOpen o = false → s.d.ms.checks.length < 16 →
    getBits v 0 1 = 1 → (o = .trace → getBits v 1 1 = 0) →
    Acts (exec c s) s (fun nv e => nv = s.nv ∧ e.enabled o = false ∧ e.checkOpen o = true ∧
      (s.d.ms.checking = none → s.d.ms.checks = [] → e.ms.checking = some o ∧ e.ms.checks = []) ∧
      (s.d.ms.checking ≠ none → e.ms.checking = s.d.ms.checking ∧ e.ms.checks = s.d.ms.checks ++ [o]) ∧
      (∀ w, checkField o = some w → e.g w.1 w.2 = 0x0101) ∧
      e.rest = { s.d.rest with ms := e.ms } ∧ KeepsRegs s.d e (enableReg o :: checkAddr o))

/-! ### Sessions of LMP -/

/-- A request of a session: its header, its type, and its body as it stands on the wire (R682, R685). -/
def sessionRequest : Instr → Option (LmpHdr × Nat × List Byte)
  | .lmpRead h a n => some (h, 0x10, leBytes 4 a.toNat ++ leBytes 2 n.toNat)
  | .lmpReadFixed h a n => some (h, 0x11, leBytes 4 a.toNat ++ leBytes 2 n.toNat)
  | .lmpWrite h a ws => some (h, 0x12, leBytes 4 a.toNat ++ ws.flatMap (fun w => leBytes 4 w.toNat))
  | .lmpCommand h op a0 a1 a2 a3 => some (h, 0x13, leBytes 2 op.toNat ++ leBytes 4 a0.toNat ++ leBytes 4 a1.toNat ++ leBytes 4 a2.toNat ++ leBytes 4 a3.toNat)
  | .lmpSubscribe h alarms trace => some (h, 0x20, leBytes 1 (b2n alarms + 2 * b2n trace))
  | .lmpAlarmAck h rseq => some (h, 0x22, leBytes 4 rseq.toNat)
  | .lmpKeepalive h => some (h, 0x30, [])
  | .lmpClose h => some (h, 0x31, [])
  | _ => none

/-- The header that a request of a session carries when it is signed with the key of the session (R682, R684). -/
def signed (x : Sess) (seq : BitVec 32) (type : Nat) (body : List Byte) : LmpHdr :=
  ⟨x.num, seq, lmpTag x.key (lmpHeader type x.num body.length seq.toNat ++ body)⟩

/-- LMP runs in an ON module, session x is open, and the sequence number is a new one (R681, R684). -/
abbrev LmpReady (d : Dev) (x : Sess) (seq : BitVec 32) : Prop :=
  d.Quiet ∧ lmpRuns d = true ∧ pwrState d = 0 ∧ pwrTrans d = false ∧ d.hs.sess.find? (fun y => y.num == x.num) = some x ∧ x.seqIn < seq.toNat

/-- A request has been taken (R684): session x has noted its sequence number and the time; nothing has been sent, and the rest of the block is as it was. -/
def Taken (s : State) (x : Sess) (seq : BitVec 32) (u : State) : Prop :=
  u.nv = s.nv ∧ u.pending = s.pending ∧ u.d.rest = s.d.rest ∧ KeepsRegs s.d u.d [] ∧ u.d.hs.out = [] ∧
    u.d.hs.sess.find? (fun y => y.num == x.num) = some { x with heard := s.d.tick, seqIn := seq.toNat, cache := none }

/-- A datagram of a type and body has gone to session x. -/
def Replied (d : Dev) (x : Sess) (type : Nat) (body : List Byte) : Prop := ∃ m ∈ d.hs.out, m.sess = some x.num ∧ m.type = type ∧ m.body = body

/-- A read of the register at an address changes nothing (R119, R490, R569, R605). -/
def PlainRead (a : Nat) : Prop :=
  a ≠ bDev + F.DEV_WR_REASON.off ∧ a ≠ bFlt + F.TRC_DATA.off ∧ a ≠ bTb + F.TB_NS.off ∧ ∀ o < 512, a ≠ bObj o + F.OBJ_RXINFO.off

end Sys2Proof.Machine
end

