-- ==== Sys2Proof/Certificates/Slice0/Obligations.lean ====
section
/-! DEFINITION. What is claimed of the model: statements for the provers, each over every state and operand unless it says otherwise. A hypothesis names the state and the operands alone. -/

open Sys2Proof Sys2Proof.Machine

/-- A command at the front of the queue is carried out on the block with the queue's rest. -/
def Obligations.StepRunsFrontCommand : Prop :=
  (∀ c s, step (s.withFront c) = exec c s) ∧ ∀ c rest s, s.pending = c :: rest → step s = exec c { s with pending := rest }

/-- R567, R568: a step on an empty queue is one CLK_TIME tick (log entry 1, the model's choice): the tick count rises by exactly 1, the time value by 4 ns and the addend, in 2^-40 ns, with 48 bits of seconds; nothing else of the block notices. -/
def Obligations.EmptyQueueStepIsOneTick : Prop :=
  ∀ s, s.pending = [] → Goes (step s) (fun t => t.d.tick = s.d.tick + 1 ∧
    (timeVal t.d : Int) = ((timeVal s.d : Int) + 4 * 2 ^ 40 + s.d.gi bTb F.TB_ADDEND_ADDEND) % (2 ^ 48 * 10 ^ 9 * 2 ^ 40) ∧
    t.d.tb.ns < 10 ^ 9 ∧ t.d.tb.sub < 2 ^ 40 ∧ t.d.tb.sec < 2 ^ 48 ∧ t.pending = [] ∧ t.nv = s.nv ∧
    t.d = { s.d with tick := t.d.tick, tb := t.d.tb, ms := { s.d.ms with changed := false } })

/-- Every command whose operands the hardware can see completes in every state, and leaves the queue as it finds it; one with other operands stops the block, and changes nothing. -/
def Obligations.ExecLeavesQueue : Prop :=
  (∀ c s, c.wf = true → Goes (exec c s) (fun t => t.pending = s.pending)) ∧ ∀ c s, c.wf = false → exec c s = .fault .malformedOperand

/-- The invariant of the non-volatile memories holds after reset. Choices of the model in it: log entry 4. -/
def Obligations.ResetMeetsNvInvariant : Prop :=
 State.reset.nv.Inv ∧ State.reset.pending = [] ∧ State.reset.d.Quiet

/-- Every step keeps slot memory and OTP in their canonical form, and the rollback counter within what OTP can hold. -/
def Obligations.StepKeepsNvInvariant : Prop :=
 ∀ s t, s.nv.Inv → step s = .next t → t.nv.Inv

/-- R40, R42, R47: over every step OTP only grows. -/
def Obligations.StepOnlyGrowsOtp : Prop :=
 ∀ s t, step s = .next t → Otp.Grows s.nv.otp t.nv.otp

/-- R225, R228: the fields of an edge command read back from its word; the time is the execution instant at the node, modulo 2^24. R259: the word of a well-formed echo entry is 48 bits wide and holds each of its fields. -/
def Obligations.EdgeAndEchoWordsReadBack : Prop :=
  (∀ e : Edge, e.leg < 8 →
    ewLeg (edgeWord e) = e.leg ∧ ewTgt (edgeWord e) = e.tgt.code ∧ ewProf (edgeWord e) = e.prof ∧ ewSoft (edgeWord e) = e.soft ∧
    ewBs (edgeWord e) = e.bs ∧ ewTime (edgeWord e) = (((e.tExec : Int) - e.dapp) % 2 ^ 24).toNat) ∧
  (∀ e : Echo, e.wf = true → echoWord e < 2 ^ 48 ∧ echoWord e % 2 ^ 16 = e.time ∧ echoWord e / 2 ^ 16 % 2 ^ 16 = e.body ∧
    sgn 8 (echoWord e / 2 ^ 32) = e.execErr ∧ (echoWord e / 2 ^ 40 % 2 = 1 ↔ e.bs = true) ∧ echoWord e / 2 ^ 41 % 4 = e.dir ∧
    echoWord e / 2 ^ 43 % 4 = e.state ∧ echoWord e / 2 ^ 45 % 8 = e.leg)

/-- R119: a refused register write leaves the register as it was, and the bus answers the path with the reason; its byte address stands in DEV_WR_ADDR, the reason in DEV_WR_REASON.REASON, and LOST is set exactly where the record before had not been read or LOST stood already. The SPI reports the refusal in its transaction status. Among the refusals are an unmapped address (R674) and a FREE slot (R92). R119: a read of DEV_WR_REASON marks the record as read, and the host gets the stored word. -/
def Obligations.RefusedWriteIsRecorded : Prop :=
  (∀ p (a : BitVec 24) v s r, s.d.Quiet → pwrState s.d = 0 → pwrTrans s.d = false → s.d.hs.later = [] → (p = .lmp → lmpRuns s.d = true ∧ spiWaits s.pending a.toNat = false) →
    a.toNat % 4 = 0 → (busWrite p a.toNat v (s.upd id)).1 = r → r ≠ 0 → r < 65536 →
    Goes (exec (.registerWrite p a v) s) (fun t =>
      t.d.rd (bDev + F.DEV_WR_ADDR.off) = w32 a.toNat ∧ t.d.g bDev F.DEV_WR_REASON_REASON = r ∧
      (t.d.gb bDev F.DEV_WR_REASON_LOST = true ↔ s.d.ms.wrRead = false ∨ s.d.gb bDev F.DEV_WR_REASON_LOST = true) ∧ t.d.ms.wrRead = false ∧
      t.d.g bDev F.DEV_IRQ_STATUS_WR_REFUSED = 1 ∧
      (a.toNat ∉ [bDev + F.DEV_WR_ADDR.off, bDev + F.DEV_WR_REASON.off, bDev + F.DEV_IRQ_STATUS.off] → ¬ IsObjStatus a.toNat → t.d.rd a.toNat = s.d.rd a.toNat) ∧
      (p = .spi → t.d.hs.refused = true) ∧ t.nv = s.nv ∧ t.pending = s.pending)) ∧
  (∀ p s, HostReady p s → Goes (exec (.devWrReasonRead p) s) (fun t => t.d.ms.wrRead = true ∧ KeepsRegs s.d t.d [] ∧
    t.d.rest = { s.d.rest with ms := { s.d.ms with wrRead := true } } ∧ (p = .spi → t.d.hs.spiOut = [s.d.rd (bDev + F.DEV_WR_REASON.off)]) ∧ t.nv = s.nv))

/-- R674, R92: an address that no register occupies, and every address of the block of a FREE slot, reads 0 over either path. R110: a write of a class S register while its owner is enabled is refused with 0x0310; R674 and R92: an unmapped address with 0x0111 and one in the block of a FREE slot with 0x0309; none of them changes the module. R6, R112: a register of the signal, scale, monitor, reaction-policy or pair windows, of class L or of class S with its owner disabled, takes the written RW bits at once, clears the W1C bits written as 1 and keeps every other bit; no other register, memory or unit changes. R68, R69: only a new reaction policy also starts or ends the interval of RIDE sources of CHARGE and the settling of RIDE; a policy that lets a CHARGE that is done pass on to RUN is left out here. R118, R681: an LMP write waits while an SPI write to the same register of the present tick does, and has no effect where LMP does not run; once the SPI write has come, it follows, so that of two writes to one register of a plain window the LMP write is the last. Choices of the model in it: log entries 12, 24. -/
def Obligations.RegisterAccessRules : Prop :=
  ((∀ v a, (∀ l, locate a = some l → l.reg = none) → shown v a = 0#32) ∧
  ∀ v a l o, locate a = some l → slotOfLoc l = some o → v.d.occupied o = false → shown v a = 0#32) ∧
  ((∀ via r w mask s, r.cls = .s → ownerEnabled s w.loc = true → regWrite via r w mask s = (0x0310, s)) ∧
  (∀ p a v mask s, s.ms.cmd = none → (∀ l, locate a = some l → l.reg = none ∧ slotOfLoc l = none) → writeDev (.host p) a v mask s = (0x0111, s)) ∧
  (∀ p a v mask s l o, s.ms.cmd = none → locate a = some l → slotOfLoc l = some o → s.occupied o = false → writeDev (.host p) a v mask s = (0x0309, s))) ∧
  (∀ p (a : BitVec 24) v s fam i off r, HostReady p s → a.toNat % 4 = 0 → locate a.toNat = some ⟨fam, i, off, some r⟩ →
    fam ∈ [Fam.loopS, .lnk, .protStr, .mon, .fltPol, .ss, .ptpPort] → (fam = .loopS → s.d.occupied (.loop i) = true) →
    (fam = .protStr → s.d.occupied (.string i) = true) →
    (fam = .fltPol → s.d.mode = .charge → s.d.gb bDev F.DEV_MODE_CHARGE_DONE = false) →
    r.cls ≠ .c → (r.cls = .s → ownerEnabled s.d ⟨fam, i, off, some r⟩ = false) →
    Goes (exec (.registerWrite p a v) s) (fun t => t.d.rd a.toNat = merge r (s.d.rd a.toNat) v 4294967295#32 ∧
      KeepsRegs s.d t.d [a.toNat] ∧ t.d.rest = { s.d.rest with ms := { s.d.ms with rideFrom := t.d.ms.rideFrom, settleFrom := t.d.ms.settleFrom } } ∧
      (fam ≠ .fltPol ∨ s.d.mode ≠ .charge → t.d.ms.rideFrom = s.d.ms.rideFrom) ∧ (fam ≠ .fltPol ∨ s.d.mode ≠ .ride → t.d.ms.settleFrom = s.d.ms.settleFrom) ∧
      t.nv = s.nv ∧ t.pending = s.pending)) ∧
  ((∀ (a : BitVec 24) v s, s.d.Quiet → lmpRuns s.d = true → a.toNat % 4 = 0 → spiWaits s.pending a.toNat = true →
    Goes (exec (.registerWrite .lmp a v) s) (fun t => t.d.hs.later = s.d.hs.later ++ [(a.toNat, v)] ∧ KeepsRegs s.d t.d [] ∧ t.d.rest = s.d.rest ∧
      t.nv = s.nv ∧ t.pending = s.pending)) ∧
  (∀ (a : BitVec 24) v s, s.d.Quiet → lmpRuns s.d = false →
    Goes (exec (.registerWrite .lmp a v) s) (fun t => t.d.hs.later = s.d.hs.later ∧ KeepsRegs s.d t.d [] ∧ t.d.rest = s.d.rest ∧
      t.nv = s.nv ∧ t.pending = s.pending)) ∧
  ∀ (a : BitVec 24) v w s fam i off r, Responsive s.d → s.d.hs.later = [(a.toNat, w)] → spiWaits s.pending a.toNat = false → a.toNat % 4 = 0 →
    locate a.toNat = some ⟨fam, i, off, some r⟩ → fam ∈ [Fam.lnk, .mon, .ss, .ptpPort] →
    r.cls ≠ .c → (r.cls = .s → ownerEnabled s.d ⟨fam, i, off, some r⟩ = false) →
    Goes (exec (.registerWrite .spi a v) s) (fun t => t.d.rd a.toNat = merge r (merge r (s.d.rd a.toNat) v 4294967295#32) w 4294967295#32 ∧
      t.d.hs.later = [] ∧ KeepsRegs s.d t.d [a.toNat] ∧ t.d.rest = s.d.rest ∧ t.nv = s.nv ∧ t.pending = s.pending))

/-- R120, R121, R126: a write of 1 to the enable bit of a disabled object with no check open starts its consistency check, or queues it where one runs and fewer than 16 wait: the enable bit still reads 0, CHECK reads 0x0101, and nothing else of the module changes but the bits written beside it in the same register. Each of the twelve enable commands does so. R126, R121: a waiting check begins when none runs; a check that ends leaves the object enabled with CHECK 0, or disabled with the first failing reason, and raises the interrupt. Choices of the model in it: log entry 74. -/
def Obligations.EnablesAndChecks : Prop :=
  (∀ p v, StartsCheck p v .device (.devEnable p v) ∧ (∀ i : Fin 8, StartsCheck p v (.string i) (.strEnable p i v)) ∧
    (∀ n : Fin 96, StartsCheck p v (.node n) (.nodeEnable p n v)) ∧ (∀ i : Fin 2048, StartsCheck p v (.loop i) (.ldCtrlEnable p i v)) ∧
    (∀ i : Fin 16, StartsCheck p v (.profile i) (.profEnable p i v)) ∧ (∀ g : Fin 8, StartsCheck p v (.rg g) (.rgEnable p g v)) ∧
    (∀ i : Fin 8, StartsCheck p v (.aux i) (.auxEnable p i v)) ∧ (∀ c : Fin 2, StartsCheck p v (.can c) (.canEnable p c v)) ∧
    (∀ o : Fin 512, StartsCheck p v (.obj o) (.objEnable p o v)) ∧ StartsCheck p v .ptp (.ptpEnable p v) ∧
    (∀ k : Fin 8, StartsCheck p v (.tpo k) (.tpoEnable p k v)) ∧ StartsCheck p v .trace (.trcArm p v)) ∧
  ((∀ s o l, s.d.ms.checking = none → s.d.ms.checks = o :: l → Does (exec .consistencyCheckStart s) s (fun e =>
    e = { s.d.fresh with ms := { s.d.ms with checking := some o, checks := l } })) ∧
  (∀ s o, s.d.ms.checking = some o → (checkOf { s.d.fresh with ms := { s.d.ms with checking := none } } o).1 ≠ 0 → Does (exec .consistencyCheckEnd s) s (fun e =>
    e.ms.checking = none ∧ e.enabled o = s.d.enabled o ∧ e.g bDev F.DEV_IRQ_STATUS_CHECK = 1 ∧
    (∀ w, checkField o = some w → e.g w.1 w.2 = (checkOf { s.d.fresh with ms := { s.d.ms with checking := none } } o).1 % 65536) ∧
    (∀ a, a ∉ checkAddr o → a ≠ bDev + F.DEV_IRQ_STATUS.off → e.rd a = s.d.rd a))) ∧
  ∀ s n, n < 16 → s.d.ms.checking = some (.profile n) → (checkOf { s.d.fresh with ms := { s.d.ms with checking := none } } (.profile n)).1 = 0 →
    Does (exec .consistencyCheckEnd s) s (fun e => e.ms.checking = none ∧ e.enabled (.profile n) = true ∧ e.g (bProf n) F.PROF_CHECK_REASON = 0 ∧
      e.g bDev F.DEV_IRQ_STATUS_CHECK = 1 ∧ KeepsRegs s.d e [bProf n + F.PROF_ENABLE.off, bProf n + F.PROF_CHECK.off, bDev + F.DEV_IRQ_STATUS.off]))

/-- R94, R106, R107: an opcode that names no command ends at once with 0x0103 in CMD_RESULT and has no other effect; when the command that executes ends, CMD_RESULT reads DONE, its results stand in the argument registers for a command of the SPI, and the executor is free. R88, R90, R93 to R99: OBJ_CREATE makes a disabled object with every register at its reset value and the next generation, answers its handle and holds its slot; with index 0xFFFF it takes the lowest FREE slot. OBJ_DESTROY frees the slot. OBJ_LOOKUP answers the current handle, 0 for a FREE slot. R94, R95, R97: OBJ_READ through a valid handle answers the word that a read of the addressed register shows; OBJ_WRITE makes the masked write that the register bus would make, and reports its refusal in CMD_RESULT. Choices of the model in it: log entries 23, 26, 27. -/
def Obligations.ObjectAndMailboxCommands : Prop :=
  ((∀ p (op : BitVec 16) a0 a1 a2 a3 s, HostReady p s → opcodes.contains op.toNat = false →
    Serves (exec (.badOpcode p op a0 a1 a2 a3) s) s (fun d nv e => nv = s.nv ∧ Ended e op.toNat (p == .lmp) 0x0103 ∧
      KeepsRegs d e [bDev + F.CMD_RESULT.off, bDev + F.DEV_IRQ_STATUS.off] ∧ e.rest = d.rest)) ∧
  ∀ s c, s.d.ms.cmd = some c → c.sess = none → c.reason < 65536 → Does (exec .commandEnd s) s (fun e => Ended e c.op c.lmp c.reason ∧
    (c.lmp = false → c.reason = 0 → ∀ w, c.res = [w] → w.1 < 4 → e.rd (bDev + F.CMD_ARG.off + 4 * w.1) = w.2) ∧
    (∀ a, (∀ w ∈ c.res, a ≠ bDev + F.CMD_ARG.off + 4 * w.1) → a ≠ bDev + F.CMD_RESULT.off → a ≠ bDev + F.DEV_IRQ_STATUS.off → e.rd a = s.d.rd a) ∧
    e.due = s.d.due)) ∧
  ((∀ p a0 a1 a2 a3 s o, HostReady p s → s.d.mode ≠ .load →
    ((getBits a0 0 16 ≠ 0xFFFF ∧ objOf (getBits a0 28 4) (getBits a0 0 16) = some o ∧ s.d.occupied o = false) ∨
     (getBits a0 0 16 = 0xFFFF ∧ ((upto (typeSlots (getBits a0 28 4))).filterMap (objOf (getBits a0 28 4))).find? (fun o => !s.d.occupied o) = some o)) →
    Serves (exec (.objCreate p a0 a1 a2 a3) s) s (fun d nv e => nv = s.nv ∧ e.occupied o = true ∧ e.enabled o = false ∧
      genOf e o = (if genOf s.d o = 0xFFF then 1 else genOf s.d o + 1) ∧
      (∀ w ∈ blockOf o, ∀ k, k < w.2 → e.rd (w.1 + k) = regReset (w.1 + k)) ∧
      Executes e 0x10 (p == .lmp) [(0, handleOf e o)] (some o) ∧
      (∀ a, (∀ w ∈ blockOf o, a < w.1 ∨ w.1 + w.2 ≤ a) → a ≠ bDev + F.CMD_RESULT.off → e.rd a = d.rd a))) ∧
  (∀ p a0 a1 a2 a3 s o, HostReady p s → s.d.mode ≠ .load → openHandle s.d a0 none = (0, o) → s.d.enabled o = false → s.d.checkOpen o = false →
    Serves (exec (.objDestroy p a0 a1 a2 a3) s) s (fun d nv e => nv = s.nv ∧ e.occupied o = false ∧ genOf e o = genOf s.d o ∧
      Executes e 0x11 (p == .lmp) [] (some o) ∧
      (∀ a, (∀ w ∈ blockOf o, a < w.1 ∨ w.1 + w.2 ≤ a) → a ≠ bDev + F.CMD_RESULT.off → e.rd a = d.rd a))) ∧
  ∀ p a0 a1 a2 a3 s o, HostReady p s → s.d.mode ≠ .load → openSlot a0 = (0, o) →
    Serves (exec (.objLookup p a0 a1 a2 a3) s) s (fun d nv e => nv = s.nv ∧
      Executes e 0x12 (p == .lmp) [(0, if s.d.occupied o then handleOf s.d o else 0#32)] (some o) ∧
      e.rest = { d.rest with ms := e.ms } ∧ KeepsRegs d e [bDev + F.CMD_RESULT.off])) ∧
  ((∀ p a0 a1 a2 a3 s o a, HostReady p s → s.d.mode ≠ .load → openHandle s.d a0 none = (0, o) → blockAddr o a1.toNat = some a →
    Serves (exec (.objRead p a0 a1 a2 a3) s) s (fun d nv e => nv = s.nv ∧
      Executes e 0x14 (p == .lmp) [(2, shown { s with d := d } a)] (some o) ∧ e.rest = { d.rest with ms := e.ms } ∧ KeepsRegs d e [bDev + F.CMD_RESULT.off])) ∧
  ∀ p a0 a1 a2 a3 s o a, HostReady p s → s.d.mode ≠ .load → openHandle s.d a0 none = (0, o) → blockAddr o a1.toNat = some a →
    Serves (exec (.objWrite p a0 a1 a2 a3) s) s (fun d nv e => nv = s.nv ∧
      ((writeDev .cmd a a2 a3 d).1 = 0 → (writeDev .cmd a a2 a3 d).2.img.boots = d.img.boots →
        Executes e 0x13 (p == .lmp) [] (some o) ∧ e.rd a = (writeDev .cmd a a2 a3 d).2.rd a) ∧
      ((writeDev .cmd a a2 a3 d).1 ≠ 0 → (writeDev .cmd a a2 a3 d).1 < 65536 → (writeDev .cmd a a2 a3 d).2.img.boots = d.img.boots →
        Ended e 0x13 (p == .lmp) (writeDev .cmd a a2 a3 d).1 ∧ e.rd a = (writeDev .cmd a a2 a3 d).2.rd a)))

/-- R51 to R53: BANK_ERASE, BANK_WRITE, BANK_SEAL and NV_READ with arguments in range, on a bank that may be written, start their background command: IMG_OP_STATUS reads BUSY, the mailbox command has ended with reason 0, and neither slot memory nor OTP has changed yet. R51: a bank that holds the running images is refused with 0x0212 outside HOLD and ROM hold; a second background command with 0x0213. R51 to R54: when a background command ends undisturbed on a memory that can be read, IMG_OP_STATUS reads DONE with its RESULT and the interrupt is raised. An erase leaves every byte of the bank 0xFF and no other byte changed; a write leaves each programmed byte as the AND of what was there and the byte of IMG_BUF, its result 0 exactly where the read-back agrees, and touches besides only the BEGIN word; a seal writes the SEAL word only where both images pass, else it reports the first reason; a read changes no byte of slot memory. R56, R64: one that falling VHOLD has stopped ends with STOPPED and the result 0x021E (the result is the model's choice, log entry 89), an erase with the whole sectors it has reached; R65: one that the memory fails ends with 0x0211. Choices of the model in it: log entries 14, 83, 88, 89. -/
def Obligations.BackgroundCommandsRun : Prop :=
  ((∀ p a0 a1 a2 a3 s b, HostReady p s → bankOf a0.toNat = some b → bankRefusal s.d b = 0 →
    Serves (exec (.bankErase p a0 a1 a2 a3) s) s (fun d nv e => nv = s.nv ∧ e.img = { d.img with bg := some (.erase b), bgStop := false, bgSag := false } ∧
      e.gb bImg F.IMG_OP_STATUS_BUSY = true ∧ Ended e 2 (p == .lmp) 0 ∧ e.rest = { d.rest with img := e.img } ∧
      KeepsRegs d e [bDev + F.CMD_RESULT.off, bDev + F.DEV_IRQ_STATUS.off, bImg + F.IMG_OP_STATUS.off])) ∧
  (∀ p a0 a1 a2 a3 s b, HostReady p s → bankOf a0.toNat = some b → bankRefusal s.d b = 0 → a1.toNat % 256 = 0 → 0x1000 ≤ a1.toNat →
    1 ≤ a2.toNat → a2.toNat ≤ 4096 → a1.toNat + a2.toNat ≤ b.size →
    Serves (exec (.bankWrite p a0 a1 a2 a3) s) s (fun d nv e => nv = s.nv ∧ e.img = { d.img with bg := some (.write b a1.toNat a2.toNat), bgStop := false, bgSag := false } ∧
      e.gb bImg F.IMG_OP_STATUS_BUSY = true ∧ Ended e 3 (p == .lmp) 0 ∧ e.rest = { d.rest with img := e.img } ∧
      KeepsRegs d e [bDev + F.CMD_RESULT.off, bDev + F.DEV_IRQ_STATUS.off, bImg + F.IMG_OP_STATUS.off])) ∧
  (∀ p a0 a1 a2 a3 s b, HostReady p s → bankOf a0.toNat = some b → bankRefusal s.d b = 0 →
    Serves (exec (.bankSeal p a0 a1 a2 a3) s) s (fun d nv e => nv = s.nv ∧ e.img = { d.img with bg := some (.seal b), bgStop := false, bgSag := false } ∧
      e.gb bImg F.IMG_OP_STATUS_BUSY = true ∧ Ended e 4 (p == .lmp) 0 ∧ e.rest = { d.rest with img := e.img } ∧
      KeepsRegs d e [bDev + F.CMD_RESULT.off, bDev + F.DEV_IRQ_STATUS.off, bImg + F.IMG_OP_STATUS.off])) ∧
  ∀ p a0 a1 a2 a3 s, HostReady p s → 1 ≤ a1.toNat → a1.toNat ≤ 4096 → a0.toNat + a1.toNat ≤ 0x8000000 → imgBusy s.d = false → s.d.shed = 0 →
    Serves (exec (.nvRead p a0 a1 a2 a3) s) s (fun d nv e => nv = s.nv ∧ e.img = { d.img with bg := some (.read a0.toNat a1.toNat), bgStop := false, bgSag := false } ∧
      e.gb bImg F.IMG_OP_STATUS_BUSY = true ∧ Ended e 5 (p == .lmp) 0 ∧ e.rest = { d.rest with img := e.img } ∧
      KeepsRegs d e [bDev + F.CMD_RESULT.off, bDev + F.DEV_IRQ_STATUS.off, bImg + F.IMG_OP_STATUS.off])) ∧
  (∀ s b, (imgBusy s = true → bankRefusal s b = 0x0213) ∧
    (imgBusy s = false → s.shed = 0 → s.pair.withdrawn = false → b.code = s.g bImg F.IMG_STATUS_RUN_BANK → s.img.runFw ≠ [] → s.mode ≠ .hold → romHold s = false →
      bankRefusal s b = 0x0212) ∧
    (imgBusy s = false → s.shed = 0 → s.pair.withdrawn = false → s.mode = .hold → bankRefusal s b = 0)) ∧
  ((∀ s b n, s.d.img.bg = some (.erase b) → s.d.img.bgStop = false → s.nv.dead = false → DoesNv (exec (.backgroundCommandEnd n false) s) s (fun nv e =>
    (∀ a, nvGet nv.mem a = if b.base ≤ a ∧ a < b.base + b.size then 0xFF#8 else nvGet s.nv.mem a) ∧ nv.otp = s.nv.otp ∧ nv.fit = s.nv.fit ∧ e.img.bg = none ∧
    e.gb bImg F.IMG_OP_STATUS_BUSY = false ∧ e.gb bImg F.IMG_OP_STATUS_DONE = true ∧ e.g bImg F.IMG_OP_STATUS_RESULT = 0 ∧ e.g bDev F.DEV_IRQ_STATUS_IMG_OP = 1)) ∧
  (∀ s b off len n, s.d.img.bg = some (.write b off len) → s.d.img.bgStop = false → s.nv.dead = false → 0x1000 ≤ off → DoesNv (exec (.backgroundCommandEnd n false) s) s (fun nv e =>
    (∀ k, k < len → nvGet nv.mem (b.base + off + k) = (nvGet s.nv.mem (b.base + off + k) &&& (bufBytes s.d len).getD k 0)) ∧
    (∀ a, (a < b.base ∨ b.base + 4 ≤ a) → (a < b.base + off ∨ b.base + off + len ≤ a) → nvGet nv.mem a = nvGet s.nv.mem a) ∧ nv.otp = s.nv.otp ∧ nv.fit = s.nv.fit ∧ e.img.bg = none ∧
    e.gb bImg F.IMG_OP_STATUS_BUSY = false ∧ e.gb bImg F.IMG_OP_STATUS_DONE = true ∧ e.g bDev F.DEV_IRQ_STATUS_IMG_OP = 1 ∧
    e.g bImg F.IMG_OP_STATUS_RESULT = (if nvRead nv.mem (b.base + off) len = (bufBytes s.d len).take len then 0 else 0x021A))) ∧
  (∀ s b n, s.d.img.bg = some (.seal b) → s.d.img.bgStop = false → s.nv.dead = false → DoesNv (exec (.backgroundCommandEnd n false) s) s (fun nv e =>
    let r := if (verifyImage s.nv b .firmware).1 ≠ 0 then (verifyImage s.nv b .firmware).1 else (verifyImage s.nv b .config).1
    (r ≠ 0 → nv = s.nv) ∧ (r = 0 → nvWord nv.mem (b.base + 4) = Nat.land (nvWord s.nv.mem (b.base + 4)) 0xA5A50002) ∧
    (∀ a, (a < b.base + 4 ∨ b.base + 8 ≤ a) → nvGet nv.mem a = nvGet s.nv.mem a) ∧ nv.otp = s.nv.otp ∧ nv.fit = s.nv.fit ∧ e.img.bg = none ∧
    e.gb bImg F.IMG_OP_STATUS_DONE = true ∧ e.g bImg F.IMG_OP_STATUS_RESULT = r % 65536)) ∧
  (∀ s a len n, s.d.img.bg = some (.read a len) → s.d.img.bgStop = false → s.nv.dead = false → DoesNv (exec (.backgroundCommandEnd n false) s) s (fun nv e =>
    nv = s.nv ∧ e.img.bg = none ∧ e.gb bImg F.IMG_OP_STATUS_DONE = true ∧ e.g bImg F.IMG_OP_STATUS_RESULT = 0 ∧
    (len = 4 → e.rd (bImg + F.IMG_BUF.off) = w32 (nvWord s.nv.mem a)))) ∧
  (∀ s b n, s.d.img.bg = some (.erase b) → s.d.img.bgStop = true → s.d.img.bgSag = true → s.nv.dead = false → DoesNv (exec (.backgroundCommandEnd n false) s) s (fun nv e =>
    (∀ a, nvGet nv.mem a = if b.base ≤ a ∧ a < b.base + min b.size (n / 4096 * 4096) then 0xFF#8 else nvGet s.nv.mem a) ∧ nv.otp = s.nv.otp ∧ e.img.bg = none ∧
    e.gb bImg F.IMG_OP_STATUS_BUSY = false ∧ e.gb bImg F.IMG_OP_STATUS_DONE = true ∧ e.gb bImg F.IMG_OP_STATUS_STOPPED = true ∧ e.g bImg F.IMG_OP_STATUS_RESULT = 0x021E)) ∧
  ∀ s op n fault, s.d.img.bg = some op → fault = true ∨ s.nv.dead = true → DoesNv (exec (.backgroundCommandEnd n fault) s) s (fun nv e =>
    nv.otp = s.nv.otp ∧ e.img.bg = none ∧ e.gb bImg F.IMG_OP_STATUS_BUSY = false ∧ e.gb bImg F.IMG_OP_STATUS_DONE = true ∧ e.g bImg F.IMG_OP_STATUS_RESULT = 0x0211 ∧
    (s.d.img.bgSag = false → e.gb bImg F.IMG_OP_STATUS_STOPPED = s.d.gb bImg F.IMG_OP_STATUS_STOPPED)))

/-- R42, R44 to R47, R60: ENROL, where R44 allows it, writes the slot's hash and ENROLLED; REVOKE marks it REVOKED and keeps the hash; both renew IMG_NONCE accepted or refused; ROLLBACK_COMMIT sets the counter only to a value above it that is 64 or less and no greater than either running rollback index; ATTEST writes a report that begins with its magic and carries the host nonce. A refused one changes no memory. Nothing else of the module changes but CMD_RESULT, its interrupt and the report of ATTEST. R65: where OTP fails in programming the three end with 0x021C. Choices of the model in it: log entries 6, 7, 18. -/
def Obligations.OtpCommandsActAsTheirRules : Prop :=
  (∀ p a0 a1 a2 a3 s, HostReady p s → s.nv.otp.sound = true → s.nv.dead = false → Serves (exec (.enrol p a0 a1 a2 a3) s) s (fun d nv e =>
    let slot := fieldLE (bufBytes s.d 0x90) 0x20 1
    e.rest = { d.rest with ms := e.ms, img := { s.d.img with nonces := s.d.img.nonces + 1 } } ∧ KeepsRegs d e [bDev + F.CMD_RESULT.off, bDev + F.DEV_IRQ_STATUS.off] ∧
    (anchorRefusal 1 s.nv (p == .lmp) s.d = 0 → nv.otp.state slot = .enrolled ∧ nv.otp.hash slot = keyHash (slice (bufBytes s.d 0x90) 0 32) ∧
      nv.otp.rollback = s.nv.otp.rollback ∧ (∀ k, k ≠ slot → nv.otp.state k = s.nv.otp.state k ∧ nv.otp.hash k = s.nv.otp.hash k) ∧
      (∀ a, (a < 0x7E00000 + 0x1000 * slot ∨ 0x7E01000 + 0x1000 * slot ≤ a) → nvGet nv.mem a = nvGet s.nv.mem a) ∧ Executes e 6 (p == .lmp) [] none) ∧
    (anchorRefusal 1 s.nv (p == .lmp) s.d ≠ 0 → nv = s.nv ∧ Ended e 6 (p == .lmp) (anchorRefusal 1 s.nv (p == .lmp) s.d)))) ∧
  (∀ p a0 a1 a2 a3 s, HostReady p s → s.nv.otp.sound = true → Serves (exec (.revoke p a0 a1 a2 a3) s) s (fun d nv e =>
    let slot := fieldLE (bufBytes s.d 0x90) 0x20 1
    e.rest = { d.rest with ms := e.ms, img := { s.d.img with nonces := s.d.img.nonces + 1 } } ∧ KeepsRegs d e [bDev + F.CMD_RESULT.off, bDev + F.DEV_IRQ_STATUS.off] ∧
    (anchorRefusal 2 s.nv (p == .lmp) s.d = 0 → nv.otp.state slot = .revoked ∧ (∀ k, nv.otp.hash k = s.nv.otp.hash k) ∧
      nv.otp.rollback = s.nv.otp.rollback ∧ (∀ k, k ≠ slot → nv.otp.state k = s.nv.otp.state k) ∧ nv.mem = s.nv.mem ∧ Executes e 7 (p == .lmp) [] none) ∧
    (anchorRefusal 2 s.nv (p == .lmp) s.d ≠ 0 → nv = s.nv ∧ Ended e 7 (p == .lmp) (anchorRefusal 2 s.nv (p == .lmp) s.d)))) ∧
  (∀ p a0 a1 a2 a3 s, HostReady p s → s.nv.otp.sound = true → s.d.mode ≠ .load → Serves (exec (.rollbackCommit p a0 a1 a2 a3) s) s (fun d nv e =>
    let ok := s.nv.otp.rollback < a0.toNat ∧ a0.toNat ≤ 64 ∧ a0.toNat ≤ hdRollback s.d.img.runFw ∧ (s.d.img.runCfg = [] ∨ a0.toNat ≤ hdRollback s.d.img.runCfg)
    e.rest = { d.rest with ms := e.ms } ∧ KeepsRegs d e [bDev + F.CMD_RESULT.off, bDev + F.DEV_IRQ_STATUS.off] ∧
    (ok → nv = { s.nv with otp := { s.nv.otp with rollback := a0.toNat } } ∧ Executes e 8 (p == .lmp) [] none) ∧
    (¬ ok → nv = s.nv ∧ Ended e 8 (p == .lmp) 0x0219))) ∧
  (∀ p a0 a1 a2 a3 s, HostReady p s → s.nv.otp.sound = false →
    (anchorRefusal 1 s.nv (p == .lmp) s.d = 0 → s.nv.dead = false → Serves (exec (.enrol p a0 a1 a2 a3) s) s (fun _ _ e => Ended e 6 (p == .lmp) 0x021C)) ∧
    (anchorRefusal 2 s.nv (p == .lmp) s.d = 0 → Serves (exec (.revoke p a0 a1 a2 a3) s) s (fun _ nv e => nv.mem = s.nv.mem ∧ Ended e 7 (p == .lmp) 0x021C)) ∧
    (s.d.mode ≠ .load → s.nv.otp.rollback < a0.toNat → a0.toNat ≤ 64 → a0.toNat ≤ hdRollback s.d.img.runFw → (s.d.img.runCfg = [] ∨ a0.toNat ≤ hdRollback s.d.img.runCfg) →
      Serves (exec (.rollbackCommit p a0 a1 a2 a3) s) s (fun _ nv e => s.nv.otp.rollback ≤ nv.otp.rollback ∧ nv.otp.rollback ≤ a0.toNat ∧ nv.mem = s.nv.mem ∧ Ended e 8 (p == .lmp) 0x021C))) ∧
  ∀ p a0 a1 a2 a3 s, HostReady p s → s.d.mode ≠ .load → Serves (exec (.attest p a0 a1 a2 a3) s) s (fun d nv e => nv = s.nv ∧ Executes e 9 (p == .lmp) [] none ∧ e.rest = { d.rest with ms := e.ms } ∧
    e.rd (bImg + F.IMG_ATTEST.off) = 0x54414D4C#32 ∧ (∀ k, k < 8 → e.rd (bImg + F.IMG_ATTEST.off + 8 + 4 * k) = s.d.rd (bImg + F.IMG_BUF.off + 4 * k)) ∧
    (∀ a, (a < bImg + F.IMG_ATTEST.off ∨ bImg + F.IMG_ATTEST.off + 256 ≤ a) → a ≠ bDev + F.CMD_RESULT.off → e.rd a = d.rd a))

/-- R664, R48, R6: RESET_N before power-good changes nothing. Power-good resets the module with cause 0, samples the straps and the lever, lights the four indicators and lets ROM choose images; with no SEALED bank the module stands in ROM hold with IMG_CHECK 0x0201, and with 0x0211 where slot memory cannot be read (R65). RESET_N after it is a warm reset with cause 1. R37 to R39: once the CONFIG image is applied without a refused write, CFG_APPLIED reads 1 and IMG_RUN_SEQ holds its sequence number; a refused write ends LOAD with 0x0210 and its reason in IMG_DETAIL. Once every enabled port is READY and every node channel to be enabled has its parameters, or 50 ms after the first lock, the enable requests are carried out: none is left and LOAD ends in HOLD; before that nothing happens. R57, R693: RELOAD in HOLD with no background command leaves every slot FREE and the mode LOAD, and repeats the choice of images; RESET in HOLD is a warm reset with cause 3. Neither touches slot memory or OTP. Choices of the model in it: log entries 11, 16, 17, 19, 25. -/
def Obligations.ResetAndLoad : Prop :=
  ((∀ s, s.d.Quiet → s.d.box.powered = false → Does (exec .resetNAsserted s) s (fun e => e.rest = s.d.rest ∧ KeepsRegs s.d e [])) ∧
  (∀ slot pref peer eject mem otp s, s.d.Quiet → s.d.box.powered = false → s.d.box.pwrGone = false → DoesNv (exec (.powerGood slot pref peer eject mem otp) s) s (fun nv e =>
    nv = { s.nv with fit := mem, otp := { s.nv.otp with sound := otp } } ∧
    e.box.powered = true ∧ e.box.lamp = true ∧ e.box.pwrGone = false ∧ e.tick = 0 ∧ e.img.boots = s.d.img.boots + 1 ∧ e.fars = s.d.fars ∧
    e.g bDev F.DEV_STATUS_RESET_CAUSE = 0 ∧ e.g bDev F.DEV_STATUS_SLOT_ID = slot.val ∧ e.gb bDev F.DEV_STATUS_PREF = pref ∧
    e.gb bDev F.DEV_STATUS_PEER_PRESENT = peer ∧ e.gb bDev F.DEV_STATUS_EJECT = eject ∧
    (nv.dead = true → romHold e = true ∧ e.g bImg F.IMG_CHECK_REASON = 0x0211 ∧ e.mode = .load) ∧
    (nv.dead = false → candidates s.nv.mem = [] → romHold e = true ∧ e.g bImg F.IMG_CHECK_REASON = 0x0201 ∧ e.mode = .load))) ∧
  ∀ s, s.d.Quiet → s.d.box.powered = true → s.d.box.pwrGone = false → Does (exec .resetNAsserted s) s (fun e =>
    e.g bDev F.DEV_STATUS_RESET_CAUSE = 1 ∧ e.tick = 0 ∧ e.img.boots = s.d.img.boots + 1 ∧ e.fars = s.d.fars ∧ e.mode = .load ∧ e.ms.cmd = none ∧
    (∀ o, e.ms.checking ≠ some o) ∧ e.gb bDev F.DEV_ENABLE = false)) ∧
  ((∀ s b, s.d.img.applyBank = some b → s.d.Quiet → s.d.gb bImg F.IMG_STATUS_CFG_APPLIED = false → Does (exec .configApply s) s (fun e =>
    ((applyRecs (configRecs s.nv.mem b) (s.upd id).d).1 = 0 → e.gb bImg F.IMG_STATUS_CFG_APPLIED = true ∧
      e.g bImg F.IMG_RUN_SEQ_SEQ = hdSeq (imgHeader s.nv.mem b .config) % 2 ^ 32 ∧ e.img.runCfg = imgHeader s.nv.mem b .config) ∧
    ((applyRecs (configRecs s.nv.mem b) (s.upd id).d).1 ≠ 0 → e.g bImg F.IMG_CHECK_REASON = 0x0210 ∧
      e.g bImg F.IMG_DETAIL_TARGET_REASON = (applyRecs (configRecs s.nv.mem b) (s.upd id).d).1 % 2 ^ 16 ∧ Due.mode .hold 0x00 ∈ e.due ∧ e.img.applyBank = none))) ∧
  (∀ s b, s.d.img.applyBank = some b → s.d.Quiet → s.d.gb bImg F.IMG_STATUS_CFG_APPLIED = true → startReady s.d = true → Does (exec .enableRequests s) s (fun e =>
    e.img.requests = [] ∧ e.img.applyBank = none ∧ e.img.resolving = true ∧ Due.mode .hold 0x00 ∈ e.due)) ∧
  ∀ s, s.d.Quiet → startReady s.d = false → Does (exec .enableRequests s) s (fun e => e.rest = s.d.rest ∧ KeepsRegs s.d e [])) ∧
  ((∀ p a0 a1 a2 a3 s, HostReady p s → s.d.mode = .hold → imgBusy s.d = false → Serves (exec (.reload p a0 a1 a2 a3) s) s (fun _ nv e =>
    nv = s.nv ∧ e.mode = .load ∧ (∀ o ∈ allSlots, e.occupied o = false) ∧ e.img.requests = [] ∧ e.gb bImg F.IMG_STATUS_SKIP_HALF_USED = (getBits a0 0 1 == 1))) ∧
  ∀ p a0 a1 a2 a3 s, HostReady p s → s.d.mode = .hold → Serves (exec (.reset p a0 a1 a2 a3) s) s (fun _ nv e =>
    nv = s.nv ∧ e.g bDev F.DEV_STATUS_RESET_CAUSE = 3 ∧ e.tick = 0 ∧ e.img.boots = s.d.img.boots + 1 ∧ e.fars = s.d.fars ∧ e.mode = .load))

/-- R75, R76, R69, R73: a mode request is judged by the rows of R76, the first that applies giving RESULT. An accepted one starts its transition: HOLD to CHARGE, CHARGE to RUN once CHARGE_DONE is set, any driving mode to SAFE, all with cause 0x01; HOLD asked for in a driving mode begins the stop sequence, whose deadline is DMAX of R73 after now. The present mode as target is accepted and changes nothing; a refused request changes nothing but RESULT. R69, R78: taking a transition writes the new mode, the mode before it and the cause into DEV_MODE, ends TRANS and CHARGE_DONE, and notes the instant of entry. This holds of every mode and every cause. R68, R69, R74, R369: at the echo deadline of the stop sequence the mode becomes HOLD with cause 0x01, and then the node channels whose echo has not come have their event; RIDE ends in RUN with 0x06 once it has settled within RIDE_MAX, after RIDE_MAX in RUN or SAFE with 0x07; CHARGE ends in SAFE with 0x08 after CHARGE_MAX and with 0x0D after a RIDE interval of RIDE_MAX. When CHARGE is complete CHARGE_DONE is set, and with AUTO_RUN and no RIDE source active the mode becomes RUN with 0x03. Before its instant none of them does anything. R82: a write of DEV_MODE_CFG with every field in range is stored; a limit of RIDE, of a RIDE interval or of CHARGE that has then passed already acts at once. Choices of the model in it: log entries 12, 13. -/
def Obligations.ModesFollowTheirRules : Prop :=
  ((∀ p v s, HostReady p s → modeOutcome (getBits v 0 3) s.d ≠ 0 → Serves (exec (.devModeReq p v) s) s (fun d nv e =>
    nv = s.nv ∧ e.g bDev F.DEV_MODE_REQ_RESULT = modeOutcome (getBits v 0 3) s.d ∧ e.rest = d.rest ∧ KeepsRegs d e [bDev + F.DEV_MODE_REQ.off])) ∧
  (∀ p v s, HostReady p s → modeOutcome (getBits v 0 3) s.d = 0 → Serves (exec (.devModeReq p v) s) s (fun d nv e =>
    nv = s.nv ∧ e.g bDev F.DEV_MODE_REQ_RESULT = 0 ∧
    (getBits v 0 3 = s.d.mode.code → e.rest = d.rest ∧ KeepsRegs d e [bDev + F.DEV_MODE_REQ.off]) ∧
    (getBits v 0 3 ≠ s.d.mode.code → ∀ m, m ∈ [Mode.charge, .run, .safe] → getBits v 0 3 = m.code →
      e.rest = { d.rest with due := [Due.mode m 0x01] } ∧ KeepsRegs d e [bDev + F.DEV_MODE_REQ.off]) ∧
    (getBits v 0 3 = 1 → s.d.mode ≠ .hold → e.trans = true ∧ e.mode = s.d.mode ∧ e.ms.stop = some (s.d.tick + 4096 + 2 * dMax s.d) ∧ e.due = []))) ∧
  ∀ s : Dev, s.owns = true → s.trans = false → s.ms.changed = false →
    (s.mode = .hold → s.gb bDev F.DEV_ENABLE = true → s.g bPwr F.PWR_STATE_STATE < 2 → s.shed < 3 → modeOutcome 2 s = 0) ∧
    (s.mode = .charge → s.gb bDev F.DEV_MODE_CHARGE_DONE = true → modeOutcome 3 s = 0) ∧ (s.mode = .charge → s.gb bDev F.DEV_MODE_CHARGE_DONE = false → modeOutcome 3 s = 0x0108) ∧
    (s.driveMode = true → modeOutcome 1 s = 0 ∧ modeOutcome 5 s = 0) ∧ (s.mode = .hold → modeOutcome 3 s = 0x0109 ∧ modeOutcome 5 s = 0x0109)) ∧
  (∀ m why s, why < 256 →
    let e := takeDue (.mode m why) s
    e.mode = m ∧ e.g bDev F.DEV_MODE_PREV = s.mode.code ∧ e.g bDev F.DEV_MODE_CAUSE = why ∧ e.trans = false ∧ e.gb bDev F.DEV_MODE_CHARGE_DONE = false ∧
    e.ms.entered = s.tick ∧ e.ms.stop = none ∧ e.tick = s.tick) ∧
  ((∀ s t, s.d.ms.stop = some t → t ≤ s.d.tick → Does (exec .stopSequenceEnd s) s (fun e => (e.due.drop s.d.due.length).head? = some (Due.mode .hold 0x01) ∧
    (∀ n ∈ enabledNodes s.d, (e.node n).stopAwait = []) ∧ (∀ n ∈ enabledNodes s.d, (s.d.node n).stopAwait ≠ [] → Raised e (0xC0 + s.d.portOf n) 0x1007 none) ∧
    e = { s.d.fresh with nodes := e.nodes, due := e.due })) ∧
  (∀ s t, s.d.mode = .ride → stopping s.d = false → rideActive s.d = false → s.d.ms.settleFrom = some t → t + rideSettle s.d ≤ s.d.tick →
    t + rideSettle s.d ≤ s.d.ms.entered + rideMax s.d →
    Does (exec .rideSettleElapsed s) s (fun e => e = { s.d.fresh with due := s.d.due ++ [Due.mode .run 0x06] })) ∧
  (∀ s, s.d.mode = .ride → stopping s.d = false → s.d.ms.entered + rideMax s.d ≤ s.d.tick →
    Does (exec .rideMaxElapsed s) s (fun e => e = { s.d.fresh with due := s.d.due ++ [Due.mode (if rideActive s.d then .safe else .run) 0x07] })) ∧
  (∀ s, s.d.mode = .charge → stopping s.d = false → s.d.gb bDev F.DEV_MODE_CHARGE_DONE = false → s.d.ms.entered + chargeMax s.d ≤ s.d.tick →
    Does (exec .chargeMaxElapsed s) s (fun e => e = { s.d.fresh with due := s.d.due ++ [Due.mode .safe 0x08] })) ∧
  (∀ s t, s.d.mode = .charge → stopping s.d = false → s.d.ms.rideFrom = some t → t + rideMax s.d ≤ s.d.tick →
    Does (exec .chargeRideTimeout s) s (fun e => e = { s.d.fresh with due := s.d.due ++ [Due.mode .safe 0x0D] })) ∧
  (∀ s c, (c = .stopSequenceEnd ∧ ∀ t, s.d.ms.stop = some t → s.d.tick < t) ∨ (c = .rideSettleElapsed ∧ ∀ t, s.d.ms.settleFrom = some t → s.d.tick < t + rideSettle s.d) ∨
      (c = .rideMaxElapsed ∧ s.d.tick < s.d.ms.entered + rideMax s.d) ∨ (c = .chargeMaxElapsed ∧ s.d.tick < s.d.ms.entered + chargeMax s.d) ∨
      (c = .chargeRideTimeout ∧ ∀ t, s.d.ms.rideFrom = some t → s.d.tick < t + rideMax s.d) → Does (exec c s) s (fun e => e = s.d.fresh)) ∧
  ∀ s, s.d.mode = .charge → stopping s.d = false → (∀ i < 8, s.d.enabled (.string i) = true → (s.d.str i).stepsOpen = false) →
    (∀ i < 8, s.d.enabled (.string i) = true → s.d.kind i = 1 → ∀ m ∈ s.d.members i, posState s.d i m.1 = 0 →
      inWindow s.d i m.2 = true ∧ ∃ w, (s.d.node m.2).inWin = some w ∧ freshAt s.d w.2 s.d.tick = true ∧ w.1 + s.d.g (bStr i) F.STR_BAL_CFG_DWELL * 250000 ≤ s.d.tick) →
    Does (exec .chargeComplete s) s (fun e => e.gb bDev F.DEV_MODE_CHARGE_DONE = true ∧ (∀ a, a ≠ bDev + F.DEV_MODE.off → e.rd a = s.d.rd a) ∧
      e = { s.d.fresh with regs := e.regs, due := s.d.due ++ (if s.d.gb bDev F.DEV_MODE_CFG_AUTO_RUN && !rideActive s.d then [Due.mode .run 0x03] else []) })) ∧
  (∀ p v s, HostReady p s → 10 ≤ getBits v 0 12 → getBits v 0 12 ≤ 4000 → getBits v 12 8 ≠ 0 → getBits v 20 8 ≠ 0 →
    Serves (exec (.devModeCfg p v) s) s (fun d nv e => nv = s.nv ∧ e.g bDev F.DEV_MODE_CFG_RIDE_MAX = getBits v 0 12 ∧
      e.g bDev F.DEV_MODE_CFG_RIDE_SETTLE = getBits v 12 8 ∧ e.g bDev F.DEV_MODE_CFG_CHARGE_MAX = getBits v 20 8 ∧ e.gb bDev F.DEV_MODE_CFG_AUTO_RUN = (getBits v 28 1 == 1) ∧
      KeepsRegs d e [bDev + F.DEV_MODE_CFG.off] ∧ e.rest = { d.rest with due := e.due } ∧
      (s.d.mode ≠ .ride → s.d.mode ≠ .charge → e.due = []) ∧
      (s.d.mode = .ride → stopping s.d = false → s.d.ms.entered + getBits v 0 12 * 250000 ≤ s.d.tick → e.due ≠ []) ∧
      (s.d.mode = .charge → stopping s.d = false → s.d.gb bDev F.DEV_MODE_CHARGE_DONE = false → s.d.ms.entered + getBits v 20 8 * 250000000 ≤ s.d.tick →
        Due.mode .safe 0x08 ∈ e.due)))

/-- R180, R181, R182, R185: a commit copies every shadow of its scope, and the slot values, into the pending set; PENDING reads 1, COALESCED is set where a set was pending already and COMMIT_LATE from the latch instant of a reload to its reload tick; in the tick of the latch instant itself the set that was pending is latched first. LOAD_ALL does so for every named string and pair. The values in force stay. R172 to R175, R179: at the latch instant, 8 ticks before a reload, a pending set whose every node passes the tests becomes the latched set, with the positions that it moves. A set that changes a string-wide field and fails for a node is refused whole; one that does not is latched without the values of the nodes that fail. Either refusal is shown in STR_COMMIT_STATUS. At no other instant, and no second time in that tick, does anything happen. R178, R179, R183, R187: in the tick that holds the reload instant, once, the latched set comes into force, every other value in force stays, LATCHED ends and RELOAD_CNT advances; the string runs once its start steps are done. At any other tick, or in a string that has not started, nothing happens. Choices of the model in it: log entry 66. -/
def Obligations.CommitsReachTheirReload : Prop :=
  ((∀ p (i : Fin 8) v s, HostReady p s → s.d.occupied (.string i.val) = true → getBits v 0 1 = 1 → commitReason s.d [i.val] = 0 → stopping s.d = false →
    Serves (exec (.strCommit p i v) s) s (fun d nv e => nv = s.nv ∧ (e.str i.val).pend = some (captureSet d i.val) ∧
      e.gb (bStr i.val) F.STR_COMMIT_STATUS_PENDING = true ∧
      ((s.d.str i.val).pend ≠ none → reloadIn s.d i.val 8 = false ∨ (s.d.str i.val).latchAt = some s.d.tick → e.gb (bStr i.val) F.STR_COMMIT_STATUS_COALESCED = true) ∧
      (lateNow s.d i.val = true → reloadIn s.d i.val 8 = false ∨ (s.d.str i.val).waitFirst = false → e.gb (bStr i.val) F.STR_COMMIT_STATUS_COMMIT_LATE = true) ∧
      (∀ a ∈ stringAddrs i.val, (a, d.rd a) ∈ captureSet d i.val) ∧ (∀ m ∈ d.members i.val, ∀ a ∈ nodeAddrs m.2, (a, d.rd a) ∈ captureSet d i.val) ∧
      (∀ j, j ≠ i.val → e.str j = d.str j) ∧ e.rest = { d.rest with strs := e.strs, legs := e.legs } ∧
      KeepsRegs d e [bStr i.val + F.STR_COMMIT.off, bStr i.val + F.STR_COMMIT_STATUS.off])) ∧
  ∀ p v s, HostReady p s → s.d.mode ≠ .safe → stopping s.d = false → (∀ j < 8, s.d.halted j = false ∧ s.d.gb (bStr j) F.STR_CELL_STATUS_PENDING = false) →
    Serves (exec (.loadAll p v) s) s (fun d nv e => nv = s.nv ∧
      (∀ j < 8, (e.str j).pend = if bitOf (getBits v 0 8) j then some (captureSet d j) else (d.str j).pend) ∧
      (∀ j < 8, (e.auxp j).pend = if bitOf (getBits v 8 8) j then some (auxCapture d j) else (d.auxp j).pend) ∧
      (∀ j < 8, bitOf (getBits v 0 8) j = true → e.gb (bStr j) F.STR_COMMIT_STATUS_PENDING = true) ∧ e.force = d.force ∧ e.slotVals = d.slotVals)) ∧
  ((∀ (i : Fin 8) s, reloadIn s.d i.val 8 = false ∨ (s.d.str i.val).latchAt = some s.d.tick → Does (exec (.latchInstant i) s) s (fun e => e = s.d.fresh)) ∧
  (∀ (i : Fin 8) s, reloadIn s.d i.val 8 = true → (s.d.str i.val).latchAt ≠ some s.d.tick → (s.d.str i.val).pend = none → Does (exec (.latchInstant i) s) s (fun e =>
    (e.str i.val).latchAt = some s.d.tick ∧ (e.str i.val).lat = (s.d.str i.val).lat ∧ e.regs = s.d.regs ∧ e = { s.d.fresh with strs := e.strs, legs := e.legs })) ∧
  ∀ (i : Fin 8) s set, reloadIn s.d i.val 8 = true → (s.d.str i.val).latchAt ≠ some s.d.tick → (s.d.str i.val).pend = some set → Does (exec (.latchInstant i) s) s (fun e =>
    let bad (m : Nat × Nat) : Prop := refuseNode s.d i.val (viewOf s.d set) m.1 m.2 ≠ 0
    let wide : Prop := ∃ a ∈ stringAddrs i.val, viewOf s.d set a ≠ s.d.rdF a
    let drops (a : Nat) : Prop := ∃ m ∈ s.d.members i.val, bad m ∧
      (a ∈ nodeAddrs m.2 ∨ ∃ j ∈ nodeSlots s.d i.val m.1 m.2, a = refAddr ((slotRange s.d i.val).1 + j))
    (e.str i.val).pend = none ∧ (e.str i.val).latchAt = some s.d.tick ∧ e.gb (bStr i.val) F.STR_COMMIT_STATUS_PENDING = false ∧
    ((∀ m ∈ s.d.members i.val, ¬ bad m) → (e.str i.val).lat = some set ∧ (e.str i.val).latMv = (s.d.str i.val).pendMv ∧
      e.gb (bStr i.val) F.STR_COMMIT_STATUS_LATCHED = true) ∧
    ((∃ m ∈ s.d.members i.val, bad m) → e.gb (bStr i.val) F.STR_COMMIT_STATUS_REFUSED = true ∧
      (wide → (e.str i.val).lat = (s.d.str i.val).lat ∧ (e.str i.val).pendMv = (s.d.str i.val).pendMv ∧ e.g (bStr i.val) F.STR_COMMIT_STATUS_REFUSED_NODE = 0x7F) ∧
      (¬ wide → e.gb (bStr i.val) F.STR_COMMIT_STATUS_LATCHED = true ∧
        ∃ set', (e.str i.val).lat = some set' ∧ ∀ w, w ∈ set' ↔ w ∈ set ∧ ¬ drops w.1)) ∧
    (∀ a, a ≠ bStr i.val + F.STR_COMMIT_STATUS.off → e.rd a = s.d.rd a) ∧ e = { s.d.fresh with strs := e.strs, legs := e.legs, regs := e.regs })) ∧
  ((∀ (i : Fin 8) s, (s.d.str i.val).started = false ∨ reloadIn s.d i.val 0 = false ∨ (s.d.str i.val).reloadAt = some s.d.tick →
    Does (exec (.stringReload i) s) s (fun e => e = s.d.fresh)) ∧
  ∀ (i : Fin 8) s, reloadIn s.d i.val 0 = true → (s.d.str i.val).reloadAt ≠ some s.d.tick → Does (exec (.stringReload i) s) s (fun e =>
    (e.str i.val).lat = none ∧ (e.str i.val).latMv = moves0 ∧ (e.str i.val).reloadAt = some s.d.tick ∧ e.gb (bStr i.val) F.STR_COMMIT_STATUS_LATCHED = false ∧
    e.g (bStr i.val) F.STR_STATUS_RELOAD_CNT = (s.d.g (bStr i.val) F.STR_STATUS_RELOAD_CNT + 1) % 65536 ∧
    ((s.d.str i.val).stepsOpen = false → (e.str i.val).ready = true) ∧ ((s.d.str i.val).atCentre = false → (e.str i.val).waitFirst = false) ∧
    ((s.d.str i.val).lat = none → e.force = s.d.force) ∧
    (∀ set, (s.d.str i.val).lat = some set → (∀ a, (∀ w ∈ set, w.1 ≠ a) → e.rdF a = s.d.rdF a) ∧
      (∀ w ∈ set, (∀ x ∈ set, x.1 = w.1 → x = w) → e.rdF w.1 = w.2)) ∧
    ((s.d.str i.val).atCentre = true → (e.str i.val).perStart = (s.d.str i.val).perStart ∧ (e.str i.val).atCentre = false) ∧
    ((s.d.str i.val).atCentre = false → (s.d.str i.val).waitFirst = false → (e.str i.val).perStart = (s.d.str i.val).perStart + (s.d.str i.val).perLen) ∧
    (∀ j, j ≠ i.val → e.str j = s.d.str j) ∧ e.tick = s.d.tick ∧ e.due = s.d.due))

/-- R169: the pulse of a period is no pulse, a whole period, or at least MINP away from both; and what it leaves out of the width asked for is exactly the carry, unless the carry was clamped to MINP. -/
def Obligations.PulseKeepsMinimumAndCarry : Prop :=
  ∀ (w0 : Int) (per minp : Nat) (stretch : Bool), 2 * minp ≤ per →
    let r := pulse w0 per minp stretch
    (r.1 = 0 ∨ r.1 = per ∨ ((minp : Int) ≤ r.1 ∧ r.1 ≤ per - minp)) ∧ (r.2.2 = false → r.1 + r.2.1 = w0) ∧ absI r.2.1 ≤ minp

/-- R135, R156, R158, R169, R184: a leg whose pattern runs, and whose newest period is not generated yet, is generated for that period: its planned edges grow, edges planned for any other leg stay as they are, and only NODE_MOD_STATUS and STR_STATUS.SAT can change among the registers. With reloads at the centre the rest of the period follows, once no reload can come before it, from the set then in force. A leg whose pattern does not run, or whose period has been generated, gets none. R144 to R146, R166: an accepted NODE_OVR with EN sets the leg's OVR bit, takes the leg out of its pattern and commands it HIGH, LOW or OFF; one without EN releases an overridden leg. One with HIGH and LOW is refused. An echo deadline that passes, 1,024 ticks and DMAX after the transition, counts one transition of an adapting leg as missed; the fourth in a row sets FALLBACK and returns both dead times to the FIXED one. Choices of the model in it: log entries 36, 68, 71. -/
def Obligations.LegsAreGeneratedAndOverridden : Prop :=
  ((∀ (n : Fin 96) (y : Fin 6) s i k, s.d.stringOf n.val = some (i, k) → patternRuns s.d i k n.val y.val = true → (s.d.leg n.val y.val).half = none →
    (s.d.leg n.val y.val).genFor ≠ some (s.d.str i).perStart →
    (pulseLeg s.d i y.val = true → (s.d.str i).perStart + legOffset s.d i (startView s.d i n.val) k n.val y.val (s.d.str i).perBase < nextReload (s.d.str i)) →
    Does (exec (.legPeriodGenerate n y) s) s (fun e =>
      (e.leg n.val y.val).genFor = some (s.d.str i).perStart ∧
      e.plan.filter (fun w => !(w.1 == n.val && w.2.leg == y.val)) = s.d.plan.filter (fun w => !(w.1 == n.val && w.2.leg == y.val)) ∧
      (∀ m x, m * 6 + x ≠ n.val * 6 + y.val → e.leg m x = s.d.leg m x) ∧
      (∀ a, a ≠ bNode n.val + F.NODE_MOD_STATUS.off → a ≠ bStr i + F.STR_STATUS.off → e.rd a = s.d.rd a) ∧
      e = { s.d.fresh with plan := e.plan, legs := e.legs, regs := e.regs })) ∧
  (∀ (n : Fin 96) (y : Fin 6) s i k h, s.d.stringOf n.val = some (i, k) → patternRuns s.d i k n.val y.val = true → (s.d.leg n.val y.val).half = some h →
    h.t0 + h.per / 2 < nextReload (s.d.str i) →
    Does (exec (.legPeriodGenerate n y) s) s (fun e =>
      (e.leg n.val y.val).half = none ∧
      e.plan.filter (fun w => !(w.1 == n.val && w.2.leg == y.val)) = s.d.plan.filter (fun w => !(w.1 == n.val && w.2.leg == y.val)) ∧
      (∀ m x, m * 6 + x ≠ n.val * 6 + y.val → e.leg m x = s.d.leg m x) ∧
      (∀ a, a ≠ bNode n.val + F.NODE_MOD_STATUS.off → a ≠ bStr i + F.STR_STATUS.off → e.rd a = s.d.rd a) ∧
      e = { s.d.fresh with plan := e.plan, legs := e.legs, regs := e.regs })) ∧
  (∀ (n : Fin 96) (y : Fin 6) s i k, s.d.stringOf n.val = some (i, k) → (s.d.leg n.val y.val).genFor = some (s.d.str i).perStart →
    (∀ h, (s.d.leg n.val y.val).half = some h → nextReload (s.d.str i) ≤ h.t0 + h.per / 2) →
    Does (exec (.legPeriodGenerate n y) s) s (fun e => e = s.d.fresh)) ∧
  (∀ (n : Fin 96) (y : Fin 6) s i k, s.d.stringOf n.val = some (i, k) → patternRuns s.d i k n.val y.val = false →
    Does (exec (.legPeriodGenerate n y) s) s (fun e => e = s.d.fresh)) ∧
  ∀ (n : Fin 96) (y : Fin 6) s, s.d.stringOf n.val = none → Does (exec (.legPeriodGenerate n y) s) s (fun e => e = s.d.fresh)) ∧
  ((∀ p (n : Fin 96) v s, HostReady p s → s.d.occupied (.node n.val) = true → overrideReason n.val v s.d = 0 →
    Serves (exec (.nodeOvr p n v) s) s (fun _ nv e => nv = s.nv ∧ e.due = [] ∧ e.force = s.d.force ∧
      (getBits v 8 1 = 1 → bitOf (e.g (bNode n.val) F.NODE_MOD_STATUS_OVR) (getBits v 0 3) = true ∧ (e.leg n.val (getBits v 0 3)).blocked = true ∧
        (e.leg n.val (getBits v 0 3)).cmd = (if getBits v 4 1 = 1 then .high else if getBits v 5 1 = 1 then .low else .off)) ∧
      (getBits v 8 1 = 0 → bitOf (e.g (bNode n.val) F.NODE_MOD_STATUS_OVR) (getBits v 0 3) = false ∧
        (bitOf (s.d.g (bNode n.val) F.NODE_MOD_STATUS_OVR) (getBits v 0 3) = true → (e.leg n.val (getBits v 0 3)).release = true)))) ∧
  (∀ v s n, getBits v 4 1 = 1 → getBits v 5 1 = 1 → overrideReason n v s = 0x040B) ∧
  (∀ (n : Fin 96) (y : Fin 6) s,
    (∀ x ∈ (s.d.port (s.d.portOf n.val)).sent, x.leg = y.val → s.d.tick * 64 < x.tExec + (1024 + s.d.g (bPort (s.d.portOf n.val)) F.LNK_PCFG_DMAX) * 64) →
    Does (exec (.echoDeadline n y) s) s (fun e => e = s.d.fresh)) ∧
  ∀ (n : Fin 96) (y : Fin 6) s i k j, s.d.stringOf n.val = some (i, k) → adapting s.d i n.val y.val = true →
    findIdx (fun (x : Sent) => x.leg == y.val && x.adapt && !x.late && x.tgt != .off && x.tExec + (1024 + s.d.g (bPort (s.d.portOf n.val)) F.LNK_PCFG_DMAX) * 64 ≤ s.d.tick * 64)
      (s.d.port (s.d.portOf n.val)).sent 0 = some j →
    Does (exec (.echoDeadline n y) s) s (fun e =>
      ((s.d.leg n.val y.val).miss < 3 → (e.leg n.val y.val) = { s.d.leg n.val y.val with miss := (s.d.leg n.val y.val).miss + 1 } ∧ e.regs = s.d.regs) ∧
      (3 ≤ (s.d.leg n.val y.val).miss → bitOf (e.g (bNode n.val) F.NODE_MOD_STATUS_FALLBACK) y.val = true ∧
        (e.leg n.val y.val).dtPos = s.d.gF (bNode n.val) (F.NODE_DT_FIXED.at y.val) ∧ (e.leg n.val y.val).dtNeg = s.d.gF (bNode n.val) (F.NODE_DT_FIXED.at y.val)) ∧
      (∀ x, (s.d.port (s.d.portOf n.val)).sent[j]? = some x → (e.port (s.d.portOf n.val)).sent[j]? = some { x with late := true }) ∧
      (∀ a, a ≠ bNode n.val + F.NODE_MOD_STATUS.off → e.rd a = s.d.rd a) ∧ e = { s.d.fresh with regs := e.regs, ports := e.ports, legs := e.legs }))

/-- R139, R140, R192 to R194, R197, R201: a carrier event that the periods of a running string have brought is noted at its instant, and begins a pulse of CSYNC_OUT where it is the source; at any other instant there is none; an edge of CSYNC_IN becomes the anchor and ends CSYNC_LOST; its loss, once a string anchored on it has seen none for four periods, raises it and takes ANCHOR_LOCK from those strings; the delay line is measured while the LINK domain is on, and out of range falls back to whole ticks. An enabled pair latches its pending set 8 ticks before its period start and takes it in there; its period start advances by AUX_PERIOD. Choices of the model in it: log entries 69, 73. -/
def Obligations.CarrierEventsAndPairs : Prop :=
  (∀ (i : Fin 8) c (ft : Fin 64) s x, (s.d.str i.val).evs.find? (fun e => e.centre == c && e.at_ == s.d.tick * 64 + ft.val) = some x →
    Does (exec (.carrierEvent i c ft) s) s (fun e =>
      e = { s.d.fresh with ml := e.ml, strs := e.strs } ∧ e.ml.lastEvent = some (2 * i.val + b2n c, s.d.tick * 64 + ft.val) ∧ e.ml.csEdge = s.d.ml.csEdge ∧ e.ml.taps = s.d.ml.taps ∧
      (e.str i.val).evs = (s.d.str i.val).evs.filter (fun f => f != x) ∧ (c = false → (e.str i.val).evS = some (s.d.tick, x.ord)) ∧ (∀ j, j ≠ i.val → e.str j = s.d.str j) ∧
      (c = false → s.d.gb bMod F.CSYNC_CFG_OUT_EN = true → s.d.g bMod F.CSYNC_CFG_SRC = i.val → s.d.gb bMod F.MOD_DL_STATUS_COARSE = false →
        s.d.tick * 64 + ft.val + s.d.g bMod F.CSYNC_DLY_DLY ∈ e.ml.csOut))) ∧
  (∀ (i : Fin 8) c (ft : Fin 64) s, (∀ x ∈ (s.d.str i.val).evs, x.centre = c → x.at_ ≠ s.d.tick * 64 + ft.val) →
    Does (exec (.carrierEvent i c ft) s) s (fun e => e = s.d.fresh)) ∧
  (∀ ft s, Does (exec (.csyncInEdge ft) s) s (fun e => e.ml.csEdge = some (s.d.tick * 64 + ft) ∧ e.gb bMod F.CSYNC_STATUS_IN_ACTIVE = true ∧
    Raised e 0x183 0x1103 (some false) ∧ (∀ a, a ≠ bMod + F.CSYNC_STATUS.off → e.rd a = s.d.rd a) ∧ e = { s.d.fresh with regs := e.regs, ml := e.ml, due := e.due })) ∧
  (∀ s i, i < 8 → (s.d.str i).started = true → s.d.gb (bStr i) F.STR_ANCHOR_SRC = true →
    s.d.ml.csEdge.getD ((s.d.str i).startTick * 64) + 4 * s.d.gF (bStr i) F.STR_PERIOD_PERIOD ≤ s.d.tick * 64 →
    Does (exec .csyncLost s) s (fun e => e.gb bMod F.CSYNC_STATUS_IN_ACTIVE = false ∧ e.gb bMod F.CSYNC_STATUS_IN_LOST = true ∧ Raised e 0x183 0x1103 (some true) ∧
      (∀ i < 8, s.d.gb (bStr i) F.STR_ANCHOR_SRC = true → e.gb (bStr i) F.STR_STATUS_ANCHOR_LOCK = false) ∧ e = { s.d.fresh with regs := e.regs, due := e.due } ∧
      (∀ a, a ≠ bMod + F.CSYNC_STATUS.off → (∀ i < 8, a ≠ bStr i + F.STR_STATUS.off) → e.rd a = s.d.rd a))) ∧
  (∀ s, csyncSilent s.d = false → Does (exec .csyncLost s) s (fun e => e = s.d.fresh)) ∧
  (∀ tpt s, tpt.toNat < 2048 → linkOn s.d = true → Does (exec (.dlCalibrate tpt) s) s (fun e =>
    e.g bMod F.MOD_DL_STATUS_TPT = tpt.toNat ∧ (e.gb bMod F.MOD_DL_STATUS_COARSE = true ↔ tpt.toNat < 768 ∨ 1536 < tpt.toNat) ∧
    (tpt.toNat < 768 ∨ 1536 < tpt.toNat → e.gb bMod F.MOD_DL_STATUS_RANGE_SEEN = true ∧ e.ml = s.d.ml ∧ (s.d.gb bMod F.MOD_DL_STATUS_COARSE = false → Raised e 0x182 0x1102 none)) ∧
    (768 ≤ tpt.toNat → tpt.toNat ≤ 1536 → e.due = s.d.due ∧ e.ml.taps.length = 64 ∧ ∀ k < 64, e.ml.taps[k]? = some (roundDiv (k * tpt.toNat) 1024)) ∧
    (∀ a, a ≠ bMod + F.MOD_DL_STATUS.off → e.rd a = s.d.rd a) ∧ e = { s.d.fresh with regs := e.regs, ml := e.ml, due := e.due })) ∧
  (∀ tpt s, linkOn s.d = false → Does (exec (.dlCalibrate tpt) s) s (fun e => e = s.d.fresh)) ∧
  (∀ (i : Fin 8) s, s.d.enabled (.aux i) = true → s.d.tick + 8 = (s.d.auxp i.val).start / 64 → (s.d.auxp i.val).latchAt ≠ some s.d.tick → Does (exec (.auxLatch i) s) s (fun e =>
    e.auxp i.val = { s.d.auxp i.val with latchAt := some s.d.tick, lat := (s.d.auxp i.val).pend, pend := none } ∧ e = { s.d.fresh with auxs := e.auxs } ∧
    ∀ j, j ≠ i.val → e.auxp j = s.d.auxp j)) ∧
  (∀ (i : Fin 8) s, s.d.enabled (.aux i) = true → s.d.tick = (s.d.auxp i.val).start / 64 → Does (exec (.auxReload i) s) s (fun e =>
    (e.auxp i.val).lat = none ∧ (e.auxp i.val).reloadAt = some s.d.tick ∧ (e.auxp i.val).start = (s.d.auxp i.val).start + e.gF (bAux i.val) F.AUX_PERIOD_PERIOD ∧
    ((s.d.auxp i.val).lat = none → e.force = s.d.force) ∧
    (∀ set, (s.d.auxp i.val).lat = some set → (∀ a, (∀ w ∈ set, w.1 ≠ a) → e.rdF a = s.d.rdF a) ∧ (∀ w ∈ set, (∀ x ∈ set, x.1 = w.1 → x = w) → e.rdF w.1 = w.2)) ∧
    e = { s.d.fresh with auxs := e.auxs, force := e.force } ∧ ∀ j, j ≠ i.val → e.auxp j = s.d.auxp j)) ∧
  ∀ (i : Fin 8) s, (s.d.tick + 8 ≠ (s.d.auxp i.val).start / 64 → Does (exec (.auxLatch i) s) s (fun e => e = s.d.fresh)) ∧
    (s.d.tick ≠ (s.d.auxp i.val).start / 64 → Does (exec (.auxReload i) s) s (fun e => e = s.d.fresh))

/-- R218, R280, R550: a command frame starts on every used port at a tick that is a multiple of 512, and at no other. While the links are silent no port sends; otherwise a port that is OFF sends nothing, a TRAINING port a CAL at multiples of eight frames and an idle frame between, and a port that carries the token a CMD frame with TOK, the module's term, the frame number as SEQ, HOR at execution time less the applied delay, and at most 24 edges. R231, R233, R240: the frame of a port that carries the token repeats exactly the edges that the frame before sent new, and keeps its own new ones to be repeated; what it takes was waiting, and every waiting edge is either sent or still waits. R217, R249, R255, R256: a valid RPT frame, one in sequence on a locked receiver of a port that is not OFF, delivers the node's state and term and every value its mask names, each with its instant; LINK_LOS ends where the port was not reachable. One with a field out of its width describes nothing the hardware can see and stops as malformedOperand (log entry 31). R719: a frame position of a locked receiver without a well-formed frame is counted once, by its cause; the fourth in a row ends lock. A receiver that has lost lock counts the position as lost. An OFF port counts nothing. Choices of the model in it: log entries 10, 54, 61. -/
def Obligations.FramesOfAPort : Prop :=
  ((∀ s, s.d.tick % 512 ≠ 0 → Does (exec .cmdFrameStart s) s (fun e => e = s.d.fresh)) ∧
  (∀ s, s.d.tick % 512 = 0 → linksSilent s.d = true → Does (exec .cmdFrameStart s) s (fun e => (∀ p ∈ usedPorts s.d, (e.port p).tx = none) ∧ e = { s.d.fresh with ports := e.ports })) ∧
  ∀ s, s.d.tick % 512 = 0 → linksSilent s.d = false → Does (exec .cmdFrameStart s) s (fun e =>
    (∀ p ∈ usedPorts s.d, (s.d.port p).st = .off → (s.d.port p).tok = false → (e.port p).tx = none ∧ (e.port p).st = .off) ∧
    (∀ p ∈ usedPorts s.d, (s.d.port p).st = .training → (s.d.port p).tok = false → (e.port p).st = .training ∧ ∃ f, (e.port p).tx = some f ∧
      f.type = (if s.d.tick / 512 % 512 % 8 = 0 then 2 else 4) ∧ f.seq = s.d.tick / 512 % 512 ∧ f.tok = false ∧ f.new = [] ∧ f.rep = []) ∧
    (∀ p ∈ usedPorts s.d, (s.d.port p).st = .token → wantsToken s.d p = true → (s.d.port p).rep.length ≤ 24 → (e.port p).st = .token ∧ ∃ f, (e.port p).tx = some f ∧
      f.type = 1 ∧ f.seq = s.d.tick / 512 % 512 ∧ f.tok = true ∧ f.term = s.d.g bSs F.SS_TERM_TERM ∧
      f.hor = usg 24 (((s.d.tick + s.d.dly) * 64 : Nat) - ((s.d.port p).dappNew : Int)) ∧ f.rep.length + f.new.length ≤ 24) ∧
    e.tick = s.d.tick ∧ e.due = s.d.due ∧ e.fars = s.d.fars ∧ e.force = s.d.force)) ∧
  (∀ p s, ∃ f, ((cmdFrame p s).port p).tx = some f ∧ f.rep = (s.port p).rep.map (·.1) ∧ f.new = ((cmdFrame p s).port p).rep.map (·.1) ∧
    f.new.length + ((cmdFrame p s).port p).wait.length = (s.port p).wait.length ∧
    (∀ w ∈ ((cmdFrame p s).port p).wait, ∃ b, (w.1, b) ∈ (s.port p).wait) ∧
    (∀ w ∈ f.new, ∃ x ∈ (s.port p).wait, w = edgeWord x.1 ∧ x.1.gen ≤ s.tick)) ∧
  ((∀ (p : Fin 96) h b s, b.wf = true → linkOn s.d = true → (s.d.port p.val).st ≠ .off → (s.d.port p.val).rx.locked = true →
    h.seq.val = ((s.d.port p.val).rx.seq + (s.d.port p.val).rx.gap + 1) % 512 → Does (exec (.rptFrame p h b) s) s (fun e =>
      e.g (bPort p.val) F.LNK_NTERM_TERM = b.nodeTerm ∧ (e.port p.val).reach = true ∧ (e.port p.val).miss = 0 ∧ (e.port p.val).nstate = nstateOf h.nstate.val ∧
      (e.port p.val).rx.seq = h.seq.val ∧ (e.port p.val).vrun = (s.d.port p.val).vrun + 1 ∧ e.g (bPort p.val) F.LNK_PSTATE_NSTATE = (nstateOf h.nstate.val).code ∧
      ((s.d.port p.val).reach = false → Raised e (0xC0 + p.val) 0x1001 (some false)) ∧
      (∀ n, s.d.nodeAt p.val = some n → ∀ i < 26, bitOf b.valid i = true → 26 * b.page + i < 64 → (26 * b.page + i < 27 ∨ 31 < 26 * b.page + i) →
        (e.tele n (26 * b.page + i)).val = b.values.getD i 0 ∧ (e.tele n (26 * b.page + i)).ok = true ∧ (e.tele n (26 * b.page + i)).tick = s.d.tick ∧
        (e.tele n (26 * b.page + i)).pval = (s.d.tele n (26 * b.page + i)).val) ∧
      (∀ k q, q < 64 → s.d.nodeAt p.val ≠ some k → e.tele k q = s.d.tele k q) ∧ e.fars = s.d.fars ∧ e.force = s.d.force)) ∧
  ∀ (p : Fin 96) h b s, b.wf = false → exec (.rptFrame p h b) s = .fault .malformedOperand) ∧
  ((∀ (p : Fin 96) c s, (s.d.port p.val).st = .off → Does (exec (.errorSlot p c) s) s (fun e => e = s.d.fresh)) ∧
  (∀ (p : Fin 96) c s, (s.d.port p.val).st ≠ .off → (s.d.port p.val).rx.locked = true → Does (exec (.errorSlot p c) s) s (fun e =>
    let f : Fld := match c with | .code => F.LNK_ERR_CODE | .crc => F.LNK_ERR_CRC | .format => F.LNK_FMT_FORMAT
    e.g (bPort p.val) f = (s.d.g (bPort p.val) f + 1) % 65536 ∧ (∀ a, a ≠ bPort p.val + f.off → e.rd a = s.d.rd a) ∧
    ((e.port p.val).rx.locked = false ↔ 3 ≤ (s.d.port p.val).rx.bad) ∧ (e.port p.val).vrun = 0 ∧ (e.port p.val).miss = (s.d.port p.val).miss + 1 ∧
    (∀ q, q ≠ p.val → e.port q = s.d.port q) ∧ e = { s.d.fresh with regs := e.regs, ports := e.ports, due := e.due })) ∧
  ∀ (p : Fin 96) c s, (s.d.port p.val).st ≠ .off → (s.d.port p.val).rx.locked = false → (s.d.port p.val).rx.was = true → Does (exec (.errorSlot p c) s) s (fun e =>
    e.g (bPort p.val) F.LNK_LOSS_LOST = (s.d.g (bPort p.val) F.LNK_LOSS_LOST + 1) % 65536 ∧ (∀ a, a ≠ bPort p.val + F.LNK_LOSS.off → e.rd a = s.d.rd a) ∧
    e = { s.d.fresh with regs := e.regs, ports := e.ports, due := e.due }))

/-- R217, R262 to R264, R281: a valid ECHO frame takes the matched edge from those awaiting their echo and counts an unmatched echo in LNK_LOSS.LOST; a valid EVT frame notes the last ESEQ and raises what its entries report; a valid report CAL delivers the identity and sets ID_VALID. R245 to R247, R250, R277: a block of 256 samples ends. Fewer than 32 discarded: the delay estimate is formed, the applied delay of a port that is reachable takes it whole the first time and moves by at most 1 ft after, and that of any other stays, RTT is shown; 32 or more: CAL_UNSTABLE, and neither delay changes. A block that is not full changes nothing. Choices of the model in it: log entries 55, 56, 61. -/
def Obligations.ReportFramesAndCalibration : Prop :=
  ((∀ (p : Fin 96) h d x s, x.wf = true → x.leg ≠ 7 → linkOn s.d = true → (s.d.port p.val).st ≠ .off → (s.d.port p.val).rx.locked = true →
    h.seq.val = ((s.d.port p.val).rx.seq + (s.d.port p.val).rx.gap + 1) % 512 → Does (exec (.echoFrame p h d [x]) s) s (fun e =>
      (d ≠ 0#8 → e.gb (bPort p.val) F.LNK_STICKY_ECHO_DROP = true) ∧
      ((s.d.port p.val).sent.find? (fun k => k.leg == x.leg && k.time16 == x.time % 65536) = none →
        e.g (bPort p.val) F.LNK_LOSS_LOST = (s.d.g (bPort p.val) F.LNK_LOSS_LOST + 1) % 65536 ∧ (e.port p.val).sent = (s.d.port p.val).sent) ∧
      (∀ k, (s.d.port p.val).sent.find? (fun k => k.leg == x.leg && k.time16 == x.time % 65536) = some k →
        (e.port p.val).sent = dropFirst (fun k => k.leg == x.leg && k.time16 == x.time % 65536) (s.d.port p.val).sent ∧
        (s.d.port p.val).sent.length = (e.port p.val).sent.length + 1))) ∧
  (∀ (p : Fin 96) h l x s n, x.wf = true → linkOn s.d = true → (s.d.port p.val).st ≠ .off → (s.d.port p.val).rx.locked = true →
    h.seq.val = ((s.d.port p.val).rx.seq + (s.d.port p.val).rx.gap + 1) % 512 → s.d.nodeAt p.val = some n → Does (exec (.evtFrame p h l [x]) s) s (fun e =>
      (e.port p.val).eseq = some x.eseq ∧ (l ≠ 0#8 → e.gb (bPort p.val) F.LNK_STICKY_EVT_LOST = true) ∧
      (x.code = 0x0002 → e.g (bNode n) F.NODE_LATE_LATE = (s.d.g (bNode n) F.NODE_LATE_LATE + 1) % 65536 ∧ Raised e (0xC0 + p.val) 0x0002 none) ∧
      (x.code = 0x0006 → e.gb (bPort p.val) F.LNK_STICKY_COUNTER_RELOAD = true ∧ Raised e (0xC0 + p.val) 0x0006 none) ∧
      (x.code = 0x0101 → x.sw < 12 → bitOf (e.node n).swNode x.sw = true ∧ e.g (bNode n) F.NODE_SW_CAUSE_SWITCH = x.sw ∧ Raised e n 0x0101 none) ∧
      (x.code = 0x0102 → Raised e n 0x0102 (some true)) ∧ (x.code = 0x000D → (e.node n).contactor = true))) ∧
  (∀ (p : Fin 96) h ident set s, ident.length = 64 → linkOn s.d = true → (s.d.port p.val).st ≠ .off → (s.d.port p.val).rx.locked = true →
    h.seq.val = ((s.d.port p.val).rx.seq + (s.d.port p.val).rx.gap + 1) % 512 → Does (exec (.reportCalFrame p h ident set) s) s (fun e =>
      (e.port p.val).ident = ident ∧ e.gb (bPort p.val) F.LNK_PSTATE_ID_VALID = true ∧
      (∀ n, s.d.nodeAt p.val = some n → e.g (bNode n) F.NODE_ID0_CONTRACT = fieldLE ident 0 2 ∧ e.g (bNode n) F.NODE_ID0_CLASS = fieldLE ident 2 1 ∧
        e.g (bNode n) F.NODE_ID1_VENDOR = fieldLE ident 4 4))) ∧
  (∀ (p : Fin 96) h d es s, echoesWf es = false → exec (.echoFrame p h d es) s = .fault .malformedOperand) ∧
  (∀ (p : Fin 96) h l es s, eventsWf es = false → exec (.evtFrame p h l es) s = .fault .malformedOperand) ∧
  ∀ (p : Fin 96) h ident set s, identWf ident = false → exec (.reportCalFrame p h ident set) s = .fault .malformedOperand) ∧
  (∀ (p : Fin 96) s, let q := s.d.port p.val
    (q.cnt + q.disc < 256 → Does (exec (.calBlockEnd p) s) s (fun e => e = s.d.fresh)) ∧
    (256 ≤ q.cnt + q.disc → 32 ≤ q.disc → Does (exec (.calBlockEnd p) s) s (fun e => Raised e (0xC0 + p.val) 0x1003 none ∧
      e.gb (bPort p.val) F.LNK_STICKY_CAL_UNSTABLE = true ∧ e.port p.val = { q with sum := 0, cnt := 0, disc := 0 } ∧
      (∀ a, a ≠ bPort p.val + F.LNK_STICKY.off → e.rd a = s.d.rd a) ∧ e = { s.d.fresh with regs := e.regs, ports := e.ports, due := e.due })) ∧
    (256 ≤ q.cnt + q.disc → q.disc < 32 → Does (exec (.calBlockEnd p) s) s (fun e =>
      let dest := destOf q.sum q.cnt (s.d.gi (bPort p.val) F.LNK_ASYM_APORT + aNode s.d p.val)
      (e.port p.val).cnt = 0 ∧ (e.port p.val).disc = 0 ∧ (e.port p.val).dest = dest ∧ dest ≤ 16777215 ∧
      (q.reach = false → (e.port p.val).dappNew = q.dapp) ∧ (q.reach = true → q.first = true → (e.port p.val).dappNew = dest) ∧
      (q.first = false → (e.port p.val).dappNew ≤ q.dapp + 1 ∧ q.dapp ≤ (e.port p.val).dappNew + 1 ∧ (q.dapp = dest → (e.port p.val).dappNew = dest)) ∧
      e.g (bPort p.val) F.LNK_RTT_RTT = min (roundDiv q.sum q.cnt) 268435455 ∧ e.g (bPort p.val) F.LNK_DEST_W_DEST = dest)))

/-- R277, R278, R280, R281, R286, R718: a port whose last 3 report slots held no valid frame loses its reachability, raises LINK_LOS and freezes its delay; after 64 slots it is DOWN; 16 valid frames take it to TRAINING with CALIBRATED and ID_VALID clear. LNK_PCFG.EN opens a port in DOWN and turns it OFF, dropping what it had to send. An unanswered management message is sent again, or given up with MGMT_TIMEOUT. Choices of the model in it: log entry 64. -/
def Obligations.PortStatesFollowTheirRules : Prop :=
  (∀ (p : Fin 96) s, (s.d.port p.val).st ≠ .off → (s.d.port p.val).reach = true → 3 ≤ (s.d.port p.val).miss → linksSilent s.d = false → Does (exec (.portUnreachable p) s) s (fun e =>
    e.port p.val = { s.d.port p.val with reach := false, dappNew := (s.d.port p.val).dapp } ∧ e.gb (bPort p.val) F.LNK_PSTATE_OBEYS_THIS = false ∧
    (s.d.clk.guard ≤ s.d.tick → e.gb (bPort p.val) F.LNK_STICKY_LOS = true ∧ Raised e (0xC0 + p.val) 0x1001 (some true)) ∧
    (∀ a, a ∉ [bPort p.val + F.LNK_PSTATE.off, bPort p.val + F.LNK_STICKY.off] → e.rd a = s.d.rd a) ∧ e = { s.d.fresh with regs := e.regs, ports := e.ports, due := e.due })) ∧
  (∀ (p : Fin 96) s, (s.d.port p.val).st ∉ [PState.off, .down] → 64 ≤ (s.d.port p.val).miss → linksSilent s.d = false → Does (exec (.portDown p) s) s (fun e =>
    e.port p.val = { s.d.port p.val with st := .down } ∧ e.g (bPort p.val) F.LNK_PSTATE_STATE = PState.down.code ∧
    (∀ a, a ≠ bPort p.val + F.LNK_PSTATE.off → e.rd a = s.d.rd a) ∧ e = { s.d.fresh with regs := e.regs, ports := e.ports })) ∧
  (∀ (p : Fin 96) s, (s.d.port p.val).st = .down → (s.d.port p.val).tok = false → 16 ≤ (s.d.port p.val).vrun → linksSilent s.d = false →
    Does (exec (.portTraining p) s) s (fun e => (e.port p.val).st = .training ∧ (e.port p.val).first = true ∧ (e.port p.val).ident = [] ∧ (e.port p.val).cnt = 0 ∧
      e.g (bPort p.val) F.LNK_PSTATE_STATE = PState.training.code ∧ e.gb (bPort p.val) F.LNK_PSTATE_CALIBRATED = false ∧ e.gb (bPort p.val) F.LNK_PSTATE_ID_VALID = false ∧
      (∀ a, a ≠ bPort p.val + F.LNK_PSTATE.off → e.rd a = s.d.rd a) ∧ e = { s.d.fresh with regs := e.regs, ports := e.ports })) ∧
  (∀ p (q : Fin 96) v s, HostReady p s → (enabledNodes s.d).any (fun n => s.d.portOf n == q.val) = false → getBits v 0 1 = 1 →
    s.d.gb (bPort q.val) F.LNK_PCFG_EN = false → Serves (exec (.lnkPcfgWrite p q v) s) s (fun d nv e => nv = s.nv ∧ (e.port q.val).st = .down ∧
      e.g (bPort q.val) F.LNK_PSTATE_STATE = PState.down.code ∧ e.gb (bPort q.val) F.LNK_PCFG_EN = true ∧
      e.rest = { d.rest with ports := e.ports, due := e.due } ∧ KeepsRegs d e [bPort q.val + F.LNK_PCFG.off, bPort q.val + F.LNK_PSTATE.off])) ∧
  (∀ p (q : Fin 96) v s, HostReady p s → (enabledNodes s.d).any (fun n => s.d.portOf n == q.val) = false → getBits v 0 1 = 0 →
    s.d.gb (bPort q.val) F.LNK_PCFG_EN = true → Serves (exec (.lnkPcfgWrite p q v) s) s (fun d nv e => nv = s.nv ∧ (e.port q.val).st = .off ∧ (e.port q.val).tok = false ∧
      (e.port q.val).wait = [] ∧ (e.port q.val).mq = [] ∧ (e.port q.val).reach = false ∧ e.g (bPort q.val) F.LNK_PSTATE_STATE = PState.off.code ∧
      e.gb (bPort q.val) F.LNK_PCFG_EN = false ∧ e.rest = { d.rest with ports := e.ports, due := e.due } ∧
      KeepsRegs d e [bPort q.val + F.LNK_PCFG.off, bPort q.val + F.LNK_PSTATE.off])) ∧
  (∀ (p : Fin 96) s, ((s.d.port p.val).miss < 3 → Does (exec (.portUnreachable p) s) s (fun e => e = s.d.fresh)) ∧
    ((s.d.port p.val).miss < 64 → Does (exec (.portDown p) s) s (fun e => e = s.d.fresh)) ∧ ((s.d.port p.val).vrun < 16 → Does (exec (.portTraining p) s) s (fun e => e = s.d.fresh))) ∧
  ∀ (p : Fin 96) s o, (s.d.port p.val).mo = some o → s.d.g bLnk F.LNK_CFG_MGMT_TIMEOUT ≤ o.waited → Does (exec (.mgmtTimeout p) s) s (fun e =>
    (o.retries < s.d.g bLnk F.LNK_CFG_MGMT_RETRY → (e.port p.val).mo = some { o with waited := 0, retries := o.retries + 1, first := true, left := msgBytes o.msg } ∧ e.due = s.d.due ∧ e.regs = s.d.regs) ∧
    (s.d.g bLnk F.LNK_CFG_MGMT_RETRY ≤ o.retries → (e.port p.val).mo = none ∧ e.gb (bPort p.val) F.LNK_STICKY_MGMT_TIMEOUT = true ∧ Raised e (0xC0 + p.val) 0x1006 none))

/-- R220, R238, R267 to R270, R275: a command frame in sequence, on the lane that the node obeys and with its counter right, whose term is not below the highest seen, serves the slot: the node takes term, HOR and periods, leaves LISTEN and, before its end, hold-over, and in SAFE takes its edges only with RESUME. Its legs stay as they have come to be by the frame's arrival, but for one that a late edge turns OFF. A frame with a lower term is counted and obeyed in nothing. A frame with a field out of its width stops as malformedOperand (log entry 31). R224, R237 to R239: an edge taken from a frame is held with its due time. One that is in time is held at that time; one that is less than 16,384 ft ahead is reported as late and, if it is to OFF, held for the earliest instant, or, if it is to LOW or HIGH, discarded with its leg OFF. The repeated copy of a known edge, and one that is held already, is no new edge; another edge for the same leg and instant as a held one is reported as a conflict and discarded. Choices of the model in it: log entry 62. -/
def Obligations.NodeTakesCommandFrames : Prop :=
  ((∀ (p : Fin 96) l f arr s, let x := s.d.far p.val
    f.wf = true → f.type = 1 → x.set = true → x.obeys = some l → (x.rx l).locked = true → f.seq = ((x.rx l).seq + (x.rx l).gap + 1) % 512 → absI (seqDev f.seq arr) ≤ 64 →
    f.tok = true → 1 ≤ f.term → x.tHi ≤ f.term → AtNode (exec (.nodeCmdFrame p l f arr) s) s p.val (fun y =>
      y.tHi = f.term ∧ y.obeys = some l ∧ y.served = true ∧ y.unserved = 0 ∧ y.perAB = f.perAB ∧ y.perCF = f.perCF ∧ y.set = true ∧ y.params = x.params ∧
      (x.ns ≠ .holdover → ∀ k, (y.lg k).st = ((x.upTo arr).lg k).st ∨ (y.lg k).st = .off) ∧
      (x.ns ≠ .holdover → f.new = [] → f.rep = [] → ∀ k, (y.lg k).st = ((x.upTo arr).lg k).st) ∧
      (x.ns = .listen ∨ x.ns = .driven → y.ns = .driven) ∧
      (x.ns = .holdover → seqDev f.seq arr = 0 → max x.now arr < x.repFrom + x.holdFor → y.ns = .driven) ∧
      (x.ns = .holdover → seqDev f.seq arr = 0 → x.repFrom + x.holdFor ≤ max x.now arr → f.resume = false → y.ns = .safe) ∧
      (x.ns = .safe → f.resume = false → y.ns = .safe ∧ (seqDev f.seq arr ≤ (arr : Int) → y.held = x.held)) ∧
      (x.ns = .safe → f.resume = true → f.new ≠ [] → y.ns = .driven) ∧
      (x.ns ≠ .holdover → f.new = [] → f.rep = [] → seqDev f.seq arr ≤ (arr : Int) → y.held = x.held))) ∧
  (∀ (p : Fin 96) l f arr s, let x := s.d.far p.val
    f.wf = true → f.type = 1 → x.set = true → x.obeys = some l → (x.rx l).locked = true → f.seq = ((x.rx l).seq + (x.rx l).gap + 1) % 512 → absI (seqDev f.seq arr) ≤ 64 →
    f.tok = true → 1 ≤ f.term → f.term < x.tHi → AtNode (exec (.nodeCmdFrame p l f arr) s) s p.val (fun y =>
      y.tHi = x.tHi ∧ y.stale = x.stale + 1 ∧ y.served = x.served ∧ (seqDev f.seq arr ≤ (arr : Int) → y.held = x.held) ∧ y.ns = x.ns ∧ y.perAB = x.perAB ∧ y.params = x.params)) ∧
  ∀ (p : Fin 96) l f arr s, f.wf = false → exec (.nodeCmdFrame p l f arr) s = .fault .malformedOperand) ∧
  (∀ (x : FarSt) l fin w fence copy t, legStateOf (ewTgt w) = some t → ewLeg w < 6 → let due := dueOf (ewTime w) fin
    (copy = true ∨ (x.fromNew l w due).held.any (fun h => h.word == w) = true → x.edge l fin w fence copy = x.fromNew l w due) ∧
    (copy = false → x.held = [] →
      (fin + 16384 ≤ due → (x.edge l fin w fence copy).held = [⟨w, due, l, fence⟩] ∧ (x.edge l fin w fence copy).events = x.events) ∧
      (due < fin + 16384 → t = .off → (x.edge l fin w fence copy).held = [⟨w, fin + 16384, l, fence⟩] ∧ (x.events.length < 32 → (x.edge l fin w fence copy).Tells 0x0002)) ∧
      (due < fin + 16384 → t ≠ .off → (x.edge l fin w fence copy).held = [] ∧ ((x.edge l fin w fence copy).lg (ewLeg w)).st = .off ∧
        (x.events.length < 32 → (x.edge l fin w fence copy).Tells 0x0002))) ∧
    (copy = false → fence = false → (∀ h ∈ x.held, h.lane = l ∧ h.word ≠ w) → (∃ h ∈ x.held, ewLeg h.word = ewLeg w ∧ ewTime h.word = ewTime w) →
      (x.edge l fin w fence copy).held = x.held ∧ (x.events.length < 32 → (x.edge l fin w fence copy).Tells 0x0003)) ∧
    (fin + 16384 ≤ due ∨ t = .off ∨ copy = true → (x.edge l fin w fence copy).legs = x.legs) ∧ (∀ k, k ≠ ewLeg w → (x.edge l fin w fence copy).lg k = x.lg k) ∧
    (x.edge l fin w fence copy).params = x.params)

/-- R220 to R222, R266, R719: a frame with no edges keeps the counter in phase within 64 ft; a node with no counter takes it from the timing port, enters SAFE with every leg OFF and owes one identity report; a frame more than 64 ft off is not valid, drops the held edges and begins the count of frames that agree, after four of which the counter is reloaded and the node reports it. A position without a frame is counted as an error of its lane, and on the timing port ends that count. A reading below 0 is taken a turn of 2^24 ft higher. R223, R239, R240, R259 to R261, R271, R392: the edge of a leg that is due first is executed (LEG 6: legs A and B together): the leg takes the commanded state, or OFF where a switch that the state needs is latched or has a rail below lock-out; the other legs stay as they are by then; its echo is queued with the measured error. An edge of a leg that another edge is due before is not executed, and in hold-over none that is due in the time of the repetition. Choices of the model in it: log entries 62, 65, 78. -/
def Obligations.NodeCounterAndEdges : Prop :=
  ((∀ (p : Fin 96) l (seq : Fin 512) arr s, let x := s.d.far p.val
    x.set = true → x.obeys = some l → (x.rx l).locked = true → seq.val = ((x.rx l).seq + (x.rx l).gap + 1) % 512 →
    (absI (seqDev seq.val arr) ≤ 64 → AtNode (exec (.nodeIdleFrame p l seq arr) s) s p.val (fun y => y.agree = 0 ∧ y.agreeAt = none ∧ y.ns = x.ns ∧ y.tHi = x.tHi ∧
        (let r : Int := ((max x.now arr : Nat) : Int) - seqDev seq.val arr
         y.now = (if r < 0 then r + 16777216 else r).toNat ∧ (0 ≤ r → y.held = x.held)) ∧ (x.ns ≠ .holdover → x.stop = 0 → y.events = x.events)) ∧
      AtNode (exec (.nodeCalFrame p l seq arr) s) s p.val (fun y => y.oweCal = true ∧ y.agree = 0 ∧ y.ns = x.ns)) ∧
    (64 < absI (seqDev seq.val arr) → x.agreeAt = none → AtNode (exec (.nodeIdleFrame p l seq arr) s) s p.val (fun y =>
      y.agree = 1 ∧ y.agreeAt = some (seqDev seq.val arr) ∧ y.held = [] ∧ y.ns = x.ns ∧ (x.ns ≠ .holdover → x.stop = 0 → y.events = x.events)))) ∧
  (∀ (p : Fin 96) (seq : Fin 512) arr s, let x := s.d.far p.val
    x.set = false → x.obeys = none → x.rxP.locked = true → seq.val = (x.rxP.seq + x.rxP.gap + 1) % 512 →
    AtNode (exec (.nodeIdleFrame p .portP seq arr) s) s p.val (fun y => y.set = true ∧ y.ns = .safe ∧ y.timing = .portP ∧ y.held = [] ∧ y.method = 2 ∧
      ∀ k < 6, (y.lg k).st = .off)) ∧
  (∀ (p : Fin 96) s d, let x := s.d.far p.val
    x.agreeAt = some d → 4 ≤ x.agree → AtNode (exec (.counterReload p) s) s p.val (fun y => y.agree = 0 ∧ y.agreeAt = none ∧ y.ns = x.ns ∧
      (x.events.length < 32 → y.Tells 0x0006) ∧
      (let r : Int := (x.now : Int) + (0 - d)
       y.now = (if r < 0 then r + 16777216 else r).toNat ∧ (0 ≤ r → y.held = x.held)))) ∧
  (∀ (p : Fin 96) s, (s.d.far p.val).agree < 4 → AtNode (exec (.counterReload p) s) s p.val (fun y => y = s.d.far p.val)) ∧
  ∀ (p : Fin 96) l s, let x := s.d.far p.val
    (x.rx l).locked = true → AtNode (exec (.nodeErrorSlot p l) s) s p.val (fun y => ((y.rx l).locked = false ↔ 3 ≤ (x.rx l).bad) ∧
      (l = .portP → y.errP = min 255 (x.errP + 1) ∧ y.errQ = x.errQ) ∧ (l = .portQ → y.errQ = min 255 (x.errQ + 1) ∧ y.errP = x.errP) ∧
      (l = x.timing → y.agree = 0 ∧ y.agreeAt = none) ∧ y.held = x.held ∧ y.ns = x.ns ∧ y.legs = x.legs ∧ y.events = x.events)) ∧
  ((∀ (p : Fin 96) (y : Fin 7) err body dir s h, let x := s.d.far p.val
    x.held.find? (fun h => codesMeet y.val (ewLeg h.word)) = some h → ewLeg h.word = y.val → (x.ns ≠ .holdover ∨ h.due < x.repFrom) → y.val < 6 →
    AtNode (exec (.nodeEdgeDue p y err body dir) s) s p.val (fun z =>
      let t := (legStateOf (ewTgt h.word)).getD .off
      (z.lg y.val).st = (if Nat.land (onSwitch y.val t) x.locked ≠ 0 ∨ Nat.land (onSwitch y.val t) x.latched ≠ 0 then .off else t) ∧
      (∀ k, k ≠ y.val → z.lg k = (x.upTo h.due).lg k) ∧ z.held = dropFirst (fun (k : Held) => ewLeg k.word == y.val) x.held ∧ z.now = max x.now h.due ∧ z.ns = x.ns ∧
      (x.report = none → ∃ e, z.echoes.getLast? = some e ∧ e.leg = y.val ∧ e.state = t.code ∧ e.time = ewTime h.word % 65536 ∧ e.execErr = clampI err (-127) 127) ∧
      z.params = x.params ∧ z.latched = x.latched)) ∧
  (∀ (p : Fin 96) err body dir s h, let x := s.d.far p.val
    x.held.find? (fun h => codesMeet 6 (ewLeg h.word)) = some h → ewLeg h.word = 6 → (x.ns ≠ .holdover ∨ h.due < x.repFrom) →
    AtNode (exec (.nodeEdgeDue p 6 err body dir) s) s p.val (fun z =>
      let t := (legStateOf (ewTgt h.word)).getD .off
      let need := onSwitch 0 t + onSwitch 1 t
      (∀ k < 2, (z.lg k).st = (if Nat.land need x.locked ≠ 0 ∨ Nat.land need x.latched ≠ 0 then .off else t)) ∧ (∀ k, 2 ≤ k → z.lg k = (x.upTo h.due).lg k) ∧
      z.held = dropFirst (fun (k : Held) => ewLeg k.word == 6) x.held ∧ z.now = max x.now h.due ∧ z.ns = x.ns ∧ z.params = x.params ∧ z.latched = x.latched)) ∧
  ∀ (p : Fin 96) (y : Fin 7) err body dir s, let x := s.d.far p.val
    (∀ h, x.held.find? (fun h => codesMeet y.val (ewLeg h.word)) = some h → ewLeg h.word ≠ y.val ∨ (x.ns = .holdover ∧ x.repFrom ≤ h.due)) →
    AtNode (exec (.nodeEdgeDue p y err body dir) s) s p.val (fun z => z = x))

/-- R270 to R274, R288, R392, R394: three unserved slots take a driven node into hold-over; at its end the node enters SAFE with detection DIDT: a cell has legs C to F OFF and legs A and B in its form, but for a switch whose rail is locked out, any other node every leg OFF; with CONTACTOR set it closes its contactor. A contactor that the node has closed and that closes is reported. Power-up leaves a node without counter, parameters or token and with every leg OFF. R215, R251 to R257, R266, R270: a slot begins: the slot before it is judged as served or not, and one report frame is sent: the identity while the counter is not set; events first where a severe one waits; then an RPT in every fourth slot with the node's term and the measured values; else an ECHO of at most 18 echoes. Choices of the model in it: log entries 62, 65, 75, 78. -/
def Obligations.NodeStatesAndReports : Prop :=
  ((∀ (p : Fin 96) s, let x := s.d.far p.val
    x.ns = .driven → 3 ≤ x.unserved → AtNode (exec (.holdoverEnter p) s) s p.val (fun y => y.ns = .holdover ∧ y.legs = x.legs ∧ y.held = x.held ∧
      y.tHi = x.tHi ∧ y.repFrom = x.hor ∧ y.repAB = x.perAB ∧ y.repCF = x.perCF ∧ (x.events.length < 32 → y.Tells 0x0007))) ∧
  (∀ (p : Fin 96) s, let x := s.d.far p.val
    x.ns ≠ .driven ∨ x.unserved < 3 → AtNode (exec (.holdoverEnter p) s) s p.val (fun y => y = x)) ∧
  (∀ (p : Fin 96) s, let x := s.d.far p.val
    x.ns = .holdover → AtNode (exec (.safeEnter p) s) s p.val (fun y => y.ns = .safe ∧ y.held = [] ∧ y.method = 2 ∧ y.stop = 0 ∧ y.unserved = 0 ∧ y.params = x.params ∧
      y.tHi = x.tHi ∧ y.obeys = x.obeys ∧ y.now = max x.now (x.repFrom + x.holdFor) ∧
      (∀ k < 6, (x.cell = false ∨ 2 ≤ k) → (y.lg k).st = .off) ∧
      (x.cell = true → ∀ k < 2, (y.lg k).st = y.form.leg ∨ ((y.lg k).st = .off ∧ Nat.land (onSwitch k y.form.leg) x.locked ≠ 0)) ∧
      (x.par 0x204 = 1 → x.hasContactor = true → y.closing = true) ∧ (x.events.length < 32 → y.Tells 0x0009))) ∧
  (∀ (p : Fin 96) s, let x := s.d.far p.val
    x.ns ≠ .holdover → AtNode (exec (.safeEnter p) s) s p.val (fun y => y = x)) ∧
  (∀ (p : Fin 96) s, let x := s.d.far p.val
    (x.closing = true → AtNode (exec (.contactorClosed p) s) s p.val (fun y => y.contactor = true ∧ y.legs = x.legs ∧ y.ns = x.ns ∧ (x.events.length < 32 → y.Tells 0x000D))) ∧
    (x.closing = false → AtNode (exec (.contactorClosed p) s) s p.val (fun y => y = x))) ∧
  (∀ (p : Fin 96) ident s, ident.length = 512 → AtNode (exec (.nodePowerUp p ident) s) s p.val (fun y => y.ident = ident ∧ y.set = false ∧ y.obeys = none ∧ y.tHi = 0 ∧
    y.params = [] ∧ y.held = [] ∧ y.events = [] ∧ ∀ k, (y.lg k).st = .off)) ∧
  ∀ (p : Fin 96) ident s, ident.length ≠ 512 → exec (.nodePowerUp p ident) s = .fault .malformedOperand) ∧
  ((∀ (p : Fin 96) k m s, let x := (s.d.far p.val).upTo (k * 32768)
    m.wf = true → AtNode (exec (.nodeReportSlot p k m) s) s p.val (fun y =>
      y.now = max (s.d.far p.val).now (k * 32768) ∧ y.slotAt = k * 32768 ∧ y.legs = x.legs ∧ y.held = x.held ∧ y.ns = x.ns ∧
      (x.obeys ≠ none → y.served = false ∧ y.unserved = if x.served then 0 else x.unserved + 1) ∧ (x.obeys = none → y.served = x.served ∧ y.unserved = x.unserved) ∧
      (x.set = false → y.report = some (.cal (k % 512) (slice x.ident 0 64) (k * 512) false)) ∧
      (x.set = true → x.events.any evtSevere = true → ∃ es, y.report = some (.evt (k % 512) x.lost es) ∧ es.length = min 7 x.events.length ∧ y.events.length = x.events.length - 7) ∧
      (x.set = true → x.events.any evtSevere = false → x.fenceEcho = 0 → k % 4 = 0 → ∃ b, y.report = some (.rpt (k % 512) b) ∧ b.values = m.values ∧ b.valid = m.valid ∧
        b.nodeTerm = x.tHi ∧ b.errP = x.errP ∧ y.errP = 0) ∧
      (x.set = true → x.events.any evtSevere = false → x.fenceEcho = 0 → x.oweRpt = 0 → k % 4 ≠ 0 → k % 4 ≠ 3 →
        y.report = some (.echo (k % 512) x.dropped (x.echoes.take 18)) ∧ y.echoes = x.echoes.drop 18))) ∧
  ∀ (p : Fin 96) k m s, m.wf = false → exec (.nodeReportSlot p k m) s = .fault .malformedOperand)

/-- R284 to R289, R405: a message whose segments have come whole is taken; any other is none. A READ answers the bytes asked for; a WRITE within the leg parameters is staged and changes no committed byte until COMMIT, which commits the staged bytes and forms their CRC; an operation other than READ on a lane that the node does not obey is answered with status 3; a repeated transaction only has its answer repeated. A self-test that ends is reported with its results. Choices of the model in it: log entry 63. -/
def Obligations.NodeAnswersMessages : Prop :=
  (∀ (p : Fin 96) l m s b, let x := s.d.far p.val
    m.wf = true → x.msg l = .whole b → msgOf b = m → x.lastTid ≠ some m.tid → (x.obeys = none ∨ x.obeys = some l) →
    AtNode (exec (.nodeMgmtMessage p l m) s) s p.val (fun y =>
      y.lastTid = some m.tid ∧ y.msg l = .none ∧ y.legs = x.legs ∧ y.held = x.held ∧
      (m.op = 2 → 1 ≤ m.len → m.len ≤ 6 → m.addr + m.len ≤ 0x1000 → y.params = x.params ∧ y.staged = x.staged ∧
        y.lastAck = leBytes 1 m.tid ++ leBytes 1 0 ++ (upto m.len).map (fun i => x.byte (m.addr + i))) ∧
      (m.op = 1 → m.len ≤ 248 → m.data.length = m.len → 0x400 ≤ m.addr → m.addr + m.len ≤ 0x702 → y.params = x.params ∧ y.lastAck = leBytes 1 m.tid ++ leBytes 1 0 ∧
        (∀ i < m.len, y.stg (m.addr + i) = (m.data.getD i 0).toNat) ∧ (∀ a, (a < m.addr ∨ m.addr + m.len ≤ a) → y.stg a = x.stg a)) ∧
      (m.op = 5 → y.staged = [] ∧ y.lastAck = leBytes 1 m.tid ++ leBytes 1 0 ∧ (∀ a, (∀ w ∈ x.staged, w.1 ≠ a) → y.par a = x.par a) ∧
        (∀ w ∈ x.staged, (∀ v ∈ x.staged, v.1 = w.1 → v = w) → y.par w.1 = w.2) ∧ y.crc = crc32 ((upto 0xE00).map (fun i => BitVec.ofNat 8 (y.par (0x200 + i))))))) ∧
  (∀ (p : Fin 96) l m s o b, let x := s.d.far p.val
    m.wf = true → x.msg l = .whole b → msgOf b = m → x.lastTid ≠ some m.tid → m.op ≠ 2 → x.obeys = some o → o ≠ l →
    AtNode (exec (.nodeMgmtMessage p l m) s) s p.val (fun y =>
      y.lastAck = leBytes 1 m.tid ++ leBytes 1 3 ∧ y.params = x.params ∧ y.staged = x.staged ∧ y.legs = x.legs)) ∧
  (∀ (p : Fin 96) l m s b, let x := s.d.far p.val
    m.wf = true → x.msg l = .whole b → msgOf b = m → x.lastTid = some m.tid →
    AtNode (exec (.nodeMgmtMessage p l m) s) s p.val (fun y => y = { x.setMsg l .none with events := y.events, lost := y.lost })) ∧
  (∀ (p : Fin 96) l m s, let x := s.d.far p.val
    m.wf = true → (∀ b, x.msg l = .whole b → msgOf b ≠ m) → AtNode (exec (.nodeMgmtMessage p l m) s) s p.val (fun y => y = x)) ∧
  (∀ (p : Fin 96) l m s, m.wf = false → exec (.nodeMgmtMessage p l m) s = .fault .malformedOperand) ∧
  ∀ (p : Fin 96) pass s, let x := s.d.far p.val
    x.selfTest ≠ none → AtNode (exec (.nodeSelftestEnd p pass) s) s p.val (fun y => y.selfTest = none ∧ y.legs = x.legs ∧ y.ns = x.ns ∧ (x.events.length < 32 → y.Tells 0x0107))

/-- R383 to R385, R392, R393, R396 to R398: a comparator that acts (its switch on, its method armed, its condition held past blanking and filter), a shoot-through, a gate that has missed its level in time and a rail below lock-out under a switch that is on each latch the switches concerned, take the node into SAFE with the leg off, and are reported; a comparator that does not act and a gate still in time change nothing, and a rail below lock-out under a switch that is off only keeps it off. A rail that recovers ends the cause with the last one. Choices of the model in it: log entry 78. -/
def Obligations.SwitchFaultsLatch : Prop :=
  (∀ (p : Fin 96) now (sw : Fin 12) m onset c tj s, let x := (s.d.far p.val).upTo now
    (x.acts sw.val m.toNat onset = true → AtNode (exec (.switchTrip p now sw m onset c tj) s) s p.val (fun y => bitOf y.latched sw.val = true ∧ y.ns = .safe ∧
      ((x.cell = false ∨ 4 ≤ sw.val) → (y.lg (sw.val / 2)).st = .off) ∧ (x.events.length < 32 → y.Tells 0x0101) ∧ y.params = x.params ∧ y.tHi = x.tHi)) ∧
    (x.acts sw.val m.toNat onset = false → AtNode (exec (.switchTrip p now sw m onset c tj) s) s p.val (fun y => y = x))) ∧
  (∀ (x : FarSt) sw m onset, x.acts sw m onset = true → bitOf x.onSw sw = true ∧ onset ≤ x.now ∧ (m = 1 ∨ m = 2 ∨ m = 3) ∧ (m = 1 → x.methodOf sw = 1) ∧ (m = 3 → x.methodOf sw = 2)) ∧
  (∀ (p : Fin 96) now (k : Fin 6) last s, let x := (s.d.far p.val).upTo now
    AtNode (exec (.shootThrough p now k last) s) s p.val (fun y => bitOf y.latched (2 * k.val) = true ∧ bitOf y.latched (2 * k.val + 1) = true ∧ y.ns = .safe ∧
      ((x.cell = false ∨ 2 ≤ k.val) → (y.lg k.val).st = .off) ∧ (x.events.length < 32 → y.Tells 0x0104) ∧ y.params = x.params ∧ y.tHi = x.tHi)) ∧
  (∀ (p : Fin 96) now (sw : Fin 12) o v s, let x := (s.d.far p.val).upTo now
    ((x.gate sw.val).on ≠ o → (x.gate sw.val).at_ + x.gateLimit sw.val ≤ x.now → AtNode (exec (.gateFault p now sw o v) s) s p.val (fun y =>
      bitOf y.latched sw.val = true ∧ y.ns = .safe ∧
      ((x.cell = false ∨ 4 ≤ sw.val) → (y.lg (sw.val / 2)).st = .off) ∧ (x.events.length < 32 → y.Tells 0x0105) ∧ y.params = x.params ∧ y.tHi = x.tHi)) ∧
    (x.now < (x.gate sw.val).at_ + x.gateLimit sw.val → AtNode (exec (.gateFault p now sw o v) s) s p.val (fun y => y = x))) ∧
  (∀ (p : Fin 96) now (sw : Fin 12) neg v s, let x := (s.d.far p.val).upTo now
    AtNode (exec (.uvloFault p now sw neg v) s) s p.val (fun y => bitOf y.uvlo (sw.val + 12 * b2n neg) = true ∧ y.params = x.params ∧
      (bitOf x.onSw sw.val = true → bitOf y.latched sw.val = true ∧ y.ns = .safe ∧ (x.events.length < 32 → y.Tells 0x0102)) ∧
      (bitOf x.onSw sw.val = false → y.latched = x.latched ∧ y.ns = x.ns ∧ y.legs = x.legs ∧ y.events = x.events))) ∧
  ∀ (p : Fin 96) (sw : Fin 12) neg s, Does (exec (.uvloRecovered p sw neg) s) s (fun e =>
    e.far p.val = { s.d.far p.val with uvlo := Nat.land (s.d.far p.val).uvlo (Nat.xor 16777215 (railBit sw.val neg)) } ∧ (∀ q, q ≠ p.val → e.far q = s.d.far q) ∧
    (∀ n, s.d.nodeAt p.val = some n → (e.far p.val).uvlo = 0 → Raised e n 0x0102 (some false)) ∧ ((e.far p.val).uvlo ≠ 0 → e.due = s.d.due) ∧
    e = { s.d.fresh with fars := e.fars, due := e.due })

/-- R297, R298, R301, R303: in the tick of a firing instant a group whose source exists, in a module that evaluates loops, with no firing under way, begins one: its instant is now, the ticks since the one before are kept, and RG_COUNT.FIRINGS advances; only a wheel boundary moves loops. With one under way it is an overrun, counted and raised as 0x1028, severe at the third in a row. Without a source, in any other tick, and a second time in one tick it does nothing. R299, R305, R306, R333, R343, R345: in the tick of its latch instant, RG_CFG.LATCH_DLY after the firing instant, the snapshot is taken, with the mode then in force, and the loops that were to thaw and the coefficients that were to be committed have been seen to; when the evaluations end, before the commit tick, their duration is shown and the worst one kept. In any other tick nothing happens. Choices of the model in it: log entry 76. -/
def Obligations.RateGroupsFireAndLatch : Prop :=
  ((∀ (g : Fin 8) s, groupRuns s.d g.val = true → firingDue s.d g.val = true → (s.d.rg g.val).firedAt ≠ some s.d.tick → (s.d.rg g.val).fir = none →
    Does (exec (.rgFire g) s) s (fun e => (∃ f, (e.rg g.val).fir = some f ∧ f.tf = s.d.tick ∧ f.latched = false ∧ f.done = false ∧
        f.since = (match (s.d.rg g.val).lastTf with | some t => s.d.tick - t | none => 0)) ∧ (e.rg g.val).lastTf = some s.d.tick ∧
      (e.rg g.val).firedAt = some s.d.tick ∧ (e.rg g.val).boundary = false ∧
      e.g (bRg g.val) F.RG_COUNT_FIRINGS = (s.d.g (bRg g.val) F.RG_COUNT_FIRINGS + 1) % 65536 ∧
      ((s.d.rg g.val).boundary = false → ∀ a, a ≠ bRg g.val + F.RG_COUNT.off → e.rd a = s.d.rd a) ∧
      (∀ a, a ≠ bRg g.val + F.RG_COUNT.off → (∀ i < 2048, a ≠ bLoopStat i + F.LOOP_STAT.off) → (∀ k < 16, a ≠ bLoopTab + (F.ENG_LOAD_PLACED.at k).off) → e.rd a = s.d.rd a) ∧
      (∀ h, h ≠ g.val → e.rg h = s.d.rg h) ∧ e = { s.d.fresh with regs := e.regs, rgs := e.rgs })) ∧
  (∀ (g : Fin 8) s f, groupRuns s.d g.val = true → firingDue s.d g.val = true → (s.d.rg g.val).firedAt ≠ some s.d.tick → (s.d.rg g.val).fir = some f →
    Does (exec (.rgFire g) s) s (fun e => (e.rg g.val).fir = some f ∧ e.g (bRg g.val) F.RG_COUNT_OVERRUNS = (s.d.g (bRg g.val) F.RG_COUNT_OVERRUNS + 1) % 65536 ∧
      e.gb (bRg g.val) F.RG_STATUS_OVERRUN = true ∧ e.g (bRg g.val) F.RG_STATUS_CONSEC = min 15 (s.d.g (bRg g.val) F.RG_STATUS_CONSEC + 1) ∧
      (∃ ev : Ev, Due.event ev ∈ e.due ∧ ev.src = 0x128 + g.val ∧ ev.kind = 0x1028 ∧ ev.severe = (min 15 (s.d.g (bRg g.val) F.RG_STATUS_CONSEC + 1) == 3)) ∧
      e = { s.d.fresh with regs := e.regs, rgs := e.rgs, due := e.due })) ∧
  ∀ (g : Fin 8) s, groupRuns s.d g.val = false ∨ firingDue s.d g.val = false ∨ (s.d.rg g.val).firedAt = some s.d.tick →
    Does (exec (.rgFire g) s) s (fun e => e = s.d.fresh)) ∧
  ((∀ (g : Fin 8) s f, (s.d.rg g.val).fir = some f → f.latched = false → s.d.tick = f.tf + s.d.g (bRg g.val) F.RG_CFG_LATCH_DLY → s.d.follows = false →
    (∀ h, ∀ i ∈ (s.d.rg h).thaw, i < 2048) → Does (exec (.rgLatch g) s) s (fun e =>
    (∃ f', (e.rg g.val).fir = some f' ∧ f'.latched = true ∧ f'.tf = f.tf ∧ f'.latch = s.d.tick ∧ f'.mode = s.d.mode.code ∧ f'.done = f.done ∧ f'.wait = false ∧
      ((∀ h < 8, ∀ i ∈ (s.d.rg h).thaw, loopRg s.d i ≠ g.val) → (s.d.rg g.val).commitFrom = none → f'.snap = snapshot s.d g.val f.tf f.since)) ∧
    (∀ h < 8, ∀ i, i ∈ (e.rg h).thaw ↔ i ∈ (s.d.rg h).thaw ∧ loopRg s.d i ≠ g.val) ∧
    (∀ t, (s.d.rg g.val).commitFrom = some t → t < s.d.tick →
      (e.rg g.val).commitFrom = if (s.d.rg g.val).commitLast = some s.d.tick then some s.d.tick else none) ∧ e.tick = s.d.tick ∧ e.mode = s.d.mode)) ∧
  (∀ (g : Fin 8) s f, (s.d.rg g.val).fir = some f → f.latched = true ∨ s.d.tick ≠ f.tf + s.d.g (bRg g.val) F.RG_CFG_LATCH_DLY →
    Does (exec (.rgLatch g) s) s (fun e => e = s.d.fresh)) ∧
  (∀ (g : Fin 8) t s f, (s.d.rg g.val).fir = some f → f.latched = true → f.done = false → f.wait = false →
    s.d.tick = f.latch + t → s.d.tick < f.tf + s.d.g (bRg g.val) F.RG_DL_DL → Does (exec (.rgEvalDone g t) s) s (fun e =>
    (∃ x, (e.rg g.val) = { s.d.rg g.val with fir := some { f with done := true }, boundary := x } ∧ ((s.d.rg g.val).boundary = true → x = true)) ∧
    e.g (bRg g.val) F.RG_TIMING_LAST = min t 65535 ∧ e.g (bRg g.val) F.RG_TIMING_WORST = max (s.d.g (bRg g.val) F.RG_TIMING_WORST) (min t 65535) ∧
    (∀ a, a ≠ bRg g.val + F.RG_TIMING.off → e.rd a = s.d.rd a) ∧ (∀ h, h ≠ g.val → e.rg h = s.d.rg h) ∧ e = { s.d.fresh with regs := e.regs, rgs := e.rgs })) ∧
  ∀ (g : Fin 8) t s f, (s.d.rg g.val).fir = some f → s.d.tick ≠ f.latch + t ∨ f.tf + s.d.g (bRg g.val) F.RG_DL_DL ≤ s.d.tick →
    Does (exec (.rgEvalDone g t) s) s (fun e => e = s.d.fresh))

/-- R299 to R302, R347: in the tick of its commit, RG_DL after the firing instant, a firing that is evaluated publishes its results, resets the count of overruns in a row and commits the strings that the group names; one that is not is dropped as an overrun and publishes nothing. In any other tick nothing happens. The results name their loop's own state block or a modulation slot. R113, R305, R333, R355: LOOP_COMMIT marks the groups named, whose shadows then come into force at a later latch instant, and changes no value in force itself; LOOP_STAT.THAW queues a loop, enabled or not, to be thawed at the next latch instant of its group. Thawing clears FROZEN and keeps the gain. The commit of a group brings the coefficients of all its loops into force, enabled or not. Choices of the model in it: log entry 76. -/
def Obligations.RateGroupsCommit : Prop :=
  ((∀ (g : Fin 8) s f, (s.d.rg g.val).fir = some f → s.d.tick = f.tf + s.d.g (bRg g.val) F.RG_DL_DL → f.latched = true → f.done = true →
    (∀ r ∈ f.res, r.loop < 2048 ∧ ∀ w ∈ r.regs, (bLoopS r.loop ≤ w.1 ∧ w.1 < bLoopS r.loop + 32) ∨ (0x1000000 ≤ w.1)) → (f.res.map (fun r => r.loop)).Nodup →
    Does (exec (.rgCommitTick g) s) s (fun e => (e.rg g.val).fir = none ∧ e.g (bRg g.val) F.RG_STATUS_CONSEC = 0 ∧
      (∀ r ∈ f.res, ∀ w ∈ r.regs, w.1 < 0x1000000 → (∀ x ∈ r.regs, x.1 = w.1 → x = w) → e.rd w.1 = w.2) ∧
      (∀ r ∈ f.res, ∀ w ∈ r.regs, 0x1000000 ≤ w.1 → (∀ q ∈ f.res, ∀ x ∈ q.regs, x.1 = w.1 → x = w) → tget (fun _ => 0#32) e.slotVals (w.1 - 0x1000000) = w.2) ∧
      (∀ r ∈ f.res, e.gb (bLoopStat r.loop) F.LOOP_STAT_SKIPPED = r.skipped) ∧
      (∀ i < 8, bitOf (s.d.g (bRg g.val) F.RG_COMMITS_STRINGS) i = true → s.d.enabled (.string i) = true → commitsTaken s.d i = true → (e.str i).pend ≠ none) ∧
      e.tick = s.d.tick ∧ e.mode = s.d.mode)) ∧
  (∀ (g : Fin 8) s f, (s.d.rg g.val).fir = some f → s.d.tick = f.tf + s.d.g (bRg g.val) F.RG_DL_DL → (f.latched && f.done) = false →
    Does (exec (.rgCommitTick g) s) s (fun e => (e.rg g.val).fir = none ∧
    e.g (bRg g.val) F.RG_COUNT_OVERRUNS = (s.d.g (bRg g.val) F.RG_COUNT_OVERRUNS + 1) % 65536 ∧ e.slotVals = s.d.slotVals ∧ e.strs = s.d.strs ∧
    (∃ ev : Ev, Due.event ev ∈ e.due ∧ ev.src = 0x128 + g.val ∧ ev.kind = 0x1028) ∧
    (∀ a, a ∉ [bRg g.val + F.RG_COUNT.off, bRg g.val + F.RG_STATUS.off] → e.rd a = s.d.rd a))) ∧
  ∀ (g : Fin 8) s f, (s.d.rg g.val).fir = some f → s.d.tick ≠ f.tf + s.d.g (bRg g.val) F.RG_DL_DL → Does (exec (.rgCommitTick g) s) s (fun e => e = s.d.fresh)) ∧
  ((∀ p v s, HostReady p s → Serves (exec (.loopCommit p v) s) s (fun d nv e => nv = s.nv ∧
    (∀ g < 8, (e.rg g).commitFrom = (if bitOf (getBits v 0 8) g then (d.rg g).commitFrom.or (some s.d.tick) else (d.rg g).commitFrom) ∧
      (e.rg g).commitLast = if bitOf (getBits v 0 8) g then some s.d.tick else (d.rg g).commitLast) ∧ e.force = d.force ∧
    e.rest = { d.rest with rgs := e.rgs } ∧ KeepsRegs d e [])) ∧
  (∀ p (i : Fin 2048) v s, HostReady p s → s.d.occupied (.loop i.val) = true → getBits v 13 1 = 1 → Serves (exec (.loopThaw p i v) s) s (fun d nv e => nv = s.nv ∧
    (e.rg (loopRg s.d i.val)).thaw = (if (d.rg (loopRg s.d i.val)).thaw.contains i.val then (d.rg (loopRg s.d i.val)).thaw else (d.rg (loopRg s.d i.val)).thaw ++ [i.val]) ∧
    (∀ a, (bLoopS i.val ≤ a ∧ a < bLoopS i.val + 32) → e.rd a = d.rd a) ∧ e.rest = { d.rest with rgs := e.rgs } ∧ KeepsRegs d e [bLoopStat i.val + F.LOOP_STAT.off])) ∧
  (∀ i s, i < 2048 → getBits ((thaw i s).rd (bLoopS i + F.LS_OSC.off)) 22 1 = 0 ∧ getBits ((thaw i s).rd (bLoopS i + F.LS_OSC.off)) 0 8 = 0 ∧
    getBits ((thaw i s).rd (bLoopS i + F.LS_OSC.off)) 15 3 = getBits (s.rd (bLoopS i + F.LS_OSC.off)) 15 3 ∧
    (∀ a, a ∉ [bLoopS i + F.LS_OSC.off, bLoopS i + F.LS_ENV.off] → (thaw i s).rd a = s.rd a) ∧ thaw i s = { s with regs := (thaw i s).regs }) ∧
  ∀ g s i k, i ∈ loopSlots s → loopRg s i = g → k < 7 → (loopCommit g s).rdF (bLoopD i + F.LD_C.off + 4 * k) = s.rd (bLoopD i + F.LD_C.off + 4 * k))

/-- R316, R318: every law's candidate lies within the limits of its loop, and so does its integrator, whatever inputs, coefficients and state; the anti-windup step leaves the integrator within the limits. -/
def Obligations.LawsKeepLimits : Prop :=
  (∀ i0 inc ff yp lo hi, lo ≤ hi → lo ≤ integStep i0 inc ff yp lo hi ∧ integStep i0 inc ff yp lo hi ≤ hi) ∧
  ∀ s i x ang gh, limLo s i ≤ limHi s i →
    limLo s i ≤ (evalLaw s i x ang gh).y ∧ (evalLaw s i x ang gh).y ≤ limHi s i ∧
    ∀ v, (evalLaw s i x ang gh).i = some v → limLo s i * 256 ≤ v ∧ v ≤ limHi s i * 256

/-- R354, R360, R364 to R366: CELL_OUT and CELL_IN request a change, which in CHARGE, RUN and RIDE waits with PENDING set and in HOLD and SAFE takes effect in whole; CELL_PRECHARGE takes a bypassed position to CHARGING and notes when; past PRE_TMO it ends bypassed with 0x101B; CELL_SWAP binds a free enabled cell node to a bypassed position. Choices of the model in it: log entries 20, 21, 59, 67. -/
def Obligations.CellCommandsChangePositions : Prop :=
  (∀ p a0 a1 a2 a3 s i, HostReady p s → openHandle s.d a0 (some 1) = (0, .string i) → i < 8 → a1.toNat < 32 → a1.toNat < s.d.g (bStr i) F.STR_CFG_MEMBERS → s.d.kind i = 1 →
    s.d.enabled (.string i) = true → posState s.d i a1.toNat = 0 → changePending s.d i = false → (s.d.str i).chg = none →
    nmin s.d i ≤ ((stayActive s.d i).filter (fun j => j != a1.toNat)).length →
    (s.d.driveMode = true → Serves (exec (.cellOut p a0 a1 a2 a3) s) s (fun d nv e => nv = s.nv ∧ Executes e 0x20 (p == .lmp) [] none ∧
      (e.str i).chg = some { leave := 2 ^ a1.toNat, enter := 0, react := 0, latched := false, asked := s.d.tick } ∧
      e.gb (bStr i) F.STR_CELL_STATUS_PENDING = true ∧ posState e i a1.toNat = 0 ∧ e.rest = { d.rest with strs := e.strs, ms := e.ms } ∧
      KeepsRegs d e [bDev + F.CMD_RESULT.off, bStr i + F.STR_CELL_STATUS.off])) ∧
    (s.d.mode = .hold ∨ s.d.mode = .safe → Serves (exec (.cellOut p a0 a1 a2 a3) s) s (fun _ nv e => nv = s.nv ∧ Executes e 0x20 (p == .lmp) [] none ∧
      posState e i a1.toNat = 1 ∧ bitOf (e.g (bStr i) F.STR_ACTIVE_MASK) a1.toNat = false ∧
      e.g (bStr i) F.STR_CELL_STATUS_CHANGES = (s.d.g (bStr i) F.STR_CELL_STATUS_CHANGES + 1) % 65536))) ∧
  (∀ p a0 a1 a2 a3 s i, HostReady p s → openHandle s.d a0 (some 1) = (0, .string i) → i < 8 → a1.toNat < 32 → a1.toNat < s.d.g (bStr i) F.STR_CFG_MEMBERS → s.d.kind i = 1 →
    s.d.enabled (.string i) = true → posState s.d i a1.toNat = 1 → changePending s.d i = false → (s.d.str i).chg = none →
    bitOf (s.d.g (bStr i) F.STR_OUT_CAUSE_REACTION) a1.toNat = false → underReaction s.d (memberAt s.d i a1.toNat) = false →
    (teleNow s.d (memberAt s.d i a1.toNat) 0).2 = true → outOfWin s.d i (teleNow s.d (memberAt s.d i a1.toNat) 0).1 = false →
    (s.d.driveMode = true → Serves (exec (.cellIn p a0 a1 a2 a3) s) s (fun d nv e => nv = s.nv ∧ Executes e 0x21 (p == .lmp) [] none ∧
      (e.str i).chg = some { leave := 0, enter := 2 ^ a1.toNat, react := 0, latched := false, asked := s.d.tick } ∧
      e.gb (bStr i) F.STR_CELL_STATUS_PENDING = true ∧ posState e i a1.toNat = 1 ∧ e.rest = { d.rest with strs := e.strs, ms := e.ms } ∧
      KeepsRegs d e [bDev + F.CMD_RESULT.off, bStr i + F.STR_CELL_STATUS.off])) ∧
    (s.d.mode = .hold ∨ s.d.mode = .safe → Serves (exec (.cellIn p a0 a1 a2 a3) s) s (fun _ nv e => nv = s.nv ∧ Executes e 0x21 (p == .lmp) [] none ∧
      posState e i a1.toNat = 0 ∧ bitOf (e.g (bStr i) F.STR_ACTIVE_MASK) a1.toNat = true ∧
      e.g (bStr i) F.STR_CELL_STATUS_CHANGES = (s.d.g (bStr i) F.STR_CELL_STATUS_CHANGES + 1) % 65536))) ∧
  (∀ p a0 a1 a2 a3 s i, HostReady p s → openHandle s.d a0 (some 1) = (0, .string i) → i < 8 → a1.toNat < 32 → a1.toNat < s.d.g (bStr i) F.STR_CFG_MEMBERS → s.d.kind i = 1 →
    s.d.enabled (.string i) = true → posState s.d i a1.toNat = 1 → changePending s.d i = false → s.d.mode = .run ∨ s.d.mode = .ride →
    underReaction s.d (memberAt s.d i a1.toNat) = false → (s.d.port (s.d.portOf (memberAt s.d i a1.toNat))).nstate ≠ .safe →
    (teleNow s.d (memberAt s.d i a1.toNat) 0).2 = true → (teleNow s.d (memberAt s.d i a1.toNat) 0).1 < (s.d.g (bStr i) F.STR_CELL_WIN_WIN_LO : Int) * 65536 →
    Serves (exec (.cellPrecharge p a0 a1 a2 a3) s) s (fun d nv e => nv = s.nv ∧ Executes e 0x22 (p == .lmp) [] none ∧ posState e i a1.toNat = 2 ∧
      (e.node (memberAt s.d i a1.toNat)).preFrom = some s.d.tick ∧ e.strs = d.strs ∧
      KeepsRegs d e [bDev + F.CMD_RESULT.off, bStr i + (posFld a1.toNat).off])) ∧
  (∀ (i : Fin 8) (k : Fin 32) t s, (s.d.node (memberAt s.d i.val k.val)).preFrom = some t → t + 250000 * s.d.g (bStr i.val) F.STR_BAL_CFG_PRE_TMO ≤ s.d.tick →
    posState s.d i.val k.val = 2 → Does (exec (.cellPrechargeFail i k) s) s (fun e =>
    posState e i.val k.val = 1 ∧ (e.node (memberAt s.d i.val k.val)).preFrom = none ∧ Raised e (0x60 + memberAt s.d i.val k.val) 0x101B none ∧
    (∀ a, a ≠ bStr i.val + (posFld k.val).off → e.rd a = s.d.rd a) ∧ e.strs = s.d.strs)) ∧
  (∀ (i : Fin 8) (k : Fin 32) s, (∀ t, (s.d.node (memberAt s.d i.val k.val)).preFrom = some t → s.d.tick < t + 250000 * s.d.g (bStr i.val) F.STR_BAL_CFG_PRE_TMO) →
    Does (exec (.cellPrechargeFail i k) s) s (fun e => e = s.d.fresh)) ∧
  ∀ p a0 a1 a2 a3 s i m, HostReady p s → openHandle s.d a0 (some 1) = (0, .string i) → i < 8 → a1.toNat < 32 → a1.toNat < s.d.g (bStr i) F.STR_CFG_MEMBERS → s.d.kind i = 1 →
    s.d.enabled (.string i) = true → posState s.d i a1.toNat = 1 → s.d.mode ≠ .load → openHandle s.d a2 (some 2) = (0, .node m) → m < 96 → s.d.enabled (.node m) = true →
    s.d.isCell m = true → s.d.stringOf m = none → Serves (exec (.cellSwap p a0 a1 a2 a3) s) s (fun _ nv e => nv = s.nv ∧ Executes e 0x23 (p == .lmp) [] none ∧
      memberAt e i a1.toNat = m ∧ (∀ j, j < 32 → j ≠ a1.toNat → memberAt e i j = memberAt s.d i j) ∧ posState e i a1.toNat = 1)

/-- R379, R381, R390, R391, R404: a write of a protection profile's field is stored, and the nodes whose parameters it changes are downloaded anew; PROT_SELFTEST on a node whose legs named are not driven notes the test and sends it; a recovery that ends at or after its last tick is forgotten, and DETECT DESAT follows in RUN and RIDE where R391 asks for it. R387, R388: ADAPT_MS after the adaptation before, a threshold is sent exactly where its leg is used, its new value differs from the one in force by a step or more, no setting is unacknowledged and the port is up; the value sent is the one that R387 computes. Before that, nothing happens. Choices of the model in it: log entries 57, 58. -/
def Obligations.ProfilesTestsAndAdaptation : Prop :=
  ((∀ p (i : Fin 16) (w : Fin 16) v s r, HostReady p s → s.d.occupied (.profile i.val) = true → 2 ≤ w.val → locate (bProf i.val + 4 * w.val) = some ⟨.prof, i.val, 4 * w.val, some r⟩ →
    (w.val ≤ 5 → s.d.enabled (.profile i.val) = false) → Serves (exec (.profileFieldWrite p i w v) s) s (fun d nv e => nv = s.nv ∧
      e.rd (bProf i.val + 4 * w.val) = merge r (s.d.rd (bProf i.val + 4 * w.val)) v 4294967295#32 ∧ e.due = [] ∧ e.force = d.force ∧
      (∀ n < 96, s.d.occupied (.node n) = true → (profilesOf s.d n).contains i.val = true → paramPieces e n ≠ paramPieces s.d n →
        e.gb (bNode n) F.NODE_STATE_PARAM_OK = false ∧ (portUp s.d (s.d.portOf n) = true → mayWrite s.d (s.d.portOf n) = true → (e.port (s.d.portOf n)).dl = true)) ∧
      KeepsRegs d e ((bProf i.val + 4 * w.val) :: (upto 96).map (fun n => bNode n + F.NODE_STATE.off)))) ∧
  (∀ p a0 a1 a2 a3 s n, HostReady p s → openHandle s.d a0 (some 2) = (0, .node n) → n < 96 → portUp s.d (s.d.portOf n) = true → (s.d.node n).stRun = none →
    (switchesOf (getBits a1 0 12)).all (notDriven s.d n) = true → Serves (exec (.protSelftest p a0 a1 a2 a3) s) s (fun d nv e => nv = s.nv ∧
      Executes e 0x28 (p == .lmp) [] none ∧ (e.node n).stRun = some (getBits a1 0 12, getBits a1 16 4) ∧ (∀ m, m ≠ n → e.node m = d.node m) ∧
      (e.port (s.d.portOf n)).mq = (d.port (s.d.portOf n)).mq ++ [(⟨0, 3, 0xF10, 4, leBytes 4 (getBits a1 0 12 + 65536 * getBits a1 16 4)⟩, none)] ∧
      e.rest = { d.rest with ms := e.ms, nodes := e.nodes, ports := e.ports } ∧ KeepsRegs d e [bDev + F.CMD_RESULT.off])) ∧
  (∀ (n : Fin 96) s, (∀ t, (s.d.node n.val).recov = some t → s.d.tick < t) → Does (exec (.recoveryEnd n) s) s (fun e => e = s.d.fresh)) ∧
  ∀ (n : Fin 96) t s, (s.d.node n.val).recov = some t → t ≤ s.d.tick → Does (exec (.recoveryEnd n) s) s (fun e => (e.node n.val).recov = none ∧
    (s.d.mode ≠ .run → s.d.mode ≠ .ride → e = { s.d.fresh with nodes := e.nodes }) ∧ (∀ m, m ≠ n.val → e.node m = s.d.node m) ∧ e.regs = s.d.regs ∧
    (s.d.mode = .run → s.d.enabled (.node n.val) = true → (s.d.port (s.d.portOf n.val)).st = .token → (e.node n.val).detTx = 1))) ∧
  ((∀ s, s.d.tick < s.d.ms.adaptAt + 250000 * s.d.g bProt F.PROT_CFG_ADAPT_MS → Does (exec .desatAdapt s) s (fun e => e = s.d.fresh)) ∧
  ∀ s, s.d.ms.adaptAt + 250000 * s.d.g bProt F.PROT_CFG_ADAPT_MS ≤ s.d.tick →
    Does (exec .desatAdapt s) s (fun e => e = { s.d.fresh with ms := { s.d.ms with adaptAt := s.d.tick }, nodes := e.nodes, ports := e.ports } ∧
    (∀ n, (e.node n).desatTx ≠ (s.d.node n).desatTx → n ∈ enabledNodes s.d ∧ (s.d.node n).desatTx = [] ∧ portUp s.d (s.d.portOf n) = true ∧
      ∀ y < 6, (e.node n).desatTx.getD y 0 = 0 ∨ ((e.node n).desatTx.getD y 0 = vthOf s.d n y ∧
        10 * s.d.g (bProf (s.d.profOf n y)) F.PROF_BLANK_STEP ≤ absI ((vthOf s.d n y : Int) - vthInForce s.d n y))) ∧
    ∀ n ∈ enabledNodes s.d, (s.d.node n).desatTx = [] → portUp s.d (s.d.portOf n) = true → ∀ y ∈ s.d.usedLegs n, vthOf s.d n y ≠ 0 →
      10 * s.d.g (bProf (s.d.profOf n y)) F.PROF_BLANK_STEP ≤ absI ((vthOf s.d n y : Int) - vthInForce s.d n y) → (e.node n).desatTx.getD y 0 = vthOf s.d n y))

/-- R402, R408 to R410: the start steps of a node follow each other: detection and thresholds once its port has the token and its parameters; the self-test, with ST_AUTO, once both are acknowledged; then the pre-charge of its bootstrap-fed legs; a node with none is done. A pre-charge incomplete 1 ms after its edge to OFF is tried once more and then reported per switch; a string whose steps are open past STEP_TMO raises 0x1022 once. Choices of the model in it: log entries 40, 58. -/
def Obligations.StartStepsFollowEachOther : Prop :=
  (∀ (n : Fin 96) s, (s.d.mode ≠ .charge ∨ rideActive s.d = false) → (s.d.node n.val).step = 1 → (s.d.port (s.d.portOf n.val)).st = .token → (s.d.node n.val).params = true →
    Does (exec (.startStep n) s) s (fun e => (e.node n.val).step = 2 ∧ (e.node n.val).detTx = 2 ∧ (e.node n.val).detAck = false ∧ (e.node n.val).setAck = false ∧
      (e.node n.val).desatTx = allDesat s.d n.val ∧ e.regs = s.d.regs ∧ e.due = s.d.due)) ∧
  (∀ (n : Fin 96) s, (s.d.mode ≠ .charge ∨ rideActive s.d = false) → (s.d.node n.val).step = 2 → (s.d.node n.val).detAck = true → (s.d.node n.val).setAck = true →
    (s.d.node n.val).stRun = none → Does (exec (.startStep n) s) s (fun e => e.regs = s.d.regs ∧ e.due = s.d.due ∧
      (s.d.gb bProt F.PROT_CFG_ST_AUTO = true → (e.node n.val).step = 3 ∧ (e.node n.val).stRun = some (usedSwitches s.d n.val, 15)) ∧
      (s.d.gb bProt F.PROT_CFG_ST_AUTO = false → bsLegs s.d n.val = [] → (e.node n.val).step = 5) ∧
      (s.d.gb bProt F.PROT_CFG_ST_AUTO = false → bsLegs s.d n.val ≠ [] → (e.node n.val).step = 4 ∧ (e.node n.val).bsTry = (s.d.node n.val).bsTry + 1))) ∧
  (∀ (n : Fin 96) s, (s.d.mode ≠ .charge ∨ rideActive s.d = false) → (s.d.node n.val).step = 3 → (s.d.node n.val).stDone = true →
    Does (exec (.startStep n) s) s (fun e => e.regs = s.d.regs ∧ e.due = s.d.due ∧ (bsLegs s.d n.val = [] → (e.node n.val).step = 5) ∧
      (bsLegs s.d n.val ≠ [] → (e.node n.val).step = 4 ∧ (e.node n.val).bsTry = (s.d.node n.val).bsTry + 1))) ∧
  (∀ (n : Fin 96) s, s.d.tick < (s.d.node n.val).bsOff + 250000 → Does (exec (.bsPrechargeTimeout n) s) s (fun e => e = s.d.fresh)) ∧
  (∀ (n : Fin 96) s, (s.d.node n.val).step = 4 → (s.d.node n.val).bsOff + 250000 ≤ s.d.tick → Does (exec (.bsPrechargeTimeout n) s) s (fun e =>
    ((s.d.node n.val).bsTry = 1 → (e.node n.val).bsTry = 2 ∧ (e.node n.val).step = 4 ∧ e.regs = s.d.regs ∧ e.due = s.d.due) ∧
    ((s.d.node n.val).bsTry = 2 → (e.node n.val).bsTry = 3 ∧ e.gb bProt F.PROT_STATUS_BS_FAIL = true ∧
      ∀ y ∈ bsLegs s.d n.val, bsCharged s.d n.val y = false → Raised e n.val 0x1011 none ∧ bitOf (e.node n.val).swDev (2 * y + 1) = true))) ∧
  ∀ (i : Fin 8) s, s.d.enabled (.string i.val) = true → (s.d.str i.val).stepsOpen = true → (s.d.str i.val).timedOut = false →
    (s.d.str i.val).startTick + 2500000 * s.d.g bProt F.PROT_CFG_STEP_TMO ≤ s.d.tick → Does (exec (.chargeStepTimeout i) s) s (fun e =>
    Raised e (0x120 + i.val) 0x1022 none ∧ (e.str i.val) = { s.d.str i.val with timedOut := true } ∧ (∀ j, j ≠ i.val → e.str j = s.d.str j) ∧
    e = { s.d.fresh with strs := e.strs, due := e.due })

/-- R426 to R433: at a sample instant every enabled channel that is not under calibration takes the corrected code of its input, clamped to 16 bits; an overranged sample sets its sticky bit and, when the one before was not, raises 0x1030; an injected request whose instant this is is served by this sample. The instant is the next one of the grid or of an injected request; in any other tick, and with the ADC domain off, nothing is sampled. A sample must bring one value for each channel (log entry 31). R429, R436 to R439, R443, R446: an alignment is taken where the sampling follows a running string, in the tick 8,000 ft before an event that the string has scheduled; an injected request with none pending and none unread is pending and has its instant, at least one sample period after the last; one for a channel under calibration waits for its end or, with INJ_PREEMPT_CAL, aborts it; one that comes too early is counted as lost; FULL is released by writing 1, which also clears LOST. The test DAC is stored in HOLD and SAFE, when it is released, and on a channel that no enabled loop reads. Choices of the model in it: log entries 80, 81. -/
def Obligations.SarSamplesAndInjections : Prop :=
  ((∀ vs s, vs.length = 16 → adcOn s.d = true → nextSample s.d / 64 = s.d.tick → Does (exec (.sarSample vs) s) s (fun e =>
    e.sens.last = some (nextSample s.d) ∧ e.sens.inj = (if s.d.sens.inj = some (nextSample s.d) then none else s.d.sens.inj) ∧
    (∀ k < 16, chEnabled s.d k = true → inCal s.d k = false →
      e.g bSens (F.ADC_RES_CODE.at k) = usg 16 (correctCode s.d k (rawCode (inputOf s.d k (vs.getD k 0)))).1 ∧
      (e.sar k).count = ((s.d.sar k).count + 1) % 65536 ∧
      ((correctCode s.d k (rawCode (inputOf s.d k (vs.getD k 0)))).2 = true → bitOf (e.g bSens F.ADC_STICKY_OVR) k = true ∧ ((s.d.sar k).ovr = false → Raised e (0x138 + k) 0x1030 none))) ∧
    (∀ k < 16, chEnabled s.d k = false → e.sar k = s.d.sar k ∧ e.g bSens (F.ADC_RES_CODE.at k) = s.d.g bSens (F.ADC_RES_CODE.at k)) ∧
    (s.d.sens.inj = some (nextSample s.d) → e.gb bSens F.ADC_INJ_STATUS_PENDING = false ∧ e.gb bSens F.ADC_INJ_STATUS_FULL = true) ∧
    e = { s.d.fresh with regs := e.regs, sens := e.sens, due := e.due })) ∧
  (∀ vs s, vs.length = 16 → (adcOn s.d = false ∨ nextSample s.d / 64 ≠ s.d.tick) → Does (exec (.sarSample vs) s) s (fun e => e = s.d.fresh)) ∧
  (∀ vs s, vs.length ≠ 16 → exec (.sarSample vs) s = .fault .malformedOperand) ∧
  ∀ s k x, -32768 ≤ (correctCode s k x).1 ∧ (correctCode s k x).1 ≤ 32767) ∧
  ((∀ e s, alignDue s.d e = false → Does (exec (.adcTriggerAlign e) s) s (fun d => d = s.d.fresh)) ∧
  (∀ e s, alignDue s.d e = true → Does (exec (.adcTriggerAlign e) s) s (fun d =>
    d = { s.d.fresh with sens := { s.d.sens with trig := some e } })) ∧
  (∀ p v s, HostReady p s → getBits v 0 1 = 1 → s.d.gb bSens F.ADC_INJ_STATUS_FULL = false → s.d.gb bSens F.ADC_INJ_STATUS_PENDING = false →
    (s.d.gb bSens F.ADC_CAL_STATUS_BUSY = false ∨ bitOf (s.d.g bSens F.ADC_INJ_CFG_MASK) (s.d.g bSens F.ADC_CAL_STATUS_CURRENT) = false) → Serves (exec (.adcInjReq p v) s) s (fun d nv e => nv = s.nv ∧ e.gb bSens F.ADC_INJ_STATUS_PENDING = true ∧
      (∃ t, e.sens.inj = some t ∧ s.d.tick * 64 ≤ t ∧ ∀ l, s.d.sens.last = some l → l + 4000 ≤ t) ∧
      e.rest = { d.rest with sens := e.sens } ∧ KeepsRegs d e [bSens + F.ADC_INJ_STATUS.off])) ∧
  (∀ p v s, HostReady p s → getBits v 0 1 = 1 → s.d.gb bSens F.ADC_INJ_STATUS_FULL = false → s.d.gb bSens F.ADC_INJ_STATUS_PENDING = false →
    s.d.gb bSens F.ADC_CAL_STATUS_BUSY = true → bitOf (s.d.g bSens F.ADC_INJ_CFG_MASK) (s.d.g bSens F.ADC_CAL_STATUS_CURRENT) = true →
    s.d.gb bSens F.ADC_INJ_STATUS_QUEUED = false → Serves (exec (.adcInjReq p v) s) s (fun d nv e => nv = s.nv ∧
      (s.d.gb bSens F.ADC_CFG_INJ_PREEMPT_CAL = true → e.gb bSens F.ADC_INJ_STATUS_PENDING = true ∧ e.gb bSens F.ADC_CAL_STATUS_BUSY = false ∧
        e.gb bSens F.ADC_STICKY_CAL_ABORT = true ∧ ∃ t, e.sens.inj = some t ∧ s.d.tick * 64 + 800 ≤ t) ∧
      (s.d.gb bSens F.ADC_CFG_INJ_PREEMPT_CAL = false → e.gb bSens F.ADC_INJ_STATUS_QUEUED = true ∧ e.rest = d.rest ∧ KeepsRegs d e [bSens + F.ADC_INJ_STATUS.off]))) ∧
  (∀ p v s, HostReady p s → getBits v 0 1 = 1 → (s.d.gb bSens F.ADC_INJ_STATUS_FULL = true ∨ s.d.gb bSens F.ADC_INJ_STATUS_PENDING = true) →
    Serves (exec (.adcInjReq p v) s) s (fun d nv e => nv = s.nv ∧ e.g bSens F.ADC_INJ_STATUS_LOST = min 255 (s.d.g bSens F.ADC_INJ_STATUS_LOST + 1) ∧ e.rest = d.rest ∧
      KeepsRegs d e [bSens + F.ADC_INJ_STATUS.off])) ∧
  (∀ p v s, HostReady p s → getBits v 2 1 = 1 → Serves (exec (.adcInjRelease p v) s) s (fun d nv e => nv = s.nv ∧ e.gb bSens F.ADC_INJ_STATUS_FULL = false ∧
    e.g bSens F.ADC_INJ_STATUS_LOST = 0 ∧ e.gb bSens F.ADC_INJ_STATUS_PENDING = s.d.gb bSens F.ADC_INJ_STATUS_PENDING ∧ e.rest = d.rest ∧
    KeepsRegs d e [bSens + F.ADC_INJ_STATUS.off])) ∧
  ∀ p v s, HostReady p s → (s.d.mode = .hold ∨ s.d.mode = .safe ∨ getBits v 20 1 = 0 ∨ channelInUse (getBits v 16 4) s.d = false) → Serves (exec (.adcTdac p v) s) s (fun d nv e => nv = s.nv ∧
    e.g bSens F.ADC_TDAC_CODE = getBits v 0 12 ∧ e.g bSens F.ADC_TDAC_CH = getBits v 16 4 ∧ e.gb bSens F.ADC_TDAC_EN = (getBits v 20 1 == 1) ∧ e.rest = d.rest ∧
    KeepsRegs d e [bSens + F.ADC_TDAC.off]))

/-- R440 to R445: requested channels queue; the schedule, INTERVAL seconds after its last instant, queues the next enabled channel in rotation in the modes that it names; at a sample instant the lowest queued channel is calibrated; at the end, 40 µs later, a result in range is stored as the channel's coefficients, one out of range leaves them and raises 0x1031; a request that waited is then served. At other times none of these does anything. Choices of the model in it: log entry 81. -/
def Obligations.CalibrationRuns : Prop :=
  (∀ p v s, HostReady p s → s.d.shed = 0 → (∀ k < 16, bitOf (getBits v 0 16) k = true → chEnabled s.d k = true) → Serves (exec (.adcCalReq p v) s) s (fun d nv e => nv = s.nv ∧
    e.g bSens F.ADC_CAL_STATUS_QUEUED = Nat.lor (s.d.g bSens F.ADC_CAL_STATUS_QUEUED) (getBits v 0 16) ∧ e.rest = d.rest ∧ KeepsRegs d e [bSens + F.ADC_CAL_STATUS.off])) ∧
  (∀ s, (s.d.g bSens F.ADC_CAL_CFG_INTERVAL = 0 ∨ 1 ≤ s.d.shed ∨ s.d.tick < s.d.sens.schedAt + 250000000 * s.d.g bSens F.ADC_CAL_CFG_INTERVAL) →
    Does (exec .calSchedule s) s (fun e => e = s.d.fresh)) ∧
  (∀ s, s.d.g bSens F.ADC_CAL_CFG_INTERVAL ≠ 0 → s.d.shed = 0 → s.d.sens.schedAt + 250000000 * s.d.g bSens F.ADC_CAL_CFG_INTERVAL ≤ s.d.tick →
    Does (exec .calSchedule s) s (fun e =>
      (bitOf (s.d.g bSens F.ADC_CAL_CFG_MODES) s.d.mode.code = false → e = { s.d.fresh with sens := { s.d.sens with schedAt := s.d.tick } }) ∧
      ∀ k, bitOf (s.d.g bSens F.ADC_CAL_CFG_MODES) s.d.mode.code = true → ((upto 16).map (fun j => (s.d.sens.calRot + 1 + j) % 16)).find? (chEnabled s.d) = some k →
        bitOf (e.g bSens F.ADC_CAL_STATUS_QUEUED) k = true ∧ (∀ a, a ≠ bSens + F.ADC_CAL_STATUS.off → e.rd a = s.d.rd a) ∧
        e = { s.d.fresh with regs := e.regs, sens := { s.d.sens with calRot := k, schedAt := s.d.tick } })) ∧
  (∀ s k l, s.d.gb bSens F.ADC_CAL_STATUS_BUSY = false → s.d.sens.inj = none → adcOn s.d = true → s.d.sens.last = some l → l / 64 = s.d.tick →
    (upto 16).find? (bitOf (s.d.g bSens F.ADC_CAL_STATUS_QUEUED)) = some k → Does (exec .calStart s) s (fun e =>
    e.gb bSens F.ADC_CAL_STATUS_BUSY = true ∧ e.g bSens F.ADC_CAL_STATUS_CURRENT = k ∧ bitOf (e.g bSens F.ADC_CAL_STATUS_QUEUED) k = false ∧
    (∀ a, a ≠ bSens + F.ADC_CAL_STATUS.off → e.rd a = s.d.rd a) ∧ e = { s.d.fresh with regs := e.regs, sens := { s.d.sens with calFrom := s.d.tick } })) ∧
  (∀ s, (s.d.gb bSens F.ADC_CAL_STATUS_BUSY = true ∨ s.d.sens.inj ≠ none ∨ adcOn s.d = false ∨ ∀ l, s.d.sens.last = some l → l / 64 ≠ s.d.tick) →
    Does (exec .calStart s) s (fun e => e = s.d.fresh)) ∧
  (∀ (ofs gain : BitVec 16) s, (s.d.gb bSens F.ADC_CAL_STATUS_BUSY = false ∨ s.d.tick < s.d.sens.calFrom + 10000) →
    Does (exec (.calEnd ofs gain) s) s (fun e => e = s.d.fresh)) ∧
  ∀ (ofs gain : BitVec 16) s, s.d.gb bSens F.ADC_CAL_STATUS_BUSY = true → s.d.sens.calFrom + 10000 ≤ s.d.tick → Does (exec (.calEnd ofs gain) s) s (fun e =>
    e.gb bSens F.ADC_CAL_STATUS_BUSY = false ∧ (s.d.gb bSens F.ADC_INJ_STATUS_QUEUED = false → e = { s.d.fresh with regs := e.regs, due := e.due }) ∧
    (s.d.gb bSens F.ADC_INJ_STATUS_QUEUED = true → e.gb bSens F.ADC_INJ_STATUS_QUEUED = false ∧ e.gb bSens F.ADC_INJ_STATUS_PENDING = true ∧
      e = { s.d.fresh with regs := e.regs, sens := e.sens, due := e.due }) ∧
    (-4096 ≤ ofs.toInt → ofs.toInt ≤ 4096 → 0x7D71 ≤ gain.toNat → gain.toNat ≤ 0x828F → e.due = s.d.due ∧
      e.g bSens (F.ADC_COEF_OFS.at (s.d.g bSens F.ADC_CAL_STATUS_CURRENT)) = ofs.toNat ∧ e.g bSens (F.ADC_COEF_GAIN.at (s.d.g bSens F.ADC_CAL_STATUS_CURRENT)) = gain.toNat) ∧
    ((ofs.toInt < -4096 ∨ 4096 < ofs.toInt ∨ gain.toNat < 0x7D71 ∨ 0x828F < gain.toNat) → e.gb bSens F.ADC_STICKY_CAL_FAIL = true ∧
      Raised e (0x138 + s.d.g bSens F.ADC_CAL_STATUS_CURRENT) 0x1031 none ∧
      ∀ k < 16, e.rd (bSens + F.ADC_COEF.off + 4 * k) = s.d.rd (bSens + F.ADC_COEF.off + 4 * k)))

/-- R437, R451 to R456, R470: with the ADC domain on, an enabled sigma-delta input delivers its filtered result at every tick that is a multiple of DIV × R, and counts it; its fast result is shown and trips FAST_TRIP with 0x1035 when it has been outside the thresholds for FCNT results, which with TRIG_FASTOC also requests a conversion; a stuck bit is noted and raises 0x1034 once, and ends when the bit changes. A disabled input, and one in a domain that is off, delivers nothing. Choices of the model in it: log entry 80. -/
def Obligations.SigmaDeltaInputs : Prop :=
  (∀ (i : Fin 24) bits s, s.d.tick % (sdDiv s.d i.val * s.d.g (bSd i.val) F.SD_CFG_DECIM) ≠ 0 → Does (exec (.sdOutput i bits) s) s (fun e => e = s.d.fresh)) ∧
  (∀ (i : Fin 24) bits s, s.d.gb (bSd i.val) F.SD_CFG_EN = true → adcOn s.d = true → s.d.tick % (sdDiv s.d i.val * s.d.g (bSd i.val) F.SD_CFG_DECIM) = 0 →
    Does (exec (.sdOutput i bits) s) s (fun e =>
    e.g (bSd i.val) F.SD_RES_VALUE = usg 32 (mainFilter (s.d.g (bSd i.val) F.SD_CFG_ORDER) (s.d.g (bSd i.val) F.SD_CFG_DECIM) (s.d.g (bSd i.val) F.SD_NOTCH_LEN)
      ((bits.reverse ++ (s.d.sd i.val).bits).take (s.d.g (bSd i.val) F.SD_CFG_ORDER * s.d.g (bSd i.val) F.SD_CFG_DECIM + s.d.g (bSd i.val) F.SD_NOTCH_LEN))) ∧
    e.g (bSd i.val) F.SD_QUAL_COUNT = ((s.d.sd i.val).count + 1) % 65536 ∧ (∀ j, j ≠ i.val → e.sd j = s.d.sd j) ∧
    (∀ a, a ∉ [bSd i.val + F.SD_RES.off, bSd i.val + F.SD_QUAL.off] → e.rd a = s.d.rd a) ∧ e = { s.d.fresh with regs := e.regs, sens := e.sens })) ∧
  (∀ (i : Fin 24) bits s, s.d.gb (bSd i.val) F.SD_CFG_EN = true → s.d.gb (bSd i.val) F.SD_FAST_FEN = true → adcOn s.d = true →
    Does (exec (.sdFastOutput i bits) s) s (fun e =>
      let v := (e.sd i.val).fast
      let out : Prop := sgn 16 (s.d.g (bSd i.val) F.SD_FAST_TH_HI) < v ∨ v < sgn 16 (s.d.g (bSd i.val) F.SD_FAST_TH_LO)
      e.g (bSd i.val) F.SD_FAST_RES_FAST = usg 16 v ∧ -32768 ≤ v ∧ v ≤ 32767 ∧
      (¬ out → (e.sd i.val).run = 0 ∧ e.due = s.d.due) ∧
      (out → (s.d.sd i.val).stuck = false → (s.d.sd i.val).fastFrom + 3 * s.d.g (bSd i.val) F.SD_FAST_FR * sdDiv s.d i.val ≤ s.d.tick →
        (e.sd i.val).run = min ((s.d.sd i.val).run + 1) 9 ∧
        ((e.sd i.val).run = s.d.g (bSd i.val) F.SD_FAST_FCNT → Raised e (0x148 + i.val) 0x1035 none ∧ e.gb (bSd i.val) F.SD_STAT_FAST_TRIP = true)) ∧
      (s.d.gb bSens F.ADC_INJ_CFG_TRIG_FASTOC = false → ∀ a, a ∉ [bSd i.val + F.SD_FAST_RES.off, bSd i.val + F.SD_STAT.off] → e.rd a = s.d.rd a) ∧
      e = { s.d.fresh with regs := e.regs, sens := e.sens, due := e.due })) ∧
  (∀ (i : Fin 24) s, s.d.gb (bSd i.val) F.SD_CFG_EN = true → adcOn s.d = true → (s.d.sd i.val).stuck = false → Does (exec (.sdStuck i) s) s (fun e => (e.sd i.val).stuck = true ∧
    e.gb (bSd i.val) F.SD_STAT_STUCK = true ∧ Raised e (0x148 + i.val) 0x1034 none ∧ (∀ a, a ≠ bSd i.val + F.SD_STAT.off → e.rd a = s.d.rd a) ∧
    e = { s.d.fresh with regs := e.regs, sens := e.sens, due := e.due })) ∧
  (∀ (i : Fin 24) s, (s.d.sd i.val).stuck = true → Does (exec (.sdStuckEnd i) s) s (fun e => e.sd i.val = { s.d.sd i.val with stuck := false, since := s.d.tick, run := 0 } ∧
    (∀ j, j ≠ i.val → e.sd j = s.d.sd j) ∧ e = { s.d.fresh with sens := e.sens })) ∧
  ∀ (i : Fin 24) bits s, (s.d.gb (bSd i.val) F.SD_CFG_EN = false ∨ adcOn s.d = false) → Does (exec (.sdOutput i bits) s) s (fun e => e = s.d.fresh) ∧
    Does (exec (.sdFastOutput i bits) s) s (fun e => e = s.d.fresh) ∧ Does (exec (.sdStuck i) s) s (fun e => e = s.d.fresh)

/-- R471, R483: at the close of its window a source's COUNT returns to 0, and an ACTIVE source with no active cause is IDLE; a SEVERE one stays SEVERE. A holdoff with nothing suppressed just ends; with something suppressed it writes one more record. Before their end neither does anything. R496, R497: an accepted clear of one source with no target leaves it IDLE with COUNT 0 and its node reactions and HALTs ended, and RESULT 0; one whose cause is active is refused with 0x0730 and one of a source that does not exist with 0x0735, each changing nothing but RESULT. Choices of the model in it: log entries 39, 53. -/
def Obligations.SourcesCloseAndClear : Prop :=
  ((∀ (n : Fin 512) s, (∀ t, (s.d.src n.val).win = some t → s.d.tick < t) → Does (exec (.faultWindowClose n) s) s (fun e => e = s.d.fresh)) ∧
  (∀ (n : Fin 512) t s, (s.d.src n.val).win = some t → t ≤ s.d.tick → Does (exec (.faultWindowClose n) s) s (fun e => e.g (bFltState n.val) F.FLT_STATE_COUNT = 0 ∧ (e.src n.val).win = none ∧
    (s.d.srcState n.val = 1 → causeActive s.d n.val = false → e.srcState n.val = 0) ∧ (s.d.srcState n.val = 1 → causeActive s.d n.val = true → e.srcState n.val = 1) ∧
    (s.d.srcState n.val ≠ 1 → e.srcState n.val = s.d.srcState n.val) ∧ causeActive e n.val = causeActive s.d n.val ∧
    (∀ a, a ≠ bFltState n.val → e.rd a = s.d.rd a) ∧ (∀ m, m ≠ n.val → e.src m = s.d.src m) ∧ e = { s.d.fresh with regs := e.regs, srcs := e.srcs })) ∧
  (∀ (n : Fin 512) s, (∀ t, (s.d.src n.val).hold = some t → s.d.tick < t) → Does (exec (.holdoffEnd n) s) s (fun e => e = s.d.fresh)) ∧
  (∀ (n : Fin 512) t s, (s.d.src n.val).hold = some t → t ≤ s.d.tick → (s.d.src n.val).last = none → Does (exec (.holdoffEnd n) s) s (fun e => e.src n.val = { s.d.src n.val with hold := none } ∧
    (∀ m, m ≠ n.val → e.src m = s.d.src m) ∧ e = { s.d.fresh with srcs := e.srcs })) ∧
  ∀ (n : Fin 512) t s r, (s.d.src n.val).hold = some t → t ≤ s.d.tick → (s.d.src n.val).last = some r → r.source = n.val → s.d.flt.fifo.length < 1920 → Does (exec (.holdoffEnd n) s) s (fun e =>
    e.flt.rseq = s.d.flt.rseq + 1 ∧ (e.src n.val).last = none ∧ (e.src n.val).supp = 0 ∧
    ∃ q, e.flt.fifo = s.d.flt.fifo ++ [q] ∧ q.type = 3 ∧ q.severe = false ∧ q.source = n.val ∧ q.kind = r.kind ∧ q.rseq = s.d.flt.rseq % 4294967296)) ∧
  ((∀ p v s, HostReady p s → getBits v 12 1 = 1 → getBits v 9 1 = 0 → getBits v 10 2 = 0 → srcExists (getBits v 0 9) = true → s.d.gb bFlt F.FAULT_CLEAR_BUSY = false →
    severeHeld s.d < 1024 → causeActive s.d (getBits v 0 9) = false → Serves (exec (.faultClear p v) s) s (fun d nv e => nv = s.nv ∧ e.srcState (getBits v 0 9) = 0 ∧
      e.g (bFltState (getBits v 0 9)) F.FLT_STATE_COUNT = 0 ∧ e.g bFlt F.FAULT_CLEAR_RESULT = 0 ∧ (e.src (getBits v 0 9)).floors = (0, 0, 0) ∧
      (∀ i, (i, getBits v 0 9) ∉ e.flt.halts) ∧ (∀ m, m ≠ getBits v 0 9 → m < 512 → e.srcState m = d.srcState m) ∧
      (0x60 ≤ getBits v 0 9 → e.gb bFlt F.FAULT_CLEAR_BUSY = false))) ∧
  (∀ p v s, HostReady p s → getBits v 12 1 = 1 → getBits v 9 1 = 0 → getBits v 10 2 = 0 → srcExists (getBits v 0 9) = true → s.d.gb bFlt F.FAULT_CLEAR_BUSY = false →
    severeHeld s.d < 1024 → causeActive s.d (getBits v 0 9) = true → Serves (exec (.faultClear p v) s) s (fun d nv e => nv = s.nv ∧
      e.g bFlt F.FAULT_CLEAR_RESULT = 0x0730 ∧ e.rest = d.rest ∧ KeepsRegs d e [bFlt + F.FAULT_CLEAR.off])) ∧
  ∀ p v s, HostReady p s → getBits v 12 1 = 1 → getBits v 9 1 = 0 → getBits v 10 2 ≠ 3 → srcExists (getBits v 0 9) = false → s.d.gb bFlt F.FAULT_CLEAR_BUSY = false →
    Serves (exec (.faultClear p v) s) s (fun d nv e => nv = s.nv ∧ e.g bFlt F.FAULT_CLEAR_RESULT = 0x0735 ∧ e.rest = d.rest ∧ KeepsRegs d e [bFlt + F.FAULT_CLEAR.off]))

/-- R478, R479, R487 to R490, R469: FAULT_N follows FAULT_PIN_CTRL once it is written and T_MINPULSE is over, and stays asserted until then; a pop removes the oldest record; FLT_TEST begins or ends its cause; the trigger of an armed trace starts the post-trigger samples; a read of TRC_DATA advances the address only while the trace is frozen. -/
def Obligations.FaultPinsFifoAndTrace : Prop :=
  (∀ p v s, HostReady p s → Serves (exec (.faultPinCtrl p v) s) s (fun d nv e => nv = s.nv ∧ e.gb bFlt F.FAULT_PIN_CTRL_WRITTEN = true ∧
    e.g bFlt F.FAULT_PIN_CTRL_CTRL = getBits v 0 2 ∧ (s.d.flt.pinMin ≠ none → e.pinN = true) ∧ (s.d.flt.pinMin = none → (getBits v 0 2 = 2 → e.pinN = false) ∧
      (getBits v 0 2 = 1 → e.pinN = (anySevere s.d || s.d.mode == .safe)) ∧ (getBits v 0 2 = 0 → e.pinN = s.d.gb bFlt F.FAULT_PIN_CTRL_PIN)) ∧ e.rest = d.rest ∧ KeepsRegs d e [bFlt + F.FAULT_PIN_CTRL.off])) ∧
  (∀ s, (∀ t, s.d.flt.pinMin = some t → s.d.tick < t) → Does (exec .minpulseEnd s) s (fun e => e = s.d.fresh)) ∧
  (∀ t s, s.d.flt.pinMin = some t → t ≤ s.d.tick → Does (exec .minpulseEnd s) s (fun e => e.flt = { s.d.flt with pinMin := none } ∧ e = { s.d.fresh with regs := e.regs, flt := e.flt } ∧
    (s.d.gb bFlt F.FAULT_PIN_CTRL_WRITTEN = false → e.regs = s.d.regs) ∧ (s.d.gb bFlt F.FAULT_PIN_CTRL_WRITTEN = true → s.d.g bFlt F.FAULT_PIN_CTRL_CTRL = 2 → e.pinN = false) ∧
    (∀ a, a ≠ bFlt + F.FAULT_PIN_CTRL.off → e.rd a = s.d.rd a))) ∧
  (∀ p v s, HostReady p s → getBits v 0 1 = 1 → Serves (exec (.fltFifoPop p v) s) s (fun d nv e => nv = s.nv ∧ e.flt = { d.flt with fifo := d.flt.fifo.drop 1 } ∧
    e.rest = { d.rest with flt := e.flt } ∧ KeepsRegs d e [])) ∧
  (∀ p v s, HostReady p s → Serves (exec (.fltTest p v) s) s (fun d nv e => nv = s.nv ∧ e.gb bFlt F.FLT_TEST_CAUSE = (getBits v 0 1 == 1) ∧
    (s.d.gb bFlt F.FLT_TEST_CAUSE ≠ (getBits v 0 1 == 1) → Raised e 0x1FF 0x11FF (some (getBits v 0 1 == 1))) ∧
    (s.d.gb bFlt F.FLT_TEST_CAUSE = (getBits v 0 1 == 1) → e.due = []) ∧ e.rest = { d.rest with due := e.due } ∧ KeepsRegs d e [bFlt + F.FLT_TEST.off])) ∧
  (∀ p v s, HostReady p s → s.d.enabled .trace = true → getBits v 0 1 = 1 → getBits v 1 1 = 1 → s.d.g bFlt F.TRC_STATUS_STATE = 1 → Serves (exec (.trcTrig p v) s) s (fun d nv e =>
    nv = s.nv ∧ e.g bFlt F.TRC_STATUS_STATE = 2 ∧ e.gb bFlt F.TRC_STATUS_TRIG_HOST = true ∧ e.flt.trigPos = s.d.flt.ringPos ∧
    e.flt.postLeft = traceCap s.d - traceCap s.d * s.d.g bFlt F.TRC_CFG_PRE / 256 ∧ e.enabled .trace = true ∧ e.rest = { d.rest with flt := e.flt } ∧
    KeepsRegs d e [bFlt + F.TRC_CTRL.off, bFlt + F.TRC_STATUS.off])) ∧
  ∀ p s, HostReady p s → Goes (exec (.trcDataRead p) s) (fun t => t.nv = s.nv ∧ t.pending = s.pending ∧
    (s.d.g bFlt F.TRC_STATUS_STATE = 3 → t.d.g bFlt F.TRC_READ_ADDR = (s.d.g bFlt F.TRC_READ_ADDR + 4) % max 1 (ringBytes s.d) % 2 ^ 22) ∧
    (s.d.g bFlt F.TRC_STATUS_STATE ≠ 3 → KeepsRegs s.d t.d []) ∧ KeepsRegs s.d t.d [bFlt + F.TRC_READ.off] ∧ t.d.rest = s.d.rest)

/-- R505, R506, R509, R521, R529: HB_OUT toggles every 256 ticks while the core clock runs and both lockstep pairs agree, else it holds its level. HB_IN without an edge for 750 ticks is the loss of the heartbeat. A lane that was in use and is lost fails the self-test LANES; with the LINK domain off none comes into use. A change of heartbeat, lanes or presence is judged at once: the peer is presumed failed when heartbeat and pair link are lost, or one of them with the peer absent; exactly one of them lost raises PAIR_LINK once. On a new failure an ACTIVE module takes SOLO, an eligible STANDBY decides to take over at the first frame boundary at or after now + 512 ticks, any other STANDBY takes OUT. R503, R504: at the end of LOAD a module that is not held out by its lever is SOLO where PAIR_EN is 0 or no peer is present; otherwise it begins the phase LINK. Roles move only from OUT here. Choices of the model in it: log entries 29, 44. -/
def Obligations.PresenceAndRoles : Prop :=
  ((∀ s, (pwrState s.d = 3 ∨ s.d.gb bSs F.SS_HEALTH_LOCKSTEP = true ∨ s.d.tick < s.d.pair.hbAt + 256) → Does (exec .heartbeatToggle s) s (fun e => e = s.d.fresh)) ∧
  (∀ s, pwrState s.d ≠ 3 → s.d.gb bSs F.SS_HEALTH_LOCKSTEP = false → s.d.pair.hbAt + 256 ≤ s.d.tick →
    Does (exec .heartbeatToggle s) s (fun e => e = { s.d.fresh with pair := { s.d.pair with hbOut := !s.d.pair.hbOut, hbAt := s.d.tick } })) ∧
  (∀ s, s.d.tick < s.d.pair.hbIn + 750 → Does (exec .heartbeatLost s) s (fun e => e = s.d.fresh)) ∧
  (∀ s (l : Fin 4), linkOn s.d = false → Does (exec (.pairLaneUp l) s) s (fun e => e = s.d.fresh)) ∧
  (∀ s (l : Fin 4) b, (laneMoved l.val b s).pair.lanes = bitPut s.pair.lanes l.val b ∧ (laneMoved l.val b s).g bSs F.SS_STATUS_LANES = popcount (bitPut s.pair.lanes l.val b) 4 ∧
    (b = false → bitOf s.pair.lanes l.val = true → s.shed = 0 → (laneMoved l.val b s).gb bSs F.SS_HEALTH_LANES = true ∧ Raised (laneMoved l.val b s) 0x190 0x1110 none)) ∧
  (∀ d, linkDown d = true ↔ popcount d.pair.lanes 4 < d.g bSs F.SS_CFG_MIN_LANES) ∧
  ∀ s (l : Fin 4) c d, (c, d) ∈ [(Instr.heartbeatLost, s.d.fresh.pb bSs F.SS_STATUS_HB_OK false),
      (.hbInEdge, (s.d.fresh.pb bSs F.SS_STATUS_HB_OK true).setPair (fun p => { p with hbIn := s.d.tick })),
      (.laneLost l, laneMoved l.val false s.d.fresh), (.pairLaneUp l, laneMoved l.val true s.d.fresh),
      (.peerPresentChange (!peerHere s.d), s.d.fresh.pb bDev F.DEV_STATUS_PEER_PRESENT (!peerHere s.d))] → (c = .heartbeatLost → s.d.pair.hbIn + 750 ≤ s.d.tick) →
    pwrState s.d = 0 → pwrTrans s.d = false →
    Does (exec c s) s (fun e =>
      (e.pair.failed = true ↔ (hbLost d = true ∧ linkDown d = true) ∨ ((hbLost d = true ∨ linkDown d = true) ∧ peerHere d = false)) ∧
      e.gb bSs F.SS_STATUS_HB_OK = d.gb bSs F.SS_STATUS_HB_OK ∧ e.pair.lanes = d.pair.lanes ∧ peerHere e = peerHere d ∧
      (pairOn d = true → hbLost d ≠ linkDown d → d.pair.linkFault = false → Raised e 0x185 0x1105 none) ∧
      (pairOn d = true → d.role = .active → e.pair.failed = true → s.d.pair.failed = false → e.role = .solo ∧ e.pair.sw = none) ∧
      (pairOn d = true → d.role = .standby → e.pair.failed = true → s.d.pair.failed = false → (∀ w, d.pair.sw = some w → w.take = false) → eligible d = true → e.role = .standby ∧
        e.pair.sw = some ⟨s.d.tick, boundary s.d.tick, true, false, false⟩ ∧ s.d.tick + 512 ≤ boundary s.d.tick ∧ boundary s.d.tick < s.d.tick + 1024 ∧ boundary s.d.tick % 512 = 0) ∧
      (pairOn d = true → d.role = .standby → e.pair.failed = true → s.d.pair.failed = false → (∀ w, d.pair.sw = some w → w.take = false) → eligible d = false → e.role = .out) ∧
      (∀ w, d.role = .standby → d.pair.sw = some w → w.take = true → e.role = .standby ∧ e.pair.sw = some w) ∧
      ((e.pair.failed = false ∨ s.d.pair.failed = true ∨ pairOn d = false) → e.regs = d.regs ∧
        e = { d with pair := { d.pair with failed := e.pair.failed, linkFault := e.pair.linkFault }, due := e.due }))) ∧
  ((∀ s, s.d.img.resolving = true → s.d.role = .out → s.d.gb bDev F.DEV_STATUS_EJECT = false → pwrState s.d < 2 → Does (exec .roleResolution s) s (fun e =>
    e.img = { s.d.img with resolving := false } ∧ e.pair.retry = none ∧ e.pair.kept = [] ∧ e.pair.verify = [] ∧
    ((pairOn s.d = false ∨ peerHere s.d = false) → e.role = .solo ∧ e.g bSs F.SS_STATUS_SYNC = 0 ∧ 1 ≤ e.g bSs F.SS_TERM_TERM ∧ (s.d.g bSs F.SS_TERM_TERM ≠ 0 → e.g bSs F.SS_TERM_TERM = s.d.g bSs F.SS_TERM_TERM)) ∧
    (pairOn s.d = true → peerHere s.d = true → e.role = .out ∧ e.g bSs F.SS_STATUS_SYNC = 1 ∧ e.pair.phaseFrom = s.d.tick))) ∧
  (∀ s, s.d.img.resolving = true → s.d.gb bDev F.DEV_STATUS_EJECT = true → Does (exec .roleResolution s) s (fun e =>
    e = { s.d.fresh with img := { s.d.img with resolving := false }, pair := { s.d.pair with ejected := true } })) ∧
  (∀ s, s.d.img.resolving = false → Does (exec .roleResolution s) s (fun e => e = s.d.fresh)) ∧
  (∀ d, (d.pair.peer = none → preferred d = d.gb bDev F.DEV_STATUS_PREF) ∧ ∀ x, d.pair.peer = some x →
    (d.gb bDev F.DEV_STATUS_PREF ≠ x.pref → preferred d = d.gb bDev F.DEV_STATUS_PREF) ∧
    (d.gb bDev F.DEV_STATUS_PREF = x.pref → (preferred d = true ↔ d.g bDev F.DEV_STATUS_SLOT_ID < x.slot))))

/-- R528, R521, R519, R503: PAIR_SWITCH at an ACTIVE module with an eligible standby and nothing running decides a coordinated switch-over; PAIR_OUT takes a module that loses no control to OUT, an ACTIVE one by a coordinated switch-over; PAIR_JOIN resolves the role of an OUT module; PAIR_RESYNC begins a resync. Each ends with its reason where its condition fails, and then changes no more. Choices of the model in it: log entry 45. -/
def Obligations.PairCommands : Prop :=
  (∀ p a0 a1 a2 a3 s, HostReady p s → s.d.role = .active → s.d.gb bSs F.SS_STATUS_PEER_ELIGIBLE = true → busyPair s.d = false →
    Serves (exec (.pairSwitch p a0 a1 a2 a3) s) s (fun d nv e => nv = s.nv ∧ Executes e 0x30 (p == .lmp) [] none ∧
      e.pair.sw = some ⟨s.d.tick, boundary s.d.tick, false, false, false⟩ ∧ e.rest = { d.rest with ms := e.ms, pair := { e.pair with eligFrom := none } } ∧ KeepsRegs d e [bDev + F.CMD_RESULT.off])) ∧
  (∀ p a0 a1 a2 a3 s, HostReady p s → s.d.role = .active → s.d.gb bSs F.SS_STATUS_PEER_ELIGIBLE = true → s.d.pair.sw = none →
    Serves (exec (.pairOut p a0 a1 a2 a3) s) s (fun d nv e => nv = s.nv ∧ Executes e 0x31 (p == .lmp) [] none ∧
      e.pair.sw = some ⟨s.d.tick, boundary s.d.tick, false, true, false⟩ ∧ e.role = .active ∧ KeepsRegs d e [bDev + F.CMD_RESULT.off])) ∧
  (∀ p a0 a1 a2 a3 s, HostReady p s → (s.d.role = .out ∨ (s.d.role = .solo ∧ (s.d.mode = .hold ∨ s.d.mode = .load))) →
    Serves (exec (.pairOut p a0 a1 a2 a3) s) s (fun _ nv e => nv = s.nv ∧ Executes e 0x31 (p == .lmp) [] none ∧ e.role = .out ∧ e.g bSs F.SS_STATUS_SYNC = 0 ∧ e.mode = s.d.mode)) ∧
  (∀ p a0 a1 a2 a3 s, HostReady p s → s.d.role = .out → peerHere s.d = true → Serves (exec (.pairJoin p a0 a1 a2 a3) s) s (fun _ nv e => nv = s.nv ∧
    Executes e 0x32 (p == .lmp) [] none ∧ e.pair.ejected = false ∧ e.pair.withdrawn = s.d.pair.withdrawn ∧
    (pairOn s.d = true → e.role = .out ∧ e.g bSs F.SS_STATUS_SYNC = 1) ∧ (pairOn s.d = false → e.role = .solo))) ∧
  (∀ p a0 a1 a2 a3 s, HostReady p s → s.d.role = .active → busyPair s.d = false → Serves (exec (.pairResync p a0 a1 a2 a3) s) s (fun d nv e => nv = s.nv ∧
    Executes e 0x33 (p == .lmp) [] none ∧ e.pair.resync = some s.d.tick ∧ e.pair.verify = [] ∧ KeepsRegs d e [bDev + F.CMD_RESULT.off])) ∧
  ∀ s : Dev, (s.role ≠ .active → pairSwitch s = (0x0D0D, s) ∧ pairResync s = (0x0D0D, s)) ∧
    (s.role = .active → s.gb bSs F.SS_STATUS_PEER_ELIGIBLE = false → pairSwitch s = (0x0D06, s) ∧ pairOut s = (0x0D0B, s)) ∧
    (s.role = .active → busyPair s = true → pairResync s = (0x0D0C, s)) ∧ (s.role = .solo → s.driveMode = true → pairOut s = (0x0D0B, s)) ∧
    (s.role ≠ .out → pairJoin s = (0x0D0D, s)) ∧ (s.role = .out → peerHere s = false → pairJoin s = (0x0D08, s))

/-- R368, R507, R511, R512, R514, R515, R588: a module that follows uses the mirrored snapshot for a firing that waits for it, and keeps one that comes before its latch; without it by the latch instant plus MWAIT it counts the firing as not compared. Either evaluates, with the substitution of R368 where its string needs one. It applies each mirrored write as the register bus would, takes the mode with its cause, counts a mirrored event against its source, replaces its dead-time latches, notes the token frame, and takes addend, FI and state of time. An ACTIVE or SOLO module in no join takes none of them. Choices of the model in it: log entries 37, 46, 86. -/
def Obligations.MirrorItemsAreTaken : Prop :=
  (∀ s (g : Fin 8) tf snap f, s.d.follows = true → (s.d.rg g.val).fir = some f → f.latched = true → f.wait = true → f.tf = tf → s.d.tick ≤ f.latch + s.d.g bSs F.SS_CFG_MWAIT → Does (exec (.mirrorSnapshot g tf snap) s) s (fun e =>
    ∃ f', (e.rg g.val).fir = some f' ∧ f'.snap = snap ∧ f'.compared = true ∧ f'.wait = false ∧ f'.tf = tf ∧
      (∀ j, j ≠ g.val → e.rg j = s.d.rg j) ∧ (∀ a, a ≠ bSs + F.SS_MIRROR.off → (∀ i < 8, a ≠ bStr i + F.STR_CELL_STATUS.off) → (∀ l < 2048, ∀ k < 8, a ≠ bLoopD l + F.LD_C.off + 4 * k) → e.rd a = s.d.rd a))) ∧
  (∀ s (g : Fin 8) tf snap, s.d.follows = true → (s.d.rg g.val).fir = none → Does (exec (.mirrorSnapshot g tf snap) s) s (fun e =>
    (g.val, tf, snap) ∈ e.pair.snaps ∧ (∀ a, a ≠ bSs + F.SS_MIRROR.off → e.rd a = s.d.rd a) ∧
    e = { s.d.fresh with regs := e.regs, pair := { s.d.pair with snaps := e.pair.snaps } })) ∧
  (∀ s (g : Fin 8) f, (s.d.rg g.val).fir = some f → s.d.tick < f.latch + s.d.g bSs F.SS_CFG_MWAIT → Does (exec (.mirrorWaitExpire g) s) s (fun e => e = s.d.fresh)) ∧
  (∀ s (g : Fin 8) f, (s.d.rg g.val).fir = some f → f.latched = true → f.wait = true → f.latch + s.d.g bSs F.SS_CFG_MWAIT ≤ s.d.tick → Does (exec (.mirrorWaitExpire g) s) s (fun e =>
    (∃ r, (e.rg g.val).fir = some { f with wait := false, res := r }) ∧ e.g bSs F.SS_DIVERGE_UNCOMPARED = (s.d.g bSs F.SS_DIVERGE_UNCOMPARED + 1) % 65536 ∧
    (∀ j, j ≠ g.val → e.rg j = s.d.rg j) ∧ (∀ a, a ≠ bSs + F.SS_DIVERGE.off → (∀ i < 8, a ≠ bStr i + F.STR_CELL_STATUS.off) → (∀ l < 2048, ∀ k < 8, a ≠ bLoopD l + F.LD_C.off + 4 * k) → e.rd a = s.d.rd a))) ∧
  (∀ s a v, s.d.follows = true → s.d.Quiet → Does (exec (.mirrorWrite (.write a v)) s) s (fun e => ∃ d, d.rest = s.d.rest ∧ KeepsRegs s.d d [] ∧
    e = ((State.run s (fun _ => (writeDev .mirror a v 4294967295#32 d).2))).d)) ∧
  (∀ s m why, s.d.follows = true → s.d.mode ≠ m → Does (exec (.mirrorMode m why) s) s (fun e => e = { s.d.fresh with due := s.d.due ++ [Due.mode m why.toNat] })) ∧
  (∀ s src kind c sev form hi data, s.d.role = .standby → Does (exec (.mirrorEvent src kind c sev form hi data) s) s (fun e =>
    Raised e src.val kind.toNat c ∧ e = { s.d.fresh with due := e.due })) ∧
  (∀ s x, s.d.follows = true → Does (exec (.mirrorDtLatch [x]) s) s (fun e =>
    e.leg x.node x.leg = { s.d.leg x.node x.leg with latPos := x.dtPos, latNeg := x.dtNeg, latHigh := x.dirHigh, latLow := x.dirLow } ∧
    e = { s.d.fresh with legs := e.legs })) ∧
  (∀ s start hor, s.d.follows = true → Does (exec (.mirrorTokenFrame start hor) s) s (fun e => e = { s.d.fresh with pair := { s.d.pair with lastTok := some (start, hor.toNat) } })) ∧
  (∀ s add jump fi st, s.d.follows = true → Does (exec (.mirrorTime add jump fi st) s) s (fun e =>
    e.g bTb F.TB_ADDEND_ADDEND = usg F.TB_ADDEND_ADDEND.w add ∧ e.g bTb F.TB_STATUS_STATE = st.val ∧ e.tb.fi = fi ∧ (jump = 0 → timeVal e = timeVal s.d) ∧
    (jump ≠ 0 → (timeVal e : Int) = ((timeVal s.d : Int) + jump) % (2 ^ 48 * 10 ^ 9 * 2 ^ 40)) ∧ e.tick = s.d.tick)) ∧
  ∀ s (g : Fin 8) tf snap m why src kind c sev form hi data l start hor add jump fi st, s.d.owns = true → s.d.g bSs F.SS_STATUS_SYNC = 0 → s.d.Quiet →
    ∀ i ∈ [Instr.mirrorSnapshot g tf snap, .mirrorMode m why, .mirrorEvent src kind c sev form hi data, .mirrorDtLatch l, .mirrorTokenFrame start hor, .mirrorTime add jump fi st],
      Does (exec i s) s (fun e => e = s.d.fresh)

/-- R515 to R518: equal digests of a firing raise its group's count of equal firings. Different ones raise PAIR_DIVERGE, count a mismatch and begin a replay of the retained firing where none runs, with the verdict TIMEOUT where it is no longer retained. A firing that the standby evaluated on its own snapshot is left out. R518, R519: the verdict of a replay is that of the first row of the table that holds; A and S are the active module and the standby. TIMEOUT, STANDBY_FAULT and UNRESOLVED put the standby to OUT, STATE and BOTH begin a resync, ACTIVE_FAULT decides a switch-over where the standby is eligible, after which the former active module looks at its self-tests, UNRESOLVED sets REVERT_BLOCK. A replay or a resync that does not end in time, REPLAY_MAX ms or 200 ms, puts the standby to OUT. Choices of the model in it: log entry 45. -/
def Obligations.DigestsAndReplays : Prop :=
  ((∀ s (g : Fin 8) tf x p k, (s.d.role = .active ∨ s.d.follows = true) → s.d.pair.kept.find? (fun y => y.g == g.val && y.tf == tf) = some k → k.d = some x →
    (k.compared = true ∨ s.d.follows = false) → Does (exec (.commitDigest g tf (some x) p) s) s (fun e =>
      tget (fun _ => 0) e.pair.verify g.val = min 255 (tget (fun _ => 0) s.d.pair.verify g.val + 1) ∧ e = { s.d.fresh with pair := { s.d.pair with verify := e.pair.verify } })) ∧
  (∀ s (g : Fin 8) tf d p k, (s.d.role = .active ∨ s.d.follows = true) → s.d.pair.kept.find? (fun y => y.g == g.val && y.tf == tf) = some k → (k.d = none ∨ k.d ≠ d) →
    (k.compared = true ∨ s.d.follows = false) → Does (exec (.commitDigest g tf d p) s) s (fun e =>
      Raised e 0x186 0x1106 none ∧ e.g bSs F.SS_DIVERGE_MISMATCH = (s.d.g bSs F.SS_DIVERGE_MISMATCH + 1) % 65536 ∧ tget (fun _ => 0) e.pair.verify g.val = 0 ∧ e.role = s.d.role ∧
      (busyPair s.d = false → (s.d.role = .active ∨ s.d.g bSs F.SS_STATUS_SYNC = 7) → e.pair.replay = some ⟨g.val, tf, s.d.tick, (k.d, k.p), (d, p)⟩ ∧ e.gb bSs F.SS_STATUS_REPLAY = true ∧
        e.g bSs F.SS_VERDICT_RG = g.val ∧ e.g bSs F.SS_VERDICT_REPLAYS = (s.d.g bSs F.SS_VERDICT_REPLAYS + 1) % 65536) ∧
      (busyPair s.d = true → e.pair.replay = s.d.pair.replay ∧ ∀ a, a ≠ bSs + F.SS_DIVERGE.off → e.rd a = s.d.rd a))) ∧
  (∀ s (g : Fin 8) tf d p, (s.d.role = .active ∨ s.d.follows = true) → s.d.pair.kept.find? (fun y => y.g == g.val && y.tf == tf) = none → busyPair s.d = false →
    (s.d.role = .active ∨ s.d.g bSs F.SS_STATUS_SYNC = 7) → Does (exec (.commitDigest g tf d p) s) s (fun e => Raised e 0x186 0x1106 none ∧ e.g bSs F.SS_VERDICT_VERDICT = 1 ∧
      (s.d.role = .standby → e.role = .out))) ∧
  ∀ s (g : Fin 8) tf d p k, s.d.follows = true → s.d.pair.kept.find? (fun y => y.g == g.val && y.tf == tf) = some k → k.compared = false →
    Does (exec (.commitDigest g tf d p) s) s (fun e => e = s.d.fresh)) ∧
  ((∀ s r own peer, s.d.pair.replay = some r → Does (exec (.replayEnd own peer) s) s (fun e =>
    let act : Bool := s.d.role == .active
    let dA := if act then r.own.1 else r.peer.1
    let pA := if act then r.own.2 else r.peer.2
    let rA := if act then own else peer
    let dS := if act then r.peer.1 else r.own.1
    let pS := if act then r.peer.2 else r.own.2
    let rS := if act then peer else own
    let held : Bool := s.d.pair.kept.any (fun k => k.g == r.g && k.tf == r.tf)
    let v := e.g bSs F.SS_VERDICT_VERDICT
    e.pair.replay = none ∧ e.gb bSs F.SS_STATUS_REPLAY = false ∧
    (held = false → v = 1) ∧ (held = true → pA ≠ pS → v = 2) ∧
    (held = true → pA = pS → rA = rS → dS = some rA → dA ≠ some rA → v = 3) ∧ (held = true → pA = pS → rA = rS → dA = some rA → dS ≠ some rA → v = 4) ∧
    (held = true → pA = pS → rA = rS → dA ≠ some rA → dS ≠ some rA → v = 5) ∧ (held = true → pA = pS → rA ≠ rS → v = 6) ∧
    (v ∈ [1, 4, 6] → s.d.role = .standby → e.role = .out) ∧ (v ∈ [2, 5] → e.pair.resync = some s.d.tick ∧ e.pair.verify = [] ∧ e.role = s.d.role ∧ (s.d.role = .standby → e.g bSs F.SS_STATUS_SYNC = 5)) ∧
    (v = 6 → e.gb bSs F.SS_STATUS_REVERT_BLOCK = true) ∧
    (v = 3 → s.d.role = .active → s.d.gb bSs F.SS_STATUS_PEER_ELIGIBLE = true → s.d.pair.sw = none →
      e.pair.sw = some ⟨s.d.tick, boundary s.d.tick, false, false, true⟩) ∧
    (v = 3 → s.d.role = .standby → eligible s.d = true → s.d.pair.sw = none → e.pair.sw = some ⟨s.d.tick, boundary s.d.tick, true, false, false⟩) ∧
    ∀ a, (a < bSs ∨ bSs + 0x40 ≤ a) → s.d.role ≠ .standby → e.rd a = s.d.rd a)) ∧
  (∀ s r, s.d.pair.replay = some r → s.d.tick < r.since + 250000 * s.d.g bSs F.SS_CFG_REPLAY_MAX → Does (exec .replayTimeout s) s (fun e => e = s.d.fresh)) ∧
  (∀ s r, s.d.pair.replay = some r → r.since + 250000 * s.d.g bSs F.SS_CFG_REPLAY_MAX ≤ s.d.tick → Does (exec .replayTimeout s) s (fun e => e.g bSs F.SS_VERDICT_VERDICT = 1 ∧ e.pair.replay = none ∧ e.gb bSs F.SS_STATUS_REPLAY = false ∧
    (s.d.role = .standby → e.role = .out) ∧ (s.d.role ≠ .standby → e.role = s.d.role ∧ e.pair.resync = s.d.pair.resync))) ∧
  (∀ s t, s.d.pair.resync = some t → s.d.tick < t + 50000000 → Does (exec .resyncTimeout s) s (fun e => e = s.d.fresh)) ∧
  ∀ s t, s.d.pair.resync = some t → t + 50000000 ≤ s.d.tick → Does (exec .resyncTimeout s) s (fun e => e.pair.resync = none ∧
    (s.d.role = .standby → e.role = .out ∧ e.g bSs F.SS_CHECK_REASON = 0x0D05 ∧ e.g bSs F.SS_STATUS_SYNC = 0) ∧
    (s.d.role ≠ .standby → e = { s.d.fresh with pair := { s.d.pair with resync := none } })))

/-- R505, R520, R521, R526, R529: a health report of the peer is shown; a SOLO module whose peer is STANDBY becomes ACTIVE, an ACTIVE one whose peer has gone OUT becomes SOLO, a held trigger is taken once the standby is eligible, and either module follows the decision of the other on a coordinated switch-over. A module that follows and counts other ticks than the peer goes OUT. A health self-test sets or clears its bit, of the engines, memories and supervisors as the row brings it, of the others as the module's state has it; a failure raises HEALTH_FAIL and, at an ACTIVE module, the coordinated trigger, held while the standby is not eligible. From shed stage S1 no self-test runs (R639). R521 to R525: at the switch boundary the new active module takes the larger of its own term and the largest its nodes report, plus 1, counts the switch-over with its gap, and keeps on each port only the edges due at or after T_first + 768 ticks + d_app; the former active module becomes STANDBY in SYNCED, or OUT by request or where the self-tests that a verdict asked for have failed. In any other tick nothing happens. The preferred standby that has been eligible for SS_REVERT.HOLD decides to take over unless an inhibit holds. Choices of the model in it: log entries 29, 43, 44. -/
def Obligations.HealthAndSwitchOver : Prop :=
  ((∀ s (health : BitVec 8) elig sev role (ph : Fin 8) tk dec, pwrState s.d < 2 → (tk = s.d.tick ∨ (s.d.role ≠ .standby ∧ s.d.g bSs F.SS_STATUS_SYNC < 4)) →
    Does (exec (.healthReport health elig sev role ph dec tk) s) s (fun e =>
    e.g bSs F.SS_PEER_HEALTH = health.toNat ∧ e.gb bSs F.SS_STATUS_PEER_ELIGIBLE = elig ∧ e.g bSs F.SS_STATUS_PEER_ROLE = role.code ∧ e.pair.peerSync = ph.val ∧ e.pair.peerSevere = sev ∧
    (s.d.role = .solo → role = .standby → e.role = .active) ∧ (s.d.role = .active → role = .out → s.d.pair.sw = none → e.role = .solo) ∧
    (s.d.role = .active → role ≠ .out → elig = true → s.d.pair.held = true → e.pair.sw = some ⟨s.d.tick, boundary s.d.tick, false, false, false⟩ ∧ e.pair.held = false) ∧
    (s.d.role = .active → role ≠ .out → s.d.pair.held = false → s.d.pair.sw = none → ∀ td, dec = some td → e.pair.sw = some ⟨td, boundary td, false, false, false⟩) ∧
    (s.d.role = .standby → s.d.pair.sw = none → ∀ td, dec = some td → e.role = .standby ∧ e.pair.sw = some ⟨td, boundary td, true, false, false⟩) ∧
    (s.d.role = .out → e.role = .out ∧ e.pair.sw = s.d.pair.sw))) ∧
  (∀ s (health : BitVec 8) elig sev role (ph : Fin 8) tk dec, tk ≠ s.d.tick → (s.d.role = .standby ∨ 4 ≤ s.d.g bSs F.SS_STATUS_SYNC) →
    Does (exec (.healthReport health elig sev role ph dec tk) s) s (fun e => e.role = .out ∧ e.g bSs F.SS_CHECK_REASON = 0x0D05 ∧ e.g bSs F.SS_STATUS_SYNC = 0)) ∧
  (∀ s (bit : Fin 8) fail (eng : Fin 16), s.d.shed = 0 → Does (exec (.healthSelftest bit fail eng) s) s (fun e =>
    let r : Bool := (healthCond bit.val s.d).getD fail
    e.gb bSs ⟨F.SS_HEALTH.off, bit.val, 1⟩ = r ∧ e.role = s.d.role ∧
    (bit.val ≠ 0 ∨ fail = false → ∀ a, a ≠ bSs + F.SS_HEALTH.off → e.rd a = s.d.rd a) ∧
    (r = false → e = { s.d.fresh with regs := e.regs, pair := { s.d.pair with held := e.pair.held } } ∧ (e.rd (bSs + F.SS_HEALTH.off) = 0#32 → e.pair.held = false) ∧
      (e.rd (bSs + F.SS_HEALTH.off) ≠ 0#32 → e.pair.held = s.d.pair.held)) ∧
    (r = true → Raised e 0x190 0x1110 none ∧ e.pair.healthFails = s.d.pair.healthFails + 1 ∧
      (s.d.role = .active → s.d.pair.sw = none → s.d.gb bSs F.SS_STATUS_PEER_ELIGIBLE = true → e.pair.sw = some ⟨s.d.tick, boundary s.d.tick, false, false, false⟩) ∧
      (s.d.role = .active → s.d.pair.sw = none → s.d.gb bSs F.SS_STATUS_PEER_ELIGIBLE = false → e.pair.held = true ∧ e.pair.sw = none)))) ∧
  (∀ s (bit : Fin 8), bit.val < 3 → healthCond bit.val s = none) ∧
  ∀ s (bit : Fin 8) fail (eng : Fin 16), 1 ≤ s.d.shed → Does (exec (.healthSelftest bit fail eng) s) s (fun e => e = s.d.fresh)) ∧
  ((∀ s, (∀ w, s.d.pair.sw = some w → s.d.tick ≠ w.first) → Does (exec .switchBoundary s) s (fun e => e = s.d.fresh)) ∧
  (∀ s w, s.d.pair.sw = some w → s.d.tick = w.first → w.take = true → s.d.role = .standby → pwrState s.d < 2 → max (s.d.g bSs F.SS_TERM_TERM) (topTerm s.d) + 1 < 2 ^ 32 →
    Does (exec .switchBoundary s) s (fun e => e.g bSs F.SS_TERM_TERM = max (s.d.g bSs F.SS_TERM_TERM) (topTerm s.d) + 1 ∧
      e.g bSs F.SS_SWITCH_COUNT = (s.d.g bSs F.SS_SWITCH_COUNT + 1) % 65536 ∧ e.g bSs F.SS_SWITCH_LAST_GAP = (w.first - w.decided) % 65536 ∧
      e.role = (if s.d.pair.failed then .solo else .active) ∧ e.pair.sw = none ∧ e.pair.tookAt = some w.first ∧ e.g bSs F.SS_STATUS_SYNC = 0 ∧
      ∀ p < 96, ∀ x ∈ (e.port p).wait, (w.first + 768) * 64 + (s.d.port p).dapp ≤ x.1.tExec)) ∧
  (∀ s w, s.d.pair.sw = some w → s.d.tick = w.first → w.take = false → s.d.role = .active → Does (exec .switchBoundary s) s (fun e => e.pair.sw = none ∧
    let goesOut : Bool := w.out || (w.tests && s.d.rd (bSs + F.SS_HEALTH.off) != 0#32)
    e.role = (if goesOut then .out else .standby) ∧ (goesOut = false → e.g bSs F.SS_STATUS_SYNC = 7 ∧ e.g bSs F.SS_STATUS_PEER_ROLE = Role.active.code) ∧
    e.g bSs F.SS_SWITCH_COUNT = (s.d.g bSs F.SS_SWITCH_COUNT + 1) % 65536)) ∧
  (∀ s t, eligible s.d = true → preferred s.d = true → s.d.gb bSs F.SS_CFG_REVERT_EN = true → s.d.pair.sw = none → s.d.pair.eligFrom = some t →
    s.d.g bSs F.SS_REVERT_HOLD * 250000000 ≤ s.d.tick - t → (s.d.mode = .hold ∨ s.d.mode = .run) → s.d.trans = false → (∀ i < 8, (s.d.str i).chg = none) → anySevere s.d = false →
    s.d.pair.peerSevere = false → s.d.shed = 0 → s.d.gb bSs F.SS_CTRL_NO_REVERT = false → s.d.gb bSs F.SS_STATUS_REVERT_BLOCK = false →
    Does (exec .revertiveReturn s) s (fun e => e = { s.d.fresh with pair := { s.d.pair with sw := some ⟨s.d.tick, boundary s.d.tick, true, false, false⟩, held := false } })) ∧
  ∀ s, (eligible s.d = false ∨ preferred s.d = false ∨ s.d.gb bSs F.SS_CFG_REVERT_EN = false ∨ (s.d.mode ≠ .hold ∧ s.d.mode ≠ .run) ∨ s.d.trans = true ∨ anySevere s.d = true ∨
      s.d.pair.peerSevere = true ∨ 1 ≤ s.d.shed ∨ s.d.gb bSs F.SS_CTRL_NO_REVERT = true ∨ s.d.gb bSs F.SS_STATUS_REVERT_BLOCK = true ∨
      (∀ t, s.d.pair.eligFrom = some t → s.d.tick - t < s.d.g bSs F.SS_REVERT_HOLD * 250000000)) →
    Does (exec .revertiveReturn s) s (fun e => e = s.d.fresh))

/-- R526, R503: each join phase that completes begins the next and notes its start; identities that agree go on to TIME, different CONFIG digests or protocol versions put a joining module to OUT with 0x0D02 or 0x0D03; TIME takes the active module's tick count and time; STATE takes its copy and its mode; VERIFY makes the module STANDBY in SYNCED. A phase that exceeds its limit puts it to OUT with 0x0D05 and, with PAIR_EN, to a new resolution 10 s later; LINK without a lane ends by the preference. Choices of the model in it: log entries 29, 44, 45. -/
def Obligations.JoinPhases : Prop :=
  (∀ s, s.d.g bSs F.SS_STATUS_SYNC = 1 → 0 < lanesUsed s.d → hbLost s.d = false → Does (exec (.joinPhaseEnd .link) s) s (fun e => e.g bSs F.SS_STATUS_SYNC = 2 ∧ e.pair.phaseFrom = s.d.tick ∧
    e.role = s.d.role ∧ ∀ a, a ≠ bSs + F.SS_STATUS.off → e.rd a = s.d.rd a)) ∧
  (∀ s x, s.d.g bSs F.SS_STATUS_SYNC = 2 → s.d.role = .out → (x.role = .active ∨ x.role = .solo) → Does (exec (.joinPhaseEnd (.ident x)) s) s (fun e => e.pair.peer = some x ∧ e.role = .out ∧
    e.g bSs F.SS_STATUS_PEER_ROLE = x.role.code ∧ (s.d.gb bDev F.DEV_STATUS_PREF = x.pref → Raised e 0x187 0x1107 none ∧ e.gb bSs F.SS_STATUS_PREF_CONFLICT = true) ∧
    (x.digest = ownDigest s.d → x.version = Config.seesawVersion s.d.img.runFw → e.g bSs F.SS_STATUS_SYNC = 3 ∧ e.pair.phaseFrom = s.d.tick) ∧
    (x.digest ≠ ownDigest s.d → e.g bSs F.SS_STATUS_SYNC = 0 ∧ e.g bSs F.SS_CHECK_REASON = 0x0D02 ∧ e.pair.retry = (if pairOn s.d then some (s.d.tick + 2500000000) else none)) ∧
    (x.digest = ownDigest s.d → x.version ≠ Config.seesawVersion s.d.img.runFw → e.g bSs F.SS_STATUS_SYNC = 0 ∧ e.g bSs F.SS_CHECK_REASON = 0x0D03 ∧
      (pairOn s.d = true → e.pair.retry = some (s.d.tick + 2500000000))))) ∧
  (∀ s x, s.d.g bSs F.SS_STATUS_SYNC = 2 → s.d.role = .out → x.role = .out → x.joining = false → x.digest = ownDigest s.d → x.version = Config.seesawVersion s.d.img.runFw → pwrState s.d < 2 →
    Does (exec (.joinPhaseEnd (.ident x)) s) s (fun e =>
      (preferred { s.d with pair := { s.d.pair with peer := some x } } = true → e.role = .solo ∧ e.g bSs F.SS_STATUS_SYNC = 0) ∧
      (preferred { s.d with pair := { s.d.pair with peer := some x } } = false → e.role = .out ∧ e.g bSs F.SS_STATUS_SYNC = 3))) ∧
  (∀ s x, s.d.g bSs F.SS_STATUS_SYNC = 2 → s.d.role = .out → (x.role = .out ∨ x.role = .standby) → x.digest ≠ ownDigest s.d → pwrState s.d < 2 →
    Does (exec (.joinPhaseEnd (.ident x)) s) s (fun e =>
      ((x.joining = true ∨ preferred { s.d with pair := { s.d.pair with peer := some x } } = true) → e.role = .solo ∧ e.g bSs F.SS_STATUS_SYNC = 0) ∧
      (x.joining = false → preferred { s.d with pair := { s.d.pair with peer := some x } } = false → e.role = .out ∧ e.g bSs F.SS_CHECK_REASON = 0x0D02))) ∧
  (∀ s t, s.d.g bSs F.SS_STATUS_SYNC = 3 → Does (exec (.joinPhaseEnd (.time t)) s) s (fun e => e.g bSs F.SS_STATUS_SYNC = 4 ∧ e.tick = t.tick ∧ e.tb.sec = t.sec ∧ e.tb.ns = t.ns ∧ e.tb.sub = t.sub ∧
    e.tb.fi = t.fi)) ∧
  (∀ s, s.d.g bSs F.SS_STATUS_SYNC = 4 → portsFit s.d = true → Does (exec (.joinPhaseEnd .cal) s) s (fun e => e.g bSs F.SS_STATUS_SYNC = 5 ∧ e.pair.phaseFrom = s.d.tick)) ∧
  (∀ s b, s.d.g bSs F.SS_STATUS_SYNC = 5 → b.term < 2 ^ 32 → Does (exec (.joinPhaseEnd (.state b)) s) s (fun e => e.g bSs F.SS_STATUS_SYNC = 6 ∧ e.g bSs F.SS_TERM_TERM = b.term ∧ e.pair.verify = [] ∧
    (b.mode ≠ s.d.mode → Due.mode b.mode b.cause ∈ e.due))) ∧
  (∀ s, s.d.g bSs F.SS_STATUS_SYNC = 6 → verified s.d = true → Does (exec (.joinPhaseEnd .verify) s) s (fun e => e.g bSs F.SS_STATUS_SYNC = 7 ∧ e.role = .standby ∧ e.pair.resync = none)) ∧
  (∀ s, s.d.tick < s.d.pair.phaseFrom + phaseLimit (s.d.g bSs F.SS_STATUS_SYNC) → Does (exec .joinPhaseTimeout s) s (fun e => e = s.d.fresh)) ∧
  (∀ s, 1 ≤ s.d.g bSs F.SS_STATUS_SYNC → s.d.g bSs F.SS_STATUS_SYNC < 7 → s.d.pair.phaseFrom + phaseLimit (s.d.g bSs F.SS_STATUS_SYNC) ≤ s.d.tick → pwrState s.d < 2 → Does (exec .joinPhaseTimeout s) s (fun e => e.g bSs F.SS_STATUS_SYNC = 0 ∧
    ((s.d.g bSs F.SS_STATUS_SYNC ≠ 1 ∨ lanesUsed s.d ≠ 0) → e.role = .out ∧ e.g bSs F.SS_CHECK_REASON = 0x0D05 ∧ e.pair.retry = (if pairOn s.d then some (s.d.tick + 2500000000) else none)) ∧
    (s.d.g bSs F.SS_STATUS_SYNC = 1 → lanesUsed s.d = 0 → (preferred s.d = true → e.role = .solo) ∧ (preferred s.d = false → e.role = .out ∧ e.g bSs F.SS_CHECK_REASON = 0x0D04)))) ∧
  (∀ s t, s.d.pair.retry = some t → s.d.tick < t → Does (exec .rejoinRetry s) s (fun e => e = s.d.fresh)) ∧
  ∀ s t, s.d.pair.retry = some t → t ≤ s.d.tick → pairOn s.d = true → s.d.role = .out → s.d.g bSs F.SS_STATUS_SYNC = 0 → s.d.pair.ejected = false → pwrState s.d < 2 →
    Does (exec .rejoinRetry s) s (fun e => e.pair.retry = none ∧ (peerHere s.d = true → e.role = .out ∧ e.g bSs F.SS_STATUS_SYNC = 1) ∧ (peerHere s.d = false → e.role = .solo))

/-- R44, R527, R666, R668, R669: a taken EJECT_REQ puts a STANDBY or OUT module, and one that owns the nodes in LOAD or HOLD without an eligible standby, to OUT; with an eligible standby it decides a coordinated switch-over; in the other modes it is refused and EJECT_REFUSED set. The lever released, EJECT is 0 at once, and 1 s later a module that it held out resolves its role. Withdrawal stops a background command and does the same without refusal. Choices of the model in it: log entries 18, 19. -/
def Obligations.EjectionAndWithdrawal : Prop :=
  (∀ s, Does (exec .ejectReqTaken s) s (fun e => e.gb bDev F.DEV_STATUS_EJECT = true ∧
    ((s.d.role = .out ∨ s.d.role = .standby) → e.role = .out ∧ e.pair.ejected = true ∧ e.g bSs F.SS_STATUS_SYNC = 0) ∧
    (s.d.role = .active → s.d.gb bSs F.SS_STATUS_PEER_ELIGIBLE = true → s.d.pair.sw = none → e.role = .active ∧ e.pair.ejected = true ∧ e.pair.sw = some ⟨s.d.tick, boundary s.d.tick, false, true, false⟩) ∧
    ((s.d.role = .solo ∨ (s.d.role = .active ∧ s.d.gb bSs F.SS_STATUS_PEER_ELIGIBLE = false)) →
      ((s.d.mode = .load ∨ s.d.mode = .hold) → e.role = .out ∧ e.pair.ejected = true ∧ e.gb bSs F.SS_STATUS_EJECT_REFUSED = s.d.gb bSs F.SS_STATUS_EJECT_REFUSED) ∧
      (s.d.mode ≠ .load → s.d.mode ≠ .hold → e.role = s.d.role ∧ e.pair.ejected = false ∧ e.gb bSs F.SS_STATUS_EJECT_REFUSED = true ∧ e.box.refusedFlash = some (s.d.tick + 1250000000))))) ∧
  (∀ s, Does (exec (.ejectReleased true) s) s (fun e => e.gb bDev F.DEV_STATUS_EJECT = false ∧ (∀ a, a ≠ bDev + F.DEV_STATUS.off → e.rd a = s.d.rd a) ∧
    e = { s.d.fresh with regs := e.regs, pair := { s.d.pair with ejectAt := none, ejectFree := s.d.pair.ejectFree.or (some (s.d.tick : Int)) } })) ∧
  (∀ s, (∀ t, s.d.pair.ejectFree = some t → (s.d.tick : Int) < t + 250000000) → Does (exec (.ejectReleased false) s) s (fun e => e = s.d.fresh)) ∧
  (∀ s t, s.d.pair.ejectFree = some t → t + 250000000 ≤ (s.d.tick : Int) → pwrState s.d < 2 → Does (exec (.ejectReleased false) s) s (fun e => e.gb bDev F.DEV_STATUS_EJECT = false ∧ e.pair.ejected = false ∧ e.pair.ejectAt = none ∧ e.pair.ejectFree = none ∧
    (s.d.pair.ejected = true → s.d.role = .out → s.d.pair.withdrawn = false → s.d.g bSs F.SS_STATUS_SYNC = 0 → s.d.mode ≠ .load →
      (pairOn s.d = true → peerHere s.d = true → e.role = .out ∧ e.g bSs F.SS_STATUS_SYNC = 1) ∧ ((pairOn s.d = false ∨ peerHere s.d = false) → e.role = .solo)) ∧
    (s.d.pair.ejected = false → e = { s.d.fresh with regs := e.regs, pair := e.pair } ∧ ∀ a, a ≠ bDev + F.DEV_STATUS.off → e.rd a = s.d.rd a))) ∧
  ∀ s, Does (exec .withdrawal s) s (fun e => e.gb bDev F.DEV_STATUS_PRESENT = false ∧ e.pair.withdrawn = true ∧ e.img.bgStop = s.d.img.bg.isSome ∧
    (s.d.role = .active → s.d.gb bSs F.SS_STATUS_PEER_ELIGIBLE = true → s.d.pair.sw = none → e.role = .active ∧ e.pair.sw = some ⟨s.d.tick, boundary s.d.tick, false, true, false⟩) ∧
    ((s.d.role ≠ .active ∨ s.d.gb bSs F.SS_STATUS_PEER_ELIGIBLE = false) → e.role = .out ∧ e.g bSs F.SS_STATUS_SYNC = 0))

/-- R538, R539, R551, R555: a source that misses its edges, or is measured outside TOL, loses its qualification; if the PLL runs on it, the loop goes to the TCXO in HOLDOVER with REF_LOSS active. A measurement in range of the source in use enters the average of the last 64. A source whose conditions have held for QUAL ms qualifies; it ends REF_LOSS where it is the one to return to, waits where the mode is RIDE, and with REVERT replaces a later one through HOLDOVER. A write of CLK_SEL that names another source does the same. Choices of the model in it: log entries 41, 42. -/
def Obligations.ReferencesAreQualified : Prop :=
  (∀ s c (x : Fin 2), (c = Instr.refEdgeMissing x ∨ ∃ ppb : Int, c = .refFreqMeasure x ppb ∧ srcEnabled s.d x.val = true ∧ (s.d.g bClk F.CLK_QUAL_TOL * 1000 : Int) < absI ppb) →
    Does (exec c s) s (fun e => bitOf (e.g bClk F.CLK_STATUS_QUALIFIED) x.val = false ∧ (∀ y < 3, y ≠ x.val → bitOf (e.g bClk F.CLK_STATUS_QUALIFIED) y = bitOf (s.d.g bClk F.CLK_STATUS_QUALIFIED) y) ∧
      (if x.val = 0 then e.clk.goodA else e.clk.goodB) = s.d.tick ∧
      (bitOf (s.d.g bClk F.CLK_STATUS_QUALIFIED) x.val = true → e.gb bClk (if x.val = 0 then F.CLK_STICKY_REFA_LOST else F.CLK_STICKY_REFB_LOST) = true) ∧
      (s.d.g bClk F.CLK_STATUS_SRC = x.val → (clkState s.d = 1 ∨ clkState s.d = 2) → clkState e = 3 ∧ e.g bClk F.CLK_STATUS_SRC = 2 ∧ e.gb bClk F.CLK_STATUS_INJECT = false ∧
        Raised e 0x180 0x1100 (some true) ∧ e.clk.lastRef = x.val) ∧
      (s.d.g bClk F.CLK_STATUS_SRC ≠ x.val → clkState e = clkState s.d ∧ e.g bClk F.CLK_STATUS_SRC = s.d.g bClk F.CLK_STATUS_SRC ∧ e.due = s.d.due) ∧
      (∀ a, a ∉ [bClk + F.CLK_STATUS.off, bClk + F.CLK_STICKY.off] → e.rd a = s.d.rd a) ∧ e = { s.d.fresh with regs := e.regs, clk := e.clk, due := e.due })) ∧
  (∀ s (x : Fin 2) ppb, srcEnabled s.d x.val = true → absI ppb ≤ (s.d.g bClk F.CLK_QUAL_TOL * 1000 : Int) → Does (exec (.refFreqMeasure x ppb) s) s (fun e =>
    (s.d.g bClk F.CLK_STATUS_SRC = x.val → clkState s.d = 2 → e.clk = { s.d.clk with meas := (ppb :: s.d.clk.meas).take 64 } ∧
      e.g bClk F.CLK_MEAS_PPB = usg 32 (rndDiv (((ppb :: s.d.clk.meas).take 64).foldl (· + ·) 0) ((ppb :: s.d.clk.meas).take 64).length)) ∧
    ((s.d.g bClk F.CLK_STATUS_SRC ≠ x.val ∨ clkState s.d ≠ 2) → e = s.d.fresh) ∧ (∀ a, a ≠ bClk + F.CLK_MEAS.off → e.rd a = s.d.rd a) ∧ e = { s.d.fresh with regs := e.regs, clk := e.clk })) ∧
  (∀ s (x : Fin 2), srcEnabled s.d x.val = true → (if x.val = 0 then s.d.clk.goodA else s.d.clk.goodB) + 250000 * s.d.g bClk F.CLK_QUAL_QUAL ≤ s.d.tick → Does (exec (.refQualified x) s) s (fun e => bitOf (e.g bClk F.CLK_STATUS_QUALIFIED) x.val = true ∧
    (clkState s.d = 3 → clkState e = 3 ∧ (returnTo e = some x.val → Raised e 0x180 0x1100 (some false)) ∧ (returnTo e ≠ none → s.d.mode = .ride → e.gb bClk F.CLK_STATUS_WAIT_RIDE = true)) ∧
    ((clkState s.d = 1 ∨ clkState s.d = 2) → s.d.gb bClk F.CLK_SEL_REVERT = true → chosen e = some x.val → s.d.g bClk F.CLK_STATUS_SRC ≠ x.val →
      (s.d.mode ≠ .ride → clkState e = 3 ∧ e.g bClk F.CLK_STATUS_SRC = 2) ∧ (s.d.mode = .ride → clkState e = clkState s.d ∧ e.gb bClk F.CLK_STATUS_WAIT_RIDE = true)) ∧
    ((clkState s.d = 1 ∨ clkState s.d = 2) → s.d.gb bClk F.CLK_SEL_REVERT = false → clkState e = clkState s.d ∧ e.g bClk F.CLK_STATUS_SRC = s.d.g bClk F.CLK_STATUS_SRC) ∧
    (∀ a, a ≠ bClk + F.CLK_STATUS.off → e.rd a = s.d.rd a) ∧ e = { s.d.fresh with regs := e.regs, clk := e.clk, due := e.due })) ∧
  (∀ s (x : Fin 2), (srcEnabled s.d x.val = false ∨ s.d.tick < (if x.val = 0 then s.d.clk.goodA else s.d.clk.goodB) + 250000 * s.d.g bClk F.CLK_QUAL_QUAL) → Does (exec (.refQualified x) s) s (fun e => e = s.d.fresh)) ∧
  (∀ p v s, HostReady p s → Serves (exec (.clkSel p v) s) s (fun d nv e => nv = s.nv ∧ e.g bClk F.CLK_SEL_PRI0 = getBits v 0 2 ∧ e.g bClk F.CLK_SEL_PRI1 = getBits v 2 2 ∧
    e.g bClk F.CLK_SEL_PRI2 = getBits v 4 2 ∧ e.gb bClk F.CLK_SEL_REVERT = (getBits v 8 1 == 1) ∧ e.gb bClk F.CLK_SEL_FORCE_EN = (getBits v 9 1 == 1) ∧ e.g bClk F.CLK_SEL_FORCE = getBits v 10 2 ∧
    ((clkState s.d = 1 ∨ clkState s.d = 2) → (chosen e ≠ some (s.d.g bClk F.CLK_STATUS_SRC) → clkState e = 3 ∧ e.g bClk F.CLK_STATUS_SRC = 2) ∧
      (chosen e = some (s.d.g bClk F.CLK_STATUS_SRC) → e.rest = d.rest ∧ KeepsRegs d e [bClk + F.CLK_SEL.off])) ∧
    (clkState s.d = 3 → returnTo e ≠ none → clkState e = 3 ∧ Raised e 0x180 0x1100 (some false)) ∧
    KeepsRegs d e [bClk + F.CLK_SEL.off, bClk + F.CLK_STATUS.off])) ∧
  ∀ d x, chosen d = some x → srcEnabled d x = true ∧ qualifiedSrc d x = true ∧ (d.gb bClk F.CLK_SEL_FORCE_EN = true → x = d.g bClk F.CLK_SEL_FORCE) ∧
    (d.gb bClk F.CLK_SEL_FORCE_EN = false → ∀ y, y = d.g bClk F.CLK_SEL_PRI0 → srcEnabled d y = true → qualifiedSrc d y = true → x = y)

/-- R546 to R550, R559, R637: a change of frequency goes by a glide within 0.5 %, else by a hop onto Onyx, and is refused by the first row of R547 that holds. A glide ends with the new feedback word. A hop that locks takes the band of R544, the source of R539, the PLL and 850 mV; one that does not in 10 ms leaves the core on Onyx with 0x090C and PLL_UNLOCK. RELOCK is a hop to the frequency in force; SYNC_ARM waits for an edge of CLKSYNC_IN. Choices of the model in it: log entries 39, 77. -/
def Obligations.FrequencyChanges : Prop :=
  (∀ p s, HostReady p s → s.d.clk.op = none → s.d.mode ≠ .ride → let new := sgn 32 (s.d.rd (bClk + F.CLK_VCO_OFS.off)).toNat
    let core : Bool := s.d.g bClk F.CLK_DIV_CORE != s.d.gF bClk F.CLK_DIV_CORE;
    (-40000000 ≤ new) → new ≤ 0 → s.d.g bClk F.CLK_DIV_CORE ∈ [4, 5, 8, 16] → (core = true ∨ 5 * (1000000000 + ofsInForce s.d).toNat < absI (new - ofsInForce s.d) * 1000 → s.d.mode = .hold ∨ s.d.mode = .load) →
    Serves (exec (.clkApply p) s) s (fun _ nv e => nv = s.nv ∧ ofsInForce e = new ∧ e.gF bClk F.CLK_DIV_CORE = s.d.g bClk F.CLK_DIV_CORE ∧ e.gb bClk F.CLK_RESULT_BUSY = true ∧ e.g bClk F.CLK_RESULT_REASON = 0 ∧
      (core = false → absI (new - ofsInForce s.d) * 1000 ≤ 5 * (1000000000 + ofsInForce s.d).toNat → e.clk = { s.d.clk with op := some (.glide true new) } ∧ e.gb bClk F.CLK_STATUS_GLIDING = true ∧
        clkState e = clkState s.d ∧ e.role = s.d.role) ∧
      ((core = true ∨ 5 * (1000000000 + ofsInForce s.d).toNat < absI (new - ofsInForce s.d) * 1000) → e.clk = { s.d.clk with op := some (.hop new s.d.tick), meas := [] } ∧ clkState e = 4 ∧ onOnyx e = true ∧
        linksSilent e = true ∧ e.g bClk F.CLK_BUILDOUT_PHASE = 0))) ∧
  (∀ hop core s, refuseChange hop core s = (if s.clk.op ≠ none then 0x090B else if s.mode = .ride then 0x0907 else if hop = true ∧ (s.mode = .charge ∨ s.mode = .run ∨ s.mode = .safe) then 0x0906
    else if core = true ∧ s.mode ≠ .load ∧ s.mode ≠ .hold then 0x0909 else 0)) ∧
  (∀ p s, HostReady p s → s.d.clk.op ≠ none → Serves (exec (.clkRelock p) s) s (fun d nv e => nv = s.nv ∧ e.g bClk F.CLK_RESULT_REASON = 0x090B ∧ e.rest = d.rest ∧ KeepsRegs d e [bClk + F.CLK_RESULT.off])) ∧
  (∀ p s, HostReady p s → s.d.clk.op = none → (s.d.mode = .load ∨ s.d.mode = .hold) → Serves (exec (.clkRelock p) s) s (fun _ nv e => nv = s.nv ∧ clkState e = 4 ∧ onOnyx e = true ∧
    e.gb bClk F.CLK_RESULT_BUSY = true ∧ e.clk = { s.d.clk with op := some (.hop (ofsInForce s.d) s.d.tick), meas := [] })) ∧
  (∀ p s, HostReady p s → s.d.clk.op = none → (s.d.mode = .load ∨ s.d.mode = .hold) → s.d.gb bClk F.CLK_CFG_SYNC_IN_EN = true → Serves (exec (.clkSyncArm p) s) s (fun d nv e => nv = s.nv ∧
    e.clk = { s.d.clk with op := some .arm } ∧ e.gb bClk F.CLK_STATUS_SYNC_DONE = false ∧ e.gb bClk F.CLK_RESULT_BUSY = true ∧ e.rest = { d.rest with clk := e.clk } ∧
    KeepsRegs d e [bClk + F.CLK_STATUS.off, bClk + F.CLK_RESULT.off])) ∧
  (∀ p s, HostReady p s → s.d.clk.op = none → ((s.d.mode ≠ .load ∧ s.d.mode ≠ .hold) ∨ s.d.gb bClk F.CLK_CFG_SYNC_IN_EN = false) → Serves (exec (.clkSyncArm p) s) s (fun d nv e => nv = s.nv ∧
    e.g bClk F.CLK_RESULT_REASON = 0x090A ∧ e.rest = d.rest ∧ KeepsRegs d e [bClk + F.CLK_RESULT.off])) ∧
  (∀ s cmd ofs, s.d.clk.op = some (.glide cmd ofs) → Does (exec .glideEnd s) s (fun e => e.gb bClk F.CLK_STATUS_GLIDING = false ∧
    e.clk = { s.d.clk with op := none, ofs := ofs, word := feedback s.d (s.d.g bClk F.CLK_STATUS_SRC) ofs } ∧ (cmd = true → e.gb bClk F.CLK_RESULT_BUSY = false ∧ e.g bClk F.CLK_RESULT_REASON = 0) ∧
    (∀ a, a ∉ [bClk + F.CLK_STATUS.off, bClk + F.CLK_RESULT.off] → e.rd a = s.d.rd a) ∧ e = { s.d.fresh with regs := e.regs, clk := e.clk })) ∧
  (∀ s ofs t temp (found : Fin 64) tune, s.d.clk.op = some (.hop ofs t) → Does (exec (.hopLock temp found tune) s) s (fun e => clkState e = 2 ∧ onOnyx e = false ∧ e.g bClk F.CLK_STATUS_SRC = (chosen s.d).getD 2 ∧
    e.g bClk F.CLK_STATUS_BAND = (pickBand s.d ofs temp.toInt).getD found.val ∧ e.gb bClk F.CLK_STATUS_INJECT = s.d.gb bClk F.CLK_CFG_LOOP ∧ e.gb bClk F.CLK_STATUS_TUNE_MARGIN = tune ∧
    e.gb bClk F.CLK_RESULT_BUSY = false ∧ e.g bClk F.CLK_RESULT_REASON = 0 ∧ e.clk.op = none ∧ e.clk.ofs = ofs ∧ e.clk.word = feedback s.d ((chosen s.d).getD 2) ofs ∧
    s.d.tick + 40 + 8192 ≤ e.clk.guard ∧ e.clk.guard < s.d.tick + 552 + 8192 ∧ e.pwr.vdd = 1700 ∧ e.img.lockAt = s.d.img.lockAt.or (some s.d.tick) ∧
    ((chosen s.d).getD 2 < 2 → Raised e 0x180 0x1100 (some false)) ∧ (s.d.role = .standby → e.g bSs F.SS_STATUS_SYNC = 3 ∧ e.pair.phaseFrom = s.d.tick))) ∧
  (∀ d ofs temp, (∀ k, pickBand d ofs temp = some k → ∃ m, bandMargin d ofs temp k = some m ∧ ∀ j < 64, ∀ n, bandMargin d ofs temp j = some n → n ≤ m ∧ (n = m → k ≤ j)) ∧
    (pickBand d ofs temp = none → ∀ j < 64, bandMargin d ofs temp j = none)) ∧
  (∀ s ofs t, s.d.clk.op = some (.hop ofs t) → s.d.tick < t + 2500000 → Does (exec .hopTimeout s) s (fun e => e = s.d.fresh)) ∧
  ∀ s ofs t, s.d.clk.op = some (.hop ofs t) → t + 2500000 ≤ s.d.tick → Does (exec .hopTimeout s) s (fun e => clkState e = 0 ∧ onOnyx e = true ∧ e.g bClk F.CLK_RESULT_REASON = 0x090C ∧ e.gb bClk F.CLK_RESULT_BUSY = false ∧
    e.clk.op = none ∧ e.gb bClk F.CLK_STICKY_UNLOCK = true ∧ Raised e 0x181 0x1101 none)

/-- R542, R553 to R559, R561, R562: a source to be used is built out and glided to, not in RIDE, after which one that waited takes its turn; once the phase error stays small the state is LOCKED, with injection where LOOP is MDLL. Loss of lock or overspeed moves the core to Onyx, silences the links, sets the health bit CLOCK and raises PLL_UNLOCK, severe, without its mode reaction where an ACTIVE module has an eligible standby. An edge of CLKSYNC_IN ends an armed restart; at a follower it moves the build-out by 1 ft at most against the error, and a fourth error beyond 32 ft puts a SYNCED standby to OUT. Choices of the model in it: log entries 41, 42, 43. -/
def Obligations.LockIsLostAndRegained : Prop :=
  (∀ s x phase, clkState s.d = 3 → returnTo s.d = some x → s.d.mode ≠ .ride → s.d.clk.op = none → onOnyx s.d = false → Does (exec (.buildOut phase) s) s (fun e =>
    e.g bClk F.CLK_BUILDOUT_PHASE = usg 32 phase ∧ e.g bClk F.CLK_STATUS_SRC = x ∧ clkState e = 1 ∧ e.gb bClk F.CLK_STATUS_GLIDING = true ∧ e.gb bClk F.CLK_STATUS_WAIT_RIDE = false ∧
    e.clk = { s.d.clk with op := some (.glide false s.d.clk.ofs), meas := [], word := feedback s.d x s.d.clk.ofs } ∧
    (∀ a, a ∉ [bClk + F.CLK_STATUS.off, bClk + F.CLK_BUILDOUT.off] → e.rd a = s.d.rd a) ∧ e = { s.d.fresh with regs := e.regs, clk := e.clk })) ∧
  (∀ s x phase, (clkState s.d = 1 ∨ clkState s.d = 2) → s.d.gb bClk F.CLK_STATUS_WAIT_RIDE = true → s.d.mode ≠ .ride → chosen s.d = some x → x < 2 → s.d.g bClk F.CLK_STATUS_SRC ≠ x →
    s.d.clk.op = none → onOnyx s.d = false → Does (exec (.buildOut phase) s) s (fun e => e.g bClk F.CLK_STATUS_SRC = x ∧ clkState e = 1 ∧ e.gb bClk F.CLK_STATUS_WAIT_RIDE = false ∧
      e.clk.lastRef = s.d.g bClk F.CLK_STATUS_SRC ∧ e.g bClk F.CLK_BUILDOUT_PHASE = usg 32 phase)) ∧
  (∀ s phase, s.d.mode = .ride → Does (exec (.buildOut phase) s) s (fun e => e = s.d.fresh)) ∧
  (∀ s tune, clkState s.d = 1 → Does (exec (.pllLocked tune) s) s (fun e => clkState e = 2 ∧ e.gb bClk F.CLK_STATUS_INJECT = s.d.gb bClk F.CLK_CFG_LOOP ∧ e.gb bClk F.CLK_STATUS_TUNE_MARGIN = tune ∧
    (∀ a, a ≠ bClk + F.CLK_STATUS.off → e.rd a = s.d.rd a) ∧ e = { s.d.fresh with regs := e.regs })) ∧
  (∀ s c, (c = Instr.overspeed ∨ (c = .pllUnlock ∧ (clkState s.d = 2 ∨ clkState s.d = 3))) → onOnyx s.d = false → Does (exec c s) s (fun e => clkState e = 0 ∧ onOnyx e = true ∧ linksSilent e = true ∧
    e.gb bClk F.CLK_STICKY_UNLOCK = true ∧ (c = .overspeed → e.gb bClk F.CLK_STICKY_OVERSPEED = true) ∧ e.gb bSs F.SS_HEALTH_CLOCK = true ∧ e.clk = { s.d.clk with op := none } ∧
    (∃ ev : Ev, Due.event ev ∈ e.due ∧ ev.src = 0x181 ∧ ev.kind = 0x1101 ∧ ev.severe = true ∧ (ev.mute = true ↔ s.d.role = .active ∧ s.d.gb bSs F.SS_STATUS_PEER_ELIGIBLE = true)) ∧
    (∀ a, a ∉ [bClk + F.CLK_STATUS.off, bClk + F.CLK_STICKY.off, bClk + F.CLK_RESULT.off, bSs + F.SS_HEALTH.off] → e.rd a = s.d.rd a))) ∧
  (∀ s c, c ∈ [Instr.overspeed, .pllUnlock] → onOnyx s.d = true → Does (exec c s) s (fun e => e = s.d.fresh)) ∧
  (∀ s err, s.d.clk.op = some .arm → Does (exec (.clksyncInEdge err) s) s (fun e => e.gb bClk F.CLK_STATUS_SYNC_DONE = true ∧ e.g bClk F.CLK_BUILDOUT_PHASE = 0 ∧ e.clk = { s.d.clk with op := none } ∧
    e.gb bClk F.CLK_RESULT_BUSY = false ∧ e = { s.d.fresh with regs := e.regs, clk := e.clk })) ∧
  (∀ s err, s.d.clk.op ≠ some .arm → (s.d.role = .standby ∨ 3 ≤ s.d.g bSs F.SS_STATUS_SYNC) → Does (exec (.clksyncInEdge err) s) s (fun e =>
    e.g bClk F.CLK_BUILDOUT_PHASE = usg 32 (s.d.gi bClk F.CLK_BUILDOUT_PHASE + 16 * clampI (0 - err) (-1) 1) ∧
    (absI err ≤ 32 → e.clk.eRun = 0 ∧ e.role = s.d.role) ∧ (32 < absI err → e.gb bClk F.CLK_STICKY_PEER_PHASE = true) ∧
    (32 < absI err → (s.d.clk.eRun < 3 ∨ s.d.g bSs F.SS_STATUS_SYNC ≠ 7) → e.clk.eRun = s.d.clk.eRun + 1 ∧ e.role = s.d.role) ∧
    (32 < absI err → 3 ≤ s.d.clk.eRun → s.d.g bSs F.SS_STATUS_SYNC = 7 → e.role = .out ∧ e.g bSs F.SS_CHECK_REASON = 0x0D05 ∧ e.g bSs F.SS_STATUS_SYNC = 0)))

/-- R575 to R578, R583 to R585: a Sync of the selected master, with its Follow_Up where it is two-step, gives the offset by the time stamps, corrections, asymmetry and path delay, shown in TB_OFS; a servo step keeps FI within ±488,000 ppb and moves it by FI_STEP at most. An Announce enters the foreign masters. The answers to a delay request give the path delay. The transparent clock adds the residence time. A request is answered by a master, or by every port in P2P. A message that the clock does not take, or one with fields out of range (log entry 31), does none of this. Choices of the model in it: log entries 8, 46, 47, 48. -/
def Obligations.PtpMessagesAreTaken : Prop :=
  (∀ s h origin, h.wf = true → ocTakes s.d h = true → fromMaster s.d h = true → h.twoStep = false → Does (exec (.ptpSync h origin) s) s (fun e =>
    let x := rxStamp s.d h - origin * 2000 - h.corr * 2000 - asymOf s.d h.port.val
    e.tb.t12 = some x ∧ e.tb.syncAt = s.d.tick ∧ e.g bTb F.TB_OFS_OFS = usg 32 (sat32 (rndDiv (x - pathDelay s.d h.port.val) 8192000)) ∧ e.tb.out = [] ∧ (ocState s.d = 8 → ocState e = 9))) ∧
  (∀ s h origin, h.wf = true → ocTakes s.d h = true → fromMaster s.d h = true → h.twoStep = true → Does (exec (.ptpSync h origin) s) s (fun e =>
    e = { s.d.fresh with tb := { s.d.tb with out := [], fwd := none, wait := some ⟨⟨h.src, h.srcPort, h.port.val⟩, h.seq, rxStamp s.d h, h.corr * 2000⟩ } })) ∧
  (∀ s h w precise, h.wf = true → ocTakes s.d h = true → fromMaster s.d h = true → s.d.tb.wait = some w → w.seq = h.seq → Does (exec (.ptpFollowUp h precise) s) s (fun e =>
    let x := w.t2 - precise * 2000 - (w.corr + h.corr * 2000) - asymOf s.d h.port.val
    e.tb.t12 = some x ∧ e.tb.wait = none ∧ e.g bTb F.TB_OFS_OFS = usg 32 (sat32 (rndDiv (x - pathDelay s.d h.port.val) 8192000)))) ∧
  (∀ s h origin precise, h.wf = true → (ocTakes s.d h = false ∨ fromMaster s.d h = false) →
    Does (exec (.ptpSync h origin) s) s (fun e => e = { s.d.fresh with tb := { s.d.tb with out := [], fwd := none } }) ∧
    Does (exec (.ptpFollowUp h precise) s) s (fun e => e = { s.d.fresh with tb := { s.d.tb with out := [], fwd := none } })) ∧
  (∀ o d, -124928000 ≤ (servoStep o d).tb.fi ∧ (servoStep o d).tb.fi ≤ 124928000 ∧ (-124928000 ≤ d.tb.fi → d.tb.fi ≤ 124928000 →
    absI ((servoStep o d).tb.fi - d.tb.fi) ≤ d.g bTb F.TB_SERVO_FI_STEP * 256) ∧ (servoStep o d).g bTb F.TB_FI_FI = usg 32 (servoStep o d).tb.fi) ∧
  (∀ s h a, h.wf = true → a.wf = true → a.steps < 255 → ocTakes s.d h = true → Does (exec (.ptpAnnounce h a) s) s (fun e =>
    (h.src ≠ clockId → ∃ f ∈ e.tb.foreign, f.m = ⟨h.src, h.srcPort, h.port.val⟩ ∧ f.ann = a ∧ f.heard = s.d.tick ∧ f.seq = h.seq ∧ f.logIntv = h.logIntv) ∧
    (h.src = clockId → e = { s.d.fresh with tb := { s.d.tb with out := [], fwd := none } }))) ∧
  (∀ s h seq t3 x time, h.wf = true → ocTakes s.d h = true → fromMaster s.d h = true → s.d.tb.dreq = some (seq, t3) → s.d.tb.t12 = some x → h.seq = seq → s.d.gb bTb F.PTP_CFG_DELAY = false →
    Does (exec (.ptpDelayResp h 0 time) s) s (fun e => e.tb = { s.d.tb with out := [], fwd := none, dreq := none, mpd := (x + (time * 2000 - t3 - h.corr * 2000)) / 2 } ∧
      (∀ a, a ≠ bTb + F.PTP_MPD.off → e.rd a = s.d.rd a) ∧ e = { s.d.fresh with regs := e.regs, tb := e.tb })) ∧
  (∀ s h w time, h.wf = true → ocTakes s.d h = true → h.twoStep = false → s.d.tb.pdreq.find? (fun w => w.1 == h.port.val && w.2.1 == h.seq) = some w →
    Does (exec (.ptpDelayResp h 1 time) s) s (fun e => e.gb (bPtpPort h.port.val) F.PTP_PSTATUS_PEER_OK = true ∧
      e.g (bPtpPort h.port.val) F.PTP_PDELAY_DELAY = (rndDiv ((rxStamp s.d h - w.2.2 - h.corr * 2000 - asymOf s.d h.port.val) / 2) 8192000).toNat % 2 ^ 32 ∧
      ∀ x ∈ e.tb.pdreq, x.1 ≠ h.port.val)) ∧
  (∀ s h w time, h.wf = true → ocTakes s.d h = true → s.d.tb.pdwait.find? (fun w => w.1 == h.port.val && w.2.1 == h.seq) = some w → Does (exec (.ptpDelayResp h 2 time) s) s (fun e =>
      e.g (bPtpPort h.port.val) F.PTP_PDELAY_DELAY = (rndDiv ((w.2.2.1 - (time * 2000 - w.2.2.2) - h.corr * 2000) / 2) 8192000).toNat % 2 ^ 32)) ∧
  (∀ s h (type : Fin 16) egress, h.wf = true → netOn s.d = true → linkUp s.d 0 = true → linkUp s.d 1 = true → Does (exec (.ptpTcForward h type egress) s) s (fun e =>
    e = { s.d.fresh with tb := { s.d.tb with out := [], fwd := e.tb.fwd } } ∧ (s.d.gb bTb F.PTP_CFG_DELAY = true → 2 ≤ type.val → e.tb.fwd = none) ∧
    (s.d.gb bTb F.PTP_CFG_TC_EN = false → (s.d.gb bTb F.PTP_CFG_DELAY = false ∨ type.val < 2) → e.tb.fwd = some (1 - h.port.val, h.corr)) ∧
    (s.d.gb bTb F.PTP_CFG_TC_EN = true → s.d.gb bTb F.PTP_CFG_DELAY = false → type.val = 0 → e.tb.fwd = some (1 - h.port.val,
      h.corr + rndDiv (egress * 2000 + latTx s.d (1 - h.port.val) - rxStamp s.d h + asymOf s.d h.port.val) 2000)))) ∧
  (∀ s h, h.wf = true → ocTakes s.d h = true → ocSends s.d = true →
    (s.d.gb bTb F.PTP_CFG_DELAY = true → Does (exec (.ptpDelayReqRx h true) s) s (fun e => ∃ m, e.tb.out = [m] ∧ m.type = 3 ∧ m.port = h.port.val ∧ m.seq = h.seq ∧ e = { s.d.fresh with tb := e.tb })) ∧
    (s.d.gb bTb F.PTP_CFG_DELAY = false → ocState s.d = 6 → Does (exec (.ptpDelayReqRx h false) s) s (fun e =>
      e = { s.d.fresh with tb := { s.d.tb with fwd := none, out := [⟨9, h.port.val, h.seq, (rndDiv (rxStamp s.d h) 2000).toNat, h.corr, none⟩] } }))) ∧
  ∀ s h a x kind type b, h.wf = false → exec (.ptpSync h x) s = .fault .malformedOperand ∧ exec (.ptpFollowUp h x) s = .fault .malformedOperand ∧ exec (.ptpAnnounce h a) s = .fault .malformedOperand ∧
    exec (.ptpDelayResp h kind x) s = .fault .malformedOperand ∧ exec (.ptpTcForward h type x) s = .fault .malformedOperand ∧ exec (.ptpDelayReqRx h b) s = .fault .malformedOperand

/-- R583, R587, R589: as master an ACTIVE, SOLO clock sends a one-step Sync and an Announce with the clockClass of its time state to both ports; as slave, or on each port with link in P2P, it sends a delay request that it then waits to have answered. Any other clock sends nothing. R571, R572, R574, R575: no Sync for SYNC_TMO sync intervals, no Announce for ANN_TMO announce intervals with no other master, and loss of the slave port's link stop the servo: qualification ends, LOCKED goes to HOLDOVER and TIME_LOSS becomes active. HOLDOVER ends in FREE after HO_MAX. Before their time none of these does anything. A port that regains its link shows it. Choices of the model in it: log entries 46, 47, 79. -/
def Obligations.PtpIsSentAndTimeIsLost : Prop :=
  ((∀ s, ocSends s.d = true → ocState s.d = 6 → Does (exec .ptpMasterSync s) s (fun e =>
    e = { s.d.fresh with tb := { s.d.tb with fwd := none, out := [⟨0, 2, s.d.tb.seqSync, ptpNow s.d, 0, none⟩], seqSync := (s.d.tb.seqSync + 1) % 65536 } })) ∧
  (∀ s, ocSends s.d = true → ocState s.d = 6 → Does (exec .ptpAnnounceSend s) s (fun e =>
    e = { s.d.fresh with tb := { s.d.tb with fwd := none, out := [⟨11, 2, s.d.tb.seqAnn, 0, 0, some (ownAnn s.d)⟩], seqAnn := (s.d.tb.seqAnn + 1) % 65536 } } ∧
    (ownAnn s.d).clockClass = (if tState s.d = 0 then s.d.g bTb F.PTP_DS_CLASS_FREE else s.d.g bTb F.PTP_DS_CLASS_HO) ∧ (ownAnn s.d).gm = clockId ∧ (ownAnn s.d).steps = 0)) ∧
  (∀ s m, ocSends s.d = true → s.d.gb bTb F.PTP_CFG_DELAY = false → (ocState s.d = 8 ∨ ocState s.d = 9) → s.d.tb.master = some m → Does (exec .ptpDelayReqSend s) s (fun e =>
    e = { s.d.fresh with tb := { s.d.tb with fwd := none, seqDreq := (s.d.tb.seqDreq + 1) % 65536, dreq := some (s.d.tb.seqDreq, ptpNow s.d * 2000 + latTx s.d m.sg), out := [⟨1, m.sg, s.d.tb.seqDreq, ptpNow s.d, 0 - rndDiv (asymOf s.d m.sg) 2000, none⟩] } })) ∧
  (∀ s, ocSends s.d = true → s.d.gb bTb F.PTP_CFG_DELAY = true → Does (exec .ptpDelayReqSend s) s (fun e => (∀ m ∈ e.tb.out, m.type = 2 ∧ m.seq = s.d.tb.seqDreq) ∧
    ∀ p < 2, (linkUp s.d p = true → (∃ m ∈ e.tb.out, m.port = p) ∧ (p, s.d.tb.seqDreq, (ptpNow s.d * 2000 : Int) + latTx s.d p) ∈ e.tb.pdreq) ∧ (linkUp s.d p = false → ∀ m ∈ e.tb.out, m.port ≠ p))) ∧
  ∀ s c, c ∈ [Instr.ptpMasterSync, .ptpAnnounceSend, .ptpDelayReqSend] → ocSends s.d = false → Does (exec c s) s (fun e => e = { s.d.fresh with tb := { s.d.tb with out := [], fwd := none } })) ∧
  ((∀ s, (s.d.tb.master = none ∨ s.d.tick < s.d.tb.syncAt + s.d.g bTb F.PTP_INTV_SYNC_TMO * intvTicks (sgn 4 (s.d.g bTb F.PTP_INTV_LOG_SYNC))) → Does (exec .syncTimeout s) s (fun e => e = s.d.fresh)) ∧
  (∀ s m, s.d.tb.master = some m → s.d.tb.syncAt + s.d.g bTb F.PTP_INTV_SYNC_TMO * intvTicks (sgn 4 (s.d.g bTb F.PTP_INTV_LOG_SYNC)) ≤ s.d.tick → Does (exec .syncTimeout s) s (fun e => e.gb bTb F.TB_STATUS_QUALIFIED = false ∧ e.tb.master = some m ∧
    (tState s.d = 2 → tState e = 1 ∧ e.gb bTb F.TB_STICKY_LOSS = true ∧ Raised e 0x184 0x1104 (some true) ∧ e.tb.hoFrom = s.d.tick) ∧ (tState s.d ≠ 2 → tState e = tState s.d ∧ e.due = s.d.due) ∧
    (s.d.tb.hist = [] → e.g bTb F.TB_ADDEND_ADDEND = s.d.g bTb F.TB_ADDEND_ADDEND) ∧
    (∀ n (v : Int), s.d.tb.hist = List.replicate n v → 0 < n → n ≤ 64 → e.g bTb F.TB_ADDEND_ADDEND = usg 32 (sat32 (rndDiv (n * v * 4398046511104) (n * 256000000000)))))) ∧
  (∀ s, s.d.tick < s.d.tb.annAt + s.d.g bTb F.PTP_INTV_ANN_TMO * intvTicks (sgn 4 (s.d.g bTb F.PTP_INTV_LOG_ANN)) → Does (exec .announceTimeout s) s (fun e => e = s.d.fresh)) ∧
  (∀ s, s.d.tb.master = none → s.d.tb.annAt + s.d.g bTb F.PTP_INTV_ANN_TMO * intvTicks (sgn 4 (s.d.g bTb F.PTP_INTV_LOG_ANN)) ≤ s.d.tick → Does (exec .announceTimeout s) s (fun e => e.tb.foreign = [] ∧ e.tb.annAt = s.d.tick ∧ e.tb.master = none ∧
    ocState e = (if s.d.gb bTb F.PTP_CFG_SLAVE_ONLY then 4 else 6) ∧ tState e = tState s.d ∧ e.due = s.d.due)) ∧
  (∀ s m, s.d.tb.master = some m → s.d.tb.annAt + s.d.g bTb F.PTP_INTV_ANN_TMO * intvTicks (sgn 4 (s.d.g bTb F.PTP_INTV_LOG_ANN)) ≤ s.d.tick → (∀ f ∈ s.d.tb.foreign, f.m = m ∨ f.count < 2) → Does (exec .announceTimeout s) s (fun e => e.tb.annAt = s.d.tick ∧ e.tb.master = none ∧ (∀ f ∈ e.tb.foreign, f.m ≠ m) ∧
    e.gb bTb F.TB_STATUS_QUALIFIED = false ∧ ocState e = (if s.d.gb bTb F.PTP_CFG_SLAVE_ONLY then 4 else 6) ∧
    (tState s.d = 2 → tState e = 1 ∧ Raised e 0x184 0x1104 (some true)))) ∧
  (∀ s (q : Fin 2), Does (exec (.sgLinkLoss q) s) s (fun e => linkUp e q.val = false ∧ e.gb (bPtpPort q.val) F.PTP_PSTATUS_PEER_OK = false ∧ (∀ f ∈ e.tb.foreign, f.m.sg ≠ q.val) ∧
    (∀ m, s.d.tb.master = some m → m.sg = q.val → e.gb bTb F.TB_STATUS_QUALIFIED = false ∧ (tState s.d = 2 → tState e = 1 ∧ Raised e 0x184 0x1104 (some true))) ∧
    ((∀ m, s.d.tb.master = some m → m.sg ≠ q.val) → tState e = tState s.d ∧ e.due = s.d.due ∧ ∀ a, a ≠ bPtpPort q.val + F.PTP_PSTATUS.off → e.rd a = s.d.rd a))) ∧
  (∀ s (q : Fin 2), Does (exec (.sgLinkUp q) s) s (fun e => linkUp e q.val = true ∧ (∀ a, a ≠ bPtpPort q.val + F.PTP_PSTATUS.off → e.rd a = s.d.rd a) ∧ e = { s.d.fresh with regs := e.regs })) ∧
  (∀ s, (tState s.d ≠ 1 ∨ s.d.tick < s.d.tb.hoFrom + s.d.g bTb F.TB_CFG_HO_MAX * 250000000) → Does (exec .holdoverMaxElapsed s) s (fun e => e = s.d.fresh)) ∧
  ∀ s, tState s.d = 1 → s.d.tb.hoFrom + s.d.g bTb F.TB_CFG_HO_MAX * 250000000 ≤ s.d.tick → Does (exec .holdoverMaxElapsed s) s (fun e => tState e = 0 ∧ (∀ a, a ≠ bTb + F.TB_STATUS.off → e.rd a = s.d.rd a) ∧ e = { s.d.fresh with regs := e.regs }))

/-- R579, R569, R590, R591: TB_CTRL.STEP adds the signed sum of TB_STEP_SEC and TB_STEP_NS to the time value in LOAD and HOLD, and is refused with 0x0A04 in the other modes. A read of TB_NS latches the fraction, the seconds and the tick count with it. A timed output whose start the time value reaches within the present tick gives its pulse unless it floats; a single one is then DONE, a periodic one waits for the next. Choices of the model in it: log entry 48. -/
def Obligations.TimeStepsReadsAndPulses : Prop :=
  (∀ p s, HostReady p s → (s.d.mode = .load ∨ s.d.mode = .hold) → Serves (exec (.tbStep p) s) s (fun _ nv e => nv = s.nv ∧ e.g bTb F.TB_STATUS_RESULT = 0 ∧ e.gb bTb F.TB_STICKY_STEPPED = true ∧ e.tick = s.d.tick ∧
    (timeVal e : Int) = ((timeVal s.d : Int) + (s.d.gi bTb F.TB_STEP_SEC_SEC * 1000000000 + s.d.gi bTb F.TB_STEP_NS_NS) * 2 ^ 40) % (2 ^ 48 * 10 ^ 9 * 2 ^ 40))) ∧
  (∀ p s, HostReady p s → s.d.mode ≠ .load → s.d.mode ≠ .hold → Serves (exec (.tbStep p) s) s (fun d nv e => nv = s.nv ∧ e.g bTb F.TB_STATUS_RESULT = 0x0A04 ∧ e.rest = d.rest ∧
    KeepsRegs d e [bTb + F.TB_STATUS.off])) ∧
  (∀ p s, HostReady p s → Goes (exec (.tbNsRead p) s) (fun t => t.nv = s.nv ∧ t.pending = s.pending ∧ t.d.g bTb F.TB_NS_NS = s.d.tb.ns % 2 ^ 30 ∧ t.d.g bTb F.TB_SUBNS_SUBNS = s.d.tb.sub / 2 ^ 24 % 2 ^ 16 ∧
    t.d.g bTb F.TB_SEC_LO_SEC = s.d.tb.sec % 2 ^ 32 ∧ t.d.g bTb F.TB_SEC_HI_SEC = s.d.tb.sec / 2 ^ 32 % 2 ^ 16 ∧ t.d.g bTb F.TB_TICK_LO_TICK = s.d.tick % 2 ^ 32 ∧
    t.d.g bTb F.TB_TICK_HI_TICK = s.d.tick / 2 ^ 32 % 2 ^ 32 ∧ t.d.rest = s.d.rest ∧
    KeepsRegs s.d t.d [bTb + F.TB_NS.off, bTb + F.TB_SUBNS.off, bTb + F.TB_SEC_LO.off, bTb + F.TB_SEC_HI.off, bTb + F.TB_TICK_LO.off, bTb + F.TB_TICK_HI.off])) ∧
  (∀ s (k : Fin 8), s.d.enabled (.tpo k.val) = true → (s.d.tpo k.val).armed = true → s.d.mode ≠ .load → tpoDue s.d k.val = true → Does (exec (.tpoPulse k) s) s (fun e =>
    let a : Nat := tpoStart s.d k.val + (s.d.tpo k.val).next * s.d.g (bTpo k.val) F.TPO_PERIOD_PERIOD
    (tpoFloats s.d = false → (e.tpo k.val).pulse = some (((a * nsPart : Nat) : Int), (((a + s.d.g (bTpo k.val) F.TPO_WIDTH_WIDTH) * nsPart : Nat) : Int))) ∧ (tpoFloats s.d = true → (e.tpo k.val).pulse = (s.d.tpo k.val).pulse) ∧
    (s.d.gb (bTpo k.val) F.TPO_CFG_MODE = true → (e.tpo k.val).next = (s.d.tpo k.val).next + 1 ∧ (e.tpo k.val).armed = true ∧ e.regs = s.d.regs) ∧
    (s.d.gb (bTpo k.val) F.TPO_CFG_MODE = false → (e.tpo k.val).armed = false ∧ e.gb (bTpo k.val) F.TPO_STATUS_DONE = true ∧ e.gb (bTpo k.val) F.TPO_STATUS_RUNNING = false) ∧
    (∀ j, j ≠ k.val → e.tpo j = s.d.tpo j) ∧ (∀ a, a ≠ bTpo k.val + F.TPO_STATUS.off → e.rd a = s.d.rd a) ∧ e = { s.d.fresh with regs := e.regs, tpos := e.tpos })) ∧
  (∀ d k, tpoDue d k = true ↔ nowFine d ≤ tpoNext d k * nsPart ∧ (tpoNext d k * nsPart : Int) < (nowFine d : Int) + 4 * 2 ^ 40 + addend d) ∧
  ∀ s (k : Fin 8), (s.d.enabled (.tpo k.val) = false ∨ (s.d.tpo k.val).armed = false ∨ s.d.mode = .load ∨ tpoDue s.d k.val = false) → Does (exec (.tpoPulse k) s) s (fun e => e = s.d.fresh)

/-- R603 to R605, R610, R596: a valid frame lowers REC by 1 (to a free value of 119 to 127 from above 127, which the spec leaves to its standard) and is stored in the lowest matching receive object, with OVERRUN where NEW stood; without OVERWRITE the older frame stays; a frame that matches none is counted. A receive error raises REC and shows its code; a protocol exception starts integration, or with PXHD is a form error. A read of OBJ_RXINFO latches information, length, time stamp and data of the stored frame. A controller off the bus takes nothing, and a frame with fields out of range stops (log entry 31). R606, R607, R614: REQ makes an enabled transmit object that waits for nothing PENDING, from CONFLICT with its conflicts at 0; ABORT takes back a PENDING, held or SUSPENDED one and is noted for one in transmission; OBJ_DATA takes a write while a transmit object waits for nothing. Choices of the model in it: log entries 49, 50, 82. -/
def Obligations.CanFramesAndRequests : Prop :=
  ((∀ s (c : Fin 2) f stamp o, f.wf = true → onBus s.d c.val = true → (f.fdf = true → s.d.gb (bCan c.val) F.CAN_CFG_FD_EN = true) → f.rtr = false → o < 512 →
    (objsOf s.d c.val).find? (rxMatches s.d f) = some o → (s.d.gb (bObj o) F.OBJ_STATUS_NEW = false ∨ s.d.gb (bObj o) F.OBJ_CFG_OVERWRITE = true) →
    Does (exec (.canRxFrame c f stamp) s) s (fun e => e.gb (bObj o) F.OBJ_STATUS_NEW = true ∧ (s.d.gb (bObj o) F.OBJ_STATUS_NEW = true → e.gb (bObj o) F.OBJ_STATUS_OVERRUN = true) ∧
      (e.obj o).stamp = stamp ∧ (e.obj o).data = (upto 16).map (fun k => w32 (fieldLE (f.data.take (dlcLen f.dlc f.fdf)) (4 * k) 4)) ∧
      (e.obj o).info = w32 (f.id + 2 ^ 29 * b2n f.fdf + 2 ^ 30 * b2n f.brs + 2 ^ 31 * b2n f.esi) ∧ (e.obj o).len = w32 (f.dlc + 65536 * dlcLen f.dlc f.fdf) ∧
      (∀ j, j ≠ o → e.obj j = s.d.obj j) ∧ ((s.d.canc c.val).recc ≤ 127 → (e.canc c.val).recc = (s.d.canc c.val).recc - 1) ∧
      (127 < (s.d.canc c.val).recc → 119 ≤ (e.canc c.val).recc ∧ (e.canc c.val).recc ≤ 127) ∧ (e.canc c.val).tec = (s.d.canc c.val).tec ∧ e.canc (1 - c.val) = s.d.canc (1 - c.val) ∧
      (∀ a, a ∉ [bObj o + F.OBJ_STATUS.off, bCan c.val + F.CAN_STATUS.off, bCan c.val + F.CAN_STICKY.off, bCan (o / 256) + F.CAN_STICKY.off] → e.rd a = s.d.rd a))) ∧
  (∀ s (c : Fin 2) f stamp o, f.wf = true → onBus s.d c.val = true → (f.fdf = true → s.d.gb (bCan c.val) F.CAN_CFG_FD_EN = true) → f.rtr = false → o < 512 →
    (objsOf s.d c.val).find? (rxMatches s.d f) = some o → s.d.gb (bObj o) F.OBJ_STATUS_NEW = true → s.d.gb (bObj o) F.OBJ_CFG_OVERWRITE = false →
    Does (exec (.canRxFrame c f stamp) s) s (fun e => e.gb (bObj o) F.OBJ_STATUS_OVERRUN = true ∧ e.gb (bObj o) F.OBJ_STATUS_NEW = true ∧ e.objs = s.d.objs)) ∧
  (∀ s (c : Fin 2) f stamp, f.wf = true → onBus s.d c.val = true → f.rtr = true → (f.fdf = true → s.d.gb (bCan c.val) F.CAN_CFG_FD_EN = true) → Does (exec (.canRxFrame c f stamp) s) s (fun e => e.objs = s.d.objs ∧
    e.g (bCan c.val) F.CAN_ERR_RX_UNMATCHED = s.d.g (bCan c.val) F.CAN_ERR_RX_UNMATCHED)) ∧
  (∀ s (c : Fin 2) f stamp, f.wf = true → onBus s.d c.val = true → f.fdf = true → s.d.gb (bCan c.val) F.CAN_CFG_FD_EN = false → Does (exec (.canRxFrame c f stamp) s) s (fun e =>
    (s.d.gb (bCan c.val) F.CAN_CFG_PXHD = false → e.gb (bCan c.val) F.CAN_STICKY_PXE = true ∧ canState e c.val = 1 ∧ e = { s.d.fresh with regs := e.regs }) ∧
    (s.d.gb (bCan c.val) F.CAN_CFG_PXHD = true → (e.canc c.val).recc = (s.d.canc c.val).recc + 1 ∧ e.g (bCan c.val) F.CAN_ERR_LEC = 2 ∧ e.gb (bCan c.val) F.CAN_ERR_LEC_DATA = false ∧
      e.objs = s.d.objs ∧ e = { s.d.fresh with regs := e.regs, cans := e.cans }))) ∧
  (∀ s (c : Fin 2) f stamp, f.wf = true → onBus s.d c.val = true → (f.fdf = true → s.d.gb (bCan c.val) F.CAN_CFG_FD_EN = true) → f.rtr = false → (objsOf s.d c.val).find? (rxMatches s.d f) = none →
    Does (exec (.canRxFrame c f stamp) s) s (fun e => e.g (bCan c.val) F.CAN_ERR_RX_UNMATCHED = (s.d.g (bCan c.val) F.CAN_ERR_RX_UNMATCHED + 1) % 256 ∧ e.objs = s.d.objs)) ∧
  (∀ s (c : Fin 2) lec dp up, onBus s.d c.val = true → lec < 8 → Does (exec (.canErrorFrame c (.error lec dp up)) s) s (fun e => (e.canc c.val).recc = (s.d.canc c.val).recc + up ∧
    e.g (bCan c.val) F.CAN_ERR_LEC = lec ∧ e.gb (bCan c.val) F.CAN_ERR_LEC_DATA = dp ∧ e.objs = s.d.objs ∧
    canState e c.val = (if canState s.d c.val = 1 then 1 else if 128 ≤ (s.d.canc c.val).tec ∨ 128 ≤ (s.d.canc c.val).recc + up then 3 else 2))) ∧
  (∀ s (c : Fin 2), onBus s.d c.val = true → Does (exec (.canErrorFrame c .exception) s) s (fun e =>
    (s.d.gb (bCan c.val) F.CAN_CFG_PXHD = false → e.gb (bCan c.val) F.CAN_STICKY_PXE = true ∧ canState e c.val = 1 ∧ e = { s.d.fresh with regs := e.regs }) ∧
    (s.d.gb (bCan c.val) F.CAN_CFG_PXHD = true → (e.canc c.val).recc = (s.d.canc c.val).recc + 1 ∧ e.g (bCan c.val) F.CAN_ERR_LEC = 2 ∧ e.gb (bCan c.val) F.CAN_ERR_LEC_DATA = false ∧
      e.objs = s.d.objs ∧ e = { s.d.fresh with regs := e.regs, cans := e.cans }))) ∧
  (∀ s (c : Fin 2) f stamp x, onBus s.d c.val = false → Does (exec (.canErrorFrame c x) s) s (fun e => e = s.d.fresh) ∧ (f.wf = true → Does (exec (.canRxFrame c f stamp) s) s (fun e => e = s.d.fresh)) ∧
    (f.wf = false → exec (.canRxFrame c f stamp) s = .fault .malformedOperand)) ∧
  ∀ p (o : Fin 512) s, HostReady p s → Goes (exec (.objRxinfoRead p o) s) (fun t => t.nv = s.nv ∧ t.pending = s.pending ∧ t.d.rest = s.d.rest ∧
    (s.d.g (bObj o.val) F.OBJ_CFG_DIR = 1 → t.d.rd (bObj o.val + F.OBJ_RXINFO.off) = (s.d.obj o.val).info ∧ t.d.rd (bObj o.val + F.OBJ_RXLEN.off) = (s.d.obj o.val).len ∧
      t.d.rd (bObj o.val + F.OBJ_TSTAMP.off) = (s.d.obj o.val).stamp ∧ (∀ k < 16, t.d.rd (bObj o.val + F.OBJ_DATA.off + 4 * k) = (s.d.obj o.val).data.getD k 0#32) ∧
      (p = .spi → t.d.hs.spiOut = [(s.d.obj o.val).info])) ∧
    (s.d.g (bObj o.val) F.OBJ_CFG_DIR ≠ 1 → KeepsRegs s.d t.d []))) ∧
  ((∀ p (o : Fin 512) v s, HostReady p s → getBits v 0 2 = 1 → s.d.g (bObj o.val) F.OBJ_CFG_DIR ≠ 1 → s.d.enabled (.obj o.val) = true → isAlarm s.d o.val = false → takesPart s.d o.val = true →
    objState s.d o.val ∈ [0, 4, 5, 6] → Serves (exec (.objCmdReq p o v) s) s (fun d nv e => nv = s.nv ∧ objState e o.val = 1 ∧ (objState s.d o.val = 6 → e.g (bObj o.val) F.OBJ_STATUS_CONFLICTS = 0) ∧
      e.rest = d.rest ∧ KeepsRegs d e [])) ∧
  (∀ p (o : Fin 512) v s, HostReady p s → getBits v 0 2 = 2 → isAlarm s.d o.val = false →
    ((takesPart s.d o.val = true ∧ objState s.d o.val ∈ [1, 2, 3]) ∨ (takesPart s.d o.val = false ∧ objState s.d o.val = 7)) →
    Serves (exec (.objCmdAbort p o v) s) s (fun d nv e => nv = s.nv ∧ (objState s.d o.val ≠ 2 → objState e o.val = 0) ∧ (objState s.d o.val = 2 → objState e o.val = 2 ∧ (e.obj o.val).abort = true) ∧
      ((d.canc (o.val / 256)).first ≠ some o.val → e.cans = d.cans) ∧ e.rest = { d.rest with cans := e.cans } ∧ KeepsRegs d e [])) ∧
  ∀ p (o : Fin 512) (w : Fin 16) v s, HostReady p s → isTx s.d o.val = true → isAlarm s.d o.val = false → takesPart s.d o.val = true → objState s.d o.val ∈ [0, 4, 5, 6] →
    Serves (exec (.objDataWrite p o w v) s) s (fun d nv e => nv = s.nv ∧ e.rd (bObj o.val + F.OBJ_DATA.off + 4 * w.val) = v ∧ e.rest = d.rest ∧ KeepsRegs d e [bObj o.val + F.OBJ_DATA.off + 4 * w.val]))

/-- R601, R606 to R613, R618: the PENDING transmit object of the lowest arbitration field goes into transmission with its data, or before any other the object held since a bus-off. Success lowers TEC and leaves the object DONE; lost arbitration makes it PENDING again; an error raises TEC by 8, counts a retry, and leaves it PENDING, FAILED at its limit, CONFLICT at its conflict limit, or TX_HELD when TEC passes 255: the controller is then off the bus, or recovers at once under AUTO_RECOV. RECOVER starts recovery; its end returns the counters to 0 and sends the held object first. A measured transmitter delay is shown in TDCV; with an offset beyond the range it makes the attempt fail with a bit error of the data phase, of either kind. The standby applies an attempt's end to its own object. Choices of the model in it: log entries 49, 50. -/
def Obligations.CanAttemptsRun : Prop :=
  (∀ s (c : Fin 2) o, onBus s.d c.val = true → s.d.owns = true → (s.d.canc c.val).cur = none →
    (((∀ h, (s.d.canc c.val).first = some h → objState s.d h ≠ 3) ∧ nextTx s.d c.val = some o) ∨ ((s.d.canc c.val).first = some o ∧ objState s.d o = 3)) → o < 512 → isAlarm s.d o = false →
    Does (exec (.canTxStart c) s) s (fun e => (e.canc c.val).cur = some o ∧ objState e o = 2 ∧ (e.obj o).abort = false ∧
      (e.obj o).sent = ((upto 16).flatMap (fun k => leBytes 4 (s.d.rd (bObj o + F.OBJ_DATA.off + 4 * k)).toNat)).take (dlcLen (s.d.g (bObj o) F.OBJ_CFG_DLC) (s.d.g (bObj o) F.OBJ_CFG_FMT == 1)))) ∧
  (∀ d c o, nextTx d c = some o → o ∈ objsOf d c ∧ isTx d o = true ∧ objState d o = 1 ∧ ∀ j ∈ objsOf d c, isTx d j = true → objState d j = 1 → isAlarm d j = false → arbKey d o ≤ arbKey d j) ∧
  (∀ s (c : Fin 2), (onBus s.d c.val = false ∨ s.d.owns = false ∨ (s.d.canc c.val).cur ≠ none) → Does (exec (.canTxStart c) s) s (fun e => e = s.d.fresh)) ∧
  (∀ s (c : Fin 2) o v, (s.d.canc c.val).cur = some o → o < 512 → s.d.gb (bCan c.val) F.CAN_CFG_TDC_EN = true → s.d.g (bObj o) F.OBJ_CFG_FMT = 1 → s.d.gb (bObj o) F.OBJ_CFG_BRS = true →
    s.d.g (bCan c.val) F.CAN_TDC_TDCF ≤ v.toNat → Does (exec (.canTxEnd c .ok (some v)) s) s (fun e => e.g (bCan c.val) F.CAN_STATUS_TDCV = v.toNat ∧
      (127 < v.toNat + s.d.g (bCan c.val) F.CAN_TDC_TDCO → (e.canc c.val).tec = (s.d.canc c.val).tec + 8 ∧ (e.g (bCan c.val) F.CAN_ERR_LEC = 4 ∨ e.g (bCan c.val) F.CAN_ERR_LEC = 5) ∧
        e.gb (bCan c.val) F.CAN_ERR_LEC_DATA = true))) ∧
  (∀ s (c : Fin 2) o tdcv, (s.d.canc c.val).cur = some o → o < 512 → (s.d.canc c.val).tec < 256 →
    (∀ v, tdcv = some v → s.d.gb (bCan c.val) F.CAN_CFG_TDC_EN = false ∨ v.toNat + s.d.g (bCan c.val) F.CAN_TDC_TDCO ≤ 127) → Does (exec (.canTxEnd c .ok tdcv) s) s (fun e => (e.canc c.val).tec = (s.d.canc c.val).tec - 1 ∧
    (e.canc c.val).cur = none ∧ objState e o = 4 ∧ e.g (bObj o) F.OBJ_STATUS_CONFLICTS = 0 ∧ e.g (bObj o) F.OBJ_STATUS_RETRIES = 0 ∧
    canState e c.val = (if 128 ≤ (s.d.canc c.val).tec - 1 ∨ 128 ≤ (s.d.canc c.val).recc then 3 else 2))) ∧
  (∀ s (c : Fin 2) o tdcv, (s.d.canc c.val).cur = some o → o < 512 → o / 256 = c.val → (s.d.canc c.val).tec < 256 → (s.d.obj o).abort = false → (s.d.canc c.val).first ≠ some o →
    s.d.gb (bCan c.val) F.CAN_CFG_ARB_RETRY_LIMIT = false → Does (exec (.canTxEnd c .arbLost tdcv) s) s (fun e => (e.canc c.val).tec = (s.d.canc c.val).tec ∧ (e.canc c.val).cur = none ∧ objState e o = 1 ∧
      e.g (bObj o) F.OBJ_STATUS_ARB_LOST = (s.d.g (bObj o) F.OBJ_STATUS_ARB_LOST + 1) % 256 ∧ e.g (bObj o) F.OBJ_STATUS_CONFLICTS = 0)) ∧
  (∀ s (c : Fin 2) o lec dp conflict tdcv, (s.d.canc c.val).cur = some o → o < 512 → (s.d.obj o).abort = false → (s.d.canc c.val).first ≠ some o → s.d.g (bObj o) F.OBJ_STATUS_RETRIES < 15 →
    s.d.g (bObj o) F.OBJ_CFG_RETRY < 15 → lec < 8 → Does (exec (.canTxEnd c (.err lec dp conflict false) tdcv) s) s (fun e =>
      (e.canc c.val).tec = (s.d.canc c.val).tec + 8 ∧ e.g (bCan c.val) F.CAN_ERR_LEC = lec ∧ e.g (bObj o) F.OBJ_STATUS_RETRIES = s.d.g (bObj o) F.OBJ_STATUS_RETRIES + 1 ∧
      (256 ≤ (s.d.canc c.val).tec + 8 → objState e o = 3 ∧ canState e c.val = (if s.d.gb (bCan c.val) F.CAN_CFG_AUTO_RECOV then 5 else 4) ∧ Raised e (0x188 + c.val) (0x1108 + c.val) none) ∧
      ((s.d.canc c.val).tec + 8 < 256 → conflict = false → objState e o = (if s.d.g (bObj o) F.OBJ_CFG_RETRY < s.d.g (bObj o) F.OBJ_STATUS_RETRIES + 1 then 5 else 1) ∧
        e.g (bObj o) F.OBJ_STATUS_CONFLICTS = 0 ∧ canState e c.val = (if 128 ≤ (s.d.canc c.val).tec + 8 ∨ 128 ≤ (s.d.canc c.val).recc then 3 else 2)) ∧
      ((s.d.canc c.val).tec + 8 < 256 → conflict = true → s.d.g (bObj o) F.OBJ_STATUS_CONFLICTS < 15 → s.d.g (bObj o) F.OBJ_CFG_RETRY ≤ s.d.g (bObj o) F.OBJ_STATUS_CONFLICTS →
        objState e o = 6 ∧ e.gb (bCan c.val) F.CAN_STICKY_ID_CONFLICT = true ∧ Raised e 0x18A 0x110A none))) ∧
  (∀ p (c : Fin 2) v s, HostReady p s → getBits v 0 1 = 1 → canState s.d c.val = 4 → s.d.gb (bCan c.val) F.CAN_CFG_AUTO_RECOV = false → Serves (exec (.canRecover p c v) s) s (fun d nv e => nv = s.nv ∧
    canState e c.val = 5 ∧ e.rest = d.rest ∧ KeepsRegs d e [bCan c.val + F.CAN_STATUS.off])) ∧
  (∀ s (c : Fin 2), canState s.d c.val = 5 → Does (exec (.canRecoveryEnd c) s) s (fun e => (e.canc c.val).tec = 0 ∧ (e.canc c.val).recc = 0 ∧ (e.canc c.val).cur = none ∧ canState e c.val = 2 ∧
    (∀ o, heldTx s.d c.val = some o → o < 512 → (e.canc c.val).first = some o ∧ e.g (bObj o) F.OBJ_STATUS_RETRIES = 0) ∧ (heldTx s.d c.val = none → (e.canc c.val).first = (s.d.canc c.val).first) ∧
    e.canc (1 - c.val) = s.d.canc (1 - c.val))) ∧
  (∀ s (c : Fin 2), canState s.d c.val ≠ 5 → Does (exec (.canRecoveryEnd c) s) s (fun e => e = s.d.fresh)) ∧
  (∀ s (o : Fin 512), s.d.follows = true → s.d.enabled (.obj o.val) = true → isTx s.d o.val = true → Does (exec (.mirrorCanAttempt o .ok false) s) s (fun e => objState e o.val = 4 ∧
    e.g (bObj o.val) F.OBJ_STATUS_CONFLICTS = 0 ∧ e.g (bObj o.val) F.OBJ_STATUS_RETRIES = 0 ∧ e.cans = s.d.cans ∧ ∀ a, a ≠ bObj o.val + F.OBJ_STATUS.off → e.rd a = s.d.rd a)) ∧
  ∀ s (o : Fin 512) x b, s.d.follows = false → Does (exec (.mirrorCanAttempt o x b) s) s (fun e => e = s.d.fresh)

/-- R625, R628 to R630, R634: a request in ON asks the agents of R630 in order or is refused by the tests of R629; each ACK asks the next one, the last ends the transition at its target; DELAY gives an agent with work of its kind 1 ms, once (what work that is for NET, and the bound, are log entry 104); REFUSE and a passed DELAY abort with the reason. A wake source in DOZE or SLEEP requests ON and is named as the cause; on the way there its request waits in place of another; an input does so when its comparator has held true for FILT ms. Choices of the model in it: log entry 51. -/
def Obligations.PowerTransitions : Prop :=
  (∀ p v s, HostReady p s → Serves (exec (.pwrReq p v) s) s (fun d nv e => nv = s.nv ∧ e.g bPwr F.PWR_REQ_TARGET = getBits v 0 2 ∧ pwrState e = 0 ∧
    (getBits v 0 2 = 0 → e.g bPwr F.PWR_STATE_RESULT = 0 ∧ pwrTrans e = false ∧ e.rest = d.rest) ∧
    (getBits v 0 2 ≠ 0 → pwrRefusal (getBits v 0 2) s.d = none → e.pwr = { s.d.pwr with agents := agentsFor 0 (getBits v 0 2), done := [], until_ := none } ∧ pwrTrans e = true ∧
      pwrTarget e = getBits v 0 2 ∧ e.g bPwr F.PWR_STATE_RESULT = 0 ∧ e.rest = { d.rest with pwr := e.pwr }) ∧
    (getBits v 0 2 ≠ 0 → ∀ a r, pwrRefusal (getBits v 0 2) s.d = some (a, r) → e.g bPwr F.PWR_STATE_RESULT = r ∧ e.g bPwr ⟨F.PWR_AGENT.off, 2 * a, 2⟩ = 3 ∧ pwrTrans e = false ∧ e.rest = d.rest) ∧
    KeepsRegs d e [bPwr + F.PWR_REQ.off, bPwr + F.PWR_STATE.off, bPwr + F.PWR_AGENT.off])) ∧
  agentsFor 0 1 = [4, 2, 3, 5] ∧ agentsFor 0 2 = [4, 2, 1] ∧ agentsFor 0 3 = [4, 2, 3, 5, 1] ∧ agentsFor 3 0 = [1, 5, 3, 2, 4] ∧
  (∀ t d, (d.mode = .load → t ≠ 0 → pwrRefusal t d = some (1, 0x0C03)) ∧ (d.mode ≠ .load → d.mode ≠ .hold → 2 ≤ t → pwrRefusal t d = some (1, 0x0C01)) ∧
    (d.mode = .hold → (d.role = .active ∨ d.role = .standby) → 2 ≤ t → pwrRefusal t d = some (1, 0x0C02)) ∧
    (d.mode = .hold → (d.role = .solo ∨ d.role = .out) → 1 ≤ d.shed → 2 ≤ t → pwrRefusal t d = some (0, 0x0C04)) ∧ (d.mode ≠ .load → t ≤ 1 → pwrRefusal t d = none)) ∧
  (∀ s a b l, pwrTrans s.d = true → s.d.pwr.agents = a :: b :: l → a ≤ 5 → (∀ u, s.d.pwr.until_ = some u → s.d.tick ≤ u) → Does (exec (.agentAnswer .ack) s) s (fun e => e.pwr.agents = b :: l ∧ e.pwr.done = s.d.pwr.done ++ [a] ∧ e.pwr.until_ = none ∧
    e.g bPwr ⟨F.PWR_AGENT.off, 2 * a, 2⟩ = 1 ∧ pwrTrans e = true ∧ pwrState e = pwrState s.d)) ∧
  (∀ s a, pwrTrans s.d = true → s.d.pwr.agents = [a] → (∀ u, s.d.pwr.until_ = some u → s.d.tick ≤ u) → s.d.gb bPwr F.PWR_STATE_PEND_VALID = false → Does (exec (.agentAnswer .ack) s) s (fun e => pwrState e = pwrTarget s.d ∧ pwrTrans e = false ∧
    e.pwr.agents = [] ∧ e.g bDev F.DEV_IRQ_STATUS_PWR = 1)) ∧
  (∀ s a l m, pwrTrans s.d = true → s.d.pwr.agents = a :: l → a ≤ 5 → Does (exec (.agentAnswer (.delay m)) s) s (fun e =>
    (s.d.pwr.until_ = none → m = 1 → agentBusy a s.d = true → e.pwr = { s.d.pwr with until_ := some (s.d.tick + 250000) } ∧ e.g bPwr ⟨F.PWR_AGENT.off, 2 * a, 2⟩ = 2 ∧ e.g bPwr F.PWR_AGENT_DELAYING = a ∧ e.g bPwr F.PWR_AGENT_DELAY_MS = 1 ∧
      e = { s.d.fresh with regs := e.regs, pwr := e.pwr } ∧ KeepsRegs s.d e [bPwr + F.PWR_AGENT.off]) ∧
    ((s.d.pwr.until_ ≠ none ∨ m ≠ 1 ∨ agentBusy a s.d = false) → e = s.d.fresh))) ∧
  (∀ s c a l r, ((c = Instr.agentAnswer (.refuse r) ∧ ∀ u, s.d.pwr.until_ = some u → s.d.tick ≤ u) ∨ (c = .agentDelayExpired ∧ (∃ u, s.d.pwr.until_ = some u ∧ u ≤ s.d.tick) ∧ r = 0x0C07)) → pwrTrans s.d = true → s.d.pwr.agents = a :: l → a ≤ 5 → r < 65536 →
    s.d.gb bPwr F.PWR_STATE_PEND_VALID = false → Does (exec c s) s (fun e => e.g bPwr F.PWR_STATE_RESULT = r ∧ pwrTrans e = false ∧ pwrState e = pwrState s.d ∧ e.pwr.agents = [] ∧ e.pwr.done = [] ∧
      e.g bPwr ⟨F.PWR_AGENT.off, 2 * a, 2⟩ = 3)) ∧
  (∀ s, (s.d.pwr.agents = [] ∨ ∀ u, s.d.pwr.until_ = some u → s.d.tick < u) → Does (exec .agentDelayExpired s) s (fun e => e = s.d.fresh)) ∧
  (∀ s (code : Fin 16) levels, let a := s.d.pwr.cmpA.steps (s.d.rd (bPwr + F.PWR_WAKE_A.off)) levels
    let b := s.d.pwr.cmpB.steps (s.d.rd (bPwr + F.PWR_WAKE_B.off)) levels
    let hit := (code.val = 1 → a.2 = true) ∧ (code.val = 2 → b.2 = true)
    let p := { s.d.pwr with cmpA := if code.val = 1 then a.1 else s.d.pwr.cmpA, cmpB := if code.val = 2 then b.1 else s.d.pwr.cmpB }
    Does (exec (.wakeEvent code levels) s) s (fun e =>
      (hit → wakeEnabled code.val s.d = true → 2 ≤ pwrState s.d → pwrTrans s.d = false → pwrTrans e = true ∧ pwrTarget e = 0 ∧ e.pwr = { p with agents := agentsFor (pwrState s.d) 0, done := [], until_ := none } ∧
        e.g bPwr F.PWR_STATE_WAKE_CAUSE = (if s.d.g bPwr F.PWR_STATE_WAKE_CAUSE = 0 then code.val else s.d.g bPwr F.PWR_STATE_WAKE_CAUSE) ∧
        (∀ x, x ≠ bPwr + F.PWR_STATE.off → e.rd x = s.d.rd x) ∧ e = { s.d.fresh with regs := e.regs, pwr := e.pwr }) ∧
      (hit → wakeEnabled code.val s.d = true → 2 ≤ pwrTarget s.d → pwrTrans s.d = true → e.gb bPwr F.PWR_STATE_PEND_VALID = true ∧
        e.g bPwr F.PWR_STATE_PENDING = 0 ∧ pwrTarget e = pwrTarget s.d ∧ e.pwr = p) ∧
      ((¬ hit ∨ wakeEnabled code.val s.d = false ∨ (pwrState s.d < 2 ∧ (pwrTrans s.d = true → pwrTarget s.d < 2))) → e = { s.d.fresh with pwr := p }))) ∧
  (∀ w was mv, let th := 100 * getBits w F.PWR_WAKE_A_THRESH.lo F.PWR_WAKE_A_THRESH.w
    let lo := th - 50 * getBits w F.PWR_WAKE_A_HYS.lo F.PWR_WAKE_A_HYS.w
    (th < mv → (cmpOut w was mv = true ↔ getBits w F.PWR_WAKE_A_EDGE.lo 1 = 0)) ∧ (mv ≤ th → lo ≤ mv → cmpOut w was mv = was) ∧
      (mv ≤ th → mv < lo → (cmpOut w was mv = true ↔ getBits w F.PWR_WAKE_A_EDGE.lo 1 = 1))) ∧
  ∀ w c mv dt, ((Cmp.step w c mv dt).2 = true ↔ cmpOut w c.out mv = true ∧ ∃ n, (if c.out then c.run else some 0) = some n ∧ 250000 * getBits w F.PWR_WAKE_A_FILT.lo F.PWR_WAKE_A_FILT.w ≤ n + dt) ∧
    (Cmp.step w c mv dt).1.out = cmpOut w c.out mv

/-- R636, R638, R642, R700: VDD_CORE stays within 720 to 850 mV and follows SLACK by the steps of R636, or stands at VFIX. SUPPLY_INPUT is active while a monitored input lies outside 18 to 36 V, MODULE_TEMP from a sensor above its level until both lie 5 degrees under it; below shed stage S1 the health bit TEMP follows. Choices of the model in it: log entry 52. -/
def Obligations.CoreVoltageInputsAndTemperature : Prop :=
  (∀ s (slack : BitVec 8), Does (exec (.avsEvaluate slack) s) s (fun e => e.g bPwr F.PWR_AVS_STATUS_SLACK = slack.toNat ∧
    (s.d.gb bPwr F.PWR_AVS_MODE = true → e.pwr.vdd = (clampI (2 * s.d.g bPwr F.PWR_AVS_VFIX) 1440 1700).toNat) ∧
    (s.d.gb bPwr F.PWR_AVS_MODE = false →
      (2 * slack.toNat < s.d.g bPwr F.PWR_AVS_MARGIN → e.pwr.vdd = (clampI (s.d.pwr.vdd + 40) 1440 1700).toNat) ∧
      (s.d.g bPwr F.PWR_AVS_MARGIN ≤ 2 * slack.toNat → slack.toNat < s.d.g bPwr F.PWR_AVS_MARGIN → e.pwr.vdd = (clampI (s.d.pwr.vdd + 10) 1440 1700).toNat) ∧
      (s.d.g bPwr F.PWR_AVS_MARGIN ≤ slack.toNat → slack.toNat ≤ s.d.g bPwr F.PWR_AVS_MARGIN + 8 → e.pwr = { s.d.pwr with wide := none }) ∧
      (s.d.g bPwr F.PWR_AVS_MARGIN + 8 < slack.toNat → s.d.pwr.wide = none → e.pwr = { s.d.pwr with wide := some s.d.tick }) ∧
      (∀ t, s.d.g bPwr F.PWR_AVS_MARGIN + 8 < slack.toNat → s.d.pwr.wide = some t → t + 250000 ≤ s.d.tick → e.pwr.vdd = (clampI ((s.d.pwr.vdd : Int) - 5) 1440 1700).toNat)) ∧
    (1440 ≤ s.d.pwr.vdd → s.d.pwr.vdd ≤ 1700 → 1440 ≤ e.pwr.vdd ∧ e.pwr.vdd ≤ 1700) ∧
    (2 * slack.toNat < s.d.g bPwr F.PWR_AVS_MARGIN → s.d.pwr.vdd = 1700 → e.gb bPwr F.PWR_STICKY_AVS_CEIL = true) ∧
    (∀ a, a ∉ [bPwr + F.PWR_AVS_STATUS.off, bPwr + F.PWR_STICKY.off] → e.rd a = s.d.rd a) ∧ e = { s.d.fresh with regs := e.regs, pwr := e.pwr })) ∧
  (∀ s (inp : Fin 2) (mv : BitVec 16), let out := s.d.gb bPwr (if inp.val = 0 then F.PWR_CFG_VIN_A_MON else F.PWR_CFG_VIN_B_MON) && (mv.toNat < 18000 || 36000 < mv.toNat)
    Does (exec (.supplyInput inp mv) s) s (fun e => e.g bPwr (if inp.val = 0 then F.PWR_VIN_VIN_A else F.PWR_VIN_VIN_B) = mv.toNat ∧ e.pwr = { s.d.pwr with vinOut := bitPut s.d.pwr.vinOut inp.val out } ∧
      (s.d.pwr.vinOut = 0 → out = true → Raised e 0x18C 0x110C (some true) ∧ e.gb bPwr (if inp.val = 0 then F.PWR_STICKY_INPUT_A else F.PWR_STICKY_INPUT_B) = true) ∧
      (out = true → bitOf s.d.pwr.vinOut inp.val = false → e.gb bPwr (if inp.val = 0 then F.PWR_STICKY_INPUT_A else F.PWR_STICKY_INPUT_B) = true) ∧
      (s.d.pwr.vinOut = 2 ^ inp.val → out = false → Raised e 0x18C 0x110C (some false)) ∧ (s.d.pwr.vinOut = 0 → out = false → e.due = s.d.due) ∧
      (∀ a, a ∉ [bPwr + F.PWR_VIN.off, bPwr + F.PWR_STICKY.off] → e.rd a = s.d.rd a))) ∧
  ∀ s (face junc : BitVec 8), let lim : Int := if Config.variant = 2#8 then 90 else 75
    Does (exec (.moduleTemp face junc) s) s (fun e =>
      (s.d.pwr.hotOut = 0 → (lim < face.toInt ∨ 115 < junc.toInt) → Raised e 0x192 0x1112 (some true) ∧ (s.d.shed = 0 → e.gb bSs F.SS_HEALTH_TEMP = true) ∧ e.pwr.hotOut = b2n (decide (lim < face.toInt)) + 2 * b2n (decide (115 < junc.toInt))) ∧
      (s.d.pwr.hotOut ≠ 0 → face.toInt ≤ lim - 5 → junc.toInt ≤ 110 → Raised e 0x192 0x1112 (some false) ∧ (s.d.shed = 0 → e.gb bSs F.SS_HEALTH_TEMP = false) ∧ e.pwr.hotOut = 0) ∧
      (s.d.pwr.hotOut = 0 → face.toInt ≤ lim → junc.toInt ≤ 115 → e = s.d.fresh) ∧ (s.d.pwr.hotOut ≠ 0 → (lim - 5 < face.toInt ∨ 110 < junc.toInt) → e = s.d.fresh))

/-- R639 to R641, R643: a stage whose threshold VHOLD has passed takes its actions with those above it: S1 sets SHED_SEEN and the health bit SUPPLY and stops a background command that erases or programs, S2 closes the sessions, S3 stops the servo, S4 begins the last-gasp record or notes that it is skipped; each raises SHED, S4 severe with the floor SAFE; S5 resets the module with cause 4. Once VHOLD lies 0.3 V above the threshold, RECOVER ms after the stage was reached, it gives way to the one above. After S5 the module restarts with cause 4. R29, R645: a programmed last-gasp record stands in its sector, byte by byte ANDed with what was there, and the next sector of 256 becomes the target; when that one is erased every byte of it reads 0xFF and READY reads 1. No other byte of slot memory changes. Choices of the model in it: log entries 14, 15, 18. -/
def Obligations.ShedStagesAndLastGasp : Prop :=
  ((∀ s (stage : Fin 6) (v : BitVec 16), s.d.Quiet → stage.val ≤ 4 → s.d.shed < stage.val → v.toNat < shedThreshold stage.val → ∃ e,
    exec (.shedStageReached stage v) s = .next ((State.run s (fun _ => e)).run id) ∧ e.shed = stage.val ∧ e.g bPwr F.PWR_SHED_VHOLD = v.toNat ∧ e.pwr.shedAt = s.d.tick ∧
    (∃ ev : Ev, Due.event ev ∈ e.due ∧ ev.src = 0x18D ∧ ev.kind = 0x110D ∧ (ev.severe = true ↔ stage.val = 4) ∧ (ev.safe = true ↔ stage.val = 4)) ∧
    (s.d.shed = 0 → e.gb bPwr F.PWR_STICKY_SHED_SEEN = true ∧ e.gb bSs F.SS_HEALTH_SUPPLY = true ∧
      (∀ b, s.d.img.bg = some b → (∀ x y, b ≠ .read x y) → e.img.bgStop = true ∧ e.img.bgSag = true) ∧
      ((s.d.img.bg = none ∨ ∃ x y, s.d.img.bg = some (.read x y)) → e.img.bgStop = s.d.img.bgStop)) ∧
    (s.d.shed < 2 → 2 ≤ stage.val → e.hs.sess = []) ∧ (s.d.shed < 3 → 3 ≤ stage.val → tState s.d = 2 → tState e = 1) ∧
    (stage.val = 4 → e.pwr.lgBusy = true ∨ e.gb bPwr F.PWR_STICKY_LG_SKIPPED = true) ∧
    (stage.val = 4 → pwrState s.d ≠ 3 → s.d.gb bPwr F.PWR_LG_STATUS_READY = true → s.d.pair.withdrawn = false → s.d.mode ≠ .load →
      e.pwr.lgBusy = true ∧ e.gb bPwr F.PWR_LG_STATUS_READY = false ∧ e.pwr.lgRec.length = 256)) ∧
  (∀ s (stage : Fin 6) (v : BitVec 16), s.d.Quiet → ((stage.val ≤ s.d.shed ∧ stage.val ≤ 4) ∨ shedThreshold stage.val ≤ v.toNat) → ∃ e, exec (.shedStageReached stage v) s = .next ((State.run s (fun _ => e)).run id) ∧
    e.g bPwr F.PWR_SHED_VHOLD = v.toNat ∧ e.shed = s.d.shed ∧ e.rest = { s.d.rest with pwr := { s.d.pwr with shedAt := if v.toNat < shedThreshold s.d.shed + 300 then s.d.tick else s.d.pwr.shedAt } } ∧ KeepsRegs s.d e [bPwr + F.PWR_SHED.off]) ∧
  (∀ s (stage : Fin 6) (v : BitVec 16), stage.val = 5 → v.toNat < shedThreshold 5 → DoesNv (exec (.shedStageReached stage v) s) s (fun nv e => nv.otp = s.nv.otp ∧ e.box.pwrGone = true ∧ e.g bDev F.DEV_STATUS_RESET_CAUSE = 4 ∧
    e.tick = 0 ∧ e.mode = .load ∧ e.role = .out ∧ (s.d.Quiet → s.d.shed = 4 → s.d.pwr.lgBusy = false → nv = s.nv))) ∧
  (∀ s v, Does (exec (.shedStageEnd v) s) s (fun e => e.g bPwr F.PWR_SHED_VHOLD = v.toNat ∧
    (1 ≤ s.d.shed → shedThreshold s.d.shed + 300 ≤ v.toNat → s.d.pwr.shedAt + 250000 * s.d.g bPwr F.PWR_CFG_RECOVER ≤ s.d.tick → e.shed = s.d.shed - 1 ∧ (s.d.shed = 1 → e.gb bSs F.SS_HEALTH_SUPPLY = false) ∧
      (s.d.shed = 3 → e.pair = { s.d.pair with held := s.d.pair.held && s.d.rd (bSs + F.SS_HEALTH.off) != 0#32 }) ∧ (s.d.shed ≠ 3 → s.d.shed ≠ 1 → e.pair = s.d.pair) ∧
      (s.d.shed = 1 → e.pair = { s.d.pair with held := e.pair.held } ∧ (e.rd (bSs + F.SS_HEALTH.off) = 0#32 → e.pair.held = false) ∧ (e.rd (bSs + F.SS_HEALTH.off) ≠ 0#32 → e.pair.held = s.d.pair.held))) ∧
    ((s.d.shed = 0 ∨ v.toNat < shedThreshold s.d.shed + 300 ∨ s.d.tick < s.d.pwr.shedAt + 250000 * s.d.g bPwr F.PWR_CFG_RECOVER) → e.shed = s.d.shed ∧ e.pair = s.d.pair ∧ e.rd (bSs + F.SS_HEALTH.off) = s.d.rd (bSs + F.SS_HEALTH.off)) ∧
    (∀ a, a ∉ [bPwr + F.PWR_SHED.off, bSs + F.SS_HEALTH.off] → e.rd a = s.d.rd a) ∧ e = { s.d.fresh with regs := e.regs, pair := e.pair })) ∧
  (∀ s, s.d.Quiet → s.d.box.pwrGone = true → Does (exec .supplyRestart s) s (fun e => e.box.pwrGone = false ∧ e.box.lamp = true ∧ e.g bDev F.DEV_STATUS_RESET_CAUSE = 4 ∧ e.tick = 0 ∧ e.mode = .load)) ∧
  ∀ s, s.d.box.pwrGone = false → s.d.Quiet → Does (exec .supplyRestart s) s (fun e => e.rest = s.d.rest ∧ KeepsRegs s.d e [])) ∧
  ((∀ s, s.d.pwr.lgBusy = true → DoesNv (exec .lastGaspDone s) s (fun nv e =>
    let b := lgSector (s.d.g bPwr F.PWR_LG_STATUS_SECTOR)
    (∀ k, k < s.d.pwr.lgRec.length → nvGet nv.mem (b + k) = (nvGet s.nv.mem (b + k) &&& s.d.pwr.lgRec.getD k 0)) ∧ (∀ a, (a < b ∨ b + s.d.pwr.lgRec.length ≤ a) → nvGet nv.mem a = nvGet s.nv.mem a) ∧
    nv.otp = s.nv.otp ∧ e.g bPwr F.PWR_LG_STATUS_SECTOR = (s.d.g bPwr F.PWR_LG_STATUS_SECTOR + 1) % 256 ∧ e.g bPwr F.PWR_LG_STATUS_LGSEQ = (s.d.pwr.lgSeq + 1) % 65536 ∧
    e.pwr = { s.d.pwr with lgBusy := false, lgErase := true, lgSeq := s.d.pwr.lgSeq + 1, lgRec := [] } ∧ (∀ a, a ≠ bPwr + F.PWR_LG_STATUS.off → e.rd a = s.d.rd a) ∧ e = { s.d.fresh with regs := e.regs, pwr := e.pwr })) ∧
  (∀ s, s.d.pwr.lgErase = true → s.d.pair.withdrawn = false → DoesNv (exec .lgEraseDone s) s (fun nv e =>
    let b := lgSector (s.d.g bPwr F.PWR_LG_STATUS_SECTOR)
    (∀ a, nvGet nv.mem a = if b ≤ a ∧ a < b + 0x1000 then 0xFF#8 else nvGet s.nv.mem a) ∧ nv.otp = s.nv.otp ∧ e.gb bPwr F.PWR_LG_STATUS_READY = true ∧ e.pwr = { s.d.pwr with lgErase := false } ∧
    (∀ a, a ≠ bPwr + F.PWR_LG_STATUS.off → e.rd a = s.d.rd a) ∧ e = { s.d.fresh with regs := e.regs, pwr := e.pwr })) ∧
  (∀ s, s.d.pwr.lgBusy = false → DoesNv (exec .lastGaspDone s) s (fun nv e => nv = s.nv ∧ e = s.d.fresh)) ∧
  ∀ s, (s.d.pwr.lgErase = false ∨ s.d.pair.withdrawn = true) → DoesNv (exec .lgEraseDone s) s (fun nv e => nv = s.nv ∧ e = s.d.fresh))

/-- R671, R670: LOCATE, opcode 0x38, is taken in every mode but not in ROM hold (0x0109), and refused with 0x0105 above 3,600 s. It flashes PWR at 2 Hz for its seconds and changes no other indicator; 0 ends it. The four indicators are lit together for 500 ms; REMOVE flashes at 4 Hz until 5 s after a refused ejection. -/
def Obligations.IndicatorsShow : Prop :=
  (∀ p a0 a1 a2 a3 s, HostReady p s → a0.toNat ≤ 3600 → Serves (exec (.locate p a0 a1 a2 a3) s) s (fun d nv e => nv = s.nv ∧ Executes e 0x38 (p == .lmp) [] none ∧
    e.box = { s.d.box with locate := if a0.toNat = 0 then none else some (s.d.tick + a0.toNat * 250000000) } ∧ e.rest = { d.rest with ms := e.ms, box := e.box } ∧ KeepsRegs d e [bDev + F.CMD_RESULT.off])) ∧
  (∀ p a0 a1 a2 a3 s, HostReady p s → 3600 < a0.toNat → Serves (exec (.locate p a0 a1 a2 a3) s) s (fun d nv e => nv = s.nv ∧ Ended e 0x38 (p == .lmp) 0x0105 ∧ e.rest = d.rest)) ∧
  (∀ a0 d, romHold d = true → locateCmd a0 d = (0x0109, d)) ∧ (∀ d x, lightCtrl { d with box := { d.box with locate := x } } = lightCtrl d ∧ lightFault { d with box := { d.box with locate := x } } = lightFault d ∧
    lightRemove { d with box := { d.box with locate := x } } = lightRemove d) ∧
  (∀ s, Does (exec .locateEnd s) s (fun e => ((∃ t, s.d.box.locate = some t ∧ t ≤ s.d.tick) → e = { s.d.fresh with box := { s.d.box with locate := none } }) ∧ ((∀ t, s.d.box.locate = some t → s.d.tick < t) → e = s.d.fresh))) ∧
  (∀ s, Does (exec .indicatorTestEnd s) s (fun e => (125000000 ≤ s.d.upTicks → e = { s.d.fresh with box := { s.d.box with lamp := false } }) ∧ (s.d.upTicks < 125000000 → e = s.d.fresh))) ∧
  (∀ s, Does (exec .ejectRefusedFlashEnd s) s (fun e => ((∃ t, s.d.box.refusedFlash = some t ∧ t ≤ s.d.tick) → e = { s.d.fresh with box := { s.d.box with refusedFlash := none } }) ∧
    ((∀ t, s.d.box.refusedFlash = some t → s.d.tick < t) → e = s.d.fresh))) ∧
  ∀ d, (d.box.lamp = true → lights d = [.steady, .steady, .steady, .steady]) ∧ (d.box.pwrGone = false → d.box.locate ≠ none → lightPwr d = .flash 2) ∧
    (d.box.refusedFlash ≠ none → lightRemove d = .flash 4) ∧ (d.box.pwrGone = false → d.box.locate = none → d.shed = 0 → d.mode ≠ .load → lightPwr d = .steady)

/-- R678, R674, R676, R677, R679: READY is 0 in SLEEP, while the MGMT domain changes, and for a READ outside what ROM hold offers. STATUS returns the status byte; a WRITE applies its words in order as register writes, with ADDR_ERR for a partial word and LAST_REFUSED when any word was refused; a READ fetches one word more than it returns, READ_FIXED reads one address; an unaligned address and a bad opcode set ADDR_ERR and do nothing else, but that an unaligned WRITE, which refuses no word, leaves LAST_REFUSED 0; every transaction wakes a module in SLEEP and has no other effect there. Choices of the model in it: log entries 28, 38. -/
def Obligations.SpiTransactionsAnswer : Prop :=
  (∀ d a, spiReady a d = false ↔ pwrState d = 3 ∨ (pwrTrans d = true ∧ (d.pwr.agents.head? = some 5 ∨ (5 ∈ d.pwr.done ∧ pwrTarget d = 3))) ∨ (romHold d = true ∧ ∃ x, a = some x ∧ romMay x = false)) ∧
  (∀ s, s.d.Quiet → pwrState s.d = 0 → pwrTrans s.d = false → Goes (exec .spiStatus s) (fun t => t.nv = s.nv ∧ t.pending = s.pending ∧ t.d.rest = s.d.rest ∧ KeepsRegs s.d t.d [] ∧
    t.d.hs = { s.d.hs with out := [], spiOut := [], addrErr := false, spiStatus := 1 + 2 * b2n s.d.hs.refused + 4 * b2n s.d.hs.addrErr + 8 * b2n (irqAsserted s.d) + 16 * s.d.g bDev F.DEV_IRQ_STATUS_RESET + 32 * s.d.g bDev F.CMD_RESULT_BUSY })) ∧
  (∀ s a ws part, s.d.Quiet → s.d.hs.later = [] → pwrState s.d = 0 → pwrTrans s.d = false → a.toNat % 4 = 0 → ∃ h, let r := busWrites .spi a.toNat ws (s.upd id)
    exec (.spiWrite a ws part) s = .next (spiNote (fun _ => h) r.2) ∧ h = { r.2.d.hs with addrErr := part, refused := r.1.any (· != 0) }) ∧
  (∀ s a n, s.d.Quiet → pwrState s.d = 0 → pwrTrans s.d = false → romHold s.d = false → a.toNat % 4 = 0 → ∃ h h', let r := busReads 4 (n + 1) a.toNat (spiNote (fun _ => h') (s.upd id))
    exec (.spiRead a n) s = .next (spiNote (fun _ => h) r.2) ∧ h.spiOut = r.1.take n ∧ h.spiOut.length = n ∧ h.addrErr = false ∧ h.refused = s.d.hs.refused ∧ h.spiStatus = statusByte (some a.toNat) s.d) ∧
  (∀ s a n, s.d.Quiet → pwrState s.d = 0 → pwrTrans s.d = false → romHold s.d = false → a.toNat % 4 = 0 → ∃ h h', let r := busReads 0 n a.toNat (spiNote (fun _ => h') (s.upd id))
    exec (.spiReadFixed a n) s = .next (spiNote (fun _ => h) r.2) ∧ h.spiOut = r.1 ∧ h.spiOut.length = n ∧ h.addrErr = false ∧ h.refused = s.d.hs.refused ∧ h.spiStatus = statusByte (some a.toNat) s.d) ∧
  (∀ s a step n, romHold s.d = false → a < 2 ^ 32 → (∀ k < n, PlainRead ((a + step * k) % 2 ^ 32)) → busReads step n a s = ((upto n).map (fun k => shown s ((a + step * k) % 2 ^ 32)), s)) ∧
  (∀ s c a n ws part, c ∈ [Instr.spiWrite a ws part, .spiRead a n, .spiReadFixed a n, .spiBadOpcode] → s.d.Quiet → s.d.hs.later = [] → pwrState s.d = 0 → pwrTrans s.d = false → romHold s.d = false → a.toNat % 4 ≠ 0 →
    Goes (exec c s) (fun t => t.nv = s.nv ∧ t.pending = s.pending ∧ t.d.rest = s.d.rest ∧ KeepsRegs s.d t.d [] ∧ t.d.hs.addrErr = true ∧ t.d.hs.refused = (if c = .spiWrite a ws part then false else s.d.hs.refused))) ∧
  ∀ s c a n ws part, c ∈ [Instr.spiStatus, .spiWrite a ws part, .spiRead a n, .spiReadFixed a n, .spiBadOpcode] → s.d.Quiet → s.d.hs.later = [] → pwrState s.d = 3 → pwrTrans s.d = false →
    Goes (exec c s) (fun t => t.nv = s.nv ∧ t.pending = s.pending ∧ pwrTrans t.d = true ∧ pwrTarget t.d = 0 ∧ t.d.rest = { s.d.rest with pwr := t.d.pwr } ∧ KeepsRegs s.d t.d [bPwr + F.PWR_STATE.off] ∧
      t.d.hs.addrErr = s.d.hs.addrErr ∧ t.d.hs.refused = s.d.hs.refused)

/-- R674, R684 to R688: a signed request with a new SEQ is carried out once and answered under its own type: the words read, the words accepted with the first refusal, the executor's refusal while it is busy, an empty body; SUBSCRIBE sets what the session receives, ALARM_ACK ends its wait, CLOSE ends the session. R674, R684: a datagram with a wrong TAG, an unknown SESSION or a SEQ below the last accepted one is dropped and counted; one with the last accepted SEQ gets the cached reply again; and while LMP does not run nothing is taken at all. Choices of the model in it: log entries 33, 34. -/
def Obligations.LmpRequestsAreServed : Prop :=
  ((∀ s x seq c type n (a : Word) (step : Nat), LmpReady s.d x seq → a.toNat % 4 = 0 → 1 ≤ n.toNat → n.toNat ≤ 256 →
    ((type = 0x10 ∧ step = 4 ∧ c = .lmpRead (signed x seq type (leBytes 4 a.toNat ++ leBytes 2 n.toNat)) a n) ∨ (type = 0x11 ∧ step = 0 ∧ c = .lmpReadFixed (signed x seq type (leBytes 4 a.toNat ++ leBytes 2 n.toNat)) a n)) →
    ∃ u, Taken s x seq u ∧ Goes (exec c s) (fun t => t.nv = s.nv ∧ t.pending = s.pending ∧ Replied t.d x (type + 0x80) ([0, 0, 0, 0] ++ (busReads step n.toNat a.toNat u).1.flatMap (fun w => leBytes 4 w.toNat)) ∧
      ((∀ k < n.toNat, PlainRead ((a.toNat + step * k) % 2 ^ 32)) → t.d.rest = s.d.rest ∧ KeepsRegs s.d t.d []))) ∧
  (∀ s x seq a ws, LmpReady s.d x seq → a.toNat % 4 = 0 → 1 ≤ ws.length → ws.length ≤ 256 → ∃ u, Taken s x seq u ∧ let r := busWrites .lmp a.toNat ws u
    let bad := findIdx (fun y => y != 0) r.1 0
    exec (.lmpWrite (signed x seq 0x12 (leBytes 4 a.toNat ++ ws.flatMap (fun w => leBytes 4 w.toNat))) a ws) s = .next ((r.2.run (lmpReply x.num 0x12 (if bad = none then 0 else 4)
      (leBytes 2 (r.1.filter (· == 0)).length ++ leBytes 2 (4 * bad.getD 0) ++ leBytes 2 ((bad.map (fun k => r.1.getD k 0)).getD 0))))) ∧ r.1.length = ws.length) ∧
  (∀ s x seq c type (a : Word) n (ws : List Word), LmpReady s.d x seq → ((type = 0x12 ∧ c = .lmpWrite (signed x seq type (leBytes 4 a.toNat ++ ws.flatMap (fun w => leBytes 4 w.toNat))) a ws ∧ (a.toNat % 4 ≠ 0 ∨ ws = [] ∨ 256 < ws.length)) ∨
      (((type = 0x10 ∧ c = .lmpRead (signed x seq type (leBytes 4 a.toNat ++ leBytes 2 n.toNat)) a n) ∨ (type = 0x11 ∧ c = .lmpReadFixed (signed x seq type (leBytes 4 a.toNat ++ leBytes 2 n.toNat)) a n)) ∧ (a.toNat % 4 ≠ 0 ∨ n = 0 ∨ 256 < n.toNat))) →
    Goes (exec c s) (fun t => t.nv = s.nv ∧ t.pending = s.pending ∧ t.d.rest = s.d.rest ∧ KeepsRegs s.d t.d [] ∧ Replied t.d x (type + 0x80) [1, 0, 0, 0])) ∧
  (∀ s x seq op a0 a1 a2 a3, LmpReady s.d x seq → ∃ u, Taken s x seq u ∧
    let o := exec (.lmpCommand (signed x seq 0x13 (leBytes 2 op.toNat ++ leBytes 4 a0.toNat ++ leBytes 4 a1.toNat ++ leBytes 4 a2.toNat ++ leBytes 4 a3.toNat)) op a0 a1 a2 a3) s
    (s.d.ms.cmd = none → o = .next (submit true (some x.num) op.toNat a0 a1 a2 a3 u).2) ∧
    (s.d.ms.cmd ≠ none → Goes o (fun t => t.nv = s.nv ∧ t.d.rest = s.d.rest ∧ KeepsRegs s.d t.d [] ∧ Replied t.d x 0x93 [4, 0, 0, 0, 4, 1]))) ∧
  (∀ s x seq alarms trace, LmpReady s.d x seq → Goes (exec (.lmpSubscribe (signed x seq 0x20 (leBytes 1 (b2n alarms + 2 * b2n trace))) alarms trace) s) (fun t => t.nv = s.nv ∧ t.d.rest = s.d.rest ∧ KeepsRegs s.d t.d [] ∧
    Replied t.d x 0xA0 [0, 0, 0, 0] ∧ (∃ y, t.d.hs.sess.find? (fun z => z.num == x.num) = some y ∧ y.alarms = alarms ∧ y.trace = trace ∧ y.seqIn = seq.toNat ∧ y.key = x.key) ∧
    (trace = true → t.d.hs.traceTo = some x.num) ∧ (trace = false → t.d.hs.traceTo ≠ some x.num) ∧ (s.d.hs.traceTo ≠ some x.num → trace = false → t.d.hs.traceTo = s.d.hs.traceTo))) ∧
  (∀ s x seq rseq, LmpReady s.d x seq → Goes (exec (.lmpAlarmAck (signed x seq 0x22 (leBytes 4 rseq.toNat)) rseq) s) (fun t => t.nv = s.nv ∧ t.d.rest = { s.d.rest with flt := { s.d.flt with lmpQ := t.d.flt.lmpQ } } ∧ KeepsRegs s.d t.d [] ∧
    t.d.hs.out = [] ∧ (∀ w ∈ t.d.flt.lmpQ, w.fr.rseq % 2 ^ 32 = rseq.toNat → x.num ∉ w.waits) ∧ ∀ w ∈ s.d.flt.lmpQ, w.fr.rseq % 2 ^ 32 ≠ rseq.toNat → w.waits ≠ [] → w ∈ t.d.flt.lmpQ)) ∧
  (∀ s x seq, LmpReady s.d x seq → Goes (exec (.lmpKeepalive (signed x seq 0x30 [])) s) (fun t => t.nv = s.nv ∧ t.d.rest = s.d.rest ∧ KeepsRegs s.d t.d [] ∧ Replied t.d x 0xB0 [0, 0, 0, 0] ∧
    ∃ y, t.d.hs.sess.find? (fun z => z.num == x.num) = some y ∧ y.heard = s.d.tick ∧ y.cache = t.d.hs.out.getLast?)) ∧
  ∀ s x seq, LmpReady s.d x seq → Goes (exec (.lmpClose (signed x seq 0x31 [])) s) (fun t => t.nv = s.nv ∧ t.d.rest = { s.d.rest with flt := { s.d.flt with lmpQ := t.d.flt.lmpQ } } ∧ KeepsRegs s.d t.d [] ∧
    Replied t.d x 0xB1 [0, 0, 0, 0] ∧ t.d.hs.sess.find? (fun z => z.num == x.num) = none ∧ t.d.hs.traceTo ≠ some x.num ∧ ∀ w ∈ t.d.flt.lmpQ, x.num ∉ w.waits)) ∧
  ((∀ s c h type body, sessionRequest c = some (h, type, body) → s.d.Quiet → lmpRuns s.d = true → (∀ x, s.d.hs.sess.find? (fun y => y.num == h.sess) = some x →
      h.tag ≠ lmpTag x.key (lmpHeader type h.sess body.length h.seq.toNat ++ body) ∨ h.seq.toNat < x.seqIn) → Goes (exec c s) (fun t => t.nv = s.nv ∧ t.pending = s.pending ∧ t.d.rest = s.d.rest ∧
    t.d.hs = { s.d.hs with out := [] } ∧ t.d.g bDev F.LMP_STATUS_DROPPED = (s.d.g bDev F.LMP_STATUS_DROPPED + 1) % 256 ∧ KeepsRegs s.d t.d [bDev + F.LMP_STATUS.off])) ∧
  (∀ s c h type body x, sessionRequest c = some (h, type, body) → s.d.Quiet → lmpRuns s.d = true → pwrState s.d = 0 → pwrTrans s.d = false → s.d.hs.sess.find? (fun y => y.num == h.sess) = some x →
      h.tag = lmpTag x.key (lmpHeader type h.sess body.length h.seq.toNat ++ body) → h.seq.toNat = x.seqIn → Goes (exec c s) (fun t => t.nv = s.nv ∧ t.pending = s.pending ∧ t.d.rest = s.d.rest ∧
    t.d.hs.out = x.cache.toList ∧ t.d.hs.sess.find? (fun y => y.num == h.sess) = some { x with heard := s.d.tick } ∧ KeepsRegs s.d t.d [])) ∧
  ∀ s c h type body, sessionRequest c = some (h, type, body) → s.d.Quiet → lmpRuns s.d = false → Goes (exec c s) (fun t => t.nv = s.nv ∧ t.pending = s.pending ∧ t.d.rest = s.d.rest ∧ t.d.hs = { s.d.hs with out := [] } ∧ KeepsRegs s.d t.d []))

/-- R681, R683, R687, R688: OPEN_REQ is answered with a nonce that is good for one OPEN within 5 s; an OPEN that verifies opens a session with its own number and key or finds no room; an alarm is sent again every 100 ms, or closes its sessions after 5 s; a session silent for IDLE seconds is closed; ARP and ICMP are answered for LMP_IP. What the keys, the numbers and the nonce are is free (log entry 32). Choices of the model in it: log entries 32, 33. -/
def Obligations.LmpSessionsOpenAndClose : Prop :=
  (∀ s, s.d.Quiet → lmpRuns s.d = true → Goes (exec .lmpOpenReq s) (fun t => t.nv = s.nv ∧ KeepsRegs s.d t.d [] ∧ t.d.rest = { s.d.rest with free := t.d.free } ∧ ∃ nonce, t.d.hs = { s.d.hs with
    chal := s.d.hs.chal ++ [(nonce, s.d.tick)], out := [{ sess := none, type := 0x82, seq := 0, body := leBytes 4 0 ++ leBytes 32 nonce.toNat }] })) ∧
  (∀ s (o : LmpOpen), s.d.Quiet → lmpRuns s.d = true →
    let good := s.d.hs.chal.any (fun c => c.1 == o.nonce && decide (s.d.tick ≤ c.2 + 1250000000)) && o.slot.val < 4 && s.nv.otp.state o.slot.val == .enrolled && keyHash (beBytes 32 o.owner.toNat) == s.nv.otp.hash o.slot.val
      && Config.ed25519Verify o.owner (beBytes 32 o.nonce.toNat ++ leBytes 1 o.slot.val ++ beBytes 32 o.x25519.toNat) o.sig
    Goes (exec (.lmpOpen o) s) (fun t => t.nv = s.nv ∧ t.pending = s.pending ∧ KeepsRegs s.d t.d [] ∧ t.d.rest = { s.d.rest with free := t.d.free } ∧ (∀ c ∈ t.d.hs.chal, c.1 ≠ o.nonce) ∧
      (good = false → t.d.hs.out = [] ∧ t.d.hs.sess = s.d.hs.sess) ∧
      (good = true → s.d.g bDev F.LMP_CFG_MAXSESS ≤ s.d.hs.sess.length → t.d.hs.out = [{ sess := none, type := 0x84, seq := 0, body := [2, 0, 0, 0] }] ∧ t.d.hs.sess = s.d.hs.sess) ∧
      (good = true → s.d.hs.sess.length < s.d.g bDev F.LMP_CFG_MAXSESS → ∃ y, t.d.hs.sess = s.d.hs.sess ++ [y] ∧ y.slot = o.slot.val ∧ y.seqIn = 0 ∧ y.seqOut = 0 ∧ y.heard = s.d.tick ∧ y.alarms = false ∧ y.trace = false ∧
        (s.d.hs.sess.length < 6 → y.num ≠ 0 ∧ ∀ z ∈ s.d.hs.sess, z.num ≠ y.num) ∧ ∃ sig : BitVec 512, let pub := beBytes 32 (Config.x25519Public s.d.free).toNat
        y.key = BitVec.ofNat 256 ((Config.sha512 (beBytes 32 (Config.x25519 s.d.free o.x25519).toNat ++ beBytes 32 o.nonce.toNat ++ (beBytes 32 o.x25519.toNat ++ pub))).toNat / 2 ^ 256) ∧
        t.d.hs.out = [{ sess := some y.num, type := 0x84, seq := 0, body := [0, 0, 0, 0] ++ leBytes 2 y.num.toNat ++ pub ++ beBytes 64 sig.toNat }]))) ∧
  (∀ s c o, (c = .lmpOpenReq ∨ c = .lmpOpen o) → s.d.Quiet → lmpRuns s.d = false → Goes (exec c s) (fun t => t.nv = s.nv ∧ t.d.rest = s.d.rest ∧ t.d.hs = { s.d.hs with out := [] } ∧ KeepsRegs s.d t.d [])) ∧
  (∀ s rseq, Does (exec (.lmpAlarmRepeat rseq) s) s (fun e => (s.d.flt.lmpQ.find? (fun w => w.fr.rseq == rseq) = none → e = s.d.fresh) ∧ ∀ w, s.d.flt.lmpQ.find? (fun w => w.fr.rseq == rseq) = some w →
    (w.since + 1250000000 ≤ s.d.tick → e.hs.sess = s.d.hs.sess.filter (fun x => !w.waits.contains x.num) ∧ e.hs.out = [] ∧ ∀ v ∈ e.flt.lmpQ, ∀ x ∈ s.d.hs.sess, x.num ∈ w.waits → x.num ∉ v.waits) ∧
    (s.d.tick < w.since + 1250000000 → w.sent + 25000000 ≤ s.d.tick → lmpRuns s.d = true → (∀ x ∈ s.d.hs.sess, x.num ∈ w.waits → Replied e x 0x21 (recBytes w.fr)) ∧
      e.flt.lmpQ = s.d.flt.lmpQ.map (fun y => if y.fr.rseq == rseq then { y with sent := s.d.tick } else y) ∧ e = { s.d.fresh with hs := e.hs, flt := e.flt }) ∧
    (s.d.tick < w.since + 1250000000 → (lmpRuns s.d = false ∨ s.d.tick < w.sent + 25000000) → e = s.d.fresh))) ∧
  (∀ s num, Does (exec (.lmpIdleTimeout num) s) s (fun e => e.hs.sess = s.d.hs.sess.filter (fun x => !(x.num == num && decide (x.heard + s.d.g bDev F.LMP_CFG_IDLE * 250000000 ≤ s.d.tick))) ∧ e.hs.out = [] ∧
    (∀ x ∈ s.d.hs.sess, x.num = num → x.heard + s.d.g bDev F.LMP_CFG_IDLE * 250000000 ≤ s.d.tick → e.hs.traceTo ≠ some num ∧ ∀ v ∈ e.flt.lmpQ, num ∉ v.waits) ∧
    e = { s.d.fresh with hs := e.hs, flt := { s.d.flt with lmpQ := e.flt.lmpQ } })) ∧
  ∀ s ip payload, (lmpRuns s.d = true → ip = s.d.rd (bDev + F.LMP_IP.off) → Does (exec (.arpRequest ip) s) s (fun e => e = { s.d.fresh with hs := { s.d.fresh.hs with netOut := some (leBytes 6 Config.mac.toNat ++ leBytes 4 ip.toNat) } }) ∧
      Does (exec (.icmpEcho ip payload) s) s (fun e => e = { s.d.fresh with hs := { s.d.fresh.hs with netOut := some payload } })) ∧
    ((lmpRuns s.d = false ∨ ip ≠ s.d.rd (bDev + F.LMP_IP.off)) → Does (exec (.arpRequest ip) s) s (fun e => e = s.d.fresh) ∧ Does (exec (.icmpEcho ip payload) s) s (fun e => e = s.d.fresh))
end

