-- ==== Sys2Proof/Laws/State.lean ====
section
/-! SUPPORT. One lemma for each field of the module under each update, all true by unfolding, so that no later proof opens a record update. -/

namespace Sys2Proof.Machine

variable (s : Dev)

@[simp] theorem Dev.wr_regs (a : Nat) (v : Word) : (s.wr a v).regs = tset regReset s.regs a v := rfl
@[simp] theorem Dev.wr_tick (a : Nat) (v : Word) : (s.wr a v).tick = s.tick := rfl
@[simp] theorem Dev.wr_force (a : Nat) (v : Word) : (s.wr a v).force = s.force := rfl
@[simp] theorem Dev.wr_slotVals (a : Nat) (v : Word) : (s.wr a v).slotVals = s.slotVals := rfl
@[simp] theorem Dev.wr_plan (a : Nat) (v : Word) : (s.wr a v).plan = s.plan := rfl
@[simp] theorem Dev.wr_img (a : Nat) (v : Word) : (s.wr a v).img = s.img := rfl
@[simp] theorem Dev.wr_ms (a : Nat) (v : Word) : (s.wr a v).ms = s.ms := rfl
@[simp] theorem Dev.wr_ml (a : Nat) (v : Word) : (s.wr a v).ml = s.ml := rfl
@[simp] theorem Dev.wr_flt (a : Nat) (v : Word) : (s.wr a v).flt = s.flt := rfl
@[simp] theorem Dev.wr_tb (a : Nat) (v : Word) : (s.wr a v).tb = s.tb := rfl
@[simp] theorem Dev.wr_tpos (a : Nat) (v : Word) : (s.wr a v).tpos = s.tpos := rfl
@[simp] theorem Dev.wr_clk (a : Nat) (v : Word) : (s.wr a v).clk = s.clk := rfl
@[simp] theorem Dev.wr_pair (a : Nat) (v : Word) : (s.wr a v).pair = s.pair := rfl
@[simp] theorem Dev.wr_cans (a : Nat) (v : Word) : (s.wr a v).cans = s.cans := rfl
@[simp] theorem Dev.wr_objs (a : Nat) (v : Word) : (s.wr a v).objs = s.objs := rfl
@[simp] theorem Dev.wr_pwr (a : Nat) (v : Word) : (s.wr a v).pwr = s.pwr := rfl
@[simp] theorem Dev.wr_box (a : Nat) (v : Word) : (s.wr a v).box = s.box := rfl
@[simp] theorem Dev.wr_hs (a : Nat) (v : Word) : (s.wr a v).hs = s.hs := rfl
@[simp] theorem Dev.wr_sens (a : Nat) (v : Word) : (s.wr a v).sens = s.sens := rfl
@[simp] theorem Dev.wr_rgs (a : Nat) (v : Word) : (s.wr a v).rgs = s.rgs := rfl
@[simp] theorem Dev.wr_trks (a : Nat) (v : Word) : (s.wr a v).trks = s.trks := rfl
@[simp] theorem Dev.wr_busy (a : Nat) (v : Word) : (s.wr a v).busy = s.busy := rfl
@[simp] theorem Dev.wr_strs (a : Nat) (v : Word) : (s.wr a v).strs = s.strs := rfl
@[simp] theorem Dev.wr_legs (a : Nat) (v : Word) : (s.wr a v).legs = s.legs := rfl
@[simp] theorem Dev.wr_auxs (a : Nat) (v : Word) : (s.wr a v).auxs = s.auxs := rfl
@[simp] theorem Dev.wr_ports (a : Nat) (v : Word) : (s.wr a v).ports = s.ports := rfl
@[simp] theorem Dev.wr_nodes (a : Nat) (v : Word) : (s.wr a v).nodes = s.nodes := rfl
@[simp] theorem Dev.wr_fars (a : Nat) (v : Word) : (s.wr a v).fars = s.fars := rfl
@[simp] theorem Dev.wr_srcs (a : Nat) (v : Word) : (s.wr a v).srcs = s.srcs := rfl
@[simp] theorem Dev.wr_teles (a : Nat) (v : Word) : (s.wr a v).teles = s.teles := rfl
@[simp] theorem Dev.wr_due (a : Nat) (v : Word) : (s.wr a v).due = s.due := rfl
@[simp] theorem Dev.wr_free (a : Nat) (v : Word) : (s.wr a v).free = s.free := rfl

@[simp] theorem Dev.wrF_force (a : Nat) (v : Word) : (s.wrF a v).force = tset regReset s.force a v := rfl
@[simp] theorem Dev.wrF_tick (a : Nat) (v : Word) : (s.wrF a v).tick = s.tick := rfl
@[simp] theorem Dev.wrF_regs (a : Nat) (v : Word) : (s.wrF a v).regs = s.regs := rfl
@[simp] theorem Dev.wrF_slotVals (a : Nat) (v : Word) : (s.wrF a v).slotVals = s.slotVals := rfl
@[simp] theorem Dev.wrF_plan (a : Nat) (v : Word) : (s.wrF a v).plan = s.plan := rfl
@[simp] theorem Dev.wrF_img (a : Nat) (v : Word) : (s.wrF a v).img = s.img := rfl
@[simp] theorem Dev.wrF_ms (a : Nat) (v : Word) : (s.wrF a v).ms = s.ms := rfl
@[simp] theorem Dev.wrF_ml (a : Nat) (v : Word) : (s.wrF a v).ml = s.ml := rfl
@[simp] theorem Dev.wrF_flt (a : Nat) (v : Word) : (s.wrF a v).flt = s.flt := rfl
@[simp] theorem Dev.wrF_tb (a : Nat) (v : Word) : (s.wrF a v).tb = s.tb := rfl
@[simp] theorem Dev.wrF_tpos (a : Nat) (v : Word) : (s.wrF a v).tpos = s.tpos := rfl
@[simp] theorem Dev.wrF_clk (a : Nat) (v : Word) : (s.wrF a v).clk = s.clk := rfl
@[simp] theorem Dev.wrF_pair (a : Nat) (v : Word) : (s.wrF a v).pair = s.pair := rfl
@[simp] theorem Dev.wrF_cans (a : Nat) (v : Word) : (s.wrF a v).cans = s.cans := rfl
@[simp] theorem Dev.wrF_objs (a : Nat) (v : Word) : (s.wrF a v).objs = s.objs := rfl
@[simp] theorem Dev.wrF_pwr (a : Nat) (v : Word) : (s.wrF a v).pwr = s.pwr := rfl
@[simp] theorem Dev.wrF_box (a : Nat) (v : Word) : (s.wrF a v).box = s.box := rfl
@[simp] theorem Dev.wrF_hs (a : Nat) (v : Word) : (s.wrF a v).hs = s.hs := rfl
@[simp] theorem Dev.wrF_sens (a : Nat) (v : Word) : (s.wrF a v).sens = s.sens := rfl
@[simp] theorem Dev.wrF_rgs (a : Nat) (v : Word) : (s.wrF a v).rgs = s.rgs := rfl
@[simp] theorem Dev.wrF_trks (a : Nat) (v : Word) : (s.wrF a v).trks = s.trks := rfl
@[simp] theorem Dev.wrF_busy (a : Nat) (v : Word) : (s.wrF a v).busy = s.busy := rfl
@[simp] theorem Dev.wrF_strs (a : Nat) (v : Word) : (s.wrF a v).strs = s.strs := rfl
@[simp] theorem Dev.wrF_legs (a : Nat) (v : Word) : (s.wrF a v).legs = s.legs := rfl
@[simp] theorem Dev.wrF_auxs (a : Nat) (v : Word) : (s.wrF a v).auxs = s.auxs := rfl
@[simp] theorem Dev.wrF_ports (a : Nat) (v : Word) : (s.wrF a v).ports = s.ports := rfl
@[simp] theorem Dev.wrF_nodes (a : Nat) (v : Word) : (s.wrF a v).nodes = s.nodes := rfl
@[simp] theorem Dev.wrF_fars (a : Nat) (v : Word) : (s.wrF a v).fars = s.fars := rfl
@[simp] theorem Dev.wrF_srcs (a : Nat) (v : Word) : (s.wrF a v).srcs = s.srcs := rfl
@[simp] theorem Dev.wrF_teles (a : Nat) (v : Word) : (s.wrF a v).teles = s.teles := rfl
@[simp] theorem Dev.wrF_due (a : Nat) (v : Word) : (s.wrF a v).due = s.due := rfl
@[simp] theorem Dev.wrF_free (a : Nat) (v : Word) : (s.wrF a v).free = s.free := rfl

@[simp] theorem Dev.p_regs (b : Nat) (f : Fld) (v : Nat) : (s.p b f v).regs = tset regReset s.regs (b + f.off) (putBits (s.rd (b + f.off)) f.lo f.w v) := rfl
@[simp] theorem Dev.p_tick (b : Nat) (f : Fld) (v : Nat) : (s.p b f v).tick = s.tick := rfl
@[simp] theorem Dev.p_force (b : Nat) (f : Fld) (v : Nat) : (s.p b f v).force = s.force := rfl
@[simp] theorem Dev.p_slotVals (b : Nat) (f : Fld) (v : Nat) : (s.p b f v).slotVals = s.slotVals := rfl
@[simp] theorem Dev.p_plan (b : Nat) (f : Fld) (v : Nat) : (s.p b f v).plan = s.plan := rfl
@[simp] theorem Dev.p_img (b : Nat) (f : Fld) (v : Nat) : (s.p b f v).img = s.img := rfl
@[simp] theorem Dev.p_ms (b : Nat) (f : Fld) (v : Nat) : (s.p b f v).ms = s.ms := rfl
@[simp] theorem Dev.p_ml (b : Nat) (f : Fld) (v : Nat) : (s.p b f v).ml = s.ml := rfl
@[simp] theorem Dev.p_flt (b : Nat) (f : Fld) (v : Nat) : (s.p b f v).flt = s.flt := rfl
@[simp] theorem Dev.p_tb (b : Nat) (f : Fld) (v : Nat) : (s.p b f v).tb = s.tb := rfl
@[simp] theorem Dev.p_tpos (b : Nat) (f : Fld) (v : Nat) : (s.p b f v).tpos = s.tpos := rfl
@[simp] theorem Dev.p_clk (b : Nat) (f : Fld) (v : Nat) : (s.p b f v).clk = s.clk := rfl
@[simp] theorem Dev.p_pair (b : Nat) (f : Fld) (v : Nat) : (s.p b f v).pair = s.pair := rfl
@[simp] theorem Dev.p_cans (b : Nat) (f : Fld) (v : Nat) : (s.p b f v).cans = s.cans := rfl
@[simp] theorem Dev.p_objs (b : Nat) (f : Fld) (v : Nat) : (s.p b f v).objs = s.objs := rfl
@[simp] theorem Dev.p_pwr (b : Nat) (f : Fld) (v : Nat) : (s.p b f v).pwr = s.pwr := rfl
@[simp] theorem Dev.p_box (b : Nat) (f : Fld) (v : Nat) : (s.p b f v).box = s.box := rfl
@[simp] theorem Dev.p_hs (b : Nat) (f : Fld) (v : Nat) : (s.p b f v).hs = s.hs := rfl
@[simp] theorem Dev.p_sens (b : Nat) (f : Fld) (v : Nat) : (s.p b f v).sens = s.sens := rfl
@[simp] theorem Dev.p_rgs (b : Nat) (f : Fld) (v : Nat) : (s.p b f v).rgs = s.rgs := rfl
@[simp] theorem Dev.p_trks (b : Nat) (f : Fld) (v : Nat) : (s.p b f v).trks = s.trks := rfl
@[simp] theorem Dev.p_busy (b : Nat) (f : Fld) (v : Nat) : (s.p b f v).busy = s.busy := rfl
@[simp] theorem Dev.p_strs (b : Nat) (f : Fld) (v : Nat) : (s.p b f v).strs = s.strs := rfl
@[simp] theorem Dev.p_legs (b : Nat) (f : Fld) (v : Nat) : (s.p b f v).legs = s.legs := rfl
@[simp] theorem Dev.p_auxs (b : Nat) (f : Fld) (v : Nat) : (s.p b f v).auxs = s.auxs := rfl
@[simp] theorem Dev.p_ports (b : Nat) (f : Fld) (v : Nat) : (s.p b f v).ports = s.ports := rfl
@[simp] theorem Dev.p_nodes (b : Nat) (f : Fld) (v : Nat) : (s.p b f v).nodes = s.nodes := rfl
@[simp] theorem Dev.p_fars (b : Nat) (f : Fld) (v : Nat) : (s.p b f v).fars = s.fars := rfl
@[simp] theorem Dev.p_srcs (b : Nat) (f : Fld) (v : Nat) : (s.p b f v).srcs = s.srcs := rfl
@[simp] theorem Dev.p_teles (b : Nat) (f : Fld) (v : Nat) : (s.p b f v).teles = s.teles := rfl
@[simp] theorem Dev.p_due (b : Nat) (f : Fld) (v : Nat) : (s.p b f v).due = s.due := rfl
@[simp] theorem Dev.p_free (b : Nat) (f : Fld) (v : Nat) : (s.p b f v).free = s.free := rfl

@[simp] theorem Dev.setStr_tick (i : Nat) (f : StrSt → StrSt) : (s.setStr i f).tick = s.tick := rfl
@[simp] theorem Dev.setStr_regs (i : Nat) (f : StrSt → StrSt) : (s.setStr i f).regs = s.regs := rfl
@[simp] theorem Dev.setStr_force (i : Nat) (f : StrSt → StrSt) : (s.setStr i f).force = s.force := rfl
@[simp] theorem Dev.setStr_slotVals (i : Nat) (f : StrSt → StrSt) : (s.setStr i f).slotVals = s.slotVals := rfl
@[simp] theorem Dev.setStr_plan (i : Nat) (f : StrSt → StrSt) : (s.setStr i f).plan = s.plan := rfl
@[simp] theorem Dev.setStr_img (i : Nat) (f : StrSt → StrSt) : (s.setStr i f).img = s.img := rfl
@[simp] theorem Dev.setStr_ms (i : Nat) (f : StrSt → StrSt) : (s.setStr i f).ms = s.ms := rfl
@[simp] theorem Dev.setStr_ml (i : Nat) (f : StrSt → StrSt) : (s.setStr i f).ml = s.ml := rfl
@[simp] theorem Dev.setStr_flt (i : Nat) (f : StrSt → StrSt) : (s.setStr i f).flt = s.flt := rfl
@[simp] theorem Dev.setStr_tb (i : Nat) (f : StrSt → StrSt) : (s.setStr i f).tb = s.tb := rfl
@[simp] theorem Dev.setStr_tpos (i : Nat) (f : StrSt → StrSt) : (s.setStr i f).tpos = s.tpos := rfl
@[simp] theorem Dev.setStr_clk (i : Nat) (f : StrSt → StrSt) : (s.setStr i f).clk = s.clk := rfl
@[simp] theorem Dev.setStr_pair (i : Nat) (f : StrSt → StrSt) : (s.setStr i f).pair = s.pair := rfl
@[simp] theorem Dev.setStr_cans (i : Nat) (f : StrSt → StrSt) : (s.setStr i f).cans = s.cans := rfl
@[simp] theorem Dev.setStr_objs (i : Nat) (f : StrSt → StrSt) : (s.setStr i f).objs = s.objs := rfl
@[simp] theorem Dev.setStr_pwr (i : Nat) (f : StrSt → StrSt) : (s.setStr i f).pwr = s.pwr := rfl
@[simp] theorem Dev.setStr_box (i : Nat) (f : StrSt → StrSt) : (s.setStr i f).box = s.box := rfl
@[simp] theorem Dev.setStr_hs (i : Nat) (f : StrSt → StrSt) : (s.setStr i f).hs = s.hs := rfl
@[simp] theorem Dev.setStr_sens (i : Nat) (f : StrSt → StrSt) : (s.setStr i f).sens = s.sens := rfl
@[simp] theorem Dev.setStr_rgs (i : Nat) (f : StrSt → StrSt) : (s.setStr i f).rgs = s.rgs := rfl
@[simp] theorem Dev.setStr_trks (i : Nat) (f : StrSt → StrSt) : (s.setStr i f).trks = s.trks := rfl
@[simp] theorem Dev.setStr_busy (i : Nat) (f : StrSt → StrSt) : (s.setStr i f).busy = s.busy := rfl
@[simp] theorem Dev.setStr_legs (i : Nat) (f : StrSt → StrSt) : (s.setStr i f).legs = s.legs := rfl
@[simp] theorem Dev.setStr_auxs (i : Nat) (f : StrSt → StrSt) : (s.setStr i f).auxs = s.auxs := rfl
@[simp] theorem Dev.setStr_ports (i : Nat) (f : StrSt → StrSt) : (s.setStr i f).ports = s.ports := rfl
@[simp] theorem Dev.setStr_nodes (i : Nat) (f : StrSt → StrSt) : (s.setStr i f).nodes = s.nodes := rfl
@[simp] theorem Dev.setStr_fars (i : Nat) (f : StrSt → StrSt) : (s.setStr i f).fars = s.fars := rfl
@[simp] theorem Dev.setStr_srcs (i : Nat) (f : StrSt → StrSt) : (s.setStr i f).srcs = s.srcs := rfl
@[simp] theorem Dev.setStr_teles (i : Nat) (f : StrSt → StrSt) : (s.setStr i f).teles = s.teles := rfl
@[simp] theorem Dev.setStr_due (i : Nat) (f : StrSt → StrSt) : (s.setStr i f).due = s.due := rfl
@[simp] theorem Dev.setStr_free (i : Nat) (f : StrSt → StrSt) : (s.setStr i f).free = s.free := rfl

@[simp] theorem Dev.setLeg_tick (n y : Nat) (f : LegSt → LegSt) : (s.setLeg n y f).tick = s.tick := rfl
@[simp] theorem Dev.setLeg_regs (n y : Nat) (f : LegSt → LegSt) : (s.setLeg n y f).regs = s.regs := rfl
@[simp] theorem Dev.setLeg_force (n y : Nat) (f : LegSt → LegSt) : (s.setLeg n y f).force = s.force := rfl
@[simp] theorem Dev.setLeg_slotVals (n y : Nat) (f : LegSt → LegSt) : (s.setLeg n y f).slotVals = s.slotVals := rfl
@[simp] theorem Dev.setLeg_plan (n y : Nat) (f : LegSt → LegSt) : (s.setLeg n y f).plan = s.plan := rfl
@[simp] theorem Dev.setLeg_img (n y : Nat) (f : LegSt → LegSt) : (s.setLeg n y f).img = s.img := rfl
@[simp] theorem Dev.setLeg_ms (n y : Nat) (f : LegSt → LegSt) : (s.setLeg n y f).ms = s.ms := rfl
@[simp] theorem Dev.setLeg_ml (n y : Nat) (f : LegSt → LegSt) : (s.setLeg n y f).ml = s.ml := rfl
@[simp] theorem Dev.setLeg_flt (n y : Nat) (f : LegSt → LegSt) : (s.setLeg n y f).flt = s.flt := rfl
@[simp] theorem Dev.setLeg_tb (n y : Nat) (f : LegSt → LegSt) : (s.setLeg n y f).tb = s.tb := rfl
@[simp] theorem Dev.setLeg_tpos (n y : Nat) (f : LegSt → LegSt) : (s.setLeg n y f).tpos = s.tpos := rfl
@[simp] theorem Dev.setLeg_clk (n y : Nat) (f : LegSt → LegSt) : (s.setLeg n y f).clk = s.clk := rfl
@[simp] theorem Dev.setLeg_pair (n y : Nat) (f : LegSt → LegSt) : (s.setLeg n y f).pair = s.pair := rfl
@[simp] theorem Dev.setLeg_cans (n y : Nat) (f : LegSt → LegSt) : (s.setLeg n y f).cans = s.cans := rfl
@[simp] theorem Dev.setLeg_objs (n y : Nat) (f : LegSt → LegSt) : (s.setLeg n y f).objs = s.objs := rfl
@[simp] theorem Dev.setLeg_pwr (n y : Nat) (f : LegSt → LegSt) : (s.setLeg n y f).pwr = s.pwr := rfl
@[simp] theorem Dev.setLeg_box (n y : Nat) (f : LegSt → LegSt) : (s.setLeg n y f).box = s.box := rfl
@[simp] theorem Dev.setLeg_hs (n y : Nat) (f : LegSt → LegSt) : (s.setLeg n y f).hs = s.hs := rfl
@[simp] theorem Dev.setLeg_sens (n y : Nat) (f : LegSt → LegSt) : (s.setLeg n y f).sens = s.sens := rfl
@[simp] theorem Dev.setLeg_rgs (n y : Nat) (f : LegSt → LegSt) : (s.setLeg n y f).rgs = s.rgs := rfl
@[simp] theorem Dev.setLeg_trks (n y : Nat) (f : LegSt → LegSt) : (s.setLeg n y f).trks = s.trks := rfl
@[simp] theorem Dev.setLeg_busy (n y : Nat) (f : LegSt → LegSt) : (s.setLeg n y f).busy = s.busy := rfl
@[simp] theorem Dev.setLeg_strs (n y : Nat) (f : LegSt → LegSt) : (s.setLeg n y f).strs = s.strs := rfl
@[simp] theorem Dev.setLeg_auxs (n y : Nat) (f : LegSt → LegSt) : (s.setLeg n y f).auxs = s.auxs := rfl
@[simp] theorem Dev.setLeg_ports (n y : Nat) (f : LegSt → LegSt) : (s.setLeg n y f).ports = s.ports := rfl
@[simp] theorem Dev.setLeg_nodes (n y : Nat) (f : LegSt → LegSt) : (s.setLeg n y f).nodes = s.nodes := rfl
@[simp] theorem Dev.setLeg_fars (n y : Nat) (f : LegSt → LegSt) : (s.setLeg n y f).fars = s.fars := rfl
@[simp] theorem Dev.setLeg_srcs (n y : Nat) (f : LegSt → LegSt) : (s.setLeg n y f).srcs = s.srcs := rfl
@[simp] theorem Dev.setLeg_teles (n y : Nat) (f : LegSt → LegSt) : (s.setLeg n y f).teles = s.teles := rfl
@[simp] theorem Dev.setLeg_due (n y : Nat) (f : LegSt → LegSt) : (s.setLeg n y f).due = s.due := rfl
@[simp] theorem Dev.setLeg_free (n y : Nat) (f : LegSt → LegSt) : (s.setLeg n y f).free = s.free := rfl

@[simp] theorem Dev.setAux_tick (i : Nat) (f : AuxSt → AuxSt) : (s.setAux i f).tick = s.tick := rfl
@[simp] theorem Dev.setAux_regs (i : Nat) (f : AuxSt → AuxSt) : (s.setAux i f).regs = s.regs := rfl
@[simp] theorem Dev.setAux_force (i : Nat) (f : AuxSt → AuxSt) : (s.setAux i f).force = s.force := rfl
@[simp] theorem Dev.setAux_slotVals (i : Nat) (f : AuxSt → AuxSt) : (s.setAux i f).slotVals = s.slotVals := rfl
@[simp] theorem Dev.setAux_plan (i : Nat) (f : AuxSt → AuxSt) : (s.setAux i f).plan = s.plan := rfl
@[simp] theorem Dev.setAux_img (i : Nat) (f : AuxSt → AuxSt) : (s.setAux i f).img = s.img := rfl
@[simp] theorem Dev.setAux_ms (i : Nat) (f : AuxSt → AuxSt) : (s.setAux i f).ms = s.ms := rfl
@[simp] theorem Dev.setAux_ml (i : Nat) (f : AuxSt → AuxSt) : (s.setAux i f).ml = s.ml := rfl
@[simp] theorem Dev.setAux_flt (i : Nat) (f : AuxSt → AuxSt) : (s.setAux i f).flt = s.flt := rfl
@[simp] theorem Dev.setAux_tb (i : Nat) (f : AuxSt → AuxSt) : (s.setAux i f).tb = s.tb := rfl
@[simp] theorem Dev.setAux_tpos (i : Nat) (f : AuxSt → AuxSt) : (s.setAux i f).tpos = s.tpos := rfl
@[simp] theorem Dev.setAux_clk (i : Nat) (f : AuxSt → AuxSt) : (s.setAux i f).clk = s.clk := rfl
@[simp] theorem Dev.setAux_pair (i : Nat) (f : AuxSt → AuxSt) : (s.setAux i f).pair = s.pair := rfl
@[simp] theorem Dev.setAux_cans (i : Nat) (f : AuxSt → AuxSt) : (s.setAux i f).cans = s.cans := rfl
@[simp] theorem Dev.setAux_objs (i : Nat) (f : AuxSt → AuxSt) : (s.setAux i f).objs = s.objs := rfl
@[simp] theorem Dev.setAux_pwr (i : Nat) (f : AuxSt → AuxSt) : (s.setAux i f).pwr = s.pwr := rfl
@[simp] theorem Dev.setAux_box (i : Nat) (f : AuxSt → AuxSt) : (s.setAux i f).box = s.box := rfl
@[simp] theorem Dev.setAux_hs (i : Nat) (f : AuxSt → AuxSt) : (s.setAux i f).hs = s.hs := rfl
@[simp] theorem Dev.setAux_sens (i : Nat) (f : AuxSt → AuxSt) : (s.setAux i f).sens = s.sens := rfl
@[simp] theorem Dev.setAux_rgs (i : Nat) (f : AuxSt → AuxSt) : (s.setAux i f).rgs = s.rgs := rfl
@[simp] theorem Dev.setAux_trks (i : Nat) (f : AuxSt → AuxSt) : (s.setAux i f).trks = s.trks := rfl
@[simp] theorem Dev.setAux_busy (i : Nat) (f : AuxSt → AuxSt) : (s.setAux i f).busy = s.busy := rfl
@[simp] theorem Dev.setAux_strs (i : Nat) (f : AuxSt → AuxSt) : (s.setAux i f).strs = s.strs := rfl
@[simp] theorem Dev.setAux_legs (i : Nat) (f : AuxSt → AuxSt) : (s.setAux i f).legs = s.legs := rfl
@[simp] theorem Dev.setAux_ports (i : Nat) (f : AuxSt → AuxSt) : (s.setAux i f).ports = s.ports := rfl
@[simp] theorem Dev.setAux_nodes (i : Nat) (f : AuxSt → AuxSt) : (s.setAux i f).nodes = s.nodes := rfl
@[simp] theorem Dev.setAux_fars (i : Nat) (f : AuxSt → AuxSt) : (s.setAux i f).fars = s.fars := rfl
@[simp] theorem Dev.setAux_srcs (i : Nat) (f : AuxSt → AuxSt) : (s.setAux i f).srcs = s.srcs := rfl
@[simp] theorem Dev.setAux_teles (i : Nat) (f : AuxSt → AuxSt) : (s.setAux i f).teles = s.teles := rfl
@[simp] theorem Dev.setAux_due (i : Nat) (f : AuxSt → AuxSt) : (s.setAux i f).due = s.due := rfl
@[simp] theorem Dev.setAux_free (i : Nat) (f : AuxSt → AuxSt) : (s.setAux i f).free = s.free := rfl

@[simp] theorem Dev.setPort_tick (i : Nat) (f : PortSt → PortSt) : (s.setPort i f).tick = s.tick := rfl
@[simp] theorem Dev.setPort_regs (i : Nat) (f : PortSt → PortSt) : (s.setPort i f).regs = s.regs := rfl
@[simp] theorem Dev.setPort_force (i : Nat) (f : PortSt → PortSt) : (s.setPort i f).force = s.force := rfl
@[simp] theorem Dev.setPort_slotVals (i : Nat) (f : PortSt → PortSt) : (s.setPort i f).slotVals = s.slotVals := rfl
@[simp] theorem Dev.setPort_plan (i : Nat) (f : PortSt → PortSt) : (s.setPort i f).plan = s.plan := rfl
@[simp] theorem Dev.setPort_img (i : Nat) (f : PortSt → PortSt) : (s.setPort i f).img = s.img := rfl
@[simp] theorem Dev.setPort_ms (i : Nat) (f : PortSt → PortSt) : (s.setPort i f).ms = s.ms := rfl
@[simp] theorem Dev.setPort_ml (i : Nat) (f : PortSt → PortSt) : (s.setPort i f).ml = s.ml := rfl
@[simp] theorem Dev.setPort_flt (i : Nat) (f : PortSt → PortSt) : (s.setPort i f).flt = s.flt := rfl
@[simp] theorem Dev.setPort_tb (i : Nat) (f : PortSt → PortSt) : (s.setPort i f).tb = s.tb := rfl
@[simp] theorem Dev.setPort_tpos (i : Nat) (f : PortSt → PortSt) : (s.setPort i f).tpos = s.tpos := rfl
@[simp] theorem Dev.setPort_clk (i : Nat) (f : PortSt → PortSt) : (s.setPort i f).clk = s.clk := rfl
@[simp] theorem Dev.setPort_pair (i : Nat) (f : PortSt → PortSt) : (s.setPort i f).pair = s.pair := rfl
@[simp] theorem Dev.setPort_cans (i : Nat) (f : PortSt → PortSt) : (s.setPort i f).cans = s.cans := rfl
@[simp] theorem Dev.setPort_objs (i : Nat) (f : PortSt → PortSt) : (s.setPort i f).objs = s.objs := rfl
@[simp] theorem Dev.setPort_pwr (i : Nat) (f : PortSt → PortSt) : (s.setPort i f).pwr = s.pwr := rfl
@[simp] theorem Dev.setPort_box (i : Nat) (f : PortSt → PortSt) : (s.setPort i f).box = s.box := rfl
@[simp] theorem Dev.setPort_hs (i : Nat) (f : PortSt → PortSt) : (s.setPort i f).hs = s.hs := rfl
@[simp] theorem Dev.setPort_sens (i : Nat) (f : PortSt → PortSt) : (s.setPort i f).sens = s.sens := rfl
@[simp] theorem Dev.setPort_rgs (i : Nat) (f : PortSt → PortSt) : (s.setPort i f).rgs = s.rgs := rfl
@[simp] theorem Dev.setPort_trks (i : Nat) (f : PortSt → PortSt) : (s.setPort i f).trks = s.trks := rfl
@[simp] theorem Dev.setPort_busy (i : Nat) (f : PortSt → PortSt) : (s.setPort i f).busy = s.busy := rfl
@[simp] theorem Dev.setPort_strs (i : Nat) (f : PortSt → PortSt) : (s.setPort i f).strs = s.strs := rfl
@[simp] theorem Dev.setPort_legs (i : Nat) (f : PortSt → PortSt) : (s.setPort i f).legs = s.legs := rfl
@[simp] theorem Dev.setPort_auxs (i : Nat) (f : PortSt → PortSt) : (s.setPort i f).auxs = s.auxs := rfl
@[simp] theorem Dev.setPort_nodes (i : Nat) (f : PortSt → PortSt) : (s.setPort i f).nodes = s.nodes := rfl
@[simp] theorem Dev.setPort_fars (i : Nat) (f : PortSt → PortSt) : (s.setPort i f).fars = s.fars := rfl
@[simp] theorem Dev.setPort_srcs (i : Nat) (f : PortSt → PortSt) : (s.setPort i f).srcs = s.srcs := rfl
@[simp] theorem Dev.setPort_teles (i : Nat) (f : PortSt → PortSt) : (s.setPort i f).teles = s.teles := rfl
@[simp] theorem Dev.setPort_due (i : Nat) (f : PortSt → PortSt) : (s.setPort i f).due = s.due := rfl
@[simp] theorem Dev.setPort_free (i : Nat) (f : PortSt → PortSt) : (s.setPort i f).free = s.free := rfl

@[simp] theorem Dev.setNode_tick (i : Nat) (f : NodeSt → NodeSt) : (s.setNode i f).tick = s.tick := rfl
@[simp] theorem Dev.setNode_regs (i : Nat) (f : NodeSt → NodeSt) : (s.setNode i f).regs = s.regs := rfl
@[simp] theorem Dev.setNode_force (i : Nat) (f : NodeSt → NodeSt) : (s.setNode i f).force = s.force := rfl
@[simp] theorem Dev.setNode_slotVals (i : Nat) (f : NodeSt → NodeSt) : (s.setNode i f).slotVals = s.slotVals := rfl
@[simp] theorem Dev.setNode_plan (i : Nat) (f : NodeSt → NodeSt) : (s.setNode i f).plan = s.plan := rfl
@[simp] theorem Dev.setNode_img (i : Nat) (f : NodeSt → NodeSt) : (s.setNode i f).img = s.img := rfl
@[simp] theorem Dev.setNode_ms (i : Nat) (f : NodeSt → NodeSt) : (s.setNode i f).ms = s.ms := rfl
@[simp] theorem Dev.setNode_ml (i : Nat) (f : NodeSt → NodeSt) : (s.setNode i f).ml = s.ml := rfl
@[simp] theorem Dev.setNode_flt (i : Nat) (f : NodeSt → NodeSt) : (s.setNode i f).flt = s.flt := rfl
@[simp] theorem Dev.setNode_tb (i : Nat) (f : NodeSt → NodeSt) : (s.setNode i f).tb = s.tb := rfl
@[simp] theorem Dev.setNode_tpos (i : Nat) (f : NodeSt → NodeSt) : (s.setNode i f).tpos = s.tpos := rfl
@[simp] theorem Dev.setNode_clk (i : Nat) (f : NodeSt → NodeSt) : (s.setNode i f).clk = s.clk := rfl
@[simp] theorem Dev.setNode_pair (i : Nat) (f : NodeSt → NodeSt) : (s.setNode i f).pair = s.pair := rfl
@[simp] theorem Dev.setNode_cans (i : Nat) (f : NodeSt → NodeSt) : (s.setNode i f).cans = s.cans := rfl
@[simp] theorem Dev.setNode_objs (i : Nat) (f : NodeSt → NodeSt) : (s.setNode i f).objs = s.objs := rfl
@[simp] theorem Dev.setNode_pwr (i : Nat) (f : NodeSt → NodeSt) : (s.setNode i f).pwr = s.pwr := rfl
@[simp] theorem Dev.setNode_box (i : Nat) (f : NodeSt → NodeSt) : (s.setNode i f).box = s.box := rfl
@[simp] theorem Dev.setNode_hs (i : Nat) (f : NodeSt → NodeSt) : (s.setNode i f).hs = s.hs := rfl
@[simp] theorem Dev.setNode_sens (i : Nat) (f : NodeSt → NodeSt) : (s.setNode i f).sens = s.sens := rfl
@[simp] theorem Dev.setNode_rgs (i : Nat) (f : NodeSt → NodeSt) : (s.setNode i f).rgs = s.rgs := rfl
@[simp] theorem Dev.setNode_trks (i : Nat) (f : NodeSt → NodeSt) : (s.setNode i f).trks = s.trks := rfl
@[simp] theorem Dev.setNode_busy (i : Nat) (f : NodeSt → NodeSt) : (s.setNode i f).busy = s.busy := rfl
@[simp] theorem Dev.setNode_strs (i : Nat) (f : NodeSt → NodeSt) : (s.setNode i f).strs = s.strs := rfl
@[simp] theorem Dev.setNode_legs (i : Nat) (f : NodeSt → NodeSt) : (s.setNode i f).legs = s.legs := rfl
@[simp] theorem Dev.setNode_auxs (i : Nat) (f : NodeSt → NodeSt) : (s.setNode i f).auxs = s.auxs := rfl
@[simp] theorem Dev.setNode_ports (i : Nat) (f : NodeSt → NodeSt) : (s.setNode i f).ports = s.ports := rfl
@[simp] theorem Dev.setNode_fars (i : Nat) (f : NodeSt → NodeSt) : (s.setNode i f).fars = s.fars := rfl
@[simp] theorem Dev.setNode_srcs (i : Nat) (f : NodeSt → NodeSt) : (s.setNode i f).srcs = s.srcs := rfl
@[simp] theorem Dev.setNode_teles (i : Nat) (f : NodeSt → NodeSt) : (s.setNode i f).teles = s.teles := rfl
@[simp] theorem Dev.setNode_due (i : Nat) (f : NodeSt → NodeSt) : (s.setNode i f).due = s.due := rfl
@[simp] theorem Dev.setNode_free (i : Nat) (f : NodeSt → NodeSt) : (s.setNode i f).free = s.free := rfl

@[simp] theorem Dev.setFar_tick (i : Nat) (f : FarSt → FarSt) : (s.setFar i f).tick = s.tick := rfl
@[simp] theorem Dev.setFar_regs (i : Nat) (f : FarSt → FarSt) : (s.setFar i f).regs = s.regs := rfl
@[simp] theorem Dev.setFar_force (i : Nat) (f : FarSt → FarSt) : (s.setFar i f).force = s.force := rfl
@[simp] theorem Dev.setFar_slotVals (i : Nat) (f : FarSt → FarSt) : (s.setFar i f).slotVals = s.slotVals := rfl
@[simp] theorem Dev.setFar_plan (i : Nat) (f : FarSt → FarSt) : (s.setFar i f).plan = s.plan := rfl
@[simp] theorem Dev.setFar_img (i : Nat) (f : FarSt → FarSt) : (s.setFar i f).img = s.img := rfl
@[simp] theorem Dev.setFar_ms (i : Nat) (f : FarSt → FarSt) : (s.setFar i f).ms = s.ms := rfl
@[simp] theorem Dev.setFar_ml (i : Nat) (f : FarSt → FarSt) : (s.setFar i f).ml = s.ml := rfl
@[simp] theorem Dev.setFar_flt (i : Nat) (f : FarSt → FarSt) : (s.setFar i f).flt = s.flt := rfl
@[simp] theorem Dev.setFar_tb (i : Nat) (f : FarSt → FarSt) : (s.setFar i f).tb = s.tb := rfl
@[simp] theorem Dev.setFar_tpos (i : Nat) (f : FarSt → FarSt) : (s.setFar i f).tpos = s.tpos := rfl
@[simp] theorem Dev.setFar_clk (i : Nat) (f : FarSt → FarSt) : (s.setFar i f).clk = s.clk := rfl
@[simp] theorem Dev.setFar_pair (i : Nat) (f : FarSt → FarSt) : (s.setFar i f).pair = s.pair := rfl
@[simp] theorem Dev.setFar_cans (i : Nat) (f : FarSt → FarSt) : (s.setFar i f).cans = s.cans := rfl
@[simp] theorem Dev.setFar_objs (i : Nat) (f : FarSt → FarSt) : (s.setFar i f).objs = s.objs := rfl
@[simp] theorem Dev.setFar_pwr (i : Nat) (f : FarSt → FarSt) : (s.setFar i f).pwr = s.pwr := rfl
@[simp] theorem Dev.setFar_box (i : Nat) (f : FarSt → FarSt) : (s.setFar i f).box = s.box := rfl
@[simp] theorem Dev.setFar_hs (i : Nat) (f : FarSt → FarSt) : (s.setFar i f).hs = s.hs := rfl
@[simp] theorem Dev.setFar_sens (i : Nat) (f : FarSt → FarSt) : (s.setFar i f).sens = s.sens := rfl
@[simp] theorem Dev.setFar_rgs (i : Nat) (f : FarSt → FarSt) : (s.setFar i f).rgs = s.rgs := rfl
@[simp] theorem Dev.setFar_trks (i : Nat) (f : FarSt → FarSt) : (s.setFar i f).trks = s.trks := rfl
@[simp] theorem Dev.setFar_busy (i : Nat) (f : FarSt → FarSt) : (s.setFar i f).busy = s.busy := rfl
@[simp] theorem Dev.setFar_strs (i : Nat) (f : FarSt → FarSt) : (s.setFar i f).strs = s.strs := rfl
@[simp] theorem Dev.setFar_legs (i : Nat) (f : FarSt → FarSt) : (s.setFar i f).legs = s.legs := rfl
@[simp] theorem Dev.setFar_auxs (i : Nat) (f : FarSt → FarSt) : (s.setFar i f).auxs = s.auxs := rfl
@[simp] theorem Dev.setFar_ports (i : Nat) (f : FarSt → FarSt) : (s.setFar i f).ports = s.ports := rfl
@[simp] theorem Dev.setFar_nodes (i : Nat) (f : FarSt → FarSt) : (s.setFar i f).nodes = s.nodes := rfl
@[simp] theorem Dev.setFar_srcs (i : Nat) (f : FarSt → FarSt) : (s.setFar i f).srcs = s.srcs := rfl
@[simp] theorem Dev.setFar_teles (i : Nat) (f : FarSt → FarSt) : (s.setFar i f).teles = s.teles := rfl
@[simp] theorem Dev.setFar_due (i : Nat) (f : FarSt → FarSt) : (s.setFar i f).due = s.due := rfl
@[simp] theorem Dev.setFar_free (i : Nat) (f : FarSt → FarSt) : (s.setFar i f).free = s.free := rfl

@[simp] theorem Dev.setSrc_tick (i : Nat) (f : SrcSt → SrcSt) : (s.setSrc i f).tick = s.tick := rfl
@[simp] theorem Dev.setSrc_regs (i : Nat) (f : SrcSt → SrcSt) : (s.setSrc i f).regs = s.regs := rfl
@[simp] theorem Dev.setSrc_force (i : Nat) (f : SrcSt → SrcSt) : (s.setSrc i f).force = s.force := rfl
@[simp] theorem Dev.setSrc_slotVals (i : Nat) (f : SrcSt → SrcSt) : (s.setSrc i f).slotVals = s.slotVals := rfl
@[simp] theorem Dev.setSrc_plan (i : Nat) (f : SrcSt → SrcSt) : (s.setSrc i f).plan = s.plan := rfl
@[simp] theorem Dev.setSrc_img (i : Nat) (f : SrcSt → SrcSt) : (s.setSrc i f).img = s.img := rfl
@[simp] theorem Dev.setSrc_ms (i : Nat) (f : SrcSt → SrcSt) : (s.setSrc i f).ms = s.ms := rfl
@[simp] theorem Dev.setSrc_ml (i : Nat) (f : SrcSt → SrcSt) : (s.setSrc i f).ml = s.ml := rfl
@[simp] theorem Dev.setSrc_flt (i : Nat) (f : SrcSt → SrcSt) : (s.setSrc i f).flt = s.flt := rfl
@[simp] theorem Dev.setSrc_tb (i : Nat) (f : SrcSt → SrcSt) : (s.setSrc i f).tb = s.tb := rfl
@[simp] theorem Dev.setSrc_tpos (i : Nat) (f : SrcSt → SrcSt) : (s.setSrc i f).tpos = s.tpos := rfl
@[simp] theorem Dev.setSrc_clk (i : Nat) (f : SrcSt → SrcSt) : (s.setSrc i f).clk = s.clk := rfl
@[simp] theorem Dev.setSrc_pair (i : Nat) (f : SrcSt → SrcSt) : (s.setSrc i f).pair = s.pair := rfl
@[simp] theorem Dev.setSrc_cans (i : Nat) (f : SrcSt → SrcSt) : (s.setSrc i f).cans = s.cans := rfl
@[simp] theorem Dev.setSrc_objs (i : Nat) (f : SrcSt → SrcSt) : (s.setSrc i f).objs = s.objs := rfl
@[simp] theorem Dev.setSrc_pwr (i : Nat) (f : SrcSt → SrcSt) : (s.setSrc i f).pwr = s.pwr := rfl
@[simp] theorem Dev.setSrc_box (i : Nat) (f : SrcSt → SrcSt) : (s.setSrc i f).box = s.box := rfl
@[simp] theorem Dev.setSrc_hs (i : Nat) (f : SrcSt → SrcSt) : (s.setSrc i f).hs = s.hs := rfl
@[simp] theorem Dev.setSrc_sens (i : Nat) (f : SrcSt → SrcSt) : (s.setSrc i f).sens = s.sens := rfl
@[simp] theorem Dev.setSrc_rgs (i : Nat) (f : SrcSt → SrcSt) : (s.setSrc i f).rgs = s.rgs := rfl
@[simp] theorem Dev.setSrc_trks (i : Nat) (f : SrcSt → SrcSt) : (s.setSrc i f).trks = s.trks := rfl
@[simp] theorem Dev.setSrc_busy (i : Nat) (f : SrcSt → SrcSt) : (s.setSrc i f).busy = s.busy := rfl
@[simp] theorem Dev.setSrc_strs (i : Nat) (f : SrcSt → SrcSt) : (s.setSrc i f).strs = s.strs := rfl
@[simp] theorem Dev.setSrc_legs (i : Nat) (f : SrcSt → SrcSt) : (s.setSrc i f).legs = s.legs := rfl
@[simp] theorem Dev.setSrc_auxs (i : Nat) (f : SrcSt → SrcSt) : (s.setSrc i f).auxs = s.auxs := rfl
@[simp] theorem Dev.setSrc_ports (i : Nat) (f : SrcSt → SrcSt) : (s.setSrc i f).ports = s.ports := rfl
@[simp] theorem Dev.setSrc_nodes (i : Nat) (f : SrcSt → SrcSt) : (s.setSrc i f).nodes = s.nodes := rfl
@[simp] theorem Dev.setSrc_fars (i : Nat) (f : SrcSt → SrcSt) : (s.setSrc i f).fars = s.fars := rfl
@[simp] theorem Dev.setSrc_teles (i : Nat) (f : SrcSt → SrcSt) : (s.setSrc i f).teles = s.teles := rfl
@[simp] theorem Dev.setSrc_due (i : Nat) (f : SrcSt → SrcSt) : (s.setSrc i f).due = s.due := rfl
@[simp] theorem Dev.setSrc_free (i : Nat) (f : SrcSt → SrcSt) : (s.setSrc i f).free = s.free := rfl

@[simp] theorem Dev.setTele_tick (n q : Nat) (v : Tele) : (s.setTele n q v).tick = s.tick := rfl
@[simp] theorem Dev.setTele_regs (n q : Nat) (v : Tele) : (s.setTele n q v).regs = s.regs := rfl
@[simp] theorem Dev.setTele_force (n q : Nat) (v : Tele) : (s.setTele n q v).force = s.force := rfl
@[simp] theorem Dev.setTele_slotVals (n q : Nat) (v : Tele) : (s.setTele n q v).slotVals = s.slotVals := rfl
@[simp] theorem Dev.setTele_plan (n q : Nat) (v : Tele) : (s.setTele n q v).plan = s.plan := rfl
@[simp] theorem Dev.setTele_img (n q : Nat) (v : Tele) : (s.setTele n q v).img = s.img := rfl
@[simp] theorem Dev.setTele_ms (n q : Nat) (v : Tele) : (s.setTele n q v).ms = s.ms := rfl
@[simp] theorem Dev.setTele_ml (n q : Nat) (v : Tele) : (s.setTele n q v).ml = s.ml := rfl
@[simp] theorem Dev.setTele_flt (n q : Nat) (v : Tele) : (s.setTele n q v).flt = s.flt := rfl
@[simp] theorem Dev.setTele_tb (n q : Nat) (v : Tele) : (s.setTele n q v).tb = s.tb := rfl
@[simp] theorem Dev.setTele_tpos (n q : Nat) (v : Tele) : (s.setTele n q v).tpos = s.tpos := rfl
@[simp] theorem Dev.setTele_clk (n q : Nat) (v : Tele) : (s.setTele n q v).clk = s.clk := rfl
@[simp] theorem Dev.setTele_pair (n q : Nat) (v : Tele) : (s.setTele n q v).pair = s.pair := rfl
@[simp] theorem Dev.setTele_cans (n q : Nat) (v : Tele) : (s.setTele n q v).cans = s.cans := rfl
@[simp] theorem Dev.setTele_objs (n q : Nat) (v : Tele) : (s.setTele n q v).objs = s.objs := rfl
@[simp] theorem Dev.setTele_pwr (n q : Nat) (v : Tele) : (s.setTele n q v).pwr = s.pwr := rfl
@[simp] theorem Dev.setTele_box (n q : Nat) (v : Tele) : (s.setTele n q v).box = s.box := rfl
@[simp] theorem Dev.setTele_hs (n q : Nat) (v : Tele) : (s.setTele n q v).hs = s.hs := rfl
@[simp] theorem Dev.setTele_sens (n q : Nat) (v : Tele) : (s.setTele n q v).sens = s.sens := rfl
@[simp] theorem Dev.setTele_rgs (n q : Nat) (v : Tele) : (s.setTele n q v).rgs = s.rgs := rfl
@[simp] theorem Dev.setTele_trks (n q : Nat) (v : Tele) : (s.setTele n q v).trks = s.trks := rfl
@[simp] theorem Dev.setTele_busy (n q : Nat) (v : Tele) : (s.setTele n q v).busy = s.busy := rfl
@[simp] theorem Dev.setTele_strs (n q : Nat) (v : Tele) : (s.setTele n q v).strs = s.strs := rfl
@[simp] theorem Dev.setTele_legs (n q : Nat) (v : Tele) : (s.setTele n q v).legs = s.legs := rfl
@[simp] theorem Dev.setTele_auxs (n q : Nat) (v : Tele) : (s.setTele n q v).auxs = s.auxs := rfl
@[simp] theorem Dev.setTele_ports (n q : Nat) (v : Tele) : (s.setTele n q v).ports = s.ports := rfl
@[simp] theorem Dev.setTele_nodes (n q : Nat) (v : Tele) : (s.setTele n q v).nodes = s.nodes := rfl
@[simp] theorem Dev.setTele_fars (n q : Nat) (v : Tele) : (s.setTele n q v).fars = s.fars := rfl
@[simp] theorem Dev.setTele_srcs (n q : Nat) (v : Tele) : (s.setTele n q v).srcs = s.srcs := rfl
@[simp] theorem Dev.setTele_due (n q : Nat) (v : Tele) : (s.setTele n q v).due = s.due := rfl
@[simp] theorem Dev.setTele_free (n q : Nat) (v : Tele) : (s.setTele n q v).free = s.free := rfl

@[simp] theorem Dev.setRg_tick (g : Nat) (f : RgSt → RgSt) : (s.setRg g f).tick = s.tick := rfl
@[simp] theorem Dev.setRg_regs (g : Nat) (f : RgSt → RgSt) : (s.setRg g f).regs = s.regs := rfl
@[simp] theorem Dev.setRg_force (g : Nat) (f : RgSt → RgSt) : (s.setRg g f).force = s.force := rfl
@[simp] theorem Dev.setRg_slotVals (g : Nat) (f : RgSt → RgSt) : (s.setRg g f).slotVals = s.slotVals := rfl
@[simp] theorem Dev.setRg_plan (g : Nat) (f : RgSt → RgSt) : (s.setRg g f).plan = s.plan := rfl
@[simp] theorem Dev.setRg_img (g : Nat) (f : RgSt → RgSt) : (s.setRg g f).img = s.img := rfl
@[simp] theorem Dev.setRg_ms (g : Nat) (f : RgSt → RgSt) : (s.setRg g f).ms = s.ms := rfl
@[simp] theorem Dev.setRg_ml (g : Nat) (f : RgSt → RgSt) : (s.setRg g f).ml = s.ml := rfl
@[simp] theorem Dev.setRg_flt (g : Nat) (f : RgSt → RgSt) : (s.setRg g f).flt = s.flt := rfl
@[simp] theorem Dev.setRg_tb (g : Nat) (f : RgSt → RgSt) : (s.setRg g f).tb = s.tb := rfl
@[simp] theorem Dev.setRg_tpos (g : Nat) (f : RgSt → RgSt) : (s.setRg g f).tpos = s.tpos := rfl
@[simp] theorem Dev.setRg_clk (g : Nat) (f : RgSt → RgSt) : (s.setRg g f).clk = s.clk := rfl
@[simp] theorem Dev.setRg_pair (g : Nat) (f : RgSt → RgSt) : (s.setRg g f).pair = s.pair := rfl
@[simp] theorem Dev.setRg_cans (g : Nat) (f : RgSt → RgSt) : (s.setRg g f).cans = s.cans := rfl
@[simp] theorem Dev.setRg_objs (g : Nat) (f : RgSt → RgSt) : (s.setRg g f).objs = s.objs := rfl
@[simp] theorem Dev.setRg_pwr (g : Nat) (f : RgSt → RgSt) : (s.setRg g f).pwr = s.pwr := rfl
@[simp] theorem Dev.setRg_box (g : Nat) (f : RgSt → RgSt) : (s.setRg g f).box = s.box := rfl
@[simp] theorem Dev.setRg_hs (g : Nat) (f : RgSt → RgSt) : (s.setRg g f).hs = s.hs := rfl
@[simp] theorem Dev.setRg_sens (g : Nat) (f : RgSt → RgSt) : (s.setRg g f).sens = s.sens := rfl
@[simp] theorem Dev.setRg_trks (g : Nat) (f : RgSt → RgSt) : (s.setRg g f).trks = s.trks := rfl
@[simp] theorem Dev.setRg_busy (g : Nat) (f : RgSt → RgSt) : (s.setRg g f).busy = s.busy := rfl
@[simp] theorem Dev.setRg_strs (g : Nat) (f : RgSt → RgSt) : (s.setRg g f).strs = s.strs := rfl
@[simp] theorem Dev.setRg_legs (g : Nat) (f : RgSt → RgSt) : (s.setRg g f).legs = s.legs := rfl
@[simp] theorem Dev.setRg_auxs (g : Nat) (f : RgSt → RgSt) : (s.setRg g f).auxs = s.auxs := rfl
@[simp] theorem Dev.setRg_ports (g : Nat) (f : RgSt → RgSt) : (s.setRg g f).ports = s.ports := rfl
@[simp] theorem Dev.setRg_nodes (g : Nat) (f : RgSt → RgSt) : (s.setRg g f).nodes = s.nodes := rfl
@[simp] theorem Dev.setRg_fars (g : Nat) (f : RgSt → RgSt) : (s.setRg g f).fars = s.fars := rfl
@[simp] theorem Dev.setRg_srcs (g : Nat) (f : RgSt → RgSt) : (s.setRg g f).srcs = s.srcs := rfl
@[simp] theorem Dev.setRg_teles (g : Nat) (f : RgSt → RgSt) : (s.setRg g f).teles = s.teles := rfl
@[simp] theorem Dev.setRg_due (g : Nat) (f : RgSt → RgSt) : (s.setRg g f).due = s.due := rfl
@[simp] theorem Dev.setRg_free (g : Nat) (f : RgSt → RgSt) : (s.setRg g f).free = s.free := rfl

@[simp] theorem Dev.setTpo_tick (k : Nat) (f : TpoSt → TpoSt) : (s.setTpo k f).tick = s.tick := rfl
@[simp] theorem Dev.setTpo_regs (k : Nat) (f : TpoSt → TpoSt) : (s.setTpo k f).regs = s.regs := rfl
@[simp] theorem Dev.setTpo_force (k : Nat) (f : TpoSt → TpoSt) : (s.setTpo k f).force = s.force := rfl
@[simp] theorem Dev.setTpo_slotVals (k : Nat) (f : TpoSt → TpoSt) : (s.setTpo k f).slotVals = s.slotVals := rfl
@[simp] theorem Dev.setTpo_plan (k : Nat) (f : TpoSt → TpoSt) : (s.setTpo k f).plan = s.plan := rfl
@[simp] theorem Dev.setTpo_img (k : Nat) (f : TpoSt → TpoSt) : (s.setTpo k f).img = s.img := rfl
@[simp] theorem Dev.setTpo_ms (k : Nat) (f : TpoSt → TpoSt) : (s.setTpo k f).ms = s.ms := rfl
@[simp] theorem Dev.setTpo_ml (k : Nat) (f : TpoSt → TpoSt) : (s.setTpo k f).ml = s.ml := rfl
@[simp] theorem Dev.setTpo_flt (k : Nat) (f : TpoSt → TpoSt) : (s.setTpo k f).flt = s.flt := rfl
@[simp] theorem Dev.setTpo_tb (k : Nat) (f : TpoSt → TpoSt) : (s.setTpo k f).tb = s.tb := rfl
@[simp] theorem Dev.setTpo_clk (k : Nat) (f : TpoSt → TpoSt) : (s.setTpo k f).clk = s.clk := rfl
@[simp] theorem Dev.setTpo_pair (k : Nat) (f : TpoSt → TpoSt) : (s.setTpo k f).pair = s.pair := rfl
@[simp] theorem Dev.setTpo_cans (k : Nat) (f : TpoSt → TpoSt) : (s.setTpo k f).cans = s.cans := rfl
@[simp] theorem Dev.setTpo_objs (k : Nat) (f : TpoSt → TpoSt) : (s.setTpo k f).objs = s.objs := rfl
@[simp] theorem Dev.setTpo_pwr (k : Nat) (f : TpoSt → TpoSt) : (s.setTpo k f).pwr = s.pwr := rfl
@[simp] theorem Dev.setTpo_box (k : Nat) (f : TpoSt → TpoSt) : (s.setTpo k f).box = s.box := rfl
@[simp] theorem Dev.setTpo_hs (k : Nat) (f : TpoSt → TpoSt) : (s.setTpo k f).hs = s.hs := rfl
@[simp] theorem Dev.setTpo_sens (k : Nat) (f : TpoSt → TpoSt) : (s.setTpo k f).sens = s.sens := rfl
@[simp] theorem Dev.setTpo_rgs (k : Nat) (f : TpoSt → TpoSt) : (s.setTpo k f).rgs = s.rgs := rfl
@[simp] theorem Dev.setTpo_trks (k : Nat) (f : TpoSt → TpoSt) : (s.setTpo k f).trks = s.trks := rfl
@[simp] theorem Dev.setTpo_busy (k : Nat) (f : TpoSt → TpoSt) : (s.setTpo k f).busy = s.busy := rfl
@[simp] theorem Dev.setTpo_strs (k : Nat) (f : TpoSt → TpoSt) : (s.setTpo k f).strs = s.strs := rfl
@[simp] theorem Dev.setTpo_legs (k : Nat) (f : TpoSt → TpoSt) : (s.setTpo k f).legs = s.legs := rfl
@[simp] theorem Dev.setTpo_auxs (k : Nat) (f : TpoSt → TpoSt) : (s.setTpo k f).auxs = s.auxs := rfl
@[simp] theorem Dev.setTpo_ports (k : Nat) (f : TpoSt → TpoSt) : (s.setTpo k f).ports = s.ports := rfl
@[simp] theorem Dev.setTpo_nodes (k : Nat) (f : TpoSt → TpoSt) : (s.setTpo k f).nodes = s.nodes := rfl
@[simp] theorem Dev.setTpo_fars (k : Nat) (f : TpoSt → TpoSt) : (s.setTpo k f).fars = s.fars := rfl
@[simp] theorem Dev.setTpo_srcs (k : Nat) (f : TpoSt → TpoSt) : (s.setTpo k f).srcs = s.srcs := rfl
@[simp] theorem Dev.setTpo_teles (k : Nat) (f : TpoSt → TpoSt) : (s.setTpo k f).teles = s.teles := rfl
@[simp] theorem Dev.setTpo_due (k : Nat) (f : TpoSt → TpoSt) : (s.setTpo k f).due = s.due := rfl
@[simp] theorem Dev.setTpo_free (k : Nat) (f : TpoSt → TpoSt) : (s.setTpo k f).free = s.free := rfl

@[simp] theorem Dev.setCan_tick (c : Nat) (f : CanSt → CanSt) : (s.setCan c f).tick = s.tick := rfl
@[simp] theorem Dev.setCan_regs (c : Nat) (f : CanSt → CanSt) : (s.setCan c f).regs = s.regs := rfl
@[simp] theorem Dev.setCan_force (c : Nat) (f : CanSt → CanSt) : (s.setCan c f).force = s.force := rfl
@[simp] theorem Dev.setCan_slotVals (c : Nat) (f : CanSt → CanSt) : (s.setCan c f).slotVals = s.slotVals := rfl
@[simp] theorem Dev.setCan_plan (c : Nat) (f : CanSt → CanSt) : (s.setCan c f).plan = s.plan := rfl
@[simp] theorem Dev.setCan_img (c : Nat) (f : CanSt → CanSt) : (s.setCan c f).img = s.img := rfl
@[simp] theorem Dev.setCan_ms (c : Nat) (f : CanSt → CanSt) : (s.setCan c f).ms = s.ms := rfl
@[simp] theorem Dev.setCan_ml (c : Nat) (f : CanSt → CanSt) : (s.setCan c f).ml = s.ml := rfl
@[simp] theorem Dev.setCan_flt (c : Nat) (f : CanSt → CanSt) : (s.setCan c f).flt = s.flt := rfl
@[simp] theorem Dev.setCan_tb (c : Nat) (f : CanSt → CanSt) : (s.setCan c f).tb = s.tb := rfl
@[simp] theorem Dev.setCan_tpos (c : Nat) (f : CanSt → CanSt) : (s.setCan c f).tpos = s.tpos := rfl
@[simp] theorem Dev.setCan_clk (c : Nat) (f : CanSt → CanSt) : (s.setCan c f).clk = s.clk := rfl
@[simp] theorem Dev.setCan_pair (c : Nat) (f : CanSt → CanSt) : (s.setCan c f).pair = s.pair := rfl
@[simp] theorem Dev.setCan_objs (c : Nat) (f : CanSt → CanSt) : (s.setCan c f).objs = s.objs := rfl
@[simp] theorem Dev.setCan_pwr (c : Nat) (f : CanSt → CanSt) : (s.setCan c f).pwr = s.pwr := rfl
@[simp] theorem Dev.setCan_box (c : Nat) (f : CanSt → CanSt) : (s.setCan c f).box = s.box := rfl
@[simp] theorem Dev.setCan_hs (c : Nat) (f : CanSt → CanSt) : (s.setCan c f).hs = s.hs := rfl
@[simp] theorem Dev.setCan_sens (c : Nat) (f : CanSt → CanSt) : (s.setCan c f).sens = s.sens := rfl
@[simp] theorem Dev.setCan_rgs (c : Nat) (f : CanSt → CanSt) : (s.setCan c f).rgs = s.rgs := rfl
@[simp] theorem Dev.setCan_trks (c : Nat) (f : CanSt → CanSt) : (s.setCan c f).trks = s.trks := rfl
@[simp] theorem Dev.setCan_busy (c : Nat) (f : CanSt → CanSt) : (s.setCan c f).busy = s.busy := rfl
@[simp] theorem Dev.setCan_strs (c : Nat) (f : CanSt → CanSt) : (s.setCan c f).strs = s.strs := rfl
@[simp] theorem Dev.setCan_legs (c : Nat) (f : CanSt → CanSt) : (s.setCan c f).legs = s.legs := rfl
@[simp] theorem Dev.setCan_auxs (c : Nat) (f : CanSt → CanSt) : (s.setCan c f).auxs = s.auxs := rfl
@[simp] theorem Dev.setCan_ports (c : Nat) (f : CanSt → CanSt) : (s.setCan c f).ports = s.ports := rfl
@[simp] theorem Dev.setCan_nodes (c : Nat) (f : CanSt → CanSt) : (s.setCan c f).nodes = s.nodes := rfl
@[simp] theorem Dev.setCan_fars (c : Nat) (f : CanSt → CanSt) : (s.setCan c f).fars = s.fars := rfl
@[simp] theorem Dev.setCan_srcs (c : Nat) (f : CanSt → CanSt) : (s.setCan c f).srcs = s.srcs := rfl
@[simp] theorem Dev.setCan_teles (c : Nat) (f : CanSt → CanSt) : (s.setCan c f).teles = s.teles := rfl
@[simp] theorem Dev.setCan_due (c : Nat) (f : CanSt → CanSt) : (s.setCan c f).due = s.due := rfl
@[simp] theorem Dev.setCan_free (c : Nat) (f : CanSt → CanSt) : (s.setCan c f).free = s.free := rfl

@[simp] theorem Dev.setObj_tick (o : Nat) (f : ObjSt → ObjSt) : (s.setObj o f).tick = s.tick := rfl
@[simp] theorem Dev.setObj_regs (o : Nat) (f : ObjSt → ObjSt) : (s.setObj o f).regs = s.regs := rfl
@[simp] theorem Dev.setObj_force (o : Nat) (f : ObjSt → ObjSt) : (s.setObj o f).force = s.force := rfl
@[simp] theorem Dev.setObj_slotVals (o : Nat) (f : ObjSt → ObjSt) : (s.setObj o f).slotVals = s.slotVals := rfl
@[simp] theorem Dev.setObj_plan (o : Nat) (f : ObjSt → ObjSt) : (s.setObj o f).plan = s.plan := rfl
@[simp] theorem Dev.setObj_img (o : Nat) (f : ObjSt → ObjSt) : (s.setObj o f).img = s.img := rfl
@[simp] theorem Dev.setObj_ms (o : Nat) (f : ObjSt → ObjSt) : (s.setObj o f).ms = s.ms := rfl
@[simp] theorem Dev.setObj_ml (o : Nat) (f : ObjSt → ObjSt) : (s.setObj o f).ml = s.ml := rfl
@[simp] theorem Dev.setObj_flt (o : Nat) (f : ObjSt → ObjSt) : (s.setObj o f).flt = s.flt := rfl
@[simp] theorem Dev.setObj_tb (o : Nat) (f : ObjSt → ObjSt) : (s.setObj o f).tb = s.tb := rfl
@[simp] theorem Dev.setObj_tpos (o : Nat) (f : ObjSt → ObjSt) : (s.setObj o f).tpos = s.tpos := rfl
@[simp] theorem Dev.setObj_clk (o : Nat) (f : ObjSt → ObjSt) : (s.setObj o f).clk = s.clk := rfl
@[simp] theorem Dev.setObj_pair (o : Nat) (f : ObjSt → ObjSt) : (s.setObj o f).pair = s.pair := rfl
@[simp] theorem Dev.setObj_cans (o : Nat) (f : ObjSt → ObjSt) : (s.setObj o f).cans = s.cans := rfl
@[simp] theorem Dev.setObj_pwr (o : Nat) (f : ObjSt → ObjSt) : (s.setObj o f).pwr = s.pwr := rfl
@[simp] theorem Dev.setObj_box (o : Nat) (f : ObjSt → ObjSt) : (s.setObj o f).box = s.box := rfl
@[simp] theorem Dev.setObj_hs (o : Nat) (f : ObjSt → ObjSt) : (s.setObj o f).hs = s.hs := rfl
@[simp] theorem Dev.setObj_sens (o : Nat) (f : ObjSt → ObjSt) : (s.setObj o f).sens = s.sens := rfl
@[simp] theorem Dev.setObj_rgs (o : Nat) (f : ObjSt → ObjSt) : (s.setObj o f).rgs = s.rgs := rfl
@[simp] theorem Dev.setObj_trks (o : Nat) (f : ObjSt → ObjSt) : (s.setObj o f).trks = s.trks := rfl
@[simp] theorem Dev.setObj_busy (o : Nat) (f : ObjSt → ObjSt) : (s.setObj o f).busy = s.busy := rfl
@[simp] theorem Dev.setObj_strs (o : Nat) (f : ObjSt → ObjSt) : (s.setObj o f).strs = s.strs := rfl
@[simp] theorem Dev.setObj_legs (o : Nat) (f : ObjSt → ObjSt) : (s.setObj o f).legs = s.legs := rfl
@[simp] theorem Dev.setObj_auxs (o : Nat) (f : ObjSt → ObjSt) : (s.setObj o f).auxs = s.auxs := rfl
@[simp] theorem Dev.setObj_ports (o : Nat) (f : ObjSt → ObjSt) : (s.setObj o f).ports = s.ports := rfl
@[simp] theorem Dev.setObj_nodes (o : Nat) (f : ObjSt → ObjSt) : (s.setObj o f).nodes = s.nodes := rfl
@[simp] theorem Dev.setObj_fars (o : Nat) (f : ObjSt → ObjSt) : (s.setObj o f).fars = s.fars := rfl
@[simp] theorem Dev.setObj_srcs (o : Nat) (f : ObjSt → ObjSt) : (s.setObj o f).srcs = s.srcs := rfl
@[simp] theorem Dev.setObj_teles (o : Nat) (f : ObjSt → ObjSt) : (s.setObj o f).teles = s.teles := rfl
@[simp] theorem Dev.setObj_due (o : Nat) (f : ObjSt → ObjSt) : (s.setObj o f).due = s.due := rfl
@[simp] theorem Dev.setObj_free (o : Nat) (f : ObjSt → ObjSt) : (s.setObj o f).free = s.free := rfl

@[simp] theorem Dev.setSar_tick (k : Nat) (f : SarSt → SarSt) : (s.setSar k f).tick = s.tick := rfl
@[simp] theorem Dev.setSar_regs (k : Nat) (f : SarSt → SarSt) : (s.setSar k f).regs = s.regs := rfl
@[simp] theorem Dev.setSar_force (k : Nat) (f : SarSt → SarSt) : (s.setSar k f).force = s.force := rfl
@[simp] theorem Dev.setSar_slotVals (k : Nat) (f : SarSt → SarSt) : (s.setSar k f).slotVals = s.slotVals := rfl
@[simp] theorem Dev.setSar_plan (k : Nat) (f : SarSt → SarSt) : (s.setSar k f).plan = s.plan := rfl
@[simp] theorem Dev.setSar_img (k : Nat) (f : SarSt → SarSt) : (s.setSar k f).img = s.img := rfl
@[simp] theorem Dev.setSar_ms (k : Nat) (f : SarSt → SarSt) : (s.setSar k f).ms = s.ms := rfl
@[simp] theorem Dev.setSar_ml (k : Nat) (f : SarSt → SarSt) : (s.setSar k f).ml = s.ml := rfl
@[simp] theorem Dev.setSar_flt (k : Nat) (f : SarSt → SarSt) : (s.setSar k f).flt = s.flt := rfl
@[simp] theorem Dev.setSar_tb (k : Nat) (f : SarSt → SarSt) : (s.setSar k f).tb = s.tb := rfl
@[simp] theorem Dev.setSar_tpos (k : Nat) (f : SarSt → SarSt) : (s.setSar k f).tpos = s.tpos := rfl
@[simp] theorem Dev.setSar_clk (k : Nat) (f : SarSt → SarSt) : (s.setSar k f).clk = s.clk := rfl
@[simp] theorem Dev.setSar_pair (k : Nat) (f : SarSt → SarSt) : (s.setSar k f).pair = s.pair := rfl
@[simp] theorem Dev.setSar_cans (k : Nat) (f : SarSt → SarSt) : (s.setSar k f).cans = s.cans := rfl
@[simp] theorem Dev.setSar_objs (k : Nat) (f : SarSt → SarSt) : (s.setSar k f).objs = s.objs := rfl
@[simp] theorem Dev.setSar_pwr (k : Nat) (f : SarSt → SarSt) : (s.setSar k f).pwr = s.pwr := rfl
@[simp] theorem Dev.setSar_box (k : Nat) (f : SarSt → SarSt) : (s.setSar k f).box = s.box := rfl
@[simp] theorem Dev.setSar_hs (k : Nat) (f : SarSt → SarSt) : (s.setSar k f).hs = s.hs := rfl
@[simp] theorem Dev.setSar_rgs (k : Nat) (f : SarSt → SarSt) : (s.setSar k f).rgs = s.rgs := rfl
@[simp] theorem Dev.setSar_trks (k : Nat) (f : SarSt → SarSt) : (s.setSar k f).trks = s.trks := rfl
@[simp] theorem Dev.setSar_busy (k : Nat) (f : SarSt → SarSt) : (s.setSar k f).busy = s.busy := rfl
@[simp] theorem Dev.setSar_strs (k : Nat) (f : SarSt → SarSt) : (s.setSar k f).strs = s.strs := rfl
@[simp] theorem Dev.setSar_legs (k : Nat) (f : SarSt → SarSt) : (s.setSar k f).legs = s.legs := rfl
@[simp] theorem Dev.setSar_auxs (k : Nat) (f : SarSt → SarSt) : (s.setSar k f).auxs = s.auxs := rfl
@[simp] theorem Dev.setSar_ports (k : Nat) (f : SarSt → SarSt) : (s.setSar k f).ports = s.ports := rfl
@[simp] theorem Dev.setSar_nodes (k : Nat) (f : SarSt → SarSt) : (s.setSar k f).nodes = s.nodes := rfl
@[simp] theorem Dev.setSar_fars (k : Nat) (f : SarSt → SarSt) : (s.setSar k f).fars = s.fars := rfl
@[simp] theorem Dev.setSar_srcs (k : Nat) (f : SarSt → SarSt) : (s.setSar k f).srcs = s.srcs := rfl
@[simp] theorem Dev.setSar_teles (k : Nat) (f : SarSt → SarSt) : (s.setSar k f).teles = s.teles := rfl
@[simp] theorem Dev.setSar_due (k : Nat) (f : SarSt → SarSt) : (s.setSar k f).due = s.due := rfl
@[simp] theorem Dev.setSar_free (k : Nat) (f : SarSt → SarSt) : (s.setSar k f).free = s.free := rfl

@[simp] theorem Dev.setSd_tick (i : Nat) (f : SdSt → SdSt) : (s.setSd i f).tick = s.tick := rfl
@[simp] theorem Dev.setSd_regs (i : Nat) (f : SdSt → SdSt) : (s.setSd i f).regs = s.regs := rfl
@[simp] theorem Dev.setSd_force (i : Nat) (f : SdSt → SdSt) : (s.setSd i f).force = s.force := rfl
@[simp] theorem Dev.setSd_slotVals (i : Nat) (f : SdSt → SdSt) : (s.setSd i f).slotVals = s.slotVals := rfl
@[simp] theorem Dev.setSd_plan (i : Nat) (f : SdSt → SdSt) : (s.setSd i f).plan = s.plan := rfl
@[simp] theorem Dev.setSd_img (i : Nat) (f : SdSt → SdSt) : (s.setSd i f).img = s.img := rfl
@[simp] theorem Dev.setSd_ms (i : Nat) (f : SdSt → SdSt) : (s.setSd i f).ms = s.ms := rfl
@[simp] theorem Dev.setSd_ml (i : Nat) (f : SdSt → SdSt) : (s.setSd i f).ml = s.ml := rfl
@[simp] theorem Dev.setSd_flt (i : Nat) (f : SdSt → SdSt) : (s.setSd i f).flt = s.flt := rfl
@[simp] theorem Dev.setSd_tb (i : Nat) (f : SdSt → SdSt) : (s.setSd i f).tb = s.tb := rfl
@[simp] theorem Dev.setSd_tpos (i : Nat) (f : SdSt → SdSt) : (s.setSd i f).tpos = s.tpos := rfl
@[simp] theorem Dev.setSd_clk (i : Nat) (f : SdSt → SdSt) : (s.setSd i f).clk = s.clk := rfl
@[simp] theorem Dev.setSd_pair (i : Nat) (f : SdSt → SdSt) : (s.setSd i f).pair = s.pair := rfl
@[simp] theorem Dev.setSd_cans (i : Nat) (f : SdSt → SdSt) : (s.setSd i f).cans = s.cans := rfl
@[simp] theorem Dev.setSd_objs (i : Nat) (f : SdSt → SdSt) : (s.setSd i f).objs = s.objs := rfl
@[simp] theorem Dev.setSd_pwr (i : Nat) (f : SdSt → SdSt) : (s.setSd i f).pwr = s.pwr := rfl
@[simp] theorem Dev.setSd_box (i : Nat) (f : SdSt → SdSt) : (s.setSd i f).box = s.box := rfl
@[simp] theorem Dev.setSd_hs (i : Nat) (f : SdSt → SdSt) : (s.setSd i f).hs = s.hs := rfl
@[simp] theorem Dev.setSd_rgs (i : Nat) (f : SdSt → SdSt) : (s.setSd i f).rgs = s.rgs := rfl
@[simp] theorem Dev.setSd_trks (i : Nat) (f : SdSt → SdSt) : (s.setSd i f).trks = s.trks := rfl
@[simp] theorem Dev.setSd_busy (i : Nat) (f : SdSt → SdSt) : (s.setSd i f).busy = s.busy := rfl
@[simp] theorem Dev.setSd_strs (i : Nat) (f : SdSt → SdSt) : (s.setSd i f).strs = s.strs := rfl
@[simp] theorem Dev.setSd_legs (i : Nat) (f : SdSt → SdSt) : (s.setSd i f).legs = s.legs := rfl
@[simp] theorem Dev.setSd_auxs (i : Nat) (f : SdSt → SdSt) : (s.setSd i f).auxs = s.auxs := rfl
@[simp] theorem Dev.setSd_ports (i : Nat) (f : SdSt → SdSt) : (s.setSd i f).ports = s.ports := rfl
@[simp] theorem Dev.setSd_nodes (i : Nat) (f : SdSt → SdSt) : (s.setSd i f).nodes = s.nodes := rfl
@[simp] theorem Dev.setSd_fars (i : Nat) (f : SdSt → SdSt) : (s.setSd i f).fars = s.fars := rfl
@[simp] theorem Dev.setSd_srcs (i : Nat) (f : SdSt → SdSt) : (s.setSd i f).srcs = s.srcs := rfl
@[simp] theorem Dev.setSd_teles (i : Nat) (f : SdSt → SdSt) : (s.setSd i f).teles = s.teles := rfl
@[simp] theorem Dev.setSd_due (i : Nat) (f : SdSt → SdSt) : (s.setSd i f).due = s.due := rfl
@[simp] theorem Dev.setSd_free (i : Nat) (f : SdSt → SdSt) : (s.setSd i f).free = s.free := rfl

@[simp] theorem Dev.setPair_pair (f : PairSt → PairSt) : (s.setPair f).pair = f s.pair := rfl
@[simp] theorem Dev.setPair_tick (f : PairSt → PairSt) : (s.setPair f).tick = s.tick := rfl
@[simp] theorem Dev.setPair_regs (f : PairSt → PairSt) : (s.setPair f).regs = s.regs := rfl
@[simp] theorem Dev.setPair_force (f : PairSt → PairSt) : (s.setPair f).force = s.force := rfl
@[simp] theorem Dev.setPair_slotVals (f : PairSt → PairSt) : (s.setPair f).slotVals = s.slotVals := rfl
@[simp] theorem Dev.setPair_plan (f : PairSt → PairSt) : (s.setPair f).plan = s.plan := rfl
@[simp] theorem Dev.setPair_img (f : PairSt → PairSt) : (s.setPair f).img = s.img := rfl
@[simp] theorem Dev.setPair_ms (f : PairSt → PairSt) : (s.setPair f).ms = s.ms := rfl
@[simp] theorem Dev.setPair_ml (f : PairSt → PairSt) : (s.setPair f).ml = s.ml := rfl
@[simp] theorem Dev.setPair_flt (f : PairSt → PairSt) : (s.setPair f).flt = s.flt := rfl
@[simp] theorem Dev.setPair_tb (f : PairSt → PairSt) : (s.setPair f).tb = s.tb := rfl
@[simp] theorem Dev.setPair_tpos (f : PairSt → PairSt) : (s.setPair f).tpos = s.tpos := rfl
@[simp] theorem Dev.setPair_clk (f : PairSt → PairSt) : (s.setPair f).clk = s.clk := rfl
@[simp] theorem Dev.setPair_cans (f : PairSt → PairSt) : (s.setPair f).cans = s.cans := rfl
@[simp] theorem Dev.setPair_objs (f : PairSt → PairSt) : (s.setPair f).objs = s.objs := rfl
@[simp] theorem Dev.setPair_pwr (f : PairSt → PairSt) : (s.setPair f).pwr = s.pwr := rfl
@[simp] theorem Dev.setPair_box (f : PairSt → PairSt) : (s.setPair f).box = s.box := rfl
@[simp] theorem Dev.setPair_hs (f : PairSt → PairSt) : (s.setPair f).hs = s.hs := rfl
@[simp] theorem Dev.setPair_sens (f : PairSt → PairSt) : (s.setPair f).sens = s.sens := rfl
@[simp] theorem Dev.setPair_rgs (f : PairSt → PairSt) : (s.setPair f).rgs = s.rgs := rfl
@[simp] theorem Dev.setPair_trks (f : PairSt → PairSt) : (s.setPair f).trks = s.trks := rfl
@[simp] theorem Dev.setPair_busy (f : PairSt → PairSt) : (s.setPair f).busy = s.busy := rfl
@[simp] theorem Dev.setPair_strs (f : PairSt → PairSt) : (s.setPair f).strs = s.strs := rfl
@[simp] theorem Dev.setPair_legs (f : PairSt → PairSt) : (s.setPair f).legs = s.legs := rfl
@[simp] theorem Dev.setPair_auxs (f : PairSt → PairSt) : (s.setPair f).auxs = s.auxs := rfl
@[simp] theorem Dev.setPair_ports (f : PairSt → PairSt) : (s.setPair f).ports = s.ports := rfl
@[simp] theorem Dev.setPair_nodes (f : PairSt → PairSt) : (s.setPair f).nodes = s.nodes := rfl
@[simp] theorem Dev.setPair_fars (f : PairSt → PairSt) : (s.setPair f).fars = s.fars := rfl
@[simp] theorem Dev.setPair_srcs (f : PairSt → PairSt) : (s.setPair f).srcs = s.srcs := rfl
@[simp] theorem Dev.setPair_teles (f : PairSt → PairSt) : (s.setPair f).teles = s.teles := rfl
@[simp] theorem Dev.setPair_due (f : PairSt → PairSt) : (s.setPair f).due = s.due := rfl
@[simp] theorem Dev.setPair_free (f : PairSt → PairSt) : (s.setPair f).free = s.free := rfl

@[simp] theorem Dev.setClk_clk (f : ClkSt → ClkSt) : (s.setClk f).clk = f s.clk := rfl
@[simp] theorem Dev.setClk_tick (f : ClkSt → ClkSt) : (s.setClk f).tick = s.tick := rfl
@[simp] theorem Dev.setClk_regs (f : ClkSt → ClkSt) : (s.setClk f).regs = s.regs := rfl
@[simp] theorem Dev.setClk_force (f : ClkSt → ClkSt) : (s.setClk f).force = s.force := rfl
@[simp] theorem Dev.setClk_slotVals (f : ClkSt → ClkSt) : (s.setClk f).slotVals = s.slotVals := rfl
@[simp] theorem Dev.setClk_plan (f : ClkSt → ClkSt) : (s.setClk f).plan = s.plan := rfl
@[simp] theorem Dev.setClk_img (f : ClkSt → ClkSt) : (s.setClk f).img = s.img := rfl
@[simp] theorem Dev.setClk_ms (f : ClkSt → ClkSt) : (s.setClk f).ms = s.ms := rfl
@[simp] theorem Dev.setClk_ml (f : ClkSt → ClkSt) : (s.setClk f).ml = s.ml := rfl
@[simp] theorem Dev.setClk_flt (f : ClkSt → ClkSt) : (s.setClk f).flt = s.flt := rfl
@[simp] theorem Dev.setClk_tb (f : ClkSt → ClkSt) : (s.setClk f).tb = s.tb := rfl
@[simp] theorem Dev.setClk_tpos (f : ClkSt → ClkSt) : (s.setClk f).tpos = s.tpos := rfl
@[simp] theorem Dev.setClk_pair (f : ClkSt → ClkSt) : (s.setClk f).pair = s.pair := rfl
@[simp] theorem Dev.setClk_cans (f : ClkSt → ClkSt) : (s.setClk f).cans = s.cans := rfl
@[simp] theorem Dev.setClk_objs (f : ClkSt → ClkSt) : (s.setClk f).objs = s.objs := rfl
@[simp] theorem Dev.setClk_pwr (f : ClkSt → ClkSt) : (s.setClk f).pwr = s.pwr := rfl
@[simp] theorem Dev.setClk_box (f : ClkSt → ClkSt) : (s.setClk f).box = s.box := rfl
@[simp] theorem Dev.setClk_hs (f : ClkSt → ClkSt) : (s.setClk f).hs = s.hs := rfl
@[simp] theorem Dev.setClk_sens (f : ClkSt → ClkSt) : (s.setClk f).sens = s.sens := rfl
@[simp] theorem Dev.setClk_rgs (f : ClkSt → ClkSt) : (s.setClk f).rgs = s.rgs := rfl
@[simp] theorem Dev.setClk_trks (f : ClkSt → ClkSt) : (s.setClk f).trks = s.trks := rfl
@[simp] theorem Dev.setClk_busy (f : ClkSt → ClkSt) : (s.setClk f).busy = s.busy := rfl
@[simp] theorem Dev.setClk_strs (f : ClkSt → ClkSt) : (s.setClk f).strs = s.strs := rfl
@[simp] theorem Dev.setClk_legs (f : ClkSt → ClkSt) : (s.setClk f).legs = s.legs := rfl
@[simp] theorem Dev.setClk_auxs (f : ClkSt → ClkSt) : (s.setClk f).auxs = s.auxs := rfl
@[simp] theorem Dev.setClk_ports (f : ClkSt → ClkSt) : (s.setClk f).ports = s.ports := rfl
@[simp] theorem Dev.setClk_nodes (f : ClkSt → ClkSt) : (s.setClk f).nodes = s.nodes := rfl
@[simp] theorem Dev.setClk_fars (f : ClkSt → ClkSt) : (s.setClk f).fars = s.fars := rfl
@[simp] theorem Dev.setClk_srcs (f : ClkSt → ClkSt) : (s.setClk f).srcs = s.srcs := rfl
@[simp] theorem Dev.setClk_teles (f : ClkSt → ClkSt) : (s.setClk f).teles = s.teles := rfl
@[simp] theorem Dev.setClk_due (f : ClkSt → ClkSt) : (s.setClk f).due = s.due := rfl
@[simp] theorem Dev.setClk_free (f : ClkSt → ClkSt) : (s.setClk f).free = s.free := rfl

@[simp] theorem Dev.setTb_tb (f : TbSt → TbSt) : (s.setTb f).tb = f s.tb := rfl
@[simp] theorem Dev.setTb_tick (f : TbSt → TbSt) : (s.setTb f).tick = s.tick := rfl
@[simp] theorem Dev.setTb_regs (f : TbSt → TbSt) : (s.setTb f).regs = s.regs := rfl
@[simp] theorem Dev.setTb_force (f : TbSt → TbSt) : (s.setTb f).force = s.force := rfl
@[simp] theorem Dev.setTb_slotVals (f : TbSt → TbSt) : (s.setTb f).slotVals = s.slotVals := rfl
@[simp] theorem Dev.setTb_plan (f : TbSt → TbSt) : (s.setTb f).plan = s.plan := rfl
@[simp] theorem Dev.setTb_img (f : TbSt → TbSt) : (s.setTb f).img = s.img := rfl
@[simp] theorem Dev.setTb_ms (f : TbSt → TbSt) : (s.setTb f).ms = s.ms := rfl
@[simp] theorem Dev.setTb_ml (f : TbSt → TbSt) : (s.setTb f).ml = s.ml := rfl
@[simp] theorem Dev.setTb_flt (f : TbSt → TbSt) : (s.setTb f).flt = s.flt := rfl
@[simp] theorem Dev.setTb_tpos (f : TbSt → TbSt) : (s.setTb f).tpos = s.tpos := rfl
@[simp] theorem Dev.setTb_clk (f : TbSt → TbSt) : (s.setTb f).clk = s.clk := rfl
@[simp] theorem Dev.setTb_pair (f : TbSt → TbSt) : (s.setTb f).pair = s.pair := rfl
@[simp] theorem Dev.setTb_cans (f : TbSt → TbSt) : (s.setTb f).cans = s.cans := rfl
@[simp] theorem Dev.setTb_objs (f : TbSt → TbSt) : (s.setTb f).objs = s.objs := rfl
@[simp] theorem Dev.setTb_pwr (f : TbSt → TbSt) : (s.setTb f).pwr = s.pwr := rfl
@[simp] theorem Dev.setTb_box (f : TbSt → TbSt) : (s.setTb f).box = s.box := rfl
@[simp] theorem Dev.setTb_hs (f : TbSt → TbSt) : (s.setTb f).hs = s.hs := rfl
@[simp] theorem Dev.setTb_sens (f : TbSt → TbSt) : (s.setTb f).sens = s.sens := rfl
@[simp] theorem Dev.setTb_rgs (f : TbSt → TbSt) : (s.setTb f).rgs = s.rgs := rfl
@[simp] theorem Dev.setTb_trks (f : TbSt → TbSt) : (s.setTb f).trks = s.trks := rfl
@[simp] theorem Dev.setTb_busy (f : TbSt → TbSt) : (s.setTb f).busy = s.busy := rfl
@[simp] theorem Dev.setTb_strs (f : TbSt → TbSt) : (s.setTb f).strs = s.strs := rfl
@[simp] theorem Dev.setTb_legs (f : TbSt → TbSt) : (s.setTb f).legs = s.legs := rfl
@[simp] theorem Dev.setTb_auxs (f : TbSt → TbSt) : (s.setTb f).auxs = s.auxs := rfl
@[simp] theorem Dev.setTb_ports (f : TbSt → TbSt) : (s.setTb f).ports = s.ports := rfl
@[simp] theorem Dev.setTb_nodes (f : TbSt → TbSt) : (s.setTb f).nodes = s.nodes := rfl
@[simp] theorem Dev.setTb_fars (f : TbSt → TbSt) : (s.setTb f).fars = s.fars := rfl
@[simp] theorem Dev.setTb_srcs (f : TbSt → TbSt) : (s.setTb f).srcs = s.srcs := rfl
@[simp] theorem Dev.setTb_teles (f : TbSt → TbSt) : (s.setTb f).teles = s.teles := rfl
@[simp] theorem Dev.setTb_due (f : TbSt → TbSt) : (s.setTb f).due = s.due := rfl
@[simp] theorem Dev.setTb_free (f : TbSt → TbSt) : (s.setTb f).free = s.free := rfl

@[simp] theorem Dev.setPwr_pwr (f : PwrSt → PwrSt) : (s.setPwr f).pwr = f s.pwr := rfl
@[simp] theorem Dev.setPwr_tick (f : PwrSt → PwrSt) : (s.setPwr f).tick = s.tick := rfl
@[simp] theorem Dev.setPwr_regs (f : PwrSt → PwrSt) : (s.setPwr f).regs = s.regs := rfl
@[simp] theorem Dev.setPwr_force (f : PwrSt → PwrSt) : (s.setPwr f).force = s.force := rfl
@[simp] theorem Dev.setPwr_slotVals (f : PwrSt → PwrSt) : (s.setPwr f).slotVals = s.slotVals := rfl
@[simp] theorem Dev.setPwr_plan (f : PwrSt → PwrSt) : (s.setPwr f).plan = s.plan := rfl
@[simp] theorem Dev.setPwr_img (f : PwrSt → PwrSt) : (s.setPwr f).img = s.img := rfl
@[simp] theorem Dev.setPwr_ms (f : PwrSt → PwrSt) : (s.setPwr f).ms = s.ms := rfl
@[simp] theorem Dev.setPwr_ml (f : PwrSt → PwrSt) : (s.setPwr f).ml = s.ml := rfl
@[simp] theorem Dev.setPwr_flt (f : PwrSt → PwrSt) : (s.setPwr f).flt = s.flt := rfl
@[simp] theorem Dev.setPwr_tb (f : PwrSt → PwrSt) : (s.setPwr f).tb = s.tb := rfl
@[simp] theorem Dev.setPwr_tpos (f : PwrSt → PwrSt) : (s.setPwr f).tpos = s.tpos := rfl
@[simp] theorem Dev.setPwr_clk (f : PwrSt → PwrSt) : (s.setPwr f).clk = s.clk := rfl
@[simp] theorem Dev.setPwr_pair (f : PwrSt → PwrSt) : (s.setPwr f).pair = s.pair := rfl
@[simp] theorem Dev.setPwr_cans (f : PwrSt → PwrSt) : (s.setPwr f).cans = s.cans := rfl
@[simp] theorem Dev.setPwr_objs (f : PwrSt → PwrSt) : (s.setPwr f).objs = s.objs := rfl
@[simp] theorem Dev.setPwr_box (f : PwrSt → PwrSt) : (s.setPwr f).box = s.box := rfl
@[simp] theorem Dev.setPwr_hs (f : PwrSt → PwrSt) : (s.setPwr f).hs = s.hs := rfl
@[simp] theorem Dev.setPwr_sens (f : PwrSt → PwrSt) : (s.setPwr f).sens = s.sens := rfl
@[simp] theorem Dev.setPwr_rgs (f : PwrSt → PwrSt) : (s.setPwr f).rgs = s.rgs := rfl
@[simp] theorem Dev.setPwr_trks (f : PwrSt → PwrSt) : (s.setPwr f).trks = s.trks := rfl
@[simp] theorem Dev.setPwr_busy (f : PwrSt → PwrSt) : (s.setPwr f).busy = s.busy := rfl
@[simp] theorem Dev.setPwr_strs (f : PwrSt → PwrSt) : (s.setPwr f).strs = s.strs := rfl
@[simp] theorem Dev.setPwr_legs (f : PwrSt → PwrSt) : (s.setPwr f).legs = s.legs := rfl
@[simp] theorem Dev.setPwr_auxs (f : PwrSt → PwrSt) : (s.setPwr f).auxs = s.auxs := rfl
@[simp] theorem Dev.setPwr_ports (f : PwrSt → PwrSt) : (s.setPwr f).ports = s.ports := rfl
@[simp] theorem Dev.setPwr_nodes (f : PwrSt → PwrSt) : (s.setPwr f).nodes = s.nodes := rfl
@[simp] theorem Dev.setPwr_fars (f : PwrSt → PwrSt) : (s.setPwr f).fars = s.fars := rfl
@[simp] theorem Dev.setPwr_srcs (f : PwrSt → PwrSt) : (s.setPwr f).srcs = s.srcs := rfl
@[simp] theorem Dev.setPwr_teles (f : PwrSt → PwrSt) : (s.setPwr f).teles = s.teles := rfl
@[simp] theorem Dev.setPwr_due (f : PwrSt → PwrSt) : (s.setPwr f).due = s.due := rfl
@[simp] theorem Dev.setPwr_free (f : PwrSt → PwrSt) : (s.setPwr f).free = s.free := rfl

@[simp] theorem Dev.setHs_hs (f : HostSt → HostSt) : (s.setHs f).hs = f s.hs := rfl
@[simp] theorem Dev.setHs_tick (f : HostSt → HostSt) : (s.setHs f).tick = s.tick := rfl
@[simp] theorem Dev.setHs_regs (f : HostSt → HostSt) : (s.setHs f).regs = s.regs := rfl
@[simp] theorem Dev.setHs_force (f : HostSt → HostSt) : (s.setHs f).force = s.force := rfl
@[simp] theorem Dev.setHs_slotVals (f : HostSt → HostSt) : (s.setHs f).slotVals = s.slotVals := rfl
@[simp] theorem Dev.setHs_plan (f : HostSt → HostSt) : (s.setHs f).plan = s.plan := rfl
@[simp] theorem Dev.setHs_img (f : HostSt → HostSt) : (s.setHs f).img = s.img := rfl
@[simp] theorem Dev.setHs_ms (f : HostSt → HostSt) : (s.setHs f).ms = s.ms := rfl
@[simp] theorem Dev.setHs_ml (f : HostSt → HostSt) : (s.setHs f).ml = s.ml := rfl
@[simp] theorem Dev.setHs_flt (f : HostSt → HostSt) : (s.setHs f).flt = s.flt := rfl
@[simp] theorem Dev.setHs_tb (f : HostSt → HostSt) : (s.setHs f).tb = s.tb := rfl
@[simp] theorem Dev.setHs_tpos (f : HostSt → HostSt) : (s.setHs f).tpos = s.tpos := rfl
@[simp] theorem Dev.setHs_clk (f : HostSt → HostSt) : (s.setHs f).clk = s.clk := rfl
@[simp] theorem Dev.setHs_pair (f : HostSt → HostSt) : (s.setHs f).pair = s.pair := rfl
@[simp] theorem Dev.setHs_cans (f : HostSt → HostSt) : (s.setHs f).cans = s.cans := rfl
@[simp] theorem Dev.setHs_objs (f : HostSt → HostSt) : (s.setHs f).objs = s.objs := rfl
@[simp] theorem Dev.setHs_pwr (f : HostSt → HostSt) : (s.setHs f).pwr = s.pwr := rfl
@[simp] theorem Dev.setHs_box (f : HostSt → HostSt) : (s.setHs f).box = s.box := rfl
@[simp] theorem Dev.setHs_sens (f : HostSt → HostSt) : (s.setHs f).sens = s.sens := rfl
@[simp] theorem Dev.setHs_rgs (f : HostSt → HostSt) : (s.setHs f).rgs = s.rgs := rfl
@[simp] theorem Dev.setHs_trks (f : HostSt → HostSt) : (s.setHs f).trks = s.trks := rfl
@[simp] theorem Dev.setHs_busy (f : HostSt → HostSt) : (s.setHs f).busy = s.busy := rfl
@[simp] theorem Dev.setHs_strs (f : HostSt → HostSt) : (s.setHs f).strs = s.strs := rfl
@[simp] theorem Dev.setHs_legs (f : HostSt → HostSt) : (s.setHs f).legs = s.legs := rfl
@[simp] theorem Dev.setHs_auxs (f : HostSt → HostSt) : (s.setHs f).auxs = s.auxs := rfl
@[simp] theorem Dev.setHs_ports (f : HostSt → HostSt) : (s.setHs f).ports = s.ports := rfl
@[simp] theorem Dev.setHs_nodes (f : HostSt → HostSt) : (s.setHs f).nodes = s.nodes := rfl
@[simp] theorem Dev.setHs_fars (f : HostSt → HostSt) : (s.setHs f).fars = s.fars := rfl
@[simp] theorem Dev.setHs_srcs (f : HostSt → HostSt) : (s.setHs f).srcs = s.srcs := rfl
@[simp] theorem Dev.setHs_teles (f : HostSt → HostSt) : (s.setHs f).teles = s.teles := rfl
@[simp] theorem Dev.setHs_due (f : HostSt → HostSt) : (s.setHs f).due = s.due := rfl
@[simp] theorem Dev.setHs_free (f : HostSt → HostSt) : (s.setHs f).free = s.free := rfl

@[simp] theorem Dev.post_due (w : Due) : (s.post w).due = s.due ++ [w] := rfl
@[simp] theorem Dev.post_tick (w : Due) : (s.post w).tick = s.tick := rfl
@[simp] theorem Dev.post_regs (w : Due) : (s.post w).regs = s.regs := rfl
@[simp] theorem Dev.post_force (w : Due) : (s.post w).force = s.force := rfl
@[simp] theorem Dev.post_slotVals (w : Due) : (s.post w).slotVals = s.slotVals := rfl
@[simp] theorem Dev.post_plan (w : Due) : (s.post w).plan = s.plan := rfl
@[simp] theorem Dev.post_img (w : Due) : (s.post w).img = s.img := rfl
@[simp] theorem Dev.post_ms (w : Due) : (s.post w).ms = s.ms := rfl
@[simp] theorem Dev.post_ml (w : Due) : (s.post w).ml = s.ml := rfl
@[simp] theorem Dev.post_flt (w : Due) : (s.post w).flt = s.flt := rfl
@[simp] theorem Dev.post_tb (w : Due) : (s.post w).tb = s.tb := rfl
@[simp] theorem Dev.post_tpos (w : Due) : (s.post w).tpos = s.tpos := rfl
@[simp] theorem Dev.post_clk (w : Due) : (s.post w).clk = s.clk := rfl
@[simp] theorem Dev.post_pair (w : Due) : (s.post w).pair = s.pair := rfl
@[simp] theorem Dev.post_cans (w : Due) : (s.post w).cans = s.cans := rfl
@[simp] theorem Dev.post_objs (w : Due) : (s.post w).objs = s.objs := rfl
@[simp] theorem Dev.post_pwr (w : Due) : (s.post w).pwr = s.pwr := rfl
@[simp] theorem Dev.post_box (w : Due) : (s.post w).box = s.box := rfl
@[simp] theorem Dev.post_hs (w : Due) : (s.post w).hs = s.hs := rfl
@[simp] theorem Dev.post_sens (w : Due) : (s.post w).sens = s.sens := rfl
@[simp] theorem Dev.post_rgs (w : Due) : (s.post w).rgs = s.rgs := rfl
@[simp] theorem Dev.post_trks (w : Due) : (s.post w).trks = s.trks := rfl
@[simp] theorem Dev.post_busy (w : Due) : (s.post w).busy = s.busy := rfl
@[simp] theorem Dev.post_strs (w : Due) : (s.post w).strs = s.strs := rfl
@[simp] theorem Dev.post_legs (w : Due) : (s.post w).legs = s.legs := rfl
@[simp] theorem Dev.post_auxs (w : Due) : (s.post w).auxs = s.auxs := rfl
@[simp] theorem Dev.post_ports (w : Due) : (s.post w).ports = s.ports := rfl
@[simp] theorem Dev.post_nodes (w : Due) : (s.post w).nodes = s.nodes := rfl
@[simp] theorem Dev.post_fars (w : Due) : (s.post w).fars = s.fars := rfl
@[simp] theorem Dev.post_srcs (w : Due) : (s.post w).srcs = s.srcs := rfl
@[simp] theorem Dev.post_teles (w : Due) : (s.post w).teles = s.teles := rfl
@[simp] theorem Dev.post_free (w : Due) : (s.post w).free = s.free := rfl

@[simp] theorem Dev.pb_eq (b : Nat) (f : Fld) (v : Bool) : s.pb b f v = s.p b f (b2n v) := rfl
@[simp] theorem Dev.pi_eq (b : Nat) (f : Fld) (v : Int) : s.pi b f v = s.p b f (usg f.w v) := rfl
@[simp] theorem Dev.inc_eq (b : Nat) (f : Fld) (n : Nat) : s.inc b f n = s.p b f (s.g b f + n) := rfl
@[simp] theorem Dev.irq_eq (f : Fld) : s.irq f = s.p bDev f 1 := rfl
@[simp] theorem Dev.on_true (f : Dev → Dev) : s.on true f = f s := rfl
@[simp] theorem Dev.on_false (f : Dev → Dev) : s.on false f = s := rfl

end Sys2Proof.Machine
end

