-- ==== Sys2Proof/Laws/Table.lean ====
section
/-! SUPPORT. Laws of the sparse tables: what a read gives after a write, and that every operation keeps the canonical form. -/

namespace Sys2Proof.Machine

variable {α : Type}

@[simp] theorem tget_nil (d : Nat → α) (k : Nat) : tget d [] k = d k := rfl

theorem tget_terase_self (d : Nat → α) (t : Tbl α) (k : Nat) : tget d (terase t k) k = d k := by
  induction t with
  | nil => rfl
  | cons p t ih =>
    obtain ⟨k', v⟩ := p
    by_cases h : k' = k <;> simp [terase, tget, h, ih]

theorem tget_terase_ne (d : Nat → α) (t : Tbl α) {k a : Nat} (h : a ≠ k) : tget d (terase t k) a = tget d t a := by
  induction t with
  | nil => rfl
  | cons p t ih =>
    obtain ⟨k', v⟩ := p
    by_cases hk : k' = k
    · rw [terase, if_pos hk, ih, tget, if_neg (fun e => h (e.symm.trans hk))]
    · simp only [terase, if_neg hk, tget, ih]

theorem tget_tins_self (d : Nat → α) (t : Tbl α) (k : Nat) (v : α) (hk : ∀ p ∈ t, p.1 ≠ k) :
    tget d (tins t k v) k = v := by
  induction t with
  | nil => simp [tins, tget]
  | cons p t ih =>
    obtain ⟨k', v'⟩ := p
    have hne : k' ≠ k := hk (k', v') (by simp)
    by_cases hlt : k < k'
    · simp [tins, hlt, tget]
    · simp only [tins, if_neg hlt, tget, if_neg hne]
      exact ih (fun q hq => hk q (by simp [hq]))

theorem tget_tins_ne (d : Nat → α) (t : Tbl α) {k a : Nat} (v : α) (h : a ≠ k) : tget d (tins t k v) a = tget d t a := by
  induction t with
  | nil => simp only [tins, tget, if_neg (fun e : k = a => h e.symm)]
  | cons p t ih =>
    obtain ⟨k', v'⟩ := p
    by_cases hlt : k < k'
    · simp only [tins, if_pos hlt]
      rw [tget, if_neg (fun e : k = a => h e.symm)]
    · simp only [tins, if_neg hlt, tget, ih]

theorem not_mem_terase (t : Tbl α) (k : Nat) : ∀ p ∈ terase t k, p.1 ≠ k := by
  induction t with
  | nil => simp [terase]
  | cons p t ih =>
    obtain ⟨k', v⟩ := p
    intro q hq
    by_cases h : k' = k
    · simp only [terase, if_pos h] at hq
      exact ih q hq
    · simp only [terase, if_neg h, List.mem_cons] at hq
      rcases hq with rfl | hq
      · exact h
      · exact ih q hq

/-- A read after a write of the same key gives the value written. -/
@[simp] theorem tget_tset_self [DecidableEq α] (d : Nat → α) (t : Tbl α) (k : Nat) (v : α) : tget d (tset d t k v) k = v := by
  unfold tset
  split
  · rename_i h
    rw [tget_terase_self, h]
  · exact tget_tins_self d _ k v (not_mem_terase t k)

/-- A write leaves every other key alone. -/
theorem tget_tset_ne [DecidableEq α] (d : Nat → α) (t : Tbl α) {k a : Nat} (v : α) (h : a ≠ k) : tget d (tset d t k v) a = tget d t a := by
  unfold tset
  split
  · exact tget_terase_ne d t h
  · rw [tget_tins_ne d _ v h, tget_terase_ne d t h]

theorem tget_teraseRange (d : Nat → α) (t : Tbl α) (lo n a : Nat) :
    tget d (teraseRange t lo n) a = if lo ≤ a ∧ a < lo + n then d a else tget d t a := by
  induction t with
  | nil => by_cases h : lo ≤ a ∧ a < lo + n <;> simp [teraseRange, h]
  | cons p t ih =>
    obtain ⟨k, v⟩ := p
    by_cases hk : lo ≤ k ∧ k < lo + n
    · simp only [teraseRange, if_pos hk, ih, tget]
      by_cases ha : lo ≤ a ∧ a < lo + n
      · simp [ha]
      · have : k ≠ a := fun e => ha (e ▸ hk)
        simp [ha, this]
    · simp only [teraseRange, if_neg hk, tget, ih]
      by_cases he : k = a
      · subst he
        simp [hk]
      · simp [he]

/-! ### The canonical form -/

theorem trising_mono (t : Tbl α) {b c : Nat} (h : b ≤ c) (hc : trising t (some c) = true) : trising t (some b) = true := by
  cases t with
  | nil => rfl
  | cons p t =>
    obtain ⟨k, v⟩ := p
    simp only [trising, Bool.and_eq_true, decide_eq_true_eq] at hc ⊢
    exact ⟨by omega, hc.2⟩

theorem trising_terase (t : Tbl α) (k : Nat) (b : Option Nat) (h : trising t b = true) : trising (terase t k) b = true := by
  induction t generalizing b with
  | nil => rfl
  | cons p t ih =>
    obtain ⟨k', v⟩ := p
    simp only [trising, Bool.and_eq_true] at h
    by_cases hk : k' = k
    · simp only [terase, if_pos hk]
      cases b with
      | none =>
        have := ih (some k') h.2
        cases ht : terase t k with
        | nil => rfl
        | cons q u =>
          rw [ht] at this
          simp only [trising, Bool.and_eq_true] at this ⊢
          exact ⟨trivial, this.2⟩
      | some x =>
        simp only [decide_eq_true_eq] at h
        exact trising_mono _ (Nat.le_of_lt h.1) (ih (some k') h.2)
    · simp only [terase, if_neg hk, trising, Bool.and_eq_true]
      exact ⟨h.1, ih (some k') h.2⟩

theorem trising_tins (t : Tbl α) (k : Nat) (v : α) (b : Option Nat) (h : trising t b = true) (hk : ∀ p ∈ t, p.1 ≠ k)
    (hb : ∀ x, b = some x → x < k) : trising (tins t k v) b = true := by
  induction t generalizing b with
  | nil =>
    cases b with
    | none => rfl
    | some x => simp [tins, trising, hb x rfl]
  | cons p t ih =>
    obtain ⟨k', v'⟩ := p
    simp only [trising, Bool.and_eq_true] at h
    have hne : k' ≠ k := hk (k', v') (by simp)
    by_cases hlt : k < k'
    · simp only [tins, if_pos hlt, trising, Bool.and_eq_true, decide_eq_true_eq]
      refine ⟨?_, hlt, h.2⟩
      cases b with
      | none => rfl
      | some x => simp [hb x rfl]
    · simp only [tins, if_neg hlt, trising, Bool.and_eq_true]
      refine ⟨h.1, ih (some k') h.2 (fun q hq => hk q (by simp [hq])) ?_⟩
      intro x hx
      cases hx
      omega

theorem all_terase (P : Nat × α → Bool) (t : Tbl α) (k : Nat) (h : t.all P = true) : (terase t k).all P = true := by
  induction t with
  | nil => rfl
  | cons p t ih =>
    obtain ⟨k', v⟩ := p
    simp only [List.all_cons, Bool.and_eq_true] at h
    by_cases hk : k' = k
    · simp only [terase, if_pos hk]; exact ih h.2
    · simp only [terase, if_neg hk, List.all_cons, Bool.and_eq_true]; exact ⟨h.1, ih h.2⟩

theorem all_tins (P : Nat × α → Bool) (t : Tbl α) (k : Nat) (v : α) (h : t.all P = true) (hv : P (k, v) = true) : (tins t k v).all P = true := by
  induction t with
  | nil => simp [tins, hv]
  | cons p t ih =>
    obtain ⟨k', v'⟩ := p
    simp only [List.all_cons, Bool.and_eq_true] at h
    by_cases hlt : k < k'
    · simp [tins, hlt, hv, h.1, h.2]
    · simp only [tins, if_neg hlt, List.all_cons, Bool.and_eq_true]; exact ⟨h.1, ih h.2⟩

/-- A write keeps the canonical form. -/
theorem twf_tset [DecidableEq α] (d : Nat → α) (t : Tbl α) (k : Nat) (v : α) (h : twf d t = true) : twf d (tset d t k v) = true := by
  simp only [twf, Bool.and_eq_true] at h ⊢
  unfold tset
  split
  · exact ⟨trising_terase t k none h.1, all_terase _ t k h.2⟩
  · rename_i hv
    exact ⟨trising_tins _ k v none (trising_terase t k none h.1) (not_mem_terase t k) (by simp),
      all_tins _ _ k v (all_terase _ t k h.2) (by simp [hv])⟩

theorem trising_teraseRange (t : Tbl α) (lo n : Nat) (b : Option Nat) (h : trising t b = true) : trising (teraseRange t lo n) b = true := by
  induction t generalizing b with
  | nil => rfl
  | cons p t ih =>
    obtain ⟨k', v⟩ := p
    simp only [trising, Bool.and_eq_true] at h
    by_cases hk : lo ≤ k' ∧ k' < lo + n
    · simp only [teraseRange, if_pos hk]
      cases b with
      | none =>
        have := ih (some k') h.2
        cases ht : teraseRange t lo n with
        | nil => rfl
        | cons q u =>
          rw [ht] at this
          simp only [trising, Bool.and_eq_true] at this ⊢
          exact ⟨trivial, this.2⟩
      | some x =>
        simp only [decide_eq_true_eq] at h
        exact trising_mono _ (Nat.le_of_lt h.1) (ih (some k') h.2)
    · simp only [teraseRange, if_neg hk, trising, Bool.and_eq_true]
      exact ⟨h.1, ih (some k') h.2⟩

theorem all_teraseRange (P : Nat × α → Bool) (t : Tbl α) (lo n : Nat) (h : t.all P = true) : (teraseRange t lo n).all P = true := by
  induction t with
  | nil => rfl
  | cons p t ih =>
    obtain ⟨k', v⟩ := p
    simp only [List.all_cons, Bool.and_eq_true] at h
    by_cases hk : lo ≤ k' ∧ k' < lo + n
    · simp only [teraseRange, if_pos hk]; exact ih h.2
    · simp only [teraseRange, if_neg hk, List.all_cons, Bool.and_eq_true]; exact ⟨h.1, ih h.2⟩

theorem twf_teraseRange [DecidableEq α] (d : Nat → α) (t : Tbl α) (lo n : Nat) (h : twf d t = true) : twf d (teraseRange t lo n) = true := by
  simp only [twf, Bool.and_eq_true] at h ⊢
  exact ⟨trising_teraseRange t lo n none h.1, all_teraseRange _ t lo n h.2⟩

end Sys2Proof.Machine
end

