-- ==== Sys2Proof/Laws/Regs.lean ====
section
/-! SUPPORT. Registers and their fields: what a read gives after a write of the same field, of another field and of another register. -/

namespace Sys2Proof.Machine

@[simp] theorem Dev.rd_wr_self (s : Dev) (a : Nat) (v : Word) : (s.wr a v).rd a = v := tget_tset_self regReset s.regs a v

theorem Dev.rd_wr_ne (s : Dev) {a b : Nat} (v : Word) (h : b ≠ a) : (s.wr a v).rd b = s.rd b := tget_tset_ne regReset s.regs v h

@[simp] theorem Dev.rdF_wrF_self (s : Dev) (a : Nat) (v : Word) : (s.wrF a v).rdF a = v := tget_tset_self regReset s.force a v

theorem Dev.rdF_wrF_ne (s : Dev) {a b : Nat} (v : Word) (h : b ≠ a) : (s.wrF a v).rdF b = s.rdF b := tget_tset_ne regReset s.force v h

/-- A register read depends on the register file alone. -/
theorem Dev.rd_congr {s t : Dev} (h : s.regs = t.regs) (a : Nat) : s.rd a = t.rd a := by simp only [Dev.rd, h]

theorem Dev.g_congr {s t : Dev} (h : s.regs = t.regs) (b : Nat) (f : Fld) : s.g b f = t.g b f := by simp only [Dev.g, Dev.rd_congr h]

/-! ### Bit fields -/

theorem putBits_toNat (x : Word) (lo w v : Nat) (h : lo + w ≤ 32) :
    (putBits x lo w v).toNat = x.toNat / 2 ^ (lo + w) * 2 ^ (lo + w) + v % 2 ^ w * 2 ^ lo + x.toNat % 2 ^ lo := by
  have hx : x.toNat < 2 ^ 32 := x.isLt
  have h1 : v % 2 ^ w < 2 ^ w := Nat.mod_lt _ (Nat.two_pow_pos w)
  have h2 : x.toNat % 2 ^ lo < 2 ^ lo := Nat.mod_lt _ (Nat.two_pow_pos lo)
  have hp : 2 ^ (lo + w) = 2 ^ lo * 2 ^ w := Nat.pow_add 2 lo w
  have hmid : v % 2 ^ w * 2 ^ lo + x.toNat % 2 ^ lo < 2 ^ (lo + w) := by
    rw [hp]
    have : (v % 2 ^ w + 1) * 2 ^ lo ≤ 2 ^ w * 2 ^ lo := Nat.mul_le_mul_right _ h1
    rw [Nat.mul_comm (2 ^ lo)]
    rw [Nat.add_mul, Nat.one_mul] at this
    omega
  have hq : 2 ^ 32 = 2 ^ (32 - (lo + w)) * 2 ^ (lo + w) := by rw [← Nat.pow_add]; congr 1; omega
  have hd : x.toNat / 2 ^ (lo + w) < 2 ^ (32 - (lo + w)) := by
    apply Nat.div_lt_of_lt_mul
    rw [Nat.mul_comm, ← hq]
    exact hx
  have hlt : x.toNat / 2 ^ (lo + w) * 2 ^ (lo + w) + v % 2 ^ w * 2 ^ lo + x.toNat % 2 ^ lo < 2 ^ 32 := by
    have : (x.toNat / 2 ^ (lo + w) + 1) * 2 ^ (lo + w) ≤ 2 ^ (32 - (lo + w)) * 2 ^ (lo + w) := Nat.mul_le_mul_right _ hd
    rw [Nat.add_mul, Nat.one_mul, ← hq] at this
    omega
  simp only [putBits, BitVec.toNat_ofNat]
  exact Nat.mod_eq_of_lt hlt

/-- A field reads as written. -/
theorem getBits_putBits_self (x : Word) (lo w v : Nat) (h : lo + w ≤ 32) : getBits (putBits x lo w v) lo w = v % 2 ^ w := by
  unfold getBits
  rw [putBits_toNat x lo w v h]
  have hlo : 0 < 2 ^ lo := Nat.two_pow_pos lo
  have hp : 2 ^ (lo + w) = 2 ^ w * 2 ^ lo := by rw [Nat.pow_add, Nat.mul_comm]
  have h2 : x.toNat % 2 ^ lo < 2 ^ lo := Nat.mod_lt _ hlo
  rw [hp, ← Nat.mul_assoc, ← Nat.add_mul, Nat.add_comm (_ * 2 ^ lo), Nat.add_mul_div_right _ _ hlo, Nat.div_eq_of_lt h2, Nat.zero_add,
    Nat.add_comm, Nat.add_mul_mod_self_right, Nat.mod_mod]

/-- A field above the one written keeps its value. -/
theorem getBits_putBits_above (x : Word) (lo w v lo' w' : Nat) (h : lo + w ≤ lo') (h' : lo' ≤ 32) :
    getBits (putBits x lo w v) lo' w' = getBits x lo' w' := by
  unfold getBits
  rw [putBits_toNat x lo w v (by omega)]
  congr 1
  have hlo : 0 < 2 ^ lo := Nat.two_pow_pos lo
  have hlw : 0 < 2 ^ (lo + w) := Nat.two_pow_pos _
  have hp : 2 ^ (lo + w) = 2 ^ w * 2 ^ lo := by rw [Nat.pow_add, Nat.mul_comm]
  have h1 : v % 2 ^ w < 2 ^ w := Nat.mod_lt _ (Nat.two_pow_pos w)
  have h2 : x.toNat % 2 ^ lo < 2 ^ lo := Nat.mod_lt _ hlo
  have hmid : v % 2 ^ w * 2 ^ lo + x.toNat % 2 ^ lo < 2 ^ (lo + w) := by
    rw [hp]
    have : (v % 2 ^ w + 1) * 2 ^ lo ≤ 2 ^ w * 2 ^ lo := Nat.mul_le_mul_right _ h1
    rw [Nat.add_mul, Nat.one_mul] at this
    omega
  have hq : 2 ^ lo' = 2 ^ (lo + w) * 2 ^ (lo' - (lo + w)) := by rw [← Nat.pow_add]; congr 1; omega
  rw [hq, ← Nat.div_div_eq_div_mul, ← Nat.div_div_eq_div_mul]
  congr 1
  rw [Nat.add_assoc, Nat.add_comm, Nat.add_mul_div_right _ _ hlw, Nat.div_eq_of_lt hmid, Nat.zero_add]

/-- A field below the one written keeps its value. -/
theorem getBits_putBits_below (x : Word) (lo w v lo' w' : Nat) (h : lo' + w' ≤ lo) (hw : lo + w ≤ 32) :
    getBits (putBits x lo w v) lo' w' = getBits x lo' w' := by
  unfold getBits
  rw [putBits_toNat x lo w v hw]
  have key (n : Nat) : n / 2 ^ lo' % 2 ^ w' = n % 2 ^ (lo' + w') / 2 ^ lo' := by
    rw [Nat.pow_add, Nat.mod_mul_right_div_self]
  rw [key, key x.toNat]
  congr 1
  have e1 : 2 ^ (lo + w) = 2 ^ (lo' + w') * 2 ^ (lo + w - (lo' + w')) := by rw [← Nat.pow_add]; congr 1; omega
  have e2 : 2 ^ lo = 2 ^ (lo' + w') * 2 ^ (lo - (lo' + w')) := by rw [← Nat.pow_add]; congr 1; omega
  have e3 : x.toNat % 2 ^ lo % 2 ^ (lo' + w') = x.toNat % 2 ^ (lo' + w') := by
    rw [e2, Nat.mod_mul_right_mod]
  rw [Nat.add_mod, Nat.add_mod (x.toNat / _ * _)]
  have z1 : x.toNat / 2 ^ (lo + w) * 2 ^ (lo + w) % 2 ^ (lo' + w') = 0 := by
    conv => lhs; rw [e1]
    rw [Nat.mul_left_comm, Nat.mul_mod_right]
  have z2 : v % 2 ^ w * 2 ^ lo % 2 ^ (lo' + w') = 0 := by
    conv => lhs; rw [e2]
    rw [Nat.mul_left_comm, Nat.mul_mod_right]
  rw [z1, z2, e3]
  simp

/-- A field of a register reads as written. -/
theorem Dev.g_p_self (s : Dev) (b : Nat) (f : Fld) (v : Nat) (h : f.lo + f.w ≤ 32) : (s.p b f v).g b f = v % 2 ^ f.w := by
  simp only [Dev.g, Dev.p, Dev.rd_wr_self]
  exact getBits_putBits_self _ _ _ _ h

/-- A register other than the one a field write names keeps its value. -/
theorem Dev.rd_p_ne (s : Dev) {b a : Nat} (f : Fld) (v : Nat) (h : a ≠ b + f.off) : (s.p b f v).rd a = s.rd a := Dev.rd_wr_ne s _ h

theorem Dev.g_p_ne (s : Dev) {b c : Nat} {f e : Fld} (v : Nat) (h : c + e.off ≠ b + f.off) : (s.p b f v).g c e = s.g c e := by
  simp only [Dev.g, Dev.rd_p_ne s f v h]

/-- Another field of the same register keeps its value. -/
theorem Dev.g_p_disjoint (s : Dev) (b : Nat) {f e : Fld} (v : Nat) (ho : e.off = f.off) (hf : f.lo + f.w ≤ 32)
    (h : (f.lo + f.w ≤ e.lo ∧ e.lo ≤ 32) ∨ e.lo + e.w ≤ f.lo) : (s.p b f v).g b e = s.g b e := by
  simp only [Dev.g, Dev.p, ho, Dev.rd_wr_self]
  rcases h with ⟨h, h'⟩ | h
  · exact getBits_putBits_above _ _ _ _ _ _ h h'
  · exact getBits_putBits_below _ _ _ _ _ _ h hf

end Sys2Proof.Machine
end

