-- ==== Sys2Proof/Laws/Run.lean ====
section
/-! SUPPORT. What a command can change around its own effect: `State.run` takes the events that the effect raised, brings the CAN objects into line with the alarm queue and keeps the time of eligibility. -/

namespace Sys2Proof.Machine

theorem settleN_quiet (n : Nat) (d : Dev) (h : d.due = []) : settleN n d = d := by
  cases n <;> simp [settleN, h]

theorem settle_quiet (d : Dev) (h : d.due = []) : settle d = d := settleN_quiet _ d h

theorem takeStart_quiet (d : Dev) (h : d.img.startCharge = false) : takeStart d = d := by simp [takeStart, h]

@[simp] theorem refreshElig_tick (d : Dev) : (refreshElig d).tick = d.tick := by unfold refreshElig; repeat (first | rfl | split)
@[simp] theorem refreshElig_regs (d : Dev) : (refreshElig d).regs = d.regs := by unfold refreshElig; repeat (first | rfl | split)
@[simp] theorem refreshElig_force (d : Dev) : (refreshElig d).force = d.force := by unfold refreshElig; repeat (first | rfl | split)
@[simp] theorem refreshElig_slotVals (d : Dev) : (refreshElig d).slotVals = d.slotVals := by unfold refreshElig; repeat (first | rfl | split)
@[simp] theorem refreshElig_plan (d : Dev) : (refreshElig d).plan = d.plan := by unfold refreshElig; repeat (first | rfl | split)
@[simp] theorem refreshElig_img (d : Dev) : (refreshElig d).img = d.img := by unfold refreshElig; repeat (first | rfl | split)
@[simp] theorem refreshElig_ms (d : Dev) : (refreshElig d).ms = d.ms := by unfold refreshElig; repeat (first | rfl | split)
@[simp] theorem refreshElig_ml (d : Dev) : (refreshElig d).ml = d.ml := by unfold refreshElig; repeat (first | rfl | split)
@[simp] theorem refreshElig_flt (d : Dev) : (refreshElig d).flt = d.flt := by unfold refreshElig; repeat (first | rfl | split)
@[simp] theorem refreshElig_tb (d : Dev) : (refreshElig d).tb = d.tb := by unfold refreshElig; repeat (first | rfl | split)
@[simp] theorem refreshElig_tpos (d : Dev) : (refreshElig d).tpos = d.tpos := by unfold refreshElig; repeat (first | rfl | split)
@[simp] theorem refreshElig_clk (d : Dev) : (refreshElig d).clk = d.clk := by unfold refreshElig; repeat (first | rfl | split)
@[simp] theorem refreshElig_cans (d : Dev) : (refreshElig d).cans = d.cans := by unfold refreshElig; repeat (first | rfl | split)
@[simp] theorem refreshElig_objs (d : Dev) : (refreshElig d).objs = d.objs := by unfold refreshElig; repeat (first | rfl | split)
@[simp] theorem refreshElig_pwr (d : Dev) : (refreshElig d).pwr = d.pwr := by unfold refreshElig; repeat (first | rfl | split)
@[simp] theorem refreshElig_box (d : Dev) : (refreshElig d).box = d.box := by unfold refreshElig; repeat (first | rfl | split)
@[simp] theorem refreshElig_hs (d : Dev) : (refreshElig d).hs = d.hs := by unfold refreshElig; repeat (first | rfl | split)
@[simp] theorem refreshElig_sens (d : Dev) : (refreshElig d).sens = d.sens := by unfold refreshElig; repeat (first | rfl | split)
@[simp] theorem refreshElig_rgs (d : Dev) : (refreshElig d).rgs = d.rgs := by unfold refreshElig; repeat (first | rfl | split)
@[simp] theorem refreshElig_trks (d : Dev) : (refreshElig d).trks = d.trks := by unfold refreshElig; repeat (first | rfl | split)
@[simp] theorem refreshElig_busy (d : Dev) : (refreshElig d).busy = d.busy := by unfold refreshElig; repeat (first | rfl | split)
@[simp] theorem refreshElig_strs (d : Dev) : (refreshElig d).strs = d.strs := by unfold refreshElig; repeat (first | rfl | split)
@[simp] theorem refreshElig_legs (d : Dev) : (refreshElig d).legs = d.legs := by unfold refreshElig; repeat (first | rfl | split)
@[simp] theorem refreshElig_auxs (d : Dev) : (refreshElig d).auxs = d.auxs := by unfold refreshElig; repeat (first | rfl | split)
@[simp] theorem refreshElig_ports (d : Dev) : (refreshElig d).ports = d.ports := by unfold refreshElig; repeat (first | rfl | split)
@[simp] theorem refreshElig_nodes (d : Dev) : (refreshElig d).nodes = d.nodes := by unfold refreshElig; repeat (first | rfl | split)
@[simp] theorem refreshElig_fars (d : Dev) : (refreshElig d).fars = d.fars := by unfold refreshElig; repeat (first | rfl | split)
@[simp] theorem refreshElig_srcs (d : Dev) : (refreshElig d).srcs = d.srcs := by unfold refreshElig; repeat (first | rfl | split)
@[simp] theorem refreshElig_teles (d : Dev) : (refreshElig d).teles = d.teles := by unfold refreshElig; repeat (first | rfl | split)
@[simp] theorem refreshElig_due (d : Dev) : (refreshElig d).due = d.due := by unfold refreshElig; repeat (first | rfl | split)
@[simp] theorem refreshElig_free (d : Dev) : (refreshElig d).free = d.free := by unfold refreshElig; repeat (first | rfl | split)

@[simp] theorem refreshObj_tick (o : Nat) (d : Dev) : (refreshObj o d).tick = d.tick := by unfold refreshObj setObjState; simp only []; split_ifs <;> rfl
@[simp] theorem refreshObj_force (o : Nat) (d : Dev) : (refreshObj o d).force = d.force := by unfold refreshObj setObjState; simp only []; split_ifs <;> rfl
@[simp] theorem refreshObj_slotVals (o : Nat) (d : Dev) : (refreshObj o d).slotVals = d.slotVals := by unfold refreshObj setObjState; simp only []; split_ifs <;> rfl
@[simp] theorem refreshObj_plan (o : Nat) (d : Dev) : (refreshObj o d).plan = d.plan := by unfold refreshObj setObjState; simp only []; split_ifs <;> rfl
@[simp] theorem refreshObj_img (o : Nat) (d : Dev) : (refreshObj o d).img = d.img := by unfold refreshObj setObjState; simp only []; split_ifs <;> rfl
@[simp] theorem refreshObj_ms (o : Nat) (d : Dev) : (refreshObj o d).ms = d.ms := by unfold refreshObj setObjState; simp only []; split_ifs <;> rfl
@[simp] theorem refreshObj_ml (o : Nat) (d : Dev) : (refreshObj o d).ml = d.ml := by unfold refreshObj setObjState; simp only []; split_ifs <;> rfl
@[simp] theorem refreshObj_flt (o : Nat) (d : Dev) : (refreshObj o d).flt = d.flt := by unfold refreshObj setObjState; simp only []; split_ifs <;> rfl
@[simp] theorem refreshObj_tb (o : Nat) (d : Dev) : (refreshObj o d).tb = d.tb := by unfold refreshObj setObjState; simp only []; split_ifs <;> rfl
@[simp] theorem refreshObj_tpos (o : Nat) (d : Dev) : (refreshObj o d).tpos = d.tpos := by unfold refreshObj setObjState; simp only []; split_ifs <;> rfl
@[simp] theorem refreshObj_clk (o : Nat) (d : Dev) : (refreshObj o d).clk = d.clk := by unfold refreshObj setObjState; simp only []; split_ifs <;> rfl
@[simp] theorem refreshObj_pair (o : Nat) (d : Dev) : (refreshObj o d).pair = d.pair := by unfold refreshObj setObjState; simp only []; split_ifs <;> rfl
@[simp] theorem refreshObj_cans (o : Nat) (d : Dev) : (refreshObj o d).cans = d.cans := by unfold refreshObj setObjState; simp only []; split_ifs <;> rfl
@[simp] theorem refreshObj_pwr (o : Nat) (d : Dev) : (refreshObj o d).pwr = d.pwr := by unfold refreshObj setObjState; simp only []; split_ifs <;> rfl
@[simp] theorem refreshObj_box (o : Nat) (d : Dev) : (refreshObj o d).box = d.box := by unfold refreshObj setObjState; simp only []; split_ifs <;> rfl
@[simp] theorem refreshObj_hs (o : Nat) (d : Dev) : (refreshObj o d).hs = d.hs := by unfold refreshObj setObjState; simp only []; split_ifs <;> rfl
@[simp] theorem refreshObj_sens (o : Nat) (d : Dev) : (refreshObj o d).sens = d.sens := by unfold refreshObj setObjState; simp only []; split_ifs <;> rfl
@[simp] theorem refreshObj_rgs (o : Nat) (d : Dev) : (refreshObj o d).rgs = d.rgs := by unfold refreshObj setObjState; simp only []; split_ifs <;> rfl
@[simp] theorem refreshObj_trks (o : Nat) (d : Dev) : (refreshObj o d).trks = d.trks := by unfold refreshObj setObjState; simp only []; split_ifs <;> rfl
@[simp] theorem refreshObj_busy (o : Nat) (d : Dev) : (refreshObj o d).busy = d.busy := by unfold refreshObj setObjState; simp only []; split_ifs <;> rfl
@[simp] theorem refreshObj_strs (o : Nat) (d : Dev) : (refreshObj o d).strs = d.strs := by unfold refreshObj setObjState; simp only []; split_ifs <;> rfl
@[simp] theorem refreshObj_legs (o : Nat) (d : Dev) : (refreshObj o d).legs = d.legs := by unfold refreshObj setObjState; simp only []; split_ifs <;> rfl
@[simp] theorem refreshObj_auxs (o : Nat) (d : Dev) : (refreshObj o d).auxs = d.auxs := by unfold refreshObj setObjState; simp only []; split_ifs <;> rfl
@[simp] theorem refreshObj_ports (o : Nat) (d : Dev) : (refreshObj o d).ports = d.ports := by unfold refreshObj setObjState; simp only []; split_ifs <;> rfl
@[simp] theorem refreshObj_nodes (o : Nat) (d : Dev) : (refreshObj o d).nodes = d.nodes := by unfold refreshObj setObjState; simp only []; split_ifs <;> rfl
@[simp] theorem refreshObj_fars (o : Nat) (d : Dev) : (refreshObj o d).fars = d.fars := by unfold refreshObj setObjState; simp only []; split_ifs <;> rfl
@[simp] theorem refreshObj_srcs (o : Nat) (d : Dev) : (refreshObj o d).srcs = d.srcs := by unfold refreshObj setObjState; simp only []; split_ifs <;> rfl
@[simp] theorem refreshObj_teles (o : Nat) (d : Dev) : (refreshObj o d).teles = d.teles := by unfold refreshObj setObjState; simp only []; split_ifs <;> rfl
@[simp] theorem refreshObj_due (o : Nat) (d : Dev) : (refreshObj o d).due = d.due := by unfold refreshObj setObjState; simp only []; split_ifs <;> rfl
@[simp] theorem refreshObj_free (o : Nat) (d : Dev) : (refreshObj o d).free = d.free := by unfold refreshObj setObjState; simp only []; split_ifs <;> rfl

theorem each_field {α β : Type} (l : List α) (f : α → Dev → Dev) (p : Dev → β) (h : ∀ x d, p (f x d) = p d) (d : Dev) : p (d.each l f) = p d := by
  unfold Dev.each
  induction l generalizing d with
  | nil => rfl
  | cons x t ih => rw [List.foldl_cons, ih, h]

@[simp] theorem refreshCan_tick (d : Dev) : (refreshCan d).tick = d.tick := each_field _ _ (fun d => d.tick) refreshObj_tick d
@[simp] theorem refreshCan_force (d : Dev) : (refreshCan d).force = d.force := each_field _ _ (fun d => d.force) refreshObj_force d
@[simp] theorem refreshCan_slotVals (d : Dev) : (refreshCan d).slotVals = d.slotVals := each_field _ _ (fun d => d.slotVals) refreshObj_slotVals d
@[simp] theorem refreshCan_plan (d : Dev) : (refreshCan d).plan = d.plan := each_field _ _ (fun d => d.plan) refreshObj_plan d
@[simp] theorem refreshCan_img (d : Dev) : (refreshCan d).img = d.img := each_field _ _ (fun d => d.img) refreshObj_img d
@[simp] theorem refreshCan_ms (d : Dev) : (refreshCan d).ms = d.ms := each_field _ _ (fun d => d.ms) refreshObj_ms d
@[simp] theorem refreshCan_ml (d : Dev) : (refreshCan d).ml = d.ml := each_field _ _ (fun d => d.ml) refreshObj_ml d
@[simp] theorem refreshCan_flt (d : Dev) : (refreshCan d).flt = d.flt := each_field _ _ (fun d => d.flt) refreshObj_flt d
@[simp] theorem refreshCan_tb (d : Dev) : (refreshCan d).tb = d.tb := each_field _ _ (fun d => d.tb) refreshObj_tb d
@[simp] theorem refreshCan_tpos (d : Dev) : (refreshCan d).tpos = d.tpos := each_field _ _ (fun d => d.tpos) refreshObj_tpos d
@[simp] theorem refreshCan_clk (d : Dev) : (refreshCan d).clk = d.clk := each_field _ _ (fun d => d.clk) refreshObj_clk d
@[simp] theorem refreshCan_pair (d : Dev) : (refreshCan d).pair = d.pair := each_field _ _ (fun d => d.pair) refreshObj_pair d
@[simp] theorem refreshCan_cans (d : Dev) : (refreshCan d).cans = d.cans := each_field _ _ (fun d => d.cans) refreshObj_cans d
@[simp] theorem refreshCan_pwr (d : Dev) : (refreshCan d).pwr = d.pwr := each_field _ _ (fun d => d.pwr) refreshObj_pwr d
@[simp] theorem refreshCan_box (d : Dev) : (refreshCan d).box = d.box := each_field _ _ (fun d => d.box) refreshObj_box d
@[simp] theorem refreshCan_hs (d : Dev) : (refreshCan d).hs = d.hs := each_field _ _ (fun d => d.hs) refreshObj_hs d
@[simp] theorem refreshCan_sens (d : Dev) : (refreshCan d).sens = d.sens := each_field _ _ (fun d => d.sens) refreshObj_sens d
@[simp] theorem refreshCan_rgs (d : Dev) : (refreshCan d).rgs = d.rgs := each_field _ _ (fun d => d.rgs) refreshObj_rgs d
@[simp] theorem refreshCan_trks (d : Dev) : (refreshCan d).trks = d.trks := each_field _ _ (fun d => d.trks) refreshObj_trks d
@[simp] theorem refreshCan_busy (d : Dev) : (refreshCan d).busy = d.busy := each_field _ _ (fun d => d.busy) refreshObj_busy d
@[simp] theorem refreshCan_strs (d : Dev) : (refreshCan d).strs = d.strs := each_field _ _ (fun d => d.strs) refreshObj_strs d
@[simp] theorem refreshCan_legs (d : Dev) : (refreshCan d).legs = d.legs := each_field _ _ (fun d => d.legs) refreshObj_legs d
@[simp] theorem refreshCan_auxs (d : Dev) : (refreshCan d).auxs = d.auxs := each_field _ _ (fun d => d.auxs) refreshObj_auxs d
@[simp] theorem refreshCan_ports (d : Dev) : (refreshCan d).ports = d.ports := each_field _ _ (fun d => d.ports) refreshObj_ports d
@[simp] theorem refreshCan_nodes (d : Dev) : (refreshCan d).nodes = d.nodes := each_field _ _ (fun d => d.nodes) refreshObj_nodes d
@[simp] theorem refreshCan_fars (d : Dev) : (refreshCan d).fars = d.fars := each_field _ _ (fun d => d.fars) refreshObj_fars d
@[simp] theorem refreshCan_srcs (d : Dev) : (refreshCan d).srcs = d.srcs := each_field _ _ (fun d => d.srcs) refreshObj_srcs d
@[simp] theorem refreshCan_teles (d : Dev) : (refreshCan d).teles = d.teles := each_field _ _ (fun d => d.teles) refreshObj_teles d
@[simp] theorem refreshCan_due (d : Dev) : (refreshCan d).due = d.due := each_field _ _ (fun d => d.due) refreshObj_due d
@[simp] theorem refreshCan_free (d : Dev) : (refreshCan d).free = d.free := each_field _ _ (fun d => d.free) refreshObj_free d

theorem each_field_mem {α β : Type} (l : List α) (f : α → Dev → Dev) (p : Dev → β) (h : ∀ x ∈ l, ∀ d, p (f x d) = p d) (d : Dev) : p (d.each l f) = p d := by
  unfold Dev.each
  induction l generalizing d with
  | nil => rfl
  | cons x t ih =>
    rw [List.foldl_cons, ih (fun y hy => h y (List.mem_cons_of_mem x hy)), h x List.mem_cons_self]

theorem refreshObj_rd (o : Nat) (ho : o < 512) (d : Dev) (a : Nat) (h : ¬ IsObjStatus a) : (refreshObj o d).rd a = d.rd a := by
  have hne : a ≠ bObj o + F.OBJ_STATUS_STATE.off := fun e => h ⟨o, ho, e⟩
  have hp (x : Dev) (v : Nat) : (setObjState o v x).rd a = x.rd a := Dev.rd_p_ne x F.OBJ_STATUS_STATE v hne
  have ho (x : Dev) (f : ObjSt → ObjSt) : (x.setObj o f).rd a = x.rd a := Dev.rd_congr (Dev.setObj_regs x o f) a
  unfold refreshObj
  simp only []
  split_ifs <;> simp only [hp, ho]

theorem objOfEnable_lt (a o : Nat) (h : objOfEnable a = some o) : o < 512 := by
  unfold objOfEnable at h
  split_ifs at h <;> simp only [Option.some.injEq] at h <;> omega

theorem enabledObjs_lt (d : Dev) (o : Nat) (h : o ∈ enabledObjs d) : o < 512 := by
  simp only [enabledObjs, List.mem_filterMap, Option.bind_eq_some_iff] at h
  obtain ⟨w, -, x, hx, h⟩ := h
  split_ifs at h
  cases h
  exact objOfEnable_lt _ _ hx

theorem refreshCan_rd (d : Dev) (a : Nat) (h : ¬ IsObjStatus a) : (refreshCan d).rd a = d.rd a :=
  each_field_mem _ _ (fun d => d.rd a) (fun o ho d => refreshObj_rd o (enabledObjs_lt _ o ho) d a h) d

@[simp] theorem refreshElig_rd (d : Dev) (a : Nat) : (refreshElig d).rd a = d.rd a := Dev.rd_congr (refreshElig_regs d) a

/-! ### The shape of a command -/

@[simp] theorem State.run_pending (s : State) (f : Dev → Dev) : (s.run f).pending = s.pending := rfl
@[simp] theorem State.run_nv (s : State) (f : Dev → Dev) : (s.run f).nv = s.nv := rfl
@[simp] theorem State.upd_pending (s : State) (f : Dev → Dev) : (s.upd f).pending = s.pending := rfl
@[simp] theorem State.upd_nv (s : State) (f : Dev → Dev) : (s.upd f).nv = s.nv := rfl
@[simp] theorem State.updFar_pending (s : State) (p : Nat) (f : FarSt → FarSt) : (s.updFar p f).pending = s.pending := rfl
@[simp] theorem State.updFar_nv (s : State) (p : Nat) (f : FarSt → FarSt) : (s.updFar p f).nv = s.nv := rfl

/-- An effect that raises no event leaves its own result, but for message object states and the time of eligibility. -/
theorem State.run_quiet (s : State) (f : Dev → Dev) (h : (f s.d).Quiet) : (s.run f).d = refreshElig (refreshCan (f s.d)) := by
  simp only [State.run, settle_quiet _ h.1, takeStart_quiet _ h.2]

theorem State.upd_quiet (s : State) (f : Dev → Dev) (h : (f s.d.fresh).Quiet) : (s.upd f).d = refreshElig (refreshCan (f s.d.fresh)) :=
  State.run_quiet s (fun d => f d.fresh) h

/-- A register that is no message object state holds what the effect left in it. -/
theorem State.upd_rd (s : State) (f : Dev → Dev) (h : (f s.d.fresh).Quiet) (a : Nat) (ha : ¬ IsObjStatus a) :
    (s.upd f).d.rd a = (f s.d.fresh).rd a := by
  rw [State.upd_quiet s f h, refreshElig_rd, refreshCan_rd _ a ha]

end Sys2Proof.Machine
end

