-- ==== Sys2Proof/Laws/Host.lean ====
section
/-! SUPPORT. What a host access can do: one write, one mailbox command, on either path. -/

namespace Sys2Proof.Machine

/-- The module that a host access finds: message objects and eligibility are brought into line first. -/
abbrev found (d : Dev) : Dev := refreshElig (refreshCan d.fresh)

theorem State.upd_id_quiet (s : State) (h : s.d.Quiet) : (s.upd id).d = found s.d := State.upd_quiet s id h

theorem refreshElig_rest (d : Dev) : (refreshElig d).rest = d.rest := by
  unfold refreshElig Dev.setPair Dev.rest
  repeat (first | rfl | split)

theorem refreshObj_rest (o : Nat) (d : Dev) : (refreshObj o d).rest = d.rest := by
  unfold refreshObj setObjState Dev.p Dev.wr Dev.setObj Dev.rest
  simp only []
  split_ifs <;> rfl

theorem refreshCan_rest (d : Dev) : (refreshCan d).rest = d.rest := each_field _ _ Dev.rest refreshObj_rest d

theorem found_rest (d : Dev) : (found d).rest = d.rest := by rw [found, refreshElig_rest, refreshCan_rest]; rfl

theorem found_rd (d : Dev) (a : Nat) (h : ¬ IsObjStatus a) : (found d).rd a = d.rd a := by
  rw [found, refreshElig_rd, refreshCan_rd _ a h]; rfl

theorem wake_on (c : Nat) (d : Dev) (h : pwrState d = 0) (ht : pwrTrans d = false) : wake c d = d := by
  simp [wake, h, ht]

theorem spiReady_on (d : Dev) (h : pwrState d = 0) (ht : pwrTrans d = false) : spiReady none d = true := by
  simp [spiReady, mgmtMoves, h, ht]

theorem spiBegin_ready (s : State) (h : Responsive s.d) : spiBegin s = s.upd id := by
  have hw : wake 3 s.d.fresh = s.d.fresh := wake_on 3 _ h.2.1 h.2.2.1
  simp only [spiBegin, State.upd, State.run]
  rw [show wake 3 { s.d with hs := { s.d.hs with out := [] } } = _ from hw]
  rfl

theorem spiNote_self (s : State) : spiNote (fun _ => s.d.hs) s = s := rfl

/-- One register write of a host that reaches the module: the write that the register bus makes of it. -/
theorem hostWrite_acts (p : Path) (a : Nat) (v : Word) (s : State) (hp : HostReady p s) (ha : a % 4 = 0) (ho : a ≠ bDev + F.CMD_OP.off) :
    ∃ x, hostWrite p a v s = spiNote (fun _ => x) (s.run (fun _ => (hostWriteDev p a v (found s.d)).2)) := by
  have h := hp.1
  have hid := State.upd_id_quiet s h.1
  have hb (q : Path) : (busWrite q a v (s.upd id)).2 = s.run (fun _ => (hostWriteDev q a v (found s.d)).2) := by
    simp only [busWrite, ho, false_and, if_false, hid]
    rfl
  cases p with
  | lmp =>
    refine ⟨(s.run (fun _ => (hostWriteDev .lmp a v (found s.d)).2)).d.hs, ?_⟩
    have hl := hp.2.2 rfl
    simp only [hostWrite, ha, bne_self_eq_false, Bool.false_eq_true, if_false, hb, hl.1, hl.2, Bool.not_true, Bool.or_self]
    exact (spiNote_self _).symm
  | spi =>
    refine ⟨{ (s.run (fun _ => (hostWriteDev .spi a v (found s.d)).2)).d.hs with addrErr := false, refused := (busWrites .spi a [v] (s.upd id)).1.any (· != 0) }, ?_⟩
    simp only [hostWrite, spiWrite, hp.2.1, List.isEmpty_nil, if_true, spiWriteWords, spiReady_on _ h.2.1 h.2.2.1, spiBegin_ready s h, Bool.not_true, Bool.false_eq_true, if_false, ha, bne_self_eq_false]
    simp only [busWrites, hb]
    rfl

/-! ### The mailbox -/

theorem found_role (d : Dev) : (found d).role = d.role := by
  have e : ¬ IsObjStatus (bSs + F.SS_STATUS_ROLE.off) := by
    rintro ⟨o, -, h⟩
    simp only [bSs, bObj, F.SS_STATUS_ROLE, F.OBJ_STATUS] at h
    omega
  simp only [Dev.role, Dev.g, found_rd d _ e]

theorem merge_all (r : RegD) (old v : Word) (hr : r.rw = 4294967295) (hw : r.w1c = 0) : merge r old v 4294967295#32 = v := by
  have h2 : Nat.land 4294967295 v.toNat = v.toNat := by
    show 4294967295 &&& v.toNat = v.toNat
    rw [Nat.and_comm, show (4294967295:Nat) = 2 ^ 32 - 1 from rfl, Nat.and_two_pow_sub_one_eq_mod, Nat.mod_eq_of_lt v.isLt]
  have h4 : (Nat.lor 0 v.toNat).land 4294967295 = v.toNat := by
    show (0 ||| v.toNat) &&& 4294967295 = v.toNat
    rw [Nat.zero_or, Nat.and_comm]; exact h2
  simp only [merge, hr, hw, show (4294967295#32).toNat = 4294967295 from rfl]
  have z0 : Nat.land 4294967295 4294967295 = 4294967295 := by decide
  have z1 : Nat.xor 4294967295 4294967295 = 0 := by decide
  have z2 : Nat.land 0 4294967295 = 0 := by decide
  have z3 (n : Nat) : Nat.land 0 n = 0 := Nat.zero_and n
  have z4 (n : Nat) : Nat.land n 0 = 0 := Nat.and_zero n
  have z5 : Nat.xor 4294967295 0 = 4294967295 := by decide
  simp only [z0, z1, z2, z3, z4, z5, h2, h4, w32, BitVec.ofNat_toNat, BitVec.setWidth_eq]

theorem locate_arg (k : Nat) (h : k < 4) : locate (bDev + F.CMD_ARG.off + 4 * k) = some ⟨.dev, 0, F.CMD_ARG.off + 4 * k, some ⟨0x40, 4, 0x0, 0xFFFFFFFF, 0x0, 0x0, 0x0, .l⟩⟩ := by
  have : ∀ k : Fin 4, locate (bDev + F.CMD_ARG.off + 4 * k) = some ⟨.dev, 0, F.CMD_ARG.off + 4 * k, some ⟨0x40, 4, 0x0, 0xFFFFFFFF, 0x0, 0x0, 0x0, .l⟩⟩ := by decide
  exact this ⟨k, h⟩

theorem writeDev_arg (k : Nat) (hk : k < 4) (v : Word) (d : Dev) (hc : d.ms.cmd = none) (hr : romHold d = false) (hs : d.role ≠ .standby) :
    writeDev (.host .spi) (bDev + F.CMD_ARG.off + 4 * k) v 4294967295#32 d = (0, d.wr (bDev + F.CMD_ARG.off + 4 * k) v) := by
  have hb : busReason (.host .spi) (locate (bDev + F.CMD_ARG.off + 4 * k)) (bDev + F.CMD_ARG.off + 4 * k) d = 0 := by
    rw [locate_arg k hk]
    have : (d.role == Role.standby) = false := by simpa using hs
    simp [busReason, slotOfLoc, hc, hr, this]
  unfold writeDev
  simp only [hb]
  rw [locate_arg k hk]
  simp [regWrite, merge_all, valueReason1, valueReason2, enableOf, storeWord, writeEffect1, writeEffect2, Wr.is, Wr.addr, bDev, Dev.on,
    F.DEV_MODE_CFG, F.DEV_ENABLE, F.DEV_MODE_REQ, F.CMD_ARG]
/-- An argument register written over the SPI. -/
theorem busWrite_arg (k : Nat) (hk : k < 4) (v : Word) (s : State) (h : Responsive s.d) :
    busWrite .spi (bDev + F.CMD_ARG.off + 4 * k) v s = (0, s.run (fun d => d.wr (bDev + F.CMD_ARG.off + 4 * k) v)) := by
  have hw := writeDev_arg k hk v s.d h.2.2.2.2.2 h.2.2.2.1 h.2.2.2.2.1
  have ho : bDev + F.CMD_ARG.off + 4 * k ≠ bDev + F.CMD_OP.off := by simp only [bDev, F.CMD_ARG, F.CMD_OP]; omega
  simp only [busWrite, ho, false_and, if_false, hostWriteDev, hw]
  rfl

theorem not_obj_small (a : Nat) (h : a < 0x508000) : ¬ IsObjStatus a := by
  rintro ⟨o, -, h'⟩
  simp only [bObj, F.OBJ_STATUS] at h'
  omega

theorem not_obj_big (a : Nat) (h : 0x520000 ≤ a) : ¬ IsObjStatus a := by
  rintro ⟨o, ho, h'⟩
  simp only [bObj, F.OBJ_STATUS] at h'
  omega

theorem ArgsOnly.ready {d e : Dev} (h : ArgsOnly d e) (hd : Responsive d) : Responsive e := by
  obtain ⟨hr, hk⟩ := h
  have k (a : Nat) (h1 : a < 0x508000 ∨ 0x520000 ≤ a) (h2 : a < 0x40 ∨ 0x50 ≤ a) : e.rd a = d.rd a := by
    refine hk a ?_ (h1.elim (not_obj_small a) (not_obj_big a))
    simp only [bDev, F.CMD_ARG, List.mem_cons, List.not_mem_nil, or_false]
    omega
  have g (b : Nat) (f : Fld) (h1 : b + f.off < 0x508000 ∨ 0x520000 ≤ b + f.off) (h2 : b + f.off < 0x40 ∨ 0x50 ≤ b + f.off) : e.g b f = d.g b f := by
    simp only [Dev.g, k _ h1 h2]
  obtain ⟨⟨q1, q2⟩, q3, q4, q5, q6, q7⟩ := hd
  refine ⟨⟨?_, ?_⟩, ?_, ?_, ?_, ?_, ?_⟩
  · exact (congrArg Dev.due hr).trans q1
  · exact (congrArg (fun d => d.img.startCharge) hr).trans q2
  · rw [← q3]; exact g _ _ (by decide) (by decide)
  · rw [← q4]; simp only [pwrTrans, Dev.gb]; rw [g _ _ (by decide) (by decide)]
  · rw [← q5]; simp only [romHold, Dev.gb]; rw [g _ _ (by decide) (by decide)]
  · have : e.role = d.role := by simp only [Dev.role]; rw [g _ _ (by decide) (by decide)]
    rw [this]; exact q6
  · exact (congrArg (fun d => d.ms.cmd) hr).trans q7

theorem ArgsOnly.trans {d e f : Dev} (h : ArgsOnly d e) (g : ArgsOnly e f) : ArgsOnly d f :=
  ⟨g.1.trans h.1, fun a ha ho => (g.2 a ha ho).trans (h.2 a ha ho)⟩

theorem argsOnly_found (d : Dev) : ArgsOnly d (found d) := ⟨found_rest d, fun a _ ho => found_rd d a ho⟩

theorem argsOnly_write (s : State) (h : Responsive s.d) (k : Nat) (hk : k < 4) (v : Word) :
    ArgsOnly s.d (s.run (fun d => d.wr (bDev + F.CMD_ARG.off + 4 * k) v)).d := by
  rw [State.run_quiet s _ (by exact h.1)]
  refine ⟨by rw [refreshElig_rest, refreshCan_rest]; rfl, fun a ha ho => ?_⟩
  rw [refreshElig_rd, refreshCan_rd _ a ho]
  refine Dev.rd_wr_ne _ _ (fun e => ha ?_)
  rw [e]
  have : ∀ k : Fin 4, bDev + F.CMD_ARG.off + 4 * k.val ∈ [bDev + F.CMD_ARG.off, bDev + F.CMD_ARG.off + 4, bDev + F.CMD_ARG.off + 8, bDev + F.CMD_ARG.off + 12] := by decide
  exact this ⟨k, hk⟩

theorem mailbox_acts (p : Path) (op : Nat) (hop : op < 65536) (a0 a1 a2 a3 : Word) (s : State) (hp : HostReady p s) :
    ∃ d x, ArgsOnly s.d d ∧ Responsive d ∧
      mailbox p op a0 a1 a2 a3 s = spiNote (fun _ => x) (submit (p == .lmp) none op a0 a1 a2 a3 { s with d := d }).2 := by
  have h := hp.1
  have hid := State.upd_id_quiet s h.1
  have hf := argsOnly_found s.d
  have hfr := hf.ready h
  cases p with
  | lmp =>
    refine ⟨found s.d, (submit true none op a0 a1 a2 a3 (s.upd id)).2.d.hs, hf, hfr, ?_⟩
    have : s.upd id = { s with d := found s.d } := by rw [← hid]; rfl
    simp only [mailbox, (hp.2.2 rfl).1, if_true, ← this]
    exact (spiNote_self _).symm
  | spi =>
    let w (k : Nat) (v : Word) (t : State) : State := t.run (fun d => d.wr (bDev + F.CMD_ARG.off + 4 * k) v)
    let s0 : State := { s with d := found s.d }
    have e0 : s.upd id = s0 := by rw [show s0 = { s with d := (s.upd id).d } by rw [hid]]; rfl
    have go (t : State) (k : Nat) (hk : k < 4) (v : Word) (ht : Responsive t.d) : ArgsOnly t.d (w k v t).d ∧ Responsive (w k v t).d :=
      ⟨argsOnly_write t ht k hk v, (argsOnly_write t ht k hk v).ready ht⟩
    have h0 : Responsive s0.d := hfr
    have h1 := go s0 0 (by decide) a0 h0
    have h2 := go (w 0 a0 s0) 1 (by decide) a1 h1.2
    have h3 := go (w 1 a1 (w 0 a0 s0)) 2 (by decide) a2 h2.2
    have h4 := go (w 2 a2 (w 1 a1 (w 0 a0 s0))) 3 (by decide) a3 h3.2
    let s4 : State := w 3 a3 (w 2 a2 (w 1 a1 (w 0 a0 s0)))
    have hA : ArgsOnly s.d s4.d := (((hf.trans h1.1).trans h2.1).trans h3.1).trans h4.1
    have kr (t : State) (ht : Responsive t.d) (k : Nat) (v : Word) (a : Nat) (ha : a < 0x508000) :
        (w k v t).d.rd a = if a = bDev + F.CMD_ARG.off + 4 * k then v else t.d.rd a := by
      rw [State.run_quiet t _ (by exact ht.1), refreshElig_rd, refreshCan_rd _ a (not_obj_small a ha)]
      split_ifs with e
      · rw [e, Dev.rd_wr_self]
      · exact Dev.rd_wr_ne _ _ e
    have r0 : s4.d.rd (bDev + F.CMD_ARG.off + 4 * 0) = a0 := by
      rw [kr _ h3.2 _ _ _ (by decide), kr _ h2.2 _ _ _ (by decide), kr _ h1.2 _ _ _ (by decide), kr _ h0 _ _ _ (by decide)]; simp
    have r1 : s4.d.rd (bDev + F.CMD_ARG.off + 4 * 1) = a1 := by
      rw [kr _ h3.2 _ _ _ (by decide), kr _ h2.2 _ _ _ (by decide), kr _ h1.2 _ _ _ (by decide)]; simp
    have r2 : s4.d.rd (bDev + F.CMD_ARG.off + 4 * 2) = a2 := by
      rw [kr _ h3.2 _ _ _ (by decide), kr _ h2.2 _ _ _ (by decide)]; simp
    have r3 : s4.d.rd (bDev + F.CMD_ARG.off + 4 * 3) = a3 := by
      rw [kr _ h3.2 _ _ _ (by decide)]; simp
    have hl : locate (bDev + F.CMD_OP.off) = some ⟨.dev, 0, F.CMD_OP.off, some ⟨0x50, 1, 0x0, 0x0, 0x0, 0xFFFF, 0x0, .none⟩⟩ := by decide
    have hb : busReason (.host .spi) (locate (bDev + F.CMD_OP.off)) (bDev + F.CMD_OP.off) s4.d = 0 := by
      have : (s4.d.role == Role.standby) = false := by simpa using h4.2.2.2.2.2.1
      rw [hl]
      simp [busReason, slotOfLoc, this, h4.2.2.2.2.2.2, h4.2.2.2.2.1, s4]
    have hopw : getBits (w32 op) 0 16 = op := by
      simp only [getBits, w32, BitVec.toNat_ofNat]
      omega
    have hsub : (submit false none op a0 a1 a2 a3 s4).1 = 0 := by
      unfold submit
      have : s4.d.ms.cmd = none := h4.2.2.2.2.2.2
      simp only [this, Option.isSome_none, Bool.false_eq_true, if_false]
      split_ifs <;> rfl
    have hop' : busWrite .spi (bDev + F.CMD_OP.off) (w32 op) s4 = (0, (submit false none op a0 a1 a2 a3 s4).2) := by
      unfold busWrite
      simp only [hb, and_self, if_true, r0, r1, r2, r3, hopw, hsub]
    have b0 := busWrite_arg 0 (by decide) a0 s0 h0
    have b1 := busWrite_arg 1 (by decide) a1 (w 0 a0 s0) h1.2
    have b2 := busWrite_arg 2 (by decide) a2 (w 1 a1 (w 0 a0 s0)) h2.2
    have b3 := busWrite_arg 3 (by decide) a3 (w 2 a2 (w 1 a1 (w 0 a0 s0))) h3.2
    have hws : busWrites .spi (bDev + F.CMD_ARG.off) [a0, a1, a2, a3, w32 op] s0 = ([0, 0, 0, 0, 0], (submit false none op a0 a1 a2 a3 s4).2) := by
      simp only [busWrites]
      rw [show bDev + F.CMD_ARG.off = bDev + F.CMD_ARG.off + 4 * 0 from rfl, b0]
      rw [show (bDev + F.CMD_ARG.off + 4 * 0 + 4) % 0x1000000 = bDev + F.CMD_ARG.off + 4 * 1 from rfl, b1]
      rw [show (bDev + F.CMD_ARG.off + 4 * 1 + 4) % 0x1000000 = bDev + F.CMD_ARG.off + 4 * 2 from rfl, b2]
      rw [show (bDev + F.CMD_ARG.off + 4 * 2 + 4) % 0x1000000 = bDev + F.CMD_ARG.off + 4 * 3 from rfl, b3]
      rw [show (bDev + F.CMD_ARG.off + 4 * 3 + 4) % 0x1000000 = bDev + F.CMD_OP.off from rfl, hop']
    refine ⟨s4.d, { (submit false none op a0 a1 a2 a3 s4).2.d.hs with addrErr := false, refused := false }, hA, h4.2, ?_⟩
    have e4 : ({ s with d := s4.d } : State) = s4 := rfl
    rw [e4]
    simp only [mailbox, spiWrite, hp.2.1, List.isEmpty_nil, if_true, spiWriteWords, spiReady_on _ h.2.1 h.2.2.1, spiBegin_ready s h, e0, Bool.not_true, Bool.false_eq_true, if_false, hws]
    rfl

end Sys2Proof.Machine
end

