-- ==== Sys2Proof/Laws/Memory.lean ====
section
/-! SUPPORT. The slot memory: every operation keeps its canonical form, and what a read gives after it. -/

namespace Sys2Proof.Machine

theorem nvPut_wf (m : List Host.Cell) (a : Nat) (b : Byte) (h : Memory.wf m) : Memory.wf (nvPut m a b) := twf_tset nvBlank m a _ h

theorem nvProgram_wf (l : List Byte) (m : List Host.Cell) (a : Nat) (h : Memory.wf m) : Memory.wf (nvProgram m a l) := by
  induction l generalizing m a with
  | nil => exact h
  | cons b t ih => exact ih _ _ (nvPut_wf m a b h)

theorem nvErase_wf (m : List Host.Cell) (a n : Nat) (h : Memory.wf m) : Memory.wf (nvErase m a n) := twf_teraseRange nvBlank m a n h

/-- Programming a byte clears the bits that are 0 in it, and nothing else. -/
theorem nvGet_nvPut_self (m : List Host.Cell) (a : Nat) (b : Byte) : nvGet (nvPut m a b) a = (nvGet m a &&& b) := tget_tset_self nvBlank m a _

theorem nvGet_nvPut_ne (m : List Host.Cell) {a x : Nat} (b : Byte) (h : x ≠ a) : nvGet (nvPut m a b) x = nvGet m x := tget_tset_ne nvBlank m _ h

theorem nvGet_nvProgram_out (l : List Byte) (m : List Host.Cell) (a x : Nat) (h : x < a ∨ a + l.length ≤ x) :
    nvGet (nvProgram m a l) x = nvGet m x := by
  induction l generalizing m a with
  | nil => rfl
  | cons b t ih =>
    simp only [List.length_cons] at h
    rw [nvProgram, ih _ _ (by omega), nvGet_nvPut_ne _ _ (by omega)]

theorem nvGet_nvErase (m : List Host.Cell) (a n x : Nat) :
    nvGet (nvErase m a n) x = if a ≤ x ∧ x < a + n then 0xFF#8 else nvGet m x := tget_teraseRange nvBlank m a n x

end Sys2Proof.Machine
end

