-- ==== Sys2Proof/Laws/Nv.lean ====
section
/-! SUPPORT. What every shared operation does to the queue and to the non-volatile memories: the queue stays, the memories keep their canonical form, OTP only grows. -/

namespace Sys2Proof.Machine

theorem Otp.Grows.refl (o : Otp) : o.Grows o := ⟨fun _ => Nat.le_refl _, fun _ _ => rfl, Nat.le_refl _⟩

theorem Otp.Grows.trans {a b c : Otp} (h : a.Grows b) (g : b.Grows c) : a.Grows c := by
  refine ⟨fun k => (h.1 k).trans (g.1 k), fun k hk => ?_, h.2.2.trans g.2.2⟩
  have hb : b.state k ≠ Anchor.empty := by
    intro e
    have := h.1 k
    rw [e] at this
    revert hk this
    cases a.state k <;> simp [Anchor.rank]
  rw [g.2.1 k hb, h.2.1 k hk]

/-- What no operation breaks between two non-volatile memories. -/
def Nv.Keeps (n m : Nv) : Prop := (n.Inv → m.Inv) ∧ n.otp.Grows m.otp

theorem Nv.Keeps.refl (n : Nv) : n.Keeps n := ⟨id, Otp.Grows.refl _⟩
theorem Nv.Keeps.trans {a b c : Nv} (h : a.Keeps b) (g : b.Keeps c) : a.Keeps c := ⟨g.1 ∘ h.1, h.2.trans g.2⟩

/-- The same between two states, with the queue. -/
def State.Keeps (s t : State) : Prop := t.pending = s.pending ∧ s.nv.Keeps t.nv

theorem State.Keeps.refl (s : State) : s.Keeps s := ⟨rfl, Nv.Keeps.refl _⟩
theorem State.Keeps.trans {a b c : State} (h : a.Keeps b) (g : b.Keeps c) : a.Keeps c := ⟨g.1.trans h.1, h.2.trans g.2⟩

theorem run_keeps (s : State) (f : Dev → Dev) : s.Keeps (s.run f) := ⟨rfl, Nv.Keeps.refl _⟩
theorem upd_keeps (s : State) (f : Dev → Dev) : s.Keeps (s.upd f) := ⟨rfl, Nv.Keeps.refl _⟩

/-- A change of slot memory that keeps its form. -/
theorem mem_keeps (n : Nv) (m : List Host.Cell) (h : Memory.wf n.mem → Memory.wf m) : n.Keeps { n with mem := m } :=
  ⟨fun i => ⟨h i.1, i.2⟩, Otp.Grows.refl _⟩

/-! ### The commands that write the non-volatile memories -/

theorem bgEnd_keeps (done : Nat) (fault : Bool) (n : Nv) (d : Dev) : n.Keeps (bgEnd done fault n d).1 := by
  unfold bgEnd
  split
  · exact Nv.Keeps.refl _
  · simp only []
    split
    · exact mem_keeps _ _ (nvErase_wf _ _ _)
    · refine mem_keeps _ _ (fun h => nvProgram_wf _ _ _ ?_)
      split_ifs
      · exact nvProgram_wf _ _ _ h
      · exact h
    · split_ifs <;> first | exact Nv.Keeps.refl _ | exact mem_keeps _ _ (nvProgram_wf _ _ _)
    · split_ifs <;> exact Nv.Keeps.refl _

theorem lgTorn_keeps (n : Nv) (d : Dev) : n.Keeps (lgTorn n d).1 := by
  unfold lgTorn
  split_ifs
  · exact mem_keeps _ _ (nvProgram_wf _ _ _)
  · exact Nv.Keeps.refl _

theorem lgDone_keeps (n : Nv) (d : Dev) : n.Keeps (lgDone n d).1 := by
  unfold lgDone
  split_ifs
  · exact Nv.Keeps.refl _
  · exact mem_keeps _ _ (nvProgram_wf _ _ _)

theorem lgErased_keeps (n : Nv) (d : Dev) : n.Keeps (lgErased n d).1 := by
  unfold lgErased
  split_ifs
  · exact mem_keeps _ _ (nvErase_wf _ _ _)
  · exact Nv.Keeps.refl _

/-- The tests common to ENROL and REVOKE leave the slot in the state that the command needs (R47). -/
theorem anchorRefusal_empty (n : Nv) (lmp : Bool) (d : Dev) (h : anchorRefusal 1 n lmp d = 0) :
    n.otp.state (fieldLE (bufBytes d 0x90) 0x20 1) = Anchor.empty := by
  unfold anchorRefusal at h
  dsimp only at h
  generalize requestAuth n (bufBytes d 0x90) lmp d = b at h
  generalize fieldLE (bufBytes d 0x90) 0x22 2 = o at h
  generalize fieldLE (bufBytes d 0x90) 0x20 1 = k at h ⊢
  by_contra hk
  have : (n.otp.state k != Anchor.empty) = true := by simpa using hk
  simp only [this, if_true] at h
  split_ifs at h

theorem anchorRefusal_enrolled (n : Nv) (lmp : Bool) (d : Dev) (h : anchorRefusal 2 n lmp d = 0) :
    n.otp.state (fieldLE (bufBytes d 0x90) 0x20 1) = Anchor.enrolled := by
  unfold anchorRefusal at h
  dsimp only at h
  generalize requestAuth n (bufBytes d 0x90) lmp d = b at h
  generalize fieldLE (bufBytes d 0x90) 0x22 2 = o at h
  generalize fieldLE (bufBytes d 0x90) 0x20 1 = k at h ⊢
  by_contra hk
  have : (n.otp.state k != Anchor.enrolled) = true := by simpa using hk
  simp only [this, if_true] at h
  split_ifs at h
  all_goals omega

/-- A slot that was EMPTY takes a state and a hash. -/
theorem enrolled_keeps (n : Nv) (m : List Host.Cell) (k : Nat) (x : Anchor) (h : BitVec 256) (he : n.otp.state k = Anchor.empty)
    (hm : Memory.wf n.mem → Memory.wf m) :
    n.Keeps { n with mem := m, otp := { n.otp with
      anchor := tset (fun _ => Anchor.empty) n.otp.anchor k x, anchorHash := tset (fun _ => 0#256) n.otp.anchorHash k h } } := by
  refine ⟨fun i => ⟨hm i.1, twf_tset _ _ _ _ i.2.1, twf_tset _ _ _ _ i.2.2.1, i.2.2.2⟩, fun j => ?_, fun j hj => ?_, Nat.le_refl _⟩
  · by_cases hj : j = k
    · subst hj; rw [he]; exact Nat.zero_le _
    · show (n.otp.state j).rank ≤ (tget (fun _ => Anchor.empty) (tset (fun _ => Anchor.empty) n.otp.anchor k x) j).rank
      rw [tget_tset_ne _ _ _ hj]; exact Nat.le_refl _
  · have hne : j ≠ k := fun e => hj (e ▸ he)
    show tget (fun _ => 0#256) (tset (fun _ => 0#256) n.otp.anchorHash k _) j = _
    rw [tget_tset_ne _ _ _ hne]; rfl

/-- A slot that was ENROLLED stays so or becomes REVOKED. -/
theorem revoked_keeps (n : Nv) (k : Nat) (x : Anchor) (he : n.otp.state k = Anchor.enrolled) (hx : 1 ≤ x.rank) :
    n.Keeps { n with otp := { n.otp with anchor := tset (fun _ => Anchor.empty) n.otp.anchor k x } } := by
  refine ⟨fun i => ⟨i.1, twf_tset _ _ _ _ i.2.1, i.2.2⟩, fun j => ?_, fun j _ => rfl, Nat.le_refl _⟩
  by_cases hj : j = k
  · subst hj
    rw [he]
    show _ ≤ (tget (fun _ => Anchor.empty) (tset (fun _ => Anchor.empty) n.otp.anchor j x) j).rank
    rw [tget_tset_self]; exact hx
  · show (n.otp.state j).rank ≤ (tget (fun _ => Anchor.empty) (tset (fun _ => Anchor.empty) n.otp.anchor k x) j).rank
    rw [tget_tset_ne _ _ _ hj]; exact Nat.le_refl _

theorem enrol_keeps (lmp : Bool) (n : Nv) (d : Dev) : n.Keeps (enrol lmp n d).2.1 := by
  unfold enrol
  by_cases h : anchorRefusal 1 n lmp d = 0
  · have he := anchorRefusal_empty n lmp d h
    simp only [h, bne_self_eq_false, Bool.false_eq_true, if_false]
    generalize fieldLE (bufBytes d 0x90) 0x20 1 = k at he ⊢
    split_ifs
    · exact Nv.Keeps.refl _
    all_goals exact enrolled_keeps n _ k _ _ he (fun h => nvProgram_wf _ _ _ (nvErase_wf _ _ _ h))
  · have : (anchorRefusal 1 n lmp d != 0) = true := by simpa using h
    simp only [this, if_true]
    exact Nv.Keeps.refl _

theorem revoke_keeps (lmp : Bool) (n : Nv) (d : Dev) : n.Keeps (revoke lmp n d).2.1 := by
  unfold revoke
  by_cases h : anchorRefusal 2 n lmp d = 0
  · have he := anchorRefusal_enrolled n lmp d h
    simp only [h, bne_self_eq_false, Bool.false_eq_true, if_false]
    generalize fieldLE (bufBytes d 0x90) 0x20 1 = k at he ⊢
    split_ifs
    all_goals exact revoked_keeps n k _ he (by decide)
  · have : (anchorRefusal 2 n lmp d != 0) = true := by simpa using h
    simp only [this, if_true]
    exact Nv.Keeps.refl _

theorem otpTorn_le (old new : Nat) (h : old ≤ new) (d : Dev) : (otpTorn old new d).1 ≤ new := by
  have := Nat.mod_lt (d.draw 32).1.toNat (show 0 < new - old + 1 by omega)
  simp only [otpTorn]
  omega

theorem rollback_keeps (v : Word) (n : Nv) (d : Dev) : n.Keeps (rollbackCommit v n d).2.1 := by
  unfold rollbackCommit
  dsimp only
  generalize min (hdRollback d.img.runFw) _ = lim
  split
  · exact Nv.Keeps.refl _
  · split
    · exact Nv.Keeps.refl _
    · rename_i h
      simp only [Bool.or_eq_true, decide_eq_true_eq, not_or, not_lt, not_le] at h
      have put (r : Nat) (hl : n.otp.rollback ≤ r) (hr : r ≤ v.toNat) : n.Keeps { n with otp := { n.otp with rollback := r } } :=
        ⟨fun i => ⟨i.1, i.2.1, i.2.2.1, hr.trans h.1.2⟩, fun _ => Nat.le_refl _, fun _ _ => rfl, hl⟩
      split
      · exact put _ h.1.1.le (Nat.le_refl _)
      · exact put _ (Nat.le_add_right _ _) (otpTorn_le _ _ h.1.1.le _)

/-! ### Resets, the mailbox, the host paths -/

theorem keeps_of_eq {s t : State} (hp : t.pending = s.pending) (hn : t.nv = s.nv) : s.Keeps t := ⟨hp, hn ▸ Nv.Keeps.refl _⟩

theorem startRom_pending (s : State) : (startRom s).pending = s.pending := rfl
theorem startRom_nv (s : State) : (startRom s).nv = s.nv := rfl
theorem startRom_keeps (s t : State) (hp : t.pending = s.pending) (hn : t.nv = s.nv) : s.Keeps (startRom t) :=
  keeps_of_eq ((startRom_pending t).trans hp) ((startRom_nv t).trans hn)

theorem warmReset_keeps (c : Nat) (s : State) : s.Keeps (warmReset c s) := startRom_keeps s _ rfl rfl

theorem powerGood_keeps (slot : Nat) (pref peer eject : Bool) (fit : NvFit) (sound : Bool) (s : State) :
    s.Keeps (powerGood slot pref peer eject fit sound s) := by
  unfold powerGood
  dsimp only
  split
  · exact State.Keeps.refl _
  · exact ⟨rfl, fun i => ⟨i.1, i.2.1, i.2.2.1, i.2.2.2⟩, fun _ => Nat.le_refl _, fun _ _ => rfl, Nat.le_refl _⟩

theorem resetN_keeps (s : State) : s.Keeps (resetN s) := by
  unfold resetN
  split
  · exact warmReset_keeps _ _
  · exact State.Keeps.refl _

theorem supplyRestart_keeps (s : State) : s.Keeps (supplyRestart s) := by
  unfold supplyRestart
  dsimp only
  split
  · exact State.Keeps.refl _
  · exact startRom_keeps s _ rfl rfl

theorem shedReached_keeps (k v : Nat) (s : State) : s.Keeps (shedReached k v s) := by
  unfold shedReached
  dsimp only
  generalize (if v < shedThreshold k then k else 0) = k
  split
  · exact (upd_keeps _ _).trans ⟨rfl, lgTorn_keeps _ _⟩
  · exact upd_keeps _ _

theorem configApply_keeps (s : State) : s.Keeps (configApply s) := by
  unfold configApply
  split
  · exact State.Keeps.refl _
  · split
    · exact State.Keeps.refl _
    · dsimp only
      split <;> exact keeps_of_eq rfl rfl

theorem enableRequests_keeps (s : State) : s.Keeps (enableRequests s) := by
  unfold enableRequests
  dsimp only
  split
  · exact State.Keeps.refl _
  · exact keeps_of_eq rfl rfl

theorem reload_keeps (a : Word) (s : State) : s.Keeps (reload a s).2 := by
  unfold reload
  dsimp only
  split
  · exact State.Keeps.refl _
  · split
    · exact State.Keeps.refl _
    · split
      · exact startRom_keeps s _ rfl rfl
      · exact keeps_of_eq rfl rfl

theorem resetCmd_keeps (s : State) : s.Keeps (resetCmd s).2 := by
  unfold resetCmd
  split
  · exact warmReset_keeps _ _
  · exact State.Keeps.refl _

theorem cmdDev_keeps (s : State) (r : Nat × Dev) : s.Keeps (cmdDev s r).s := keeps_of_eq rfl rfl
theorem cmdNv_keeps (s : State) (r : Nat × Nv × Dev) (h : s.nv.Keeps r.2.1) : s.Keeps (cmdNv s r).s := ⟨rfl, h⟩

theorem objectCmd_keeps (op : Nat) (a0 a1 a2 a3 : Word) (s : State) : s.Keeps (objectCmd op a0 a1 a2 a3 s).s := by
  unfold objectCmd
  split
  · exact cmdDev_keeps _ _
  · split <;> exact keeps_of_eq rfl rfl

/-- A mailbox command, whatever it is and however it ends. -/
theorem runCommand_keeps (mirror lmp : Bool) (op : Nat) (a0 a1 a2 a3 : Word) (s : State) : s.Keeps (runCommand mirror lmp op a0 a1 a2 a3 s).s := by
  unfold runCommand
  dsimp only
  iterate 4 (split; · exact cmdDev_keeps _ _)
  split
  · exact reload_keeps _ _
  iterate 4 exact cmdDev_keeps _ _
  · exact cmdNv_keeps _ _ (enrol_keeps _ _ _)
  · exact cmdNv_keeps _ _ (revoke_keeps _ _ _)
  · exact cmdNv_keeps _ _ (rollback_keeps _ _ _)
  iterate 11 exact cmdDev_keeps _ _
  · exact resetCmd_keeps _
  · exact objectCmd_keeps _ _ _ _ _ _

theorem afterAnchor_keeps (op : Nat) (s : State) : s.Keeps (afterAnchor op s) := by
  unfold afterAnchor
  split <;> exact keeps_of_eq rfl rfl

theorem submit_keeps (lmp : Bool) (sess : Option (BitVec 16)) (op : Nat) (a0 a1 a2 a3 : Word) (s : State) :
    s.Keeps (submit lmp sess op a0 a1 a2 a3 s).2 := by
  unfold submit
  have h := runCommand_keeps false lmp op a0 a1 a2 a3 s
  generalize runCommand false lmp op a0 a1 a2 a3 s = r at h ⊢
  have hr (f : Dev → Dev) : s.Keeps ((afterAnchor op r.s).run f) := (h.trans (afterAnchor_keeps op _)).trans (run_keeps _ _)
  split
  · exact afterAnchor_keeps op s
  · dsimp only
    split
    · exact hr _
    · exact hr _

theorem busWrite_keeps (p : Path) (a : Nat) (v : Word) (s : State) : s.Keeps (busWrite p a v s).2 := by
  unfold busWrite
  simp only []
  split
  · have h := submit_keeps false none (getBits v 0 16) (s.d.rd (bDev + F.CMD_ARG.off + 4 * 0)) (s.d.rd (bDev + F.CMD_ARG.off + 4 * 1))
      (s.d.rd (bDev + F.CMD_ARG.off + 4 * 2)) (s.d.rd (bDev + F.CMD_ARG.off + 4 * 3)) s
    revert h
    generalize submit false none (getBits v 0 16) _ _ _ _ s = r
    intro h
    have hr (f : Dev → Dev) : s.Keeps (r.2.run f) := h.trans (run_keeps _ _)
    have : s.Keeps (if r.1 = 0 then r.2 else r.2.run (noteRefused a r.1)) := by
      split
      · exact h
      · exact hr (noteRefused a r.1)
    exact this
  · exact run_keeps s (fun _ => (hostWriteDev p a v s.d).2)

theorem busWrites_keeps (p : Path) (l : List Word) (a : Nat) (s : State) : s.Keeps (busWrites p a l s).2 := by
  induction l generalizing a s with
  | nil => exact State.Keeps.refl _
  | cons v t ih => exact (busWrite_keeps p a v s).trans (ih _ _)

theorem hostReadWord_keeps (a : Nat) (s : State) : s.Keeps (hostReadWord a s).2 := by
  unfold hostReadWord
  split_ifs
  · exact State.Keeps.refl _
  · exact ⟨rfl, Nv.Keeps.refl _⟩

theorem busReads_keeps (step n a : Nat) (s : State) : s.Keeps (busReads step n a s).2 := by
  induction n generalizing a s with
  | zero => exact State.Keeps.refl _
  | succ n ih => exact (hostReadWord_keeps a s).trans (ih _ _)

theorem spiNote_keeps (f : HostSt → HostSt) (s : State) : s.Keeps (spiNote f s) := ⟨rfl, Nv.Keeps.refl _⟩
theorem spiBegin_keeps (s : State) : s.Keeps (spiBegin s) := upd_keeps _ _

theorem spiStatusOp_keeps (s : State) : s.Keeps (spiStatusOp s) := (spiBegin_keeps s).trans (spiNote_keeps _ _)

theorem spiWriteWords_keeps (a : Nat) (ws : List Word) (part : Bool) (s : State) : s.Keeps (spiWriteWords a ws part s) := by
  unfold spiWriteWords
  dsimp only
  split_ifs
  · exact spiBegin_keeps s
  · exact (spiBegin_keeps s).trans (spiNote_keeps _ _)
  · exact ((spiBegin_keeps s).trans (busWrites_keeps _ _ _ _)).trans (spiNote_keeps _ _)

theorem lmpWrites_keep (l : List (Nat × Word)) (s : State) : s.Keeps (l.foldl (fun s w => (busWrite .lmp w.1 w.2 s).2) s) := by
  induction l generalizing s with
  | nil => exact State.Keeps.refl _
  | cons w t ih => exact (busWrite_keeps .lmp w.1 w.2 s).trans (ih _)

theorem applyLater_keeps (s : State) : s.Keeps (applyLater s) := (spiNote_keeps _ s).trans (lmpWrites_keep _ _)

theorem spiWrite_keeps (a : Nat) (ws : List Word) (part : Bool) (s : State) : s.Keeps (spiWrite a ws part s) := by
  unfold spiWrite
  dsimp only
  split
  · exact spiWriteWords_keeps a ws part s
  · exact (spiWriteWords_keeps a ws part s).trans (applyLater_keeps _)

theorem spiReadOp_keeps (fixed : Bool) (a n : Nat) (s : State) : s.Keeps (spiReadOp fixed a n s) := by
  unfold spiReadOp
  dsimp only
  split
  · exact (spiBegin_keeps s).trans (spiNote_keeps _ _)
  · split
    · exact ((spiBegin_keeps s).trans (spiNote_keeps _ _)).trans (spiNote_keeps _ _)
    · exact (((spiBegin_keeps s).trans (spiNote_keeps _ _)).trans (busReads_keeps _ _ _ _)).trans (spiNote_keeps _ _)

theorem spiBadOp_keeps (s : State) : s.Keeps (spiBadOp s) := by
  unfold spiBadOp
  dsimp only
  split_ifs
  · exact (spiBegin_keeps s).trans (spiNote_keeps _ _)
  · exact spiBegin_keeps s

theorem hostWrite_keeps (p : Path) (a : Nat) (v : Word) (s : State) : s.Keeps (hostWrite p a v s) := by
  cases p with
  | spi => exact spiWrite_keeps _ _ _ _
  | lmp =>
    simp only [hostWrite]
    split_ifs
    · exact upd_keeps _ _
    · exact (upd_keeps _ _).trans (spiNote_keeps _ _)
    · exact (upd_keeps _ _).trans (busWrite_keeps _ _ _ _)

theorem hostRead_keeps (p : Path) (a : Nat) (s : State) : s.Keeps (hostRead p a s) := by
  cases p with
  | spi => exact spiReadOp_keeps _ _ _ _
  | lmp =>
    simp only [hostRead]
    split_ifs
    · exact upd_keeps _ _
    · exact (upd_keeps _ _).trans (hostReadWord_keeps _ _)

theorem mailbox_keeps (p : Path) (op : Nat) (a0 a1 a2 a3 : Word) (s : State) : s.Keeps (mailbox p op a0 a1 a2 a3 s) := by
  cases p with
  | spi => exact spiWrite_keeps _ _ _ _
  | lmp =>
    simp only [mailbox]
    split_ifs
    · exact (upd_keeps _ _).trans (submit_keeps _ _ _ _ _ _ _ _)
    · exact upd_keeps _ _

theorem lmpTake_keeps (h : LmpHdr) (type : Nat) (body : List Byte) (act : State → State) (s : State) (ha : ∀ t : State, t.Keeps (act t)) :
    s.Keeps (lmpTake h type body act s) := by
  unfold lmpTake
  have h0 := upd_keeps s id
  generalize s.upd id = s at h0 ⊢
  dsimp only
  split
  · exact h0
  · split
    · exact h0.trans (run_keeps _ _)
    · split
      · exact h0.trans (run_keeps _ _)
      · have h1 (f : Dev → Dev) := h0.trans (run_keeps s f)
        split
        · exact (h1 _).trans (run_keeps _ _)
        · split
          · exact ((h1 _).trans (run_keeps _ _)).trans (run_keeps _ _)
          · exact ((h1 _).trans (run_keeps _ _)).trans (ha _)

theorem lmpReadAct_keeps (num : BitVec 16) (fixed : Bool) (a n : Nat) (s : State) : s.Keeps (lmpReadAct num fixed a n s) := by
  unfold lmpReadAct
  dsimp only
  split
  · exact run_keeps _ _
  · exact (busReads_keeps _ _ _ _).trans (run_keeps _ _)

theorem lmpWriteAct_keeps (num : BitVec 16) (a : Nat) (ws : List Word) (s : State) : s.Keeps (lmpWriteAct num a ws s) := by
  unfold lmpWriteAct
  dsimp only
  split
  · exact run_keeps _ _
  · exact (busWrites_keeps _ _ _ _).trans (run_keeps _ _)

theorem lmpCommandAct_keeps (num : BitVec 16) (op : Nat) (a0 a1 a2 a3 : Word) (s : State) : s.Keeps (lmpCommandAct num op a0 a1 a2 a3 s) := by
  have h := submit_keeps true (some num) op a0 a1 a2 a3 s
  unfold lmpCommandAct
  dsimp only
  split
  · exact h
  · exact h.trans (run_keeps _ _)

theorem mirrorWrite_keeps (x : MirrorOp) (s : State) : s.Keeps (mirrorWrite x s) := by
  unfold mirrorWrite
  split_ifs
  · exact State.Keeps.refl _
  · split
    · exact upd_keeps _ _
    · exact ((upd_keeps _ _).trans (runCommand_keeps _ _ _ _ _ _ _ _)).trans (run_keeps _ _)

theorem updNv_keeps (s : State) (f : Nv → Dev → Nv × Dev) (h : ∀ (n : Nv) (d : Dev), n.Keeps (f n d).1) : s.Keeps (s.updNv f) := ⟨rfl, h _ _⟩

theorem updAll_keeps (s : State) (f : State → State) (h : ∀ t : State, t.Keeps (f t)) : s.Keeps (s.updAll f) := ((upd_keeps _ _).trans (h _)).trans (run_keeps _ _)

end Sys2Proof.Machine
end

