-- ==== Sys2Proof/Tests/Slice0.lean ====
section
/-! SUPPORT. Tests: what the operand checks refuse, words and steps with results taken from the spec, and for every statement with hypotheses a state and operands that meet them. -/

namespace Sys2Proof.Tests

open Sys2Proof Sys2Proof.Machine

set_option Elab.async false

/-! ### Small states -/

/-- The block after reset with a changed module. -/
def mk (f : Dev → Dev) : State := { State.reset with d := f Dev.reset }

/-- The module in a mode. -/
def inMode (m : Mode) (d : Dev) : Dev := d.p bDev F.DEV_MODE_MODE m.code

/-- The module in a pair role. -/
def inRole (r : Role) (d : Dev) : Dev := d.p bSs F.SS_STATUS_ROLE r.code

/-- The module as one that follows: a STANDBY in SYNCED. -/
def following (d : Dev) : Dev := (inRole .standby d).p bSs F.SS_STATUS_SYNC 7

/-- Cell nodes 0 to n - 1 on the ports of the same numbers, enabled, their switches tested. -/
def cells (n : Nat) (d : Dev) : Dev :=
  d.each (upto n) (fun k e => ((((createSlot (.node k) e).p (bNode k) F.NODE_CFG_PORT k).p (bNode k) F.NODE_CFG_CLASS 1).setEnabled (.node k) true).setNode k (fun x => { x with stPass := 4095 }))

/-- String i of a kind over the cells 0 to n - 1, enabled. -/
def string (i kind n : Nat) (d : Dev) : Dev :=
  let e := (((createSlot (.string i) (cells n d)).p (bStr i) F.STR_CFG_KIND kind).p (bStr i) F.STR_CFG_MEMBERS n)
  (e.each (upto n) (fun k g => (g.p (bStr i) (F.STR_MEMBER_VALID.at k) 1).p (bStr i) (F.STR_MEMBER_NODE.at k) k)).setEnabled (.string i) true

/-- Port p locked and in a state. -/
def port (p : Nat) (st : PState) (d : Dev) : Dev := d.setPort p (fun q => { q with st := st, rx := { q.rx with locked := true } })

/-- A report header with sequence number 1. -/
def hdr1 : RptHdr := { seq := 1, nstate := 2, obeyedQ := false, timingQ := false, evtPending := false, tArr := 0 }

/-- The node at port 95 with its counter set, obeying lane P with a locked receiver. -/
def node (f : FarSt → FarSt) : State :=
  mk (fun d => d.setFar 95 (fun x => f { x with ns := .driven, set := true, obeys := some .portP, rxP := { x.rxP with locked := true } }))

/-- A firing of a rate group. -/
def firing : Firing :=
  { tf := 0, since := 0, latched := false, latch := 0, snap := [], regs := [], force := [], mode := 0, res := [], done := false, compared := false }

/-- A retained firing. -/
def retained : Kept := { g := 7, tf := 5, snap := [], before := [], p := 0#64, d := some 1#64, compared := true }

/-- An LMP session. -/
def session : Sess :=
  { num := 7#16, slot := 0, key := 0#256, seqIn := 0, seqOut := 0, cache := none, alarms := true, trace := false, heard := 0 }

/-- LMP runs, with one session. -/
def lmp (d : Dev) : Dev := { d.wr (bDev + F.LMP_IP.off) 0xC0A80001#32 with hs := { d.hs with sess := [session] } }

/-- A PTP header. -/
def ptp : PtpHdr :=
  { port := 0, domain := 0, sdo := 0, src := 5#64, srcPort := 1, seq := 9, twoStep := false, corr := 0, logIntv := 0, stamp := 0 }

/-- A CAN frame. -/
def can : CanFrame := { id := 0, ide := false, fdf := false, brs := false, esi := false, rtr := false, dlc := 0, data := [] }

/-- CAN controller c is on its bus. -/
def bus (c : Nat) (d : Dev) : Dev := (d.setEnabled (.can c) true).p (bCan c) F.CAN_STATUS_STATE 2

/-- Profile 15 with settings that its check accepts. -/
def goodProfile (d : Dev) : Dev :=
  [(0x08, 0x01010101#32), (0x0C, 0x01010101#32), (0x10, 0x0101#32), (0x14, 0x50A0#32), (0x18, 1#32), (0x1C, 0x00020000#32),
   (0x20, 0x00010019#32), (0x24, 1#32), (0x28, 0x00050001#32), (0x2C, 0x01000A50#32), (0x30, 0#32)].foldl (fun e x => e.wr (bProf 15 + x.1) x.2) d

/-- A late tick, past every limit counted from reset. -/
def aged (d : Dev) : Dev := { d with tick := 10 ^ 12 }

/-- A property of what an option holds, tested. -/
theorem all_some {α : Type} {o : Option α} {P : α → Prop} [DecidablePred P] (h : o.all (fun t => decide (P t)) = true) : ∀ t, o = some t → P t := by
  rintro t rfl; simpa using h

theorem none_all {α : Type} {o : Option α} {P : α → Prop} (h : o.isNone = true) : ∀ t, o = some t → P t := by
  rintro t rfl; simp at h

/-- Over the SPI a module is ready for a host that is responsive and holds no LMP write. -/
theorem spi_ready {s : State} (h : Responsive s.d ∧ s.d.hs.later = []) : HostReady .spi s := ⟨h.1, h.2, fun e => by cases e⟩

/-- No group holds a loop to thaw: what a condition over the loops to thaw needs. -/
theorem no_thaw {s : Dev} (h : s.rgs.all (fun x => x.2.thaw.isEmpty) = true) : ∀ g, ∀ i ∈ (s.rg g).thaw, i < 2048 := by
  intro g
  have key : ∀ l : List (Nat × RgSt), l.all (fun x => x.2.thaw.isEmpty) = true → (tget (fun _ => rgSt0) l g).thaw = [] := by
    intro l
    induction l with
    | nil => intro _; rfl
    | cons p t ih =>
      intro h
      simp only [List.all_cons, Bool.and_eq_true, List.isEmpty_iff] at h
      unfold tget
      split
      · exact h.1
      · exact ih h.2
  intro i hi
  have e : (s.rg g).thaw = [] := key _ h
  rw [e] at hi
  cases hi

/-- The windows of a CHARGE that completes, tested. -/
theorem windows_met {s : Dev}
    (h : ∀ i < 8, s.enabled (.string i) = true → s.kind i = 1 → ∀ m ∈ s.members i, posState s i m.1 = 0 → inWindow s i m.2 = true ∧
      ((s.node m.2).inWin.any (fun w => freshAt s w.2 s.tick && decide (w.1 + s.g (bStr i) F.STR_BAL_CFG_DWELL * 250000 ≤ s.tick))) = true) :
    ∀ i < 8, s.enabled (.string i) = true → s.kind i = 1 → ∀ m ∈ s.members i, posState s i m.1 = 0 → inWindow s i m.2 = true ∧
      ∃ w, (s.node m.2).inWin = some w ∧ freshAt s w.2 s.tick = true ∧ w.1 + s.g (bStr i) F.STR_BAL_CFG_DWELL * 250000 ≤ s.tick := by
  intro i hi he hk m hm hp
  obtain ⟨a, b⟩ := h i hi he hk m hm hp
  refine ⟨a, ?_⟩
  cases e : (s.node m.2).inWin with
  | none => rw [e] at b; cases b
  | some w =>
    rw [e, Option.any_some] at b
    simp only [Bool.and_eq_true, decide_eq_true_eq] at b
    exact ⟨w, rfl, b.1, b.2⟩

theorem digest_ne (x : BitVec 512) : x + 1 ≠ x := fun h => absurd h (by simp)

/-- The outcome goes on to a state with the property. -/
def goes (o : Host.Outcome State Fault Refusal) (f : State → Bool) : Bool := match o with | .next t => f t | _ => false

/-! ### What the operand checks refuse: a term just inside each bound, and terms just outside -/

/-- A report body inside every bound. -/
def rpt : RptBody :=
  { sampleTime := 16777215, page := 255, valid := 4294967295, nodeTerm := 4294967295, ofs := -32768, errP := 255, errQ := 255,
    values := List.replicate 26 (-2147483648) }

theorem test_rpt_body_checks :
    rpt.wf = true ∧ { rpt with sampleTime := 16777216 }.wf = false ∧ { rpt with page := 256 }.wf = false ∧ { rpt with valid := 4294967296 }.wf = false ∧
    { rpt with nodeTerm := 4294967296 }.wf = false ∧ { rpt with ofs := 32768 }.wf = false ∧ { rpt with errP := 256 }.wf = false ∧
    { rpt with errQ := 256 }.wf = false ∧ { rpt with values := [] }.wf = false ∧ { rpt with values := List.replicate 26 2147483648 }.wf = false := by decide +kernel

/-- An echo inside every bound. -/
def echo : Echo := ⟨7, 3, 3, true, -128, 65535, 65535⟩

theorem test_echo_checks :
    echo.wf = true ∧ { echo with leg := 8 }.wf = false ∧ { echo with state := 4 }.wf = false ∧ { echo with dir := 4 }.wf = false ∧
    { echo with execErr := -129 }.wf = false ∧ { echo with body := 65536 }.wf = false ∧ { echo with time := 65536 }.wf = false ∧
    echoesWf (List.replicate 18 echo) = true ∧ echoesWf (List.replicate 19 echo) = false ∧ echoesWf [{ echo with leg := 8 }] = false := by decide

/-- An event entry inside every bound. -/
def evt : EvtEntry := ⟨65535, 15, 7, 255, 16777215, 255, List.replicate 8 0#8⟩

theorem test_event_checks :
    evt.wf = true ∧ { evt with code := 65536 }.wf = false ∧ { evt with sw := 16 }.wf = false ∧ { evt with leg := 8 }.wf = false ∧
    { evt with eseq := 256 }.wf = false ∧ { evt with time := 16777216 }.wf = false ∧ { evt with count := 256 }.wf = false ∧
    { evt with data := [] }.wf = false ∧ eventsWf (List.replicate 7 evt) = true ∧ eventsWf (List.replicate 8 evt) = false := by decide

theorem test_identity_checks :
    identWf (List.replicate 64 0#8) = true ∧ identWf (List.replicate 63 0#8) = false ∧
    nodeIdentWf (List.replicate 512 0#8) = true ∧ nodeIdentWf (List.replicate 513 0#8) = false := by decide +kernel

/-- A CMD frame inside every bound. -/
def cmd : CmdFrame :=
  { type := 1, seq := 511, tok := true, term := 4294967295, resume := true, fenceNew := 127, fenceRep := 127, hor := 16777215, perAB := 16777215,
    perCF := 16777215, sideFirst := true, sideLast := true, side := List.replicate 6 0#8, rep := List.replicate 12 0#32, new := List.replicate 12 0#32 }

theorem test_command_frame_checks :
    cmd.wf = true ∧ { cmd with type := 2 }.wf = false ∧ { cmd with seq := 512 }.wf = false ∧ { cmd with term := 4294967296 }.wf = false ∧
    { cmd with fenceNew := 128 }.wf = false ∧ { cmd with fenceRep := 128 }.wf = false ∧ { cmd with hor := 16777216 }.wf = false ∧
    { cmd with perAB := 16777216 }.wf = false ∧ { cmd with perCF := 16777216 }.wf = false ∧ { cmd with side := List.replicate 7 0#8 }.wf = false ∧
    { cmd with new := List.replicate 13 0#32 }.wf = false := by decide

/-- A management message inside every bound. -/
def msg : Msg := ⟨255, 255, 4294967295, 65535, List.replicate 248 0#8⟩

theorem test_message_checks :
    msg.wf = true ∧ { msg with tid := 256 }.wf = false ∧ { msg with op := 256 }.wf = false ∧ { msg with addr := 4294967296 }.wf = false ∧
    { msg with len := 65536 }.wf = false ∧ { msg with data := List.replicate 249 0#8 }.wf = false := by decide +kernel

theorem test_sample_checks :
    (⟨0, 67108863, List.replicate 26 0⟩ : Sample).wf = true ∧ (⟨0, 67108864, List.replicate 26 0⟩ : Sample).wf = false ∧
    (⟨0, 0, []⟩ : Sample).wf = false ∧ (⟨0, 0, List.replicate 26 2147483648⟩ : Sample).wf = false ∧
    sarWf (List.replicate 16 0) = true ∧ sarWf (List.replicate 15 0) = false := by decide +kernel

theorem test_can_frame_checks :
    { can with id := 2047 }.wf = true ∧ { can with id := 2048 }.wf = false ∧ { can with id := 536870912, ide := true }.wf = false ∧
    { can with dlc := 16 }.wf = false ∧ { can with rtr := true, fdf := true }.wf = false ∧ { can with brs := true }.wf = false ∧
    { can with dlc := 1 }.wf = false ∧ { can with dlc := 9, data := List.replicate 8 0#8 }.wf = true ∧
    { can with dlc := 15, fdf := true, data := List.replicate 64 0#8 }.wf = true := by decide

theorem test_ptp_checks :
    ptp.wf = true ∧ { ptp with domain := 256 }.wf = false ∧ { ptp with sdo := 4096 }.wf = false ∧ { ptp with srcPort := 65536 }.wf = false ∧
    { ptp with seq := 65536 }.wf = false ∧ { ptp with corr := 2 ^ 63 }.wf = false ∧ { ptp with logIntv := -129 }.wf = false ∧
    (⟨255, 255, 255, 65535, 255, 0#64, 65535⟩ : AnnBody).wf = true ∧ (⟨256, 0, 0, 0, 0, 0#64, 0⟩ : AnnBody).wf = false ∧
    (⟨0, 256, 0, 0, 0, 0#64, 0⟩ : AnnBody).wf = false ∧ (⟨0, 0, 256, 0, 0, 0#64, 0⟩ : AnnBody).wf = false ∧
    (⟨0, 0, 0, 65536, 0, 0#64, 0⟩ : AnnBody).wf = false ∧ (⟨0, 0, 0, 0, 256, 0#64, 0⟩ : AnnBody).wf = false ∧
    (⟨0, 0, 0, 0, 0, 0#64, 65536⟩ : AnnBody).wf = false := by decide

/-- An ill-formed operand is the one thing a command faults on. -/
theorem test_ill_formed_command_faults :
    exec (.echoFrame 0 hdr1 0#8 [{ echo with leg := 8 }]) State.reset = .fault .malformedOperand := rfl

/-! ### Words written out from the tables of the spec -/

/-- R225: LEG 101, TARGET 10, PROF 1, SOFT 0, BS 1, TIME 0x123400: the execution time 0x123456 less a delay of 0x56 (R228). -/
theorem test_edge_word : edgeWord ⟨5, .high, true, false, true, false, 0x123456, 0, 0x56⟩ = 0xB5123400#32 := by decide

/-- R228: TIME is taken modulo 2^24. -/
theorem test_edge_time_wraps : edgeWord ⟨0, .off, false, true, false, false, 1, 0, 2⟩ = 0x02FFFFFF#32 := by decide

/-- R259: LEG 011, STATE 10, DIR 01, BS 1, EXEC_ERR -1, BODY 0x0800, TIME 0x1234. -/
theorem test_echo_word : echoWord ⟨3, 2, 1, true, -1, 0x0800, 0x1234⟩ = 0x73FF08001234 := by decide

/-- R215: a report header of TYPE 0x1, SEQ 0x101, NSTATE DRIVEN (2), OBEYED 1. -/
theorem test_report_header : rptHeader 1 0x101 .driven true false false = [0x11#8, 0x01#8, 0x15#8] := by decide

/-! ### Worked examples of the spec -/

/-- R311, the example of a base of 1,100 V: 72,089,600 with C 1,952,258 and S 31 gives 16,777,217. -/
theorem test_telemetry_scale : term 72089600 1952258 31 = 16777217 := by decide +kernel

/-- R164, the example of a step of the adaptive dead time: 8,000 ft falls to 7,984 ft. -/
theorem test_dead_time_step :
    adaptStep ((((((createSlot (.node 0) Dev.reset).p (bNode 0) F.NODE_DT_ADAPT_TARGET 800).p (bNode 0) F.NODE_DT_ADAPT_GAIN_SH 2).p
      (bNode 0) F.NODE_DT_ADAPT_STEP 16).p (bNode 0) F.NODE_DT_LIM_DT_MIN 320).p (bNode 0) F.NODE_DT_LIM_DT_MAX 64000) 0 8000 2400 = 7984 := by decide +kernel

/-- The profile of the example after R388: V25 6,000 mV, TC 18 mV/K, limits 5,000 and 8,000 mV, adaptive; leg A of cell node 0 at `t` degrees. -/
def hot (t : Int) : Dev :=
  (((cells 1 Dev.reset).wr (bProf 0 + F.PROF_DESAT.off) 0x01121770#32).wr (bProf 0 + F.PROF_DESAT_LIM.off) 0x1F401388#32).setTele 0 8 ⟨t * 65536, 0, 0, true, 0, 0, true⟩

/-- R387, the example after R388: 6,630 mV at 60 degrees and 7,260 mV at 95 degrees. -/
theorem test_desat_threshold : vthOf (hot 60) 0 0 = 6630 ∧ vthOf (hot 95) 0 0 = 7260 := by decide +kernel

/-- Node channels 0 to 37, created. -/
def board : State := mk (fun d => inMode .hold (d.each (upto 38) (fun k e => createSlot (.node k) e)))

/-- The mailbox example: OBJ_CREATE of the lowest FREE node slot answers the handle 0x2001_0026. -/
theorem test_create_lowest_free_node :
    goes (exec (.objCreate .spi 0x2000FFFF#32 0#32 0#32 0#32) board)
      (fun t => t.d.ms.cmd.map (fun c => (c.op, c.reason, c.res)) == some (0x10, 0, [(0, 0x20010026#32)])) = true := by decide +kernel

/-- The mailbox example: when the command ends, CMD_ARG0 reads the handle and CMD_RESULT 0x1002_0000. -/
theorem test_command_end_shows_result :
    goes (exec .commandEnd (mk (fun d => { d with ms := { d.ms with cmd := some ⟨0x10, false, 0, [(0, 0x20010026#32)], none, none, []⟩ } })))
      (fun t => t.d.rd (bDev + F.CMD_ARG.off) == 0x20010026#32 && t.d.rd (bDev + F.CMD_RESULT.off) == 0x10020000#32) = true := by decide +kernel

/-- Step 5 of the example of handles across RELOAD: a handle to a FREE slot is refused with 0x0301. -/
theorem test_stale_handle_is_refused :
    goes (exec (.objWrite .spi 0x20010026#32 0#32 0#32 0#32) board) (fun t => t.d.g bDev F.CMD_RESULT_REASON == 0x0301) = true := by decide +kernel

/-- R169: a width below MINP is carried without STRETCH, and stretched with it. -/
theorem test_minimum_pulse : pulse 3 100 10 false = (0, 3, false) ∧ pulse 3 100 10 true = (10, -7, false) := by decide

/-! ### Steps -/

/-- Step takes the front command with the queue's rest. -/
theorem test_step_takes_front :
    goes (step { State.reset with pending := [.spiBadOpcode, .spiStatus] }) (fun t => t.pending == [.spiStatus]) = true := by decide +kernel

/-- An empty queue: one tick. -/
theorem test_idle_is_a_tick : goes (step State.reset) (fun t => t.d.tick == State.reset.d.tick + 1) = true := by decide +kernel

/-! ### States and operands that meet the hypotheses of each statement -/

theorem witness_StepRunsFrontCommand :
    ∃ (c : Instr) (rest : List Instr) (s : State), s.pending = c :: rest :=
  ⟨.spiStatus, [.spiBadOpcode], { State.reset with pending := [.spiStatus, .spiBadOpcode] }, by decide +kernel⟩

theorem witness_EmptyQueueStepIsOneTick :
    ∃ (s : State), s.pending = [] :=
  ⟨State.reset, by decide +kernel⟩

theorem witness_ExecLeavesQueue :
    (∃ (c : Instr) (_s : State), c.wf = true) ∧
    (∃ (c : Instr) (_s : State), c.wf = false) :=
  ⟨⟨.locateEnd, State.reset, by decide +kernel⟩,
    ⟨.nodePowerUp 95 [], State.reset, by decide +kernel⟩⟩

theorem witness_StepKeepsNvInvariant :
    ∃ (s : State) (t : State), s.nv.Inv ∧ step s = .next t :=
  ⟨State.reset, idleTick State.reset, ⟨⟨by decide, by decide, by decide, by decide⟩, rfl⟩⟩

theorem witness_StepOnlyGrowsOtp :
    ∃ (s : State) (t : State), step s = .next t :=
  ⟨State.reset, idleTick State.reset, rfl⟩

theorem witness_EdgeAndEchoWordsReadBack :
    (∃ (e : Edge), e.leg < 8) ∧
    (∃ (e : Echo), e.wf = true) :=
  ⟨⟨⟨7, .high, true, true, true, false, 0, 0, 1⟩, by decide +kernel⟩,
    ⟨⟨7, 3, 3, true, -128, 65535, 65535⟩, by decide +kernel⟩⟩

theorem witness_RefusedWriteIsRecorded :
    (∃ (p : Path) (a : BitVec 24) (v : Word) (s : State) (r : Nat), s.d.Quiet ∧ pwrState s.d = 0 ∧ pwrTrans s.d = false ∧ s.d.hs.later = [] ∧ ((p = .lmp → lmpRuns s.d = true ∧ spiWaits s.pending a.toNat = false)) ∧ a.toNat % 4 = 0 ∧ (busWrite p a.toNat v (s.upd id)).1 = r ∧ r ≠ 0 ∧ r < 65536) ∧
    (∃ (p : Path) (s : State), HostReady p s) :=
  ⟨⟨.lmp, 0x17FFC#24, 1#32, mk lmp, 0x0309, by decide +kernel⟩,
    ⟨.spi, State.reset, spi_ready (by decide +kernel)⟩⟩

theorem witness_RegisterAccessRules_1 :
    (∃ (_v : State) (a : Nat), ((∀ l, locate a = some l → l.reg = none))) ∧
    (∃ (v : State) (a : Nat) (l : Loc) (o : Obj), locate a = some l ∧ slotOfLoc l = some o ∧ v.d.occupied o = false) ∧
    (∃ (_via : Via) (r : RegD) (w : Wr) (_mask : Word) (s : Dev), r.cls = .s ∧ ownerEnabled s w.loc = true) ∧
    (∃ (_p : Path) (a : Nat) (_v : Word) (_mask : Word) (s : Dev), s.ms.cmd = none ∧ ((∀ l, locate a = some l → l.reg = none ∧ slotOfLoc l = none))) :=
  ⟨⟨State.reset, 0xFFFFFC, all_some (by decide +kernel)⟩,
    ⟨State.reset, 0x17FFC, (locate 0x17FFC).getD ⟨.dev, 0, 0, none⟩, .string 7, by decide +kernel⟩,
    ⟨.cmd, ⟨0, 1, 0, 0, 0, 0, 0, .s⟩, { loc := ⟨.dev, 0, 0, none⟩, b := 0, k := 0, old := 0#32, new := 0#32, act := 0#32 }, 0#32, Dev.reset.setEnabled .device true, by decide +kernel⟩,
    ⟨.spi, 0xFFFFFC, 0#32, 0#32, Dev.reset, by decide +kernel, all_some (by decide +kernel)⟩⟩

theorem witness_RegisterAccessRules_2 :
    (∃ (_p : Path) (a : Nat) (_v : Word) (_mask : Word) (s : Dev) (l : Loc) (o : Obj), s.ms.cmd = none ∧ locate a = some l ∧ slotOfLoc l = some o ∧ s.occupied o = false) ∧
    (∃ (p : Path) (a : BitVec 24) (_v : Word) (s : State) (fam : Fam) (i : Nat) (off : Nat) (r : RegD), HostReady p s ∧ a.toNat % 4 = 0 ∧ locate a.toNat = some ⟨fam, i, off, some r⟩ ∧ fam ∈ [Fam.loopS, .lnk, .protStr, .mon, .fltPol, .ss, .ptpPort] ∧ ((fam = .loopS → s.d.occupied (.loop i) = true)) ∧ ((fam = .protStr → s.d.occupied (.string i) = true)) ∧ ((fam = .fltPol → s.d.mode = .charge → s.d.gb bDev F.DEV_MODE_CHARGE_DONE = false)) ∧ r.cls ≠ .c ∧ ((r.cls = .s → ownerEnabled s.d ⟨fam, i, off, some r⟩ = false))) ∧
    (∃ (a : BitVec 24) (_v : Word) (s : State), s.d.Quiet ∧ lmpRuns s.d = true ∧ a.toNat % 4 = 0 ∧ spiWaits s.pending a.toNat = true) ∧
    (∃ (_a : BitVec 24) (_v : Word) (s : State), s.d.Quiet ∧ lmpRuns s.d = false) :=
  ⟨⟨.spi, 0x17FFC, 0#32, 0#32, Dev.reset, (locate 0x17FFC).getD ⟨.dev, 0, 0, none⟩, .string 7, by decide +kernel⟩,
    ⟨.spi, 0x4004F4#24, 1#32, State.reset, .mon, ((locate 0x4004F4).map (·.idx)).getD 0, ((locate 0x4004F4).map (·.off)).getD 0, ((locate 0x4004F4).bind (·.reg)).getD ⟨0, 1, 0, 0, 0, 0, 0, .s⟩, spi_ready (by decide +kernel), by decide +kernel⟩,
    ⟨0x4004F4#24, 1#32, { mk lmp with pending := [.registerWrite .spi 0x4004F4#24 1#32] }, by decide +kernel⟩,
    ⟨0xFFFFFF#24, 1#32, State.reset, by decide +kernel⟩⟩

theorem witness_RegisterAccessRules_3 :
    ∃ (a : BitVec 24) (_v : Word) (w : Word) (s : State) (fam : Fam) (i : Nat) (off : Nat) (r : RegD), Responsive s.d ∧ s.d.hs.later = [(a.toNat, w)] ∧ spiWaits s.pending a.toNat = false ∧ a.toNat % 4 = 0 ∧ locate a.toNat = some ⟨fam, i, off, some r⟩ ∧ fam ∈ [Fam.lnk, .mon, .ss, .ptpPort] ∧ r.cls ≠ .c ∧ ((r.cls = .s → ownerEnabled s.d ⟨fam, i, off, some r⟩ = false)) :=
  ⟨0x4004F4#24, 1#32, 2#32, mk (fun d => { d with hs := { d.hs with later := [(0x4004F4, 2#32)] } }), .mon, ((locate 0x4004F4).map (·.idx)).getD 0, ((locate 0x4004F4).map (·.off)).getD 0, ((locate 0x4004F4).bind (·.reg)).getD ⟨0, 1, 0, 0, 0, 0, 0, .s⟩, by decide +kernel⟩

theorem witness_EnablesAndChecks :
    (∃ (s : State) (o : Obj) (l : List Obj), s.d.ms.checking = none ∧ s.d.ms.checks = o :: l) ∧
    (∃ (s : State) (o : Obj), s.d.ms.checking = some o ∧ (checkOf { s.d.fresh with ms := { s.d.ms with checking := none } } o).1 ≠ 0) ∧
    (∃ (s : State) (n : Nat), n < 16 ∧ s.d.ms.checking = some (.profile n) ∧ (checkOf { s.d.fresh with ms := { s.d.ms with checking := none } } (.profile n)).1 = 0) :=
  ⟨⟨mk (fun d => { d with ms := { d.ms with checks := [.device] } }), .device, [], by decide +kernel⟩,
    ⟨mk (fun d => { (createSlot (.string 7) d) with ms := { (createSlot (.string 7) d).ms with checking := some (.string 7) } }), .string 7, by decide +kernel⟩,
    ⟨mk (fun d => let e := goodProfile (createSlot (.profile 15) d); { e with ms := { e.ms with checking := some (.profile 15) } }), 15, by decide +kernel⟩⟩

theorem witness_ObjectAndMailboxCommands_1 :
    (∃ (p : Path) (op : BitVec 16) (_a0 : Word) (_a1 : Word) (_a2 : Word) (_a3 : Word) (s : State), HostReady p s ∧ opcodes.contains op.toNat = false) ∧
    (∃ (s : State) (c : CmdRun), s.d.ms.cmd = some c ∧ c.sess = none ∧ c.reason < 65536) ∧
    (∃ (p : Path) (a0 : Word) (_a1 : Word) (_a2 : Word) (_a3 : Word) (s : State) (o : Obj), HostReady p s ∧ s.d.mode ≠ .load ∧ (((getBits a0 0 16 ≠ 0xFFFF ∧ objOf (getBits a0 28 4) (getBits a0 0 16) = some o ∧ s.d.occupied o = false) ∨ (getBits a0 0 16 = 0xFFFF ∧ ((upto (typeSlots (getBits a0 28 4))).filterMap (objOf (getBits a0 28 4))).find? (fun o => !s.d.occupied o) = some o)))) ∧
    (∃ (p : Path) (a0 : Word) (_a1 : Word) (_a2 : Word) (_a3 : Word) (s : State) (o : Obj), HostReady p s ∧ s.d.mode ≠ .load ∧ openHandle s.d a0 none = (0, o) ∧ s.d.enabled o = false ∧ s.d.checkOpen o = false) :=
  ⟨⟨.spi, 0xFFFF#16, 0#32, 0#32, 0#32, 0#32, State.reset, spi_ready (by decide +kernel), by decide +kernel⟩,
    ⟨mk (fun d => { d with ms := { d.ms with cmd := some ⟨0x10, false, 0, [], none, none, []⟩ } }), ⟨0x10, false, 0, [], none, none, []⟩, by decide +kernel⟩,
    ⟨.spi, 0x10000007#32, 0#32, 0#32, 0#32, mk (inMode .hold), .string 7, spi_ready (by decide +kernel), by decide +kernel⟩,
    ⟨.spi, 0x10010000#32, 0#32, 0#32, 0#32, mk (fun d => inMode .hold (createSlot (.string 0) d)), .string 0, spi_ready (by decide +kernel), by decide +kernel⟩⟩

theorem witness_ObjectAndMailboxCommands_2 :
    (∃ (p : Path) (a0 : Word) (_a1 : Word) (_a2 : Word) (_a3 : Word) (s : State) (o : Obj), HostReady p s ∧ s.d.mode ≠ .load ∧ openSlot a0 = (0, o)) ∧
    (∃ (p : Path) (a0 : Word) (a1 : Word) (_a2 : Word) (_a3 : Word) (s : State) (o : Obj) (a : Nat), HostReady p s ∧ s.d.mode ≠ .load ∧ openHandle s.d a0 none = (0, o) ∧ blockAddr o a1.toNat = some a) ∧
    (∃ (p : Path) (a0 : Word) (a1 : Word) (_a2 : Word) (_a3 : Word) (s : State) (o : Obj) (a : Nat), HostReady p s ∧ s.d.mode ≠ .load ∧ openHandle s.d a0 none = (0, o) ∧ blockAddr o a1.toNat = some a) :=
  ⟨⟨.spi, 0x10000007#32, 0#32, 0#32, 0#32, mk (inMode .hold), .string 7, spi_ready (by decide +kernel), by decide +kernel⟩,
    ⟨.spi, 0x10010000#32, 0#32, 0#32, 0#32, mk (fun d => inMode .hold (createSlot (.string 0) d)), .string 0, 0x10000, spi_ready (by decide +kernel), by decide +kernel⟩,
    ⟨.spi, 0x10010000#32, 4#32, 1#32, 1#32, mk (fun d => inMode .hold (createSlot (.string 0) d)), .string 0, 0x10004, spi_ready (by decide +kernel), by decide +kernel⟩⟩

theorem witness_BackgroundCommandsRun_1 :
    (∃ (p : Path) (a0 : Word) (_a1 : Word) (_a2 : Word) (_a3 : Word) (s : State) (b : Bank), HostReady p s ∧ bankOf a0.toNat = some b ∧ bankRefusal s.d b = 0) ∧
    (∃ (p : Path) (a0 : Word) (a1 : Word) (a2 : Word) (_a3 : Word) (s : State) (b : Bank), HostReady p s ∧ bankOf a0.toNat = some b ∧ bankRefusal s.d b = 0 ∧ a1.toNat % 256 = 0 ∧ 0x1000 ≤ a1.toNat ∧ 1 ≤ a2.toNat ∧ a2.toNat ≤ 4096 ∧ a1.toNat + a2.toNat ≤ b.size) ∧
    (∃ (p : Path) (a0 : Word) (_a1 : Word) (_a2 : Word) (_a3 : Word) (s : State) (b : Bank), HostReady p s ∧ bankOf a0.toNat = some b ∧ bankRefusal s.d b = 0) ∧
    (∃ (p : Path) (a0 : Word) (a1 : Word) (_a2 : Word) (_a3 : Word) (s : State), HostReady p s ∧ 1 ≤ a1.toNat ∧ a1.toNat ≤ 4096 ∧ a0.toNat + a1.toNat ≤ 0x8000000 ∧ imgBusy s.d = false ∧ s.d.shed = 0) :=
  ⟨⟨.spi, 1#32, 0#32, 0#32, 0#32, mk (inMode .hold), .bankB, spi_ready (by decide +kernel), by decide +kernel⟩,
    ⟨.spi, 1#32, 0x1000#32, 4096#32, 0#32, mk (inMode .hold), .bankB, spi_ready (by decide +kernel), by decide +kernel⟩,
    ⟨.spi, 0#32, 0#32, 0#32, 0#32, mk (inMode .hold), .bankA, spi_ready (by decide +kernel), by decide +kernel⟩,
    ⟨.spi, 0x7FFF000#32, 4096#32, 0#32, 0#32, State.reset, spi_ready (by decide +kernel), by decide +kernel⟩⟩

theorem witness_BackgroundCommandsRun_2 :
    (∃ (s : State) (b : Bank) (_n : Nat), s.d.img.bg = some (.erase b) ∧ s.d.img.bgStop = false ∧ s.nv.dead = false) ∧
    (∃ (s : State) (b : Bank) (off : Nat) (len : Nat) (_n : Nat), s.d.img.bg = some (.write b off len) ∧ s.d.img.bgStop = false ∧ s.nv.dead = false ∧ 0x1000 ≤ off) ∧
    (∃ (s : State) (b : Bank) (_n : Nat), s.d.img.bg = some (.seal b) ∧ s.d.img.bgStop = false ∧ s.nv.dead = false) ∧
    (∃ (s : State) (a : Nat) (len : Nat) (_n : Nat), s.d.img.bg = some (.read a len) ∧ s.d.img.bgStop = false ∧ s.nv.dead = false) :=
  ⟨⟨mk (fun d => { d with img := { d.img with bg := some (.erase .bankB) } }), .bankB, 0, by decide +kernel⟩,
    ⟨mk (fun d => { d with img := { d.img with bg := some (.write .bankA 0x1000 256) } }), .bankA, 0x1000, 256, 256, by decide +kernel⟩,
    ⟨mk (fun d => { d with img := { d.img with bg := some (.seal .bankA) } }), .bankA, 0, by decide +kernel⟩,
    ⟨mk (fun d => { d with img := { d.img with bg := some (.read 0 4) } }), 0, 4, 0, by decide +kernel⟩⟩

theorem witness_BackgroundCommandsRun_3 :
    (∃ (s : State) (b : Bank) (_n : Nat), s.d.img.bg = some (.erase b) ∧ s.d.img.bgStop = true ∧ s.d.img.bgSag = true ∧ s.nv.dead = false) ∧
    (∃ (s : State) (op : BgOp) (_n : Nat) (fault : Bool), s.d.img.bg = some op ∧ (fault = true ∨ s.nv.dead = true)) :=
  ⟨⟨mk (fun d => { d with img := { d.img with bg := some (.erase .bankB), bgStop := true, bgSag := true } }), .bankB, 4096, by decide +kernel⟩,
    ⟨mk (fun d => { d with img := { d.img with bg := some (.erase .bankB) } }), .erase .bankB, 4096, true, by decide +kernel⟩⟩

theorem witness_OtpCommandsActAsTheirRules_1 :
    (∃ (p : Path) (_a0 : Word) (_a1 : Word) (_a2 : Word) (_a3 : Word) (s : State), HostReady p s ∧ s.nv.otp.sound = true ∧ s.nv.dead = false) ∧
    (∃ (p : Path) (_a0 : Word) (_a1 : Word) (_a2 : Word) (_a3 : Word) (s : State), HostReady p s ∧ s.nv.otp.sound = true) ∧
    (∃ (p : Path) (_a0 : Word) (_a1 : Word) (_a2 : Word) (_a3 : Word) (s : State), HostReady p s ∧ s.nv.otp.sound = true ∧ s.d.mode ≠ .load) ∧
    (∃ (p : Path) (_a0 : Word) (_a1 : Word) (_a2 : Word) (_a3 : Word) (s : State), HostReady p s ∧ s.nv.otp.sound = false) :=
  ⟨⟨.spi, 0#32, 0#32, 0#32, 0#32, State.reset, spi_ready (by decide +kernel), by decide +kernel⟩,
    ⟨.spi, 0#32, 0#32, 0#32, 0#32, State.reset, spi_ready (by decide +kernel), by decide +kernel⟩,
    ⟨.spi, 0#32, 0#32, 0#32, 0#32, mk (inMode .hold), spi_ready (by decide +kernel), by decide +kernel⟩,
    ⟨.spi, 0#32, 0#32, 0#32, 0#32, { State.reset with nv := { State.reset.nv with otp := { State.reset.nv.otp with sound := false } } }, spi_ready (by decide +kernel), by decide +kernel⟩⟩

theorem witness_OtpCommandsActAsTheirRules_2 :
    ∃ (p : Path) (_a0 : Word) (_a1 : Word) (_a2 : Word) (_a3 : Word) (s : State), HostReady p s ∧ s.d.mode ≠ .load :=
  ⟨.spi, 0#32, 0#32, 0#32, 0#32, mk (inMode .hold), spi_ready (by decide +kernel), by decide +kernel⟩

theorem witness_ResetAndLoad_1 :
    (∃ (s : State), s.d.Quiet ∧ s.d.box.powered = false) ∧
    (∃ (_slot : Fin 64) (_pref : Bool) (_peer : Bool) (_eject : Bool) (_mem : NvFit) (_otp : Bool) (s : State), s.d.Quiet ∧ s.d.box.powered = false ∧ s.d.box.pwrGone = false) ∧
    (∃ (s : State), s.d.Quiet ∧ s.d.box.powered = true ∧ s.d.box.pwrGone = false) ∧
    (∃ (s : State) (b : Bank), s.d.img.applyBank = some b ∧ s.d.Quiet ∧ s.d.gb bImg F.IMG_STATUS_CFG_APPLIED = false) :=
  ⟨⟨State.reset, by decide +kernel⟩,
    ⟨63, true, true, false, .good, true, State.reset, by decide +kernel⟩,
    ⟨mk (fun d => { d with box := { d.box with powered := true } }), by decide +kernel⟩,
    ⟨mk (fun d => { d with img := { d.img with applyBank := some .bankA } }), .bankA, by decide +kernel⟩⟩

theorem witness_ResetAndLoad_2 :
    (∃ (s : State) (b : Bank), s.d.img.applyBank = some b ∧ s.d.Quiet ∧ s.d.gb bImg F.IMG_STATUS_CFG_APPLIED = true ∧ startReady s.d = true) ∧
    (∃ (s : State), s.d.Quiet ∧ startReady s.d = false) ∧
    (∃ (p : Path) (_a0 : Word) (_a1 : Word) (_a2 : Word) (_a3 : Word) (s : State), HostReady p s ∧ s.d.mode = .hold ∧ imgBusy s.d = false) ∧
    (∃ (p : Path) (_a0 : Word) (_a1 : Word) (_a2 : Word) (_a3 : Word) (s : State), HostReady p s ∧ s.d.mode = .hold) :=
  ⟨⟨mk (fun d => { (d.pb bImg F.IMG_STATUS_CFG_APPLIED true) with img := { d.img with applyBank := some .bankA } }), .bankA, by decide +kernel⟩,
    ⟨mk (fun d => d.pb (bPort 0) F.LNK_PCFG_EN true), by decide +kernel⟩,
    ⟨.spi, 0#32, 0#32, 0#32, 0#32, mk (inMode .hold), spi_ready (by decide +kernel), by decide +kernel⟩,
    ⟨.spi, 0#32, 0#32, 0#32, 0#32, mk (inMode .hold), spi_ready (by decide +kernel), by decide +kernel⟩⟩

theorem witness_ModesFollowTheirRules_1 :
    (∃ (p : Path) (v : Word) (s : State), HostReady p s ∧ modeOutcome (getBits v 0 3) s.d ≠ 0) ∧
    (∃ (p : Path) (v : Word) (s : State), HostReady p s ∧ modeOutcome (getBits v 0 3) s.d = 0) ∧
    (∃ (s : Dev), s.owns = true ∧ s.trans = false ∧ s.ms.changed = false) ∧
    (∃ (_m : Mode) (why : Nat) (_s : Dev), why < 256) :=
  ⟨⟨.spi, 3#32, mk (inMode .hold), spi_ready (by decide +kernel), by decide +kernel⟩,
    ⟨.spi, 1#32, mk (fun d => inRole .solo (inMode .hold d)), spi_ready (by decide +kernel), by decide +kernel⟩,
    ⟨inRole .active (inMode .hold Dev.reset), by decide +kernel⟩,
    ⟨.ride, 255, Dev.reset, by decide +kernel⟩⟩

theorem witness_ModesFollowTheirRules_2 :
    (∃ (s : State) (t : Nat), s.d.ms.stop = some t ∧ t ≤ s.d.tick) ∧
    (∃ (s : State) (t : Nat), s.d.mode = .ride ∧ stopping s.d = false ∧ rideActive s.d = false ∧ s.d.ms.settleFrom = some t ∧ t + rideSettle s.d ≤ s.d.tick ∧ t + rideSettle s.d ≤ s.d.ms.entered + rideMax s.d) ∧
    (∃ (s : State), s.d.mode = .ride ∧ stopping s.d = false ∧ s.d.ms.entered + rideMax s.d ≤ s.d.tick) ∧
    (∃ (s : State), s.d.mode = .charge ∧ stopping s.d = false ∧ s.d.gb bDev F.DEV_MODE_CHARGE_DONE = false ∧ s.d.ms.entered + chargeMax s.d ≤ s.d.tick) :=
  ⟨⟨mk (fun d => { d with ms := { d.ms with stop := some 0 } }), 0, by decide +kernel⟩,
    ⟨mk (fun d => let e := aged (inMode .ride d); { e with ms := { e.ms with settleFrom := some 0 } }), 0, by decide +kernel⟩,
    ⟨mk (fun d => aged (inMode .ride d)), by decide +kernel⟩,
    ⟨mk (fun d => aged (inMode .charge d)), by decide +kernel⟩⟩

theorem witness_ModesFollowTheirRules_3 :
    (∃ (s : State) (t : Nat), s.d.mode = .charge ∧ stopping s.d = false ∧ s.d.ms.rideFrom = some t ∧ t + rideMax s.d ≤ s.d.tick) ∧
    (∃ (s : State) (c : Instr), ((c = .stopSequenceEnd ∧ ∀ t, s.d.ms.stop = some t → s.d.tick < t) ∨ (c = .rideSettleElapsed ∧ ∀ t, s.d.ms.settleFrom = some t → s.d.tick < t + rideSettle s.d) ∨ (c = .rideMaxElapsed ∧ s.d.tick < s.d.ms.entered + rideMax s.d) ∨ (c = .chargeMaxElapsed ∧ s.d.tick < s.d.ms.entered + chargeMax s.d) ∨ (c = .chargeRideTimeout ∧ ∀ t, s.d.ms.rideFrom = some t → s.d.tick < t + rideMax s.d))) ∧
    (∃ (s : State), s.d.mode = .charge ∧ stopping s.d = false ∧ ((∀ i < 8, s.d.enabled (.string i) = true → (s.d.str i).stepsOpen = false)) ∧ ((∀ i < 8, s.d.enabled (.string i) = true → s.d.kind i = 1 → ∀ m ∈ s.d.members i, posState s.d i m.1 = 0 → inWindow s.d i m.2 = true ∧ ∃ w, (s.d.node m.2).inWin = some w ∧ freshAt s.d w.2 s.d.tick = true ∧ w.1 + s.d.g (bStr i) F.STR_BAL_CFG_DWELL * 250000 ≤ s.d.tick))) ∧
    (∃ (p : Path) (v : Word) (s : State), HostReady p s ∧ 10 ≤ getBits v 0 12 ∧ getBits v 0 12 ≤ 4000 ∧ getBits v 12 8 ≠ 0 ∧ getBits v 20 8 ≠ 0) :=
  ⟨⟨mk (fun d => let e := aged (inMode .charge d); { e with ms := { e.ms with rideFrom := some 0 } }), 0, by decide +kernel⟩,
    ⟨mk (inMode .ride), .rideMaxElapsed, Or.inr (Or.inr (Or.inl ⟨rfl, by decide +kernel⟩))⟩,
    ⟨mk (fun d => ((((aged (inMode .charge (string 0 1 1 d))).wr (bStr 0 + F.STR_ACTIVE.off) 1#32).setNode 0 (fun x => { x with inWin := some (0, 64 * 10 ^ 12) })).wr (bStr 0 + F.STR_CELL_WIN.off) 0xFFFF0000#32).setTele 0 0 ⟨65536, 64 * 10 ^ 12, 0, true, 0, 0, true⟩), ⟨by decide +kernel, by decide +kernel, by decide +kernel, windows_met (by decide +kernel)⟩⟩,
    ⟨.spi, 0x0010100A#32, State.reset, spi_ready (by decide +kernel), by decide +kernel⟩⟩

theorem witness_CommitsReachTheirReload_1 :
    (∃ (p : Path) (i : Fin 8) (v : Word) (s : State), HostReady p s ∧ s.d.occupied (.string i.val) = true ∧ getBits v 0 1 = 1 ∧ commitReason s.d [i.val] = 0 ∧ stopping s.d = false) ∧
    (∃ (p : Path) (_v : Word) (s : State), HostReady p s ∧ s.d.mode ≠ .safe ∧ stopping s.d = false ∧ ((∀ j < 8, s.d.halted j = false ∧ s.d.gb (bStr j) F.STR_CELL_STATUS_PENDING = false))) ∧
    (∃ (i : Fin 8) (s : State), (reloadIn s.d i.val 8 = false ∨ (s.d.str i.val).latchAt = some s.d.tick)) ∧
    (∃ (i : Fin 8) (s : State), reloadIn s.d i.val 8 = true ∧ (s.d.str i.val).latchAt ≠ some s.d.tick ∧ (s.d.str i.val).pend = none) :=
  ⟨⟨.spi, 7, 1#32, mk (fun d => inMode .hold (createSlot (.string 7) d)), spi_ready (by decide +kernel), by decide +kernel⟩,
    ⟨.spi, 0xFFFF#32, mk (inMode .hold), spi_ready (by decide +kernel), by decide +kernel⟩,
    ⟨7, State.reset, by decide +kernel⟩,
    ⟨7, mk (fun d => d.setStr 7 (fun t => { t with started := true, perLen := 64 * (8 + Dev.reset.dly) })), by decide +kernel⟩⟩

theorem witness_CommitsReachTheirReload_2 :
    (∃ (i : Fin 8) (s : State) (set : SetV), reloadIn s.d i.val 8 = true ∧ (s.d.str i.val).latchAt ≠ some s.d.tick ∧ (s.d.str i.val).pend = some set) ∧
    (∃ (i : Fin 8) (s : State), ((s.d.str i.val).started = false ∨ reloadIn s.d i.val 0 = false ∨ (s.d.str i.val).reloadAt = some s.d.tick)) ∧
    (∃ (i : Fin 8) (s : State), reloadIn s.d i.val 0 = true ∧ (s.d.str i.val).reloadAt ≠ some s.d.tick) :=
  ⟨⟨7, mk (fun d => d.setStr 7 (fun t => { t with started := true, perLen := 64 * (8 + Dev.reset.dly), pend := some [] })), [], by decide +kernel⟩,
    ⟨7, State.reset, by decide +kernel⟩,
    ⟨7, mk (fun d => d.setStr 7 (fun t => { t with started := true, perLen := 64 * (Dev.reset.dly) })), by decide +kernel⟩⟩

theorem witness_PulseKeepsMinimumAndCarry :
    ∃ (_w0 : Int) (per : Nat) (minp : Nat) (_stretch : Bool), 2 * minp ≤ per :=
  ⟨-1, 8, 4, true, by decide +kernel⟩

theorem witness_LegsAreGeneratedAndOverridden_1 :
    (∃ (n : Fin 96) (y : Fin 6) (s : State) (i : Nat) (k : Nat), s.d.stringOf n.val = some (i, k) ∧ patternRuns s.d i k n.val y.val = true ∧ (s.d.leg n.val y.val).half = none ∧ (s.d.leg n.val y.val).genFor ≠ some (s.d.str i).perStart ∧ ((pulseLeg s.d i y.val = true → (s.d.str i).perStart + legOffset s.d i (startView s.d i n.val) k n.val y.val (s.d.str i).perBase < nextReload (s.d.str i)))) ∧
    (∃ (n : Fin 96) (y : Fin 6) (s : State) (i : Nat) (k : Nat) (h : Half), s.d.stringOf n.val = some (i, k) ∧ patternRuns s.d i k n.val y.val = true ∧ (s.d.leg n.val y.val).half = some h ∧ h.t0 + h.per / 2 < nextReload (s.d.str i)) ∧
    (∃ (n : Fin 96) (y : Fin 6) (s : State) (i : Nat) (k : Nat), s.d.stringOf n.val = some (i, k) ∧ (s.d.leg n.val y.val).genFor = some (s.d.str i).perStart ∧ ((∀ h, (s.d.leg n.val y.val).half = some h → nextReload (s.d.str i) ≤ h.t0 + h.per / 2))) ∧
    (∃ (n : Fin 96) (y : Fin 6) (s : State) (i : Nat) (k : Nat), s.d.stringOf n.val = some (i, k) ∧ patternRuns s.d i k n.val y.val = false) :=
  ⟨⟨0, 0, mk (fun d => (((inMode .run (string 0 1 1 d)).setStr 0 (fun t => { t with started := true, ready := true, perLen := 100000, perBase := 100000 })).wr (bStr 0 + F.STR_ACTIVE.off) 1#32).wrF (bStr 0 + F.STR_ACTIVE.off) 1#32), 0, 0, by decide +kernel⟩,
    ⟨0, 0, mk (fun d => ((fun d => (((inMode .run (string 0 1 1 d)).setStr 0 (fun t => { t with started := true, ready := true, perLen := 100000, perBase := 100000 })).wr (bStr 0 + F.STR_ACTIVE.off) 1#32).wrF (bStr 0 + F.STR_ACTIVE.off) 1#32) d).setLeg 0 0 (fun l => { l with half := some ⟨0, 100000, 0, none⟩, genFor := some 0 })), 0, 0, ⟨0, 100000, 0, none⟩, by decide +kernel⟩,
    ⟨0, 5, mk (fun d => (string 0 1 1 d).setLeg 0 5 (fun l => { l with genFor := some 0 })), 0, 0, by decide +kernel, by decide +kernel, all_some (by decide +kernel)⟩,
    ⟨0, 5, mk (string 0 1 1), 0, 0, by decide +kernel⟩⟩

theorem witness_LegsAreGeneratedAndOverridden_2 :
    (∃ (n : Fin 96) (_y : Fin 6) (s : State), s.d.stringOf n.val = none) ∧
    (∃ (p : Path) (n : Fin 96) (v : Word) (s : State), HostReady p s ∧ s.d.occupied (.node n.val) = true ∧ overrideReason n.val v s.d = 0) ∧
    (∃ (v : Word) (_s : Dev) (_n : Nat), getBits v 4 1 = 1 ∧ getBits v 5 1 = 1) ∧
    (∃ (n : Fin 96) (y : Fin 6) (s : State), ((∀ x ∈ (s.d.port (s.d.portOf n.val)).sent, x.leg = y.val → s.d.tick * 64 < x.tExec + (1024 + s.d.g (bPort (s.d.portOf n.val)) F.LNK_PCFG_DMAX) * 64))) :=
  ⟨⟨95, 5, State.reset, by decide +kernel⟩,
    ⟨.spi, 0, 0#32, mk (fun d => (inMode .charge (string 0 1 1 d)).pb (bStr 0) F.STR_CFG_TEST true), spi_ready (by decide +kernel), by decide +kernel⟩,
    ⟨0x30#32, Dev.reset, 0, by decide +kernel⟩,
    ⟨95, 5, State.reset, by decide +kernel⟩⟩

theorem witness_LegsAreGeneratedAndOverridden_3 :
    ∃ (n : Fin 96) (y : Fin 6) (s : State) (i : Nat) (k : Nat) (j : Nat), s.d.stringOf n.val = some (i, k) ∧ adapting s.d i n.val y.val = true ∧ findIdx (fun (x : Sent) => x.leg == y.val && x.adapt && !x.late && x.tgt != .off && x.tExec + (1024 + s.d.g (bPort (s.d.portOf n.val)) F.LNK_PCFG_DMAX) * 64 ≤ s.d.tick * 64) (s.d.port (s.d.portOf n.val)).sent 0 = some j :=
  ⟨0, 0, mk (fun d => { (((inMode .run (string 0 2 1 d)).pb (bStr 0) F.STR_CFG_DT_ADAPT true).setPort 0 (fun q => { q with sent := [⟨0, 0, .high, 0, false, true⟩] })) with tick := 10 ^ 12 }), 0, 0, 0, by decide +kernel⟩

theorem witness_CarrierEventsAndPairs_1 :
    (∃ (i : Fin 8) (c : Bool) (ft : Fin 64) (s : State) (x : CarEv), (s.d.str i.val).evs.find? (fun e => e.centre == c && e.at_ == s.d.tick * 64 + ft.val) = some x) ∧
    (∃ (i : Fin 8) (c : Bool) (ft : Fin 64) (s : State), ((∀ x ∈ (s.d.str i.val).evs, x.centre = c → x.at_ ≠ s.d.tick * 64 + ft.val))) ∧
    (∃ (s : State) (i : Nat), i < 8 ∧ (s.d.str i).started = true ∧ s.d.gb (bStr i) F.STR_ANCHOR_SRC = true ∧ s.d.ml.csEdge.getD ((s.d.str i).startTick * 64) + 4 * s.d.gF (bStr i) F.STR_PERIOD_PERIOD ≤ s.d.tick * 64) ∧
    (∃ (s : State), csyncSilent s.d = false) :=
  ⟨⟨7, true, 63, mk (fun d => d.setStr 7 (fun t => { t with started := true, evs := [⟨63, true, 0⟩] })), ⟨63, true, 0⟩, by decide +kernel⟩,
    ⟨7, true, 63, State.reset, by decide +kernel⟩,
    ⟨mk (fun d => { ((string 7 2 0 d).setStr 7 (fun t => { t with started := true })).pb (bStr 7) F.STR_ANCHOR_SRC true with tick := 10 ^ 12 }), 7, by decide +kernel⟩,
    ⟨State.reset, by decide +kernel⟩⟩

theorem witness_CarrierEventsAndPairs_2 :
    (∃ (tpt : BitVec 16) (s : State), tpt.toNat < 2048 ∧ linkOn s.d = true) ∧
    (∃ (_tpt : BitVec 16) (s : State), linkOn s.d = false) ∧
    (∃ (i : Fin 8) (s : State), s.d.enabled (.aux i) = true ∧ s.d.tick + 8 = (s.d.auxp i.val).start / 64 ∧ (s.d.auxp i.val).latchAt ≠ some s.d.tick) ∧
    (∃ (i : Fin 8) (s : State), s.d.enabled (.aux i) = true ∧ s.d.tick = (s.d.auxp i.val).start / 64) :=
  ⟨⟨2047#16, State.reset, by decide +kernel⟩,
    ⟨2047#16, mk (fun d => d.p bPwr F.PWR_STATE_STATE 3), by decide +kernel⟩,
    ⟨7, mk (fun d => (inRole .solo (inMode .run (d.setEnabled (.aux 7) true))).setAux 7 (fun x => { x with start := 512 })), by decide +kernel⟩,
    ⟨7, mk (fun d => (inRole .solo (inMode .run (d.setEnabled (.aux 7) true))).setAux 7 (fun x => { x with start := 0 })), by decide +kernel⟩⟩

theorem witness_FramesOfAPort_1 :
    (∃ (s : State), s.d.tick % 512 ≠ 0) ∧
    (∃ (s : State), s.d.tick % 512 = 0 ∧ linksSilent s.d = true) ∧
    (∃ (s : State), s.d.tick % 512 = 0 ∧ linksSilent s.d = false) ∧
    (∃ (p : Fin 96) (h : RptHdr) (b : RptBody) (s : State), b.wf = true ∧ linkOn s.d = true ∧ (s.d.port p.val).st ≠ .off ∧ (s.d.port p.val).rx.locked = true ∧ h.seq.val = ((s.d.port p.val).rx.seq + (s.d.port p.val).rx.gap + 1) % 512) :=
  ⟨⟨mk (fun d => { d with tick := 1 }), by decide +kernel⟩,
    ⟨mk (fun d => d.pb bClk F.CLK_STATUS_ON_ONYX true), by decide +kernel⟩,
    ⟨mk (fun d => d.pb bClk F.CLK_STATUS_ON_ONYX false), by decide +kernel⟩,
    ⟨95, hdr1, ⟨0, 0, 0, 0, 0, 0, 0, List.replicate 26 0⟩, mk (fun d => port 95 .token d), by decide +kernel⟩⟩

theorem witness_FramesOfAPort_2 :
    (∃ (_p : Fin 96) (_h : RptHdr) (b : RptBody) (_s : State), b.wf = false) ∧
    (∃ (p : Fin 96) (_c : SlotError) (s : State), (s.d.port p.val).st = .off) ∧
    (∃ (p : Fin 96) (_c : SlotError) (s : State), (s.d.port p.val).st ≠ .off ∧ (s.d.port p.val).rx.locked = true) ∧
    (∃ (p : Fin 96) (_c : SlotError) (s : State), (s.d.port p.val).st ≠ .off ∧ (s.d.port p.val).rx.locked = false ∧ (s.d.port p.val).rx.was = true) :=
  ⟨⟨95, hdr1, ⟨0, 256, 0, 0, 0, 0, 0, []⟩, State.reset, by decide +kernel⟩,
    ⟨95, .crc, State.reset, by decide +kernel⟩,
    ⟨95, .code, mk (fun d => port 95 .token d), by decide +kernel⟩,
    ⟨95, .format, mk (fun d => d.setPort 95 (fun q => { q with st := .down, rx := { q.rx with was := true } })), by decide +kernel⟩⟩

theorem witness_ReportFramesAndCalibration_1 :
    (∃ (p : Fin 96) (h : RptHdr) (_d : BitVec 8) (x : Echo) (s : State), x.wf = true ∧ x.leg ≠ 7 ∧ linkOn s.d = true ∧ (s.d.port p.val).st ≠ .off ∧ (s.d.port p.val).rx.locked = true ∧ h.seq.val = ((s.d.port p.val).rx.seq + (s.d.port p.val).rx.gap + 1) % 512) ∧
    (∃ (p : Fin 96) (h : RptHdr) (_l : BitVec 8) (x : EvtEntry) (s : State) (n : Nat), x.wf = true ∧ linkOn s.d = true ∧ (s.d.port p.val).st ≠ .off ∧ (s.d.port p.val).rx.locked = true ∧ h.seq.val = ((s.d.port p.val).rx.seq + (s.d.port p.val).rx.gap + 1) % 512 ∧ s.d.nodeAt p.val = some n) ∧
    (∃ (p : Fin 96) (h : RptHdr) (ident : List Byte) (_set : Bool) (s : State), ident.length = 64 ∧ linkOn s.d = true ∧ (s.d.port p.val).st ≠ .off ∧ (s.d.port p.val).rx.locked = true ∧ h.seq.val = ((s.d.port p.val).rx.seq + (s.d.port p.val).rx.gap + 1) % 512) ∧
    (∃ (_p : Fin 96) (_h : RptHdr) (_d : BitVec 8) (es : List Echo) (_s : State), echoesWf es = false) :=
  ⟨⟨95, hdr1, 255#8, ⟨0, 2, 1, false, 0, 0, 0⟩, mk (fun d => port 95 .token d), by decide +kernel⟩,
    ⟨95, hdr1, 0#8, ⟨1, 15, 7, 255, 16777215, 255, List.replicate 8 0#8⟩, mk (fun d => (port 95 .token (createSlot (.node 3) d)).p (bNode 3) F.NODE_CFG_PORT 95), 3, by decide +kernel⟩,
    ⟨95, hdr1, List.replicate 64 0#8, true, mk (fun d => port 95 .token d), by decide +kernel⟩,
    ⟨95, hdr1, 0#8, [⟨8, 0, 0, false, 0, 0, 0⟩], State.reset, by decide +kernel⟩⟩

theorem witness_ReportFramesAndCalibration_2 :
    (∃ (_p : Fin 96) (_h : RptHdr) (_l : BitVec 8) (es : List EvtEntry) (_s : State), eventsWf es = false) ∧
    (∃ (_p : Fin 96) (_h : RptHdr) (ident : List Byte) (_set : Bool) (_s : State), identWf ident = false) :=
  ⟨⟨95, hdr1, 0#8, List.replicate 8 ⟨1, 15, 7, 255, 16777215, 255, List.replicate 8 0#8⟩, State.reset, by decide +kernel⟩,
    ⟨95, hdr1, [], true, State.reset, by decide +kernel⟩⟩

theorem witness_PortStatesFollowTheirRules_1 :
    (∃ (p : Fin 96) (s : State), (s.d.port p.val).st ≠ .off ∧ (s.d.port p.val).reach = true ∧ 3 ≤ (s.d.port p.val).miss ∧ linksSilent s.d = false) ∧
    (∃ (p : Fin 96) (s : State), (s.d.port p.val).st ∉ [PState.off, .down] ∧ 64 ≤ (s.d.port p.val).miss ∧ linksSilent s.d = false) ∧
    (∃ (p : Fin 96) (s : State), (s.d.port p.val).st = .down ∧ (s.d.port p.val).tok = false ∧ 16 ≤ (s.d.port p.val).vrun ∧ linksSilent s.d = false) ∧
    (∃ (p : Path) (q : Fin 96) (v : Word) (s : State), HostReady p s ∧ (enabledNodes s.d).any (fun n => s.d.portOf n == q.val) = false ∧ getBits v 0 1 = 1 ∧ s.d.gb (bPort q.val) F.LNK_PCFG_EN = false) :=
  ⟨⟨95, mk (fun d => (d.pb bClk F.CLK_STATUS_ON_ONYX false).setPort 95 (fun q => { q with st := .token, reach := true, miss := 3 })), by decide +kernel⟩,
    ⟨95, mk (fun d => (d.pb bClk F.CLK_STATUS_ON_ONYX false).setPort 95 (fun q => { q with st := .token, miss := 64 })), by decide +kernel⟩,
    ⟨95, mk (fun d => (d.pb bClk F.CLK_STATUS_ON_ONYX false).setPort 95 (fun q => { q with st := .down, vrun := 16 })), by decide +kernel⟩,
    ⟨.spi, 95, 1#32, State.reset, spi_ready (by decide +kernel), by decide +kernel⟩⟩

theorem witness_PortStatesFollowTheirRules_2 :
    (∃ (p : Path) (q : Fin 96) (v : Word) (s : State), HostReady p s ∧ (enabledNodes s.d).any (fun n => s.d.portOf n == q.val) = false ∧ getBits v 0 1 = 0 ∧ s.d.gb (bPort q.val) F.LNK_PCFG_EN = true) ∧
    (∃ (p : Fin 96) (s : State) (o : MsgOut), (s.d.port p.val).mo = some o ∧ s.d.g bLnk F.LNK_CFG_MGMT_TIMEOUT ≤ o.waited) :=
  ⟨⟨.spi, 95, 0#32, mk (fun d => d.pb (bPort 95) F.LNK_PCFG_EN true), spi_ready (by decide +kernel), by decide +kernel⟩,
    ⟨95, mk (fun d => d.setPort 95 (fun q => { q with mo := some ⟨⟨1, 0, 0, 0, []⟩, 1000, 0, false, [], none⟩ })), ⟨⟨1, 0, 0, 0, []⟩, 1000, 0, false, [], none⟩, by decide +kernel⟩⟩

theorem witness_NodeTakesCommandFrames :
    (∃ (p : Fin 96) (l : Lane) (f : CmdFrame) (arr : Nat) (s : State), f.wf = true ∧ f.type = 1 ∧ (s.d.far p.val).set = true ∧ (s.d.far p.val).obeys = some l ∧ ((s.d.far p.val).rx l).locked = true ∧ f.seq = (((s.d.far p.val).rx l).seq + ((s.d.far p.val).rx l).gap + 1) % 512 ∧ absI (seqDev f.seq arr) ≤ 64 ∧ f.tok = true ∧ 1 ≤ f.term ∧ (s.d.far p.val).tHi ≤ f.term) ∧
    (∃ (p : Fin 96) (l : Lane) (f : CmdFrame) (arr : Nat) (s : State), f.wf = true ∧ f.type = 1 ∧ (s.d.far p.val).set = true ∧ (s.d.far p.val).obeys = some l ∧ ((s.d.far p.val).rx l).locked = true ∧ f.seq = (((s.d.far p.val).rx l).seq + ((s.d.far p.val).rx l).gap + 1) % 512 ∧ absI (seqDev f.seq arr) ≤ 64 ∧ f.tok = true ∧ 1 ≤ f.term ∧ f.term < (s.d.far p.val).tHi) ∧
    (∃ (_p : Fin 96) (_l : Lane) (f : CmdFrame) (_arr : Nat) (_s : State), f.wf = false) ∧
    (∃ (_x : FarSt) (_l : Lane) (_fin : Nat) (w : Word) (_fence : Bool) (_copy : Bool) (t : LegState), legStateOf (ewTgt w) = some t ∧ ewLeg w < 6) :=
  ⟨⟨95, .portP, { type := 1, seq := 1, tok := true, term := 4294967295, resume := true, fenceNew := 0, fenceRep := 0, hor := 0, perAB := 0, perCF := 0, sideFirst := false, sideLast := false, side := [], rep := [], new := [] }, 32768, node id, by decide +kernel⟩,
    ⟨95, .portP, { type := 1, seq := 1, tok := true, term := 4, resume := true, fenceNew := 0, fenceRep := 0, hor := 0, perAB := 0, perCF := 0, sideFirst := false, sideLast := false, side := [], rep := [], new := [] }, 32768, node (fun x => { x with tHi := 5 }), by decide +kernel⟩,
    ⟨95, .portP, { type := 1, seq := 512, tok := true, term := 4294967295, resume := true, fenceNew := 0, fenceRep := 0, hor := 0, perAB := 0, perCF := 0, sideFirst := false, sideLast := false, side := [], rep := [], new := [] }, 0, State.reset, by decide +kernel⟩,
    ⟨farSt0, .portQ, 0, edgeWord ⟨5, .high, false, false, false, false, 0, 0, 0⟩, false, false, .high, by decide +kernel⟩⟩

theorem witness_NodeCounterAndEdges_1 :
    (∃ (p : Fin 96) (l : Lane) (seq : Fin 512) (_arr : Nat) (s : State), (s.d.far p.val).set = true ∧ (s.d.far p.val).obeys = some l ∧ ((s.d.far p.val).rx l).locked = true ∧ seq.val = (((s.d.far p.val).rx l).seq + ((s.d.far p.val).rx l).gap + 1) % 512) ∧
    (∃ (p : Fin 96) (seq : Fin 512) (_arr : Nat) (s : State), (s.d.far p.val).set = false ∧ (s.d.far p.val).obeys = none ∧ (s.d.far p.val).rxP.locked = true ∧ seq.val = ((s.d.far p.val).rxP.seq + (s.d.far p.val).rxP.gap + 1) % 512) ∧
    (∃ (p : Fin 96) (s : State) (d : Int), (s.d.far p.val).agreeAt = some d ∧ 4 ≤ (s.d.far p.val).agree) ∧
    (∃ (p : Fin 96) (s : State), (s.d.far p.val).agree < 4) :=
  ⟨⟨95, .portP, 1, 32768, node id, by decide +kernel⟩,
    ⟨95, 1, 0, node (fun x => { x with set := false, obeys := none }), by decide +kernel⟩,
    ⟨95, node (fun x => { x with agree := 4, agreeAt := some 0 }), 0, by decide +kernel⟩,
    ⟨95, node id, by decide +kernel⟩⟩

theorem witness_NodeCounterAndEdges_2 :
    (∃ (p : Fin 96) (l : Lane) (s : State), ((s.d.far p.val).rx l).locked = true) ∧
    (∃ (p : Fin 96) (y : Fin 7) (_err : Int) (_body : BitVec 16) (_dir : Fin 4) (s : State) (h : Held), (s.d.far p.val).held.find? (fun h => codesMeet y.val (ewLeg h.word)) = some h ∧ ewLeg h.word = y.val ∧ (((s.d.far p.val).ns ≠ .holdover ∨ h.due < (s.d.far p.val).repFrom)) ∧ y.val < 6) ∧
    (∃ (p : Fin 96) (_err : Int) (_body : BitVec 16) (_dir : Fin 4) (s : State) (h : Held), (s.d.far p.val).held.find? (fun h => codesMeet 6 (ewLeg h.word)) = some h ∧ ewLeg h.word = 6 ∧ (((s.d.far p.val).ns ≠ .holdover ∨ h.due < (s.d.far p.val).repFrom))) ∧
    (∃ (p : Fin 96) (y : Fin 7) (_err : Int) (_body : BitVec 16) (_dir : Fin 4) (s : State), ((∀ h, (s.d.far p.val).held.find? (fun h => codesMeet y.val (ewLeg h.word)) = some h → ewLeg h.word ≠ y.val ∨ ((s.d.far p.val).ns = .holdover ∧ (s.d.far p.val).repFrom ≤ h.due)))) :=
  ⟨⟨95, .portP, node id, by decide +kernel⟩,
    ⟨95, 5, 0, 0#16, 0, node (fun x => { x with held := [⟨edgeWord ⟨5, .low, false, false, false, false, 0, 0, 0⟩, 0, .portP, false⟩] }), ⟨edgeWord ⟨5, .low, false, false, false, false, 0, 0, 0⟩, 0, .portP, false⟩, by decide +kernel⟩,
    ⟨95, 0, 0#16, 0, node (fun x => { x with held := [⟨edgeWord ⟨6, .low, false, false, false, false, 0, 0, 0⟩, 0, .portP, false⟩] }), ⟨edgeWord ⟨6, .low, false, false, false, false, 0, 0, 0⟩, 0, .portP, false⟩, by decide +kernel⟩,
    ⟨95, 6, 0, 0#16, 0, State.reset, all_some (by decide +kernel)⟩⟩

theorem witness_NodeStatesAndReports_1 :
    (∃ (p : Fin 96) (s : State), (s.d.far p.val).ns = .driven ∧ 3 ≤ (s.d.far p.val).unserved) ∧
    (∃ (p : Fin 96) (s : State), ((s.d.far p.val).ns ≠ .driven ∨ (s.d.far p.val).unserved < 3)) ∧
    (∃ (p : Fin 96) (s : State), (s.d.far p.val).ns = .holdover) ∧
    (∃ (p : Fin 96) (s : State), (s.d.far p.val).ns ≠ .holdover) :=
  ⟨⟨95, node (fun x => { x with unserved := 3 }), by decide +kernel⟩,
    ⟨95, State.reset, by decide +kernel⟩,
    ⟨95, node (fun x => { x with ns := .holdover }), by decide +kernel⟩,
    ⟨95, State.reset, by decide +kernel⟩⟩

theorem witness_NodeStatesAndReports_2 :
    (∃ (_p : Fin 96) (ident : List Byte) (_s : State), ident.length = 512) ∧
    (∃ (_p : Fin 96) (ident : List Byte) (_s : State), ident.length ≠ 512) ∧
    (∃ (_p : Fin 96) (_k : Nat) (m : Sample) (_s : State), m.wf = true) ∧
    (∃ (_p : Fin 96) (_k : Nat) (m : Sample) (_s : State), m.wf = false) :=
  ⟨⟨95, List.replicate 512 0#8, State.reset, by decide +kernel⟩,
    ⟨95, [], State.reset, by decide +kernel⟩,
    ⟨95, 0, ⟨0, 0, List.replicate 26 0⟩, node id, by decide +kernel⟩,
    ⟨95, 0, ⟨0, 67108864, []⟩, State.reset, by decide +kernel⟩⟩

theorem witness_NodeAnswersMessages_1 :
    (∃ (p : Fin 96) (l : Lane) (m : Msg) (s : State) (b : List Byte), m.wf = true ∧ (s.d.far p.val).msg l = .whole b ∧ msgOf b = m ∧ (s.d.far p.val).lastTid ≠ some m.tid ∧ (((s.d.far p.val).obeys = none ∨ (s.d.far p.val).obeys = some l))) ∧
    (∃ (p : Fin 96) (l : Lane) (m : Msg) (s : State) (o : Lane) (b : List Byte), m.wf = true ∧ (s.d.far p.val).msg l = .whole b ∧ msgOf b = m ∧ (s.d.far p.val).lastTid ≠ some m.tid ∧ m.op ≠ 2 ∧ (s.d.far p.val).obeys = some o ∧ o ≠ l) ∧
    (∃ (p : Fin 96) (l : Lane) (m : Msg) (s : State) (b : List Byte), m.wf = true ∧ (s.d.far p.val).msg l = .whole b ∧ msgOf b = m ∧ (s.d.far p.val).lastTid = some m.tid) ∧
    (∃ (p : Fin 96) (l : Lane) (m : Msg) (s : State), m.wf = true ∧ ((∀ b, (s.d.far p.val).msg l = .whole b → msgOf b ≠ m))) :=
  ⟨⟨95, .portP, msgOf [1#8, 255#8, 4#8, 0#8, 0#8, 0#8, 0#8, 0#8], node (fun x => { x with msgP := .whole [1#8, 255#8, 4#8, 0#8, 0#8, 0#8, 0#8, 0#8], msgQ := .whole [1#8, 255#8, 4#8, 0#8, 0#8, 0#8, 0#8, 0#8] }), [1#8, 255#8, 4#8, 0#8, 0#8, 0#8, 0#8, 0#8], by decide +kernel⟩,
    ⟨95, .portQ, msgOf [1#8, 255#8, 4#8, 0#8, 0#8, 0#8, 0#8, 0#8], node (fun x => { x with msgP := .whole [1#8, 255#8, 4#8, 0#8, 0#8, 0#8, 0#8, 0#8], msgQ := .whole [1#8, 255#8, 4#8, 0#8, 0#8, 0#8, 0#8, 0#8] }), .portP, [1#8, 255#8, 4#8, 0#8, 0#8, 0#8, 0#8, 0#8], by decide +kernel⟩,
    ⟨95, .portP, msgOf [1#8, 255#8, 4#8, 0#8, 0#8, 0#8, 0#8, 0#8], node (fun x => { x with msgP := .whole [1#8, 255#8, 4#8, 0#8, 0#8, 0#8, 0#8, 0#8], msgQ := .whole [1#8, 255#8, 4#8, 0#8, 0#8, 0#8, 0#8, 0#8], lastTid := some (msgOf [1#8, 255#8, 4#8, 0#8, 0#8, 0#8, 0#8, 0#8]).tid }), [1#8, 255#8, 4#8, 0#8, 0#8, 0#8, 0#8, 0#8], by decide +kernel⟩,
    ⟨95, .portP, msgOf [1#8, 255#8, 4#8, 0#8, 0#8, 0#8, 0#8, 0#8], State.reset, ⟨by decide +kernel, fun _ e => by cases e⟩⟩⟩

theorem witness_NodeAnswersMessages_2 :
    (∃ (_p : Fin 96) (_l : Lane) (m : Msg) (_s : State), m.wf = false) ∧
    (∃ (p : Fin 96) (_pass : BitVec 48) (s : State), (s.d.far p.val).selfTest ≠ none) :=
  ⟨⟨95, .portP, ⟨256, 0, 0, 0, []⟩, State.reset, by decide +kernel⟩,
    ⟨95, 0#48, node (fun x => { x with selfTest := some (1, 1) }), by decide +kernel⟩⟩

theorem witness_SwitchFaultsLatch :
    ∃ (x : FarSt) (sw : Nat) (m : Nat) (onset : Nat), x.acts sw m onset = true :=
  ⟨{ farSt0 with legs := [(0, ⟨.low, 0, .off⟩)], now := 100000 }, 0, 2, 0, by decide +kernel⟩

theorem witness_RateGroupsFireAndLatch_1 :
    (∃ (g : Fin 8) (s : State), groupRuns s.d g.val = true ∧ firingDue s.d g.val = true ∧ (s.d.rg g.val).firedAt ≠ some s.d.tick ∧ (s.d.rg g.val).fir = none) ∧
    (∃ (g : Fin 8) (s : State) (f : Firing), groupRuns s.d g.val = true ∧ firingDue s.d g.val = true ∧ (s.d.rg g.val).firedAt ≠ some s.d.tick ∧ (s.d.rg g.val).fir = some f) ∧
    (∃ (g : Fin 8) (s : State), (groupRuns s.d g.val = false ∨ firingDue s.d g.val = false ∨ (s.d.rg g.val).firedAt = some s.d.tick)) ∧
    (∃ (g : Fin 8) (s : State) (f : Firing), (s.d.rg g.val).fir = some f ∧ f.latched = false ∧ s.d.tick = f.tf + s.d.g (bRg g.val) F.RG_CFG_LATCH_DLY ∧ s.d.follows = false ∧ ((∀ h, ∀ i ∈ (s.d.rg h).thaw, i < 2048))) :=
  ⟨⟨7, mk (fun d => (inRole .solo (inMode .run (d.setEnabled (.rg 7) true))).p (bRg 7) F.RG_CFG_SRC 2), by decide +kernel⟩,
    ⟨7, mk (fun d => { ((inRole .solo (inMode .run (d.setEnabled (.rg 7) true))).p (bRg 7) F.RG_CFG_SRC 2).setRg 7 (fun x => { x with fir := some firing }) with tick := 0 }), firing, by decide +kernel⟩,
    ⟨7, State.reset, by decide +kernel⟩,
    ⟨7, mk (fun d => { ((inRole .solo (inMode .run (d.setEnabled (.rg 7) true))).p (bRg 7) F.RG_CFG_SRC 2).setRg 7 (fun x => { x with fir := some firing }) with tick := Dev.reset.g (bRg 7) F.RG_CFG_LATCH_DLY }), firing, by decide +kernel, by decide +kernel, by decide +kernel, by decide +kernel, no_thaw (by decide +kernel)⟩⟩

theorem witness_RateGroupsFireAndLatch_2 :
    (∃ (g : Fin 8) (s : State) (f : Firing), (s.d.rg g.val).fir = some f ∧ (f.latched = true ∨ s.d.tick ≠ f.tf + s.d.g (bRg g.val) F.RG_CFG_LATCH_DLY)) ∧
    (∃ (g : Fin 8) (t : Nat) (s : State) (f : Firing), (s.d.rg g.val).fir = some f ∧ f.latched = true ∧ f.done = false ∧ f.wait = false ∧ s.d.tick = f.latch + t ∧ s.d.tick < f.tf + s.d.g (bRg g.val) F.RG_DL_DL) ∧
    (∃ (g : Fin 8) (t : Nat) (s : State) (f : Firing), (s.d.rg g.val).fir = some f ∧ (s.d.tick ≠ f.latch + t ∨ f.tf + s.d.g (bRg g.val) F.RG_DL_DL ≤ s.d.tick)) :=
  ⟨⟨7, mk (fun d => { ((inRole .solo (inMode .run (d.setEnabled (.rg 7) true))).p (bRg 7) F.RG_CFG_SRC 2).setRg 7 (fun x => { x with fir := some { firing with latched := true } }) with tick := 0 }), { firing with latched := true }, by decide +kernel⟩,
    ⟨7, 1, mk (fun d => { ((inRole .solo (inMode .run (d.setEnabled (.rg 7) true))).p (bRg 7) F.RG_CFG_SRC 2).setRg 7 (fun x => { x with fir := some { firing with latched := true } }) with tick := 1 }), { firing with latched := true }, by decide +kernel⟩,
    ⟨7, 1, mk (fun d => { ((inRole .solo (inMode .run (d.setEnabled (.rg 7) true))).p (bRg 7) F.RG_CFG_SRC 2).setRg 7 (fun x => { x with fir := some { firing with latched := true } }) with tick := 0 }), { firing with latched := true }, by decide +kernel⟩⟩

theorem witness_RateGroupsCommit_1 :
    (∃ (g : Fin 8) (s : State) (f : Firing), (s.d.rg g.val).fir = some f ∧ s.d.tick = f.tf + s.d.g (bRg g.val) F.RG_DL_DL ∧ f.latched = true ∧ f.done = true ∧ ((∀ r ∈ f.res, r.loop < 2048 ∧ ∀ w ∈ r.regs, (bLoopS r.loop ≤ w.1 ∧ w.1 < bLoopS r.loop + 32) ∨ (0x1000000 ≤ w.1))) ∧ (f.res.map (fun r => r.loop)).Nodup) ∧
    (∃ (g : Fin 8) (s : State) (f : Firing), (s.d.rg g.val).fir = some f ∧ s.d.tick = f.tf + s.d.g (bRg g.val) F.RG_DL_DL ∧ (f.latched && f.done) = false) ∧
    (∃ (g : Fin 8) (s : State) (f : Firing), (s.d.rg g.val).fir = some f ∧ s.d.tick ≠ f.tf + s.d.g (bRg g.val) F.RG_DL_DL) ∧
    (∃ (p : Path) (_v : Word) (s : State), HostReady p s) :=
  ⟨⟨7, mk (fun d => { ((inRole .solo (inMode .run (d.setEnabled (.rg 7) true))).p (bRg 7) F.RG_CFG_SRC 2).setRg 7 (fun x => { x with fir := some { firing with latched := true, done := true } }) with tick := Dev.reset.g (bRg 7) F.RG_DL_DL }), { firing with latched := true, done := true }, by decide +kernel, by decide +kernel, by decide +kernel, by decide +kernel, by simp [firing], by decide +kernel⟩,
    ⟨7, mk (fun d => { ((inRole .solo (inMode .run (d.setEnabled (.rg 7) true))).p (bRg 7) F.RG_CFG_SRC 2).setRg 7 (fun x => { x with fir := some { firing with latched := true } }) with tick := Dev.reset.g (bRg 7) F.RG_DL_DL }), { firing with latched := true }, by decide +kernel⟩,
    ⟨7, mk (fun d => { ((inRole .solo (inMode .run (d.setEnabled (.rg 7) true))).p (bRg 7) F.RG_CFG_SRC 2).setRg 7 (fun x => { x with fir := some { firing with latched := true } }) with tick := 10 ^ 12 }), { firing with latched := true }, by decide +kernel⟩,
    ⟨.spi, 0xFF#32, State.reset, spi_ready (by decide +kernel)⟩⟩

theorem witness_RateGroupsCommit_2 :
    (∃ (p : Path) (i : Fin 2048) (v : Word) (s : State), HostReady p s ∧ s.d.occupied (.loop i.val) = true ∧ getBits v 13 1 = 1) ∧
    (∃ (i : Nat) (_s : Dev), i < 2048) ∧
    (∃ (g : Nat) (s : Dev) (i : Nat) (k : Nat), i ∈ loopSlots s ∧ loopRg s i = g ∧ k < 7) :=
  ⟨⟨.spi, 2047, 0x2000#32, mk (fun d => ((createSlot (.loop 2047) d).setEnabled (.loop 2047) true)), spi_ready (by decide +kernel), by decide +kernel⟩,
    ⟨2047, Dev.reset, by decide +kernel⟩,
    ⟨0, let d := Dev.reset; ((createSlot (.loop 2047) d).setEnabled (.loop 2047) true), 2047, 6, by decide +kernel⟩⟩

theorem witness_LawsKeepLimits :
    (∃ (_i0 : Int) (_inc : Int) (_ff : Int) (_yp : Int) (lo : Int) (hi : Int), lo ≤ hi) ∧
    (∃ (s : Dev) (i : Nat), limLo s i ≤ limHi s i) :=
  ⟨⟨5, 1, 0, 0, -1, 1, by decide +kernel⟩,
    ⟨Dev.reset, 0, by decide +kernel⟩⟩

theorem witness_CellCommandsChangePositions_1 :
    (∃ (p : Path) (a0 : Word) (a1 : Word) (_a2 : Word) (_a3 : Word) (s : State) (i : Nat), HostReady p s ∧ openHandle s.d a0 (some 1) = (0, .string i) ∧ i < 8 ∧ a1.toNat < 32 ∧ a1.toNat < s.d.g (bStr i) F.STR_CFG_MEMBERS ∧ s.d.kind i = 1 ∧ s.d.enabled (.string i) = true ∧ posState s.d i a1.toNat = 0 ∧ changePending s.d i = false ∧ (s.d.str i).chg = none ∧ nmin s.d i ≤ ((stayActive s.d i).filter (fun j => j != a1.toNat)).length) ∧
    (∃ (p : Path) (a0 : Word) (a1 : Word) (_a2 : Word) (_a3 : Word) (s : State) (i : Nat), HostReady p s ∧ openHandle s.d a0 (some 1) = (0, .string i) ∧ i < 8 ∧ a1.toNat < 32 ∧ a1.toNat < s.d.g (bStr i) F.STR_CFG_MEMBERS ∧ s.d.kind i = 1 ∧ s.d.enabled (.string i) = true ∧ posState s.d i a1.toNat = 1 ∧ changePending s.d i = false ∧ (s.d.str i).chg = none ∧ bitOf (s.d.g (bStr i) F.STR_OUT_CAUSE_REACTION) a1.toNat = false ∧ underReaction s.d (memberAt s.d i a1.toNat) = false ∧ (teleNow s.d (memberAt s.d i a1.toNat) 0).2 = true ∧ outOfWin s.d i (teleNow s.d (memberAt s.d i a1.toNat) 0).1 = false) ∧
    (∃ (p : Path) (a0 : Word) (a1 : Word) (_a2 : Word) (_a3 : Word) (s : State) (i : Nat), HostReady p s ∧ openHandle s.d a0 (some 1) = (0, .string i) ∧ i < 8 ∧ a1.toNat < 32 ∧ a1.toNat < s.d.g (bStr i) F.STR_CFG_MEMBERS ∧ s.d.kind i = 1 ∧ s.d.enabled (.string i) = true ∧ posState s.d i a1.toNat = 1 ∧ changePending s.d i = false ∧ (s.d.mode = .run ∨ s.d.mode = .ride) ∧ underReaction s.d (memberAt s.d i a1.toNat) = false ∧ (s.d.port (s.d.portOf (memberAt s.d i a1.toNat))).nstate ≠ .safe ∧ (teleNow s.d (memberAt s.d i a1.toNat) 0).2 = true ∧ (teleNow s.d (memberAt s.d i a1.toNat) 0).1 < (s.d.g (bStr i) F.STR_CELL_WIN_WIN_LO : Int) * 65536) ∧
    (∃ (i : Fin 8) (k : Fin 32) (t : Nat) (s : State), (s.d.node (memberAt s.d i.val k.val)).preFrom = some t ∧ t + 250000 * s.d.g (bStr i.val) F.STR_BAL_CFG_PRE_TMO ≤ s.d.tick ∧ posState s.d i.val k.val = 2) :=
  ⟨⟨.spi, 0x10010000#32, 2#32, 0#32, 0#32, mk (fun d => ((inMode .run (string 0 1 3 d)).wr (bStr 0 + F.STR_ACTIVE.off) 7#32)), 0, spi_ready (by decide +kernel), by decide +kernel⟩,
    ⟨.spi, 0x10010000#32, 1#32, 0#32, 0#32, mk (fun d => ((setPos 0 1 1 ((inMode .run (string 0 1 3 d)).wr (bStr 0 + F.STR_ACTIVE.off) 7#32)).setTele 1 0 ⟨65536, 0, 0, true, 0, 0, true⟩).wr (bStr 0 + F.STR_CELL_WIN.off) 0xFFFF0000#32), 0, spi_ready (by decide +kernel), by decide +kernel⟩,
    ⟨.spi, 0x10010000#32, 1#32, 0#32, 0#32, mk (fun d => ((setPos 0 1 1 ((inMode .run (string 0 1 3 d)).wr (bStr 0 + F.STR_ACTIVE.off) 7#32)).setTele 1 0 ⟨0, 0, 0, true, 0, 0, true⟩).wr (bStr 0 + F.STR_CELL_WIN.off) 0xFFFF0001#32), 0, spi_ready (by decide +kernel), by decide +kernel⟩,
    ⟨0, 1, 0, mk (fun d => aged ((setPos 0 1 2 ((inMode .run (string 0 1 3 d)).wr (bStr 0 + F.STR_ACTIVE.off) 7#32)).setNode 1 (fun n => { n with preFrom := some 0 }))), by decide +kernel⟩⟩

theorem witness_CellCommandsChangePositions_2 :
    (∃ (i : Fin 8) (k : Fin 32) (s : State), ((∀ t, (s.d.node (memberAt s.d i.val k.val)).preFrom = some t → s.d.tick < t + 250000 * s.d.g (bStr i.val) F.STR_BAL_CFG_PRE_TMO))) ∧
    (∃ (p : Path) (a0 : Word) (a1 : Word) (a2 : Word) (_a3 : Word) (s : State) (i : Nat) (m : Nat), HostReady p s ∧ openHandle s.d a0 (some 1) = (0, .string i) ∧ i < 8 ∧ a1.toNat < 32 ∧ a1.toNat < s.d.g (bStr i) F.STR_CFG_MEMBERS ∧ s.d.kind i = 1 ∧ s.d.enabled (.string i) = true ∧ posState s.d i a1.toNat = 1 ∧ s.d.mode ≠ .load ∧ openHandle s.d a2 (some 2) = (0, .node m) ∧ m < 96 ∧ s.d.enabled (.node m) = true ∧ s.d.isCell m = true ∧ s.d.stringOf m = none) :=
  ⟨⟨0, 1, mk (fun d => (setPos 0 1 2 ((inMode .run (string 0 1 3 d)).wr (bStr 0 + F.STR_ACTIVE.off) 7#32)).setNode 1 (fun n => { n with preFrom := some 0 })), all_some (by decide +kernel)⟩,
    ⟨.spi, 0x10010000#32, 1#32, 0x20010005#32, 0#32, mk (fun d => let e := setPos 0 1 1 (((inMode .run (string 0 1 3 d)).wr (bStr 0 + F.STR_ACTIVE.off) 7#32)); (((createSlot (.node 5) e).p (bNode 5) F.NODE_CFG_CLASS 1).setEnabled (.node 5) true)), 0, 5, spi_ready (by decide +kernel), by decide +kernel⟩⟩

theorem witness_ProfilesTestsAndAdaptation_1 :
    (∃ (p : Path) (i : Fin 16) (w : Fin 16) (_v : Word) (s : State) (r : RegD), HostReady p s ∧ s.d.occupied (.profile i.val) = true ∧ 2 ≤ w.val ∧ locate (bProf i.val + 4 * w.val) = some ⟨.prof, i.val, 4 * w.val, some r⟩ ∧ ((w.val ≤ 5 → s.d.enabled (.profile i.val) = false))) ∧
    (∃ (p : Path) (a0 : Word) (a1 : Word) (_a2 : Word) (_a3 : Word) (s : State) (n : Nat), HostReady p s ∧ openHandle s.d a0 (some 2) = (0, .node n) ∧ n < 96 ∧ portUp s.d (s.d.portOf n) = true ∧ (s.d.node n).stRun = none ∧ (switchesOf (getBits a1 0 12)).all (notDriven s.d n) = true) ∧
    (∃ (n : Fin 96) (s : State), ((∀ t, (s.d.node n.val).recov = some t → s.d.tick < t))) ∧
    (∃ (n : Fin 96) (t : Nat) (s : State), (s.d.node n.val).recov = some t ∧ t ≤ s.d.tick) :=
  ⟨⟨.spi, 15, 2, 0#32, mk (fun d => createSlot (.profile 15) d), ((locate (bProf 15 + 8)).bind (·.reg)).getD ⟨0, 1, 0, 0, 0, 0, 0, .s⟩, spi_ready (by decide +kernel), by decide +kernel⟩,
    ⟨.spi, 0x20010000#32, 1#32, 1#32, 0#32, mk (fun d => inMode .hold (port 0 .ready (cells 1 d))), 0, spi_ready (by decide +kernel), by decide +kernel⟩,
    ⟨95, mk (fun d => d.setNode 95 (fun x => { x with recov := some 1 })), all_some (by decide +kernel)⟩,
    ⟨95, 0, mk (fun d => d.setNode 95 (fun x => { x with recov := some 0 })), by decide +kernel⟩⟩

theorem witness_ProfilesTestsAndAdaptation_2 :
    (∃ (s : State), s.d.tick < s.d.ms.adaptAt + 250000 * s.d.g bProt F.PROT_CFG_ADAPT_MS) ∧
    (∃ (s : State), s.d.ms.adaptAt + 250000 * s.d.g bProt F.PROT_CFG_ADAPT_MS ≤ s.d.tick) :=
  ⟨⟨State.reset, by decide +kernel⟩,
    ⟨mk aged, by decide +kernel⟩⟩

theorem witness_StartStepsFollowEachOther_1 :
    (∃ (n : Fin 96) (s : State), ((s.d.mode ≠ .charge ∨ rideActive s.d = false)) ∧ (s.d.node n.val).step = 1 ∧ (s.d.port (s.d.portOf n.val)).st = .token ∧ (s.d.node n.val).params = true) ∧
    (∃ (n : Fin 96) (s : State), ((s.d.mode ≠ .charge ∨ rideActive s.d = false)) ∧ (s.d.node n.val).step = 2 ∧ (s.d.node n.val).detAck = true ∧ (s.d.node n.val).setAck = true ∧ (s.d.node n.val).stRun = none) ∧
    (∃ (n : Fin 96) (s : State), ((s.d.mode ≠ .charge ∨ rideActive s.d = false)) ∧ (s.d.node n.val).step = 3 ∧ (s.d.node n.val).stDone = true) ∧
    (∃ (n : Fin 96) (s : State), s.d.tick < (s.d.node n.val).bsOff + 250000) :=
  ⟨⟨0, mk (fun d => (port 0 .token (cells 1 d)).setNode 0 (fun x => { x with step := 1, params := true })), by decide +kernel⟩,
    ⟨0, mk (fun d => (cells 1 d).setNode 0 (fun x => { x with step := 2, detAck := true, setAck := true })), by decide +kernel⟩,
    ⟨0, mk (fun d => (cells 1 d).setNode 0 (fun x => { x with step := 3, stDone := true })), by decide +kernel⟩,
    ⟨95, State.reset, by decide +kernel⟩⟩

theorem witness_StartStepsFollowEachOther_2 :
    (∃ (n : Fin 96) (s : State), (s.d.node n.val).step = 4 ∧ (s.d.node n.val).bsOff + 250000 ≤ s.d.tick) ∧
    (∃ (i : Fin 8) (s : State), s.d.enabled (.string i.val) = true ∧ (s.d.str i.val).stepsOpen = true ∧ (s.d.str i.val).timedOut = false ∧ (s.d.str i.val).startTick + 2500000 * s.d.g bProt F.PROT_CFG_STEP_TMO ≤ s.d.tick) :=
  ⟨⟨0, mk (fun d => aged ((cells 1 d).setNode 0 (fun x => { x with step := 4 }))), by decide +kernel⟩,
    ⟨7, mk (fun d => aged ((string 7 2 0 d).setStr 7 (fun t => { t with stepsOpen := true }))), by decide +kernel⟩⟩

theorem witness_SarSamplesAndInjections_1 :
    (∃ (vs : List Int) (s : State), vs.length = 16 ∧ adcOn s.d = true ∧ nextSample s.d / 64 = s.d.tick) ∧
    (∃ (vs : List Int) (s : State), vs.length = 16 ∧ ((adcOn s.d = false ∨ nextSample s.d / 64 ≠ s.d.tick))) ∧
    (∃ (vs : List Int) (_s : State), vs.length ≠ 16) ∧
    (∃ (e : Nat) (s : State), alignDue s.d e = false) :=
  ⟨⟨List.replicate 16 (-1000000), mk (fun d => { d with tick := nextSample d / 64 }), by decide +kernel⟩,
    ⟨List.replicate 16 0, mk (fun d => d.p bPwr F.PWR_STATE_STATE 3), by decide +kernel⟩,
    ⟨[], State.reset, by decide +kernel⟩,
    ⟨8000, State.reset, by decide +kernel⟩⟩

theorem witness_SarSamplesAndInjections_2 :
    (∃ (e : Nat) (s : State), alignDue s.d e = true) ∧
    (∃ (p : Path) (v : Word) (s : State), HostReady p s ∧ getBits v 0 1 = 1 ∧ s.d.gb bSens F.ADC_INJ_STATUS_FULL = false ∧ s.d.gb bSens F.ADC_INJ_STATUS_PENDING = false ∧ ((s.d.gb bSens F.ADC_CAL_STATUS_BUSY = false ∨ bitOf (s.d.g bSens F.ADC_INJ_CFG_MASK) (s.d.g bSens F.ADC_CAL_STATUS_CURRENT) = false))) ∧
    (∃ (p : Path) (v : Word) (s : State), HostReady p s ∧ getBits v 0 1 = 1 ∧ s.d.gb bSens F.ADC_INJ_STATUS_FULL = false ∧ s.d.gb bSens F.ADC_INJ_STATUS_PENDING = false ∧ s.d.gb bSens F.ADC_CAL_STATUS_BUSY = true ∧ bitOf (s.d.g bSens F.ADC_INJ_CFG_MASK) (s.d.g bSens F.ADC_CAL_STATUS_CURRENT) = true ∧ s.d.gb bSens F.ADC_INJ_STATUS_QUEUED = false) ∧
    (∃ (p : Path) (v : Word) (s : State), HostReady p s ∧ getBits v 0 1 = 1 ∧ ((s.d.gb bSens F.ADC_INJ_STATUS_FULL = true ∨ s.d.gb bSens F.ADC_INJ_STATUS_PENDING = true))) :=
  ⟨⟨8000, mk (fun d => (d.pb bSens F.ADC_TRIG_SRC true).setStr 0 (fun t => { t with started := true, evs := [⟨8000, false, 0⟩] })), by decide +kernel⟩,
    ⟨.spi, 1#32, State.reset, spi_ready (by decide +kernel), by decide +kernel⟩,
    ⟨.spi, 1#32, mk (fun d => (d.pb bSens F.ADC_CAL_STATUS_BUSY true).p bSens F.ADC_INJ_CFG_MASK 1), spi_ready (by decide +kernel), by decide +kernel⟩,
    ⟨.spi, 1#32, mk (fun d => d.pb bSens F.ADC_INJ_STATUS_PENDING true), spi_ready (by decide +kernel), by decide +kernel⟩⟩

theorem witness_SarSamplesAndInjections_3 :
    (∃ (p : Path) (v : Word) (s : State), HostReady p s ∧ getBits v 2 1 = 1) ∧
    (∃ (p : Path) (v : Word) (s : State), HostReady p s ∧ ((s.d.mode = .hold ∨ s.d.mode = .safe ∨ getBits v 20 1 = 0 ∨ channelInUse (getBits v 16 4) s.d = false))) :=
  ⟨⟨.spi, 4#32, State.reset, spi_ready (by decide +kernel), by decide +kernel⟩,
    ⟨.spi, 0#32, mk (inMode .hold), spi_ready (by decide +kernel), by decide +kernel⟩⟩

theorem witness_CalibrationRuns_1 :
    (∃ (p : Path) (v : Word) (s : State), HostReady p s ∧ s.d.shed = 0 ∧ ((∀ k < 16, bitOf (getBits v 0 16) k = true → chEnabled s.d k = true))) ∧
    (∃ (s : State), ((s.d.g bSens F.ADC_CAL_CFG_INTERVAL = 0 ∨ 1 ≤ s.d.shed ∨ s.d.tick < s.d.sens.schedAt + 250000000 * s.d.g bSens F.ADC_CAL_CFG_INTERVAL))) ∧
    (∃ (s : State), s.d.g bSens F.ADC_CAL_CFG_INTERVAL ≠ 0 ∧ s.d.shed = 0 ∧ s.d.sens.schedAt + 250000000 * s.d.g bSens F.ADC_CAL_CFG_INTERVAL ≤ s.d.tick) ∧
    (∃ (s : State) (k : Nat) (l : Nat), s.d.gb bSens F.ADC_CAL_STATUS_BUSY = false ∧ s.d.sens.inj = none ∧ adcOn s.d = true ∧ s.d.sens.last = some l ∧ l / 64 = s.d.tick ∧ (upto 16).find? (bitOf (s.d.g bSens F.ADC_CAL_STATUS_QUEUED)) = some k) :=
  ⟨⟨.spi, 0x8000#32, mk (fun d => d.p bSens F.ADC_CFG_CH_EN 0x8000), spi_ready (by decide +kernel), by decide +kernel⟩,
    ⟨mk (fun d => d.p bSens F.ADC_CAL_CFG_INTERVAL 0), by decide +kernel⟩,
    ⟨mk (fun d => aged (((d.p bSens F.ADC_CFG_CH_EN 1).p bSens F.ADC_CAL_CFG_INTERVAL 1).p bSens F.ADC_CAL_CFG_MODES 63)), by decide +kernel⟩,
    ⟨mk (fun d => { (d.p bSens F.ADC_CAL_STATUS_QUEUED 0x8000) with sens := { d.sens with last := some 0 } }), 15, 0, by decide +kernel⟩⟩

theorem witness_CalibrationRuns_2 :
    (∃ (s : State), ((s.d.gb bSens F.ADC_CAL_STATUS_BUSY = true ∨ s.d.sens.inj ≠ none ∨ adcOn s.d = false ∨ ∀ l, s.d.sens.last = some l → l / 64 ≠ s.d.tick))) ∧
    (∃ (_ofs : BitVec 16) (_gain : BitVec 16) (s : State), ((s.d.gb bSens F.ADC_CAL_STATUS_BUSY = false ∨ s.d.tick < s.d.sens.calFrom + 10000))) ∧
    (∃ (_ofs : BitVec 16) (_gain : BitVec 16) (s : State), s.d.gb bSens F.ADC_CAL_STATUS_BUSY = true ∧ s.d.sens.calFrom + 10000 ≤ s.d.tick) :=
  ⟨⟨mk (fun d => d.pb bSens F.ADC_CAL_STATUS_BUSY true), Or.inl (by decide +kernel)⟩,
    ⟨0#16, 0#16, State.reset, by decide +kernel⟩,
    ⟨0#16, 0#16, mk (fun d => aged (d.pb bSens F.ADC_CAL_STATUS_BUSY true)), by decide +kernel⟩⟩

theorem witness_SigmaDeltaInputs_1 :
    (∃ (i : Fin 24) (_bits : List Bool) (s : State), s.d.tick % (sdDiv s.d i.val * s.d.g (bSd i.val) F.SD_CFG_DECIM) ≠ 0) ∧
    (∃ (i : Fin 24) (_bits : List Bool) (s : State), s.d.gb (bSd i.val) F.SD_CFG_EN = true ∧ adcOn s.d = true ∧ s.d.tick % (sdDiv s.d i.val * s.d.g (bSd i.val) F.SD_CFG_DECIM) = 0) ∧
    (∃ (i : Fin 24) (_bits : List Bool) (s : State), s.d.gb (bSd i.val) F.SD_CFG_EN = true ∧ s.d.gb (bSd i.val) F.SD_FAST_FEN = true ∧ adcOn s.d = true) ∧
    (∃ (i : Fin 24) (s : State), s.d.gb (bSd i.val) F.SD_CFG_EN = true ∧ adcOn s.d = true ∧ (s.d.sd i.val).stuck = false) :=
  ⟨⟨23, [true], mk (fun d => { ((d.pb (bSd 23) F.SD_CFG_EN true).p (bSd 23) F.SD_CFG_DECIM 8) with tick := 1 }), by decide +kernel⟩,
    ⟨23, [true], mk (fun d => (d.pb (bSd 23) F.SD_CFG_EN true).pb (bSd 23) F.SD_FAST_FEN true), by decide +kernel⟩,
    ⟨23, [false], mk (fun d => (d.pb (bSd 23) F.SD_CFG_EN true).pb (bSd 23) F.SD_FAST_FEN true), by decide +kernel⟩,
    ⟨23, mk (fun d => (d.pb (bSd 23) F.SD_CFG_EN true).pb (bSd 23) F.SD_FAST_FEN true), by decide +kernel⟩⟩

theorem witness_SigmaDeltaInputs_2 :
    (∃ (i : Fin 24) (s : State), (s.d.sd i.val).stuck = true) ∧
    (∃ (i : Fin 24) (_bits : List Bool) (s : State), ((s.d.gb (bSd i.val) F.SD_CFG_EN = false ∨ adcOn s.d = false))) :=
  ⟨⟨23, mk (fun d => d.setSd 23 (fun x => { x with stuck := true })), by decide +kernel⟩,
    ⟨23, [], State.reset, by decide +kernel⟩⟩

theorem witness_SourcesCloseAndClear_1 :
    (∃ (n : Fin 512) (s : State), ((∀ t, (s.d.src n.val).win = some t → s.d.tick < t))) ∧
    (∃ (n : Fin 512) (t : Nat) (s : State), (s.d.src n.val).win = some t ∧ t ≤ s.d.tick) ∧
    (∃ (n : Fin 512) (s : State), ((∀ t, (s.d.src n.val).hold = some t → s.d.tick < t))) ∧
    (∃ (n : Fin 512) (t : Nat) (s : State), (s.d.src n.val).hold = some t ∧ t ≤ s.d.tick ∧ (s.d.src n.val).last = none) :=
  ⟨⟨511, State.reset, all_some (by decide +kernel)⟩,
    ⟨511, 0, mk (fun d => d.setSrc 511 (fun x => { x with win := some 0 })), by decide +kernel⟩,
    ⟨511, State.reset, all_some (by decide +kernel)⟩,
    ⟨511, 0, mk (fun d => d.setSrc 511 (fun x => { x with hold := some 0 })), by decide +kernel⟩⟩

theorem witness_SourcesCloseAndClear_2 :
    (∃ (n : Fin 512) (t : Nat) (s : State) (r : Rec), (s.d.src n.val).hold = some t ∧ t ≤ s.d.tick ∧ (s.d.src n.val).last = some r ∧ r.source = n.val ∧ s.d.flt.fifo.length < 1920) ∧
    (∃ (p : Path) (v : Word) (s : State), HostReady p s ∧ getBits v 12 1 = 1 ∧ getBits v 9 1 = 0 ∧ getBits v 10 2 = 0 ∧ srcExists (getBits v 0 9) = true ∧ s.d.gb bFlt F.FAULT_CLEAR_BUSY = false ∧ severeHeld s.d < 1024 ∧ causeActive s.d (getBits v 0 9) = false) ∧
    (∃ (p : Path) (v : Word) (s : State), HostReady p s ∧ getBits v 12 1 = 1 ∧ getBits v 9 1 = 0 ∧ getBits v 10 2 = 0 ∧ srcExists (getBits v 0 9) = true ∧ s.d.gb bFlt F.FAULT_CLEAR_BUSY = false ∧ severeHeld s.d < 1024 ∧ causeActive s.d (getBits v 0 9) = true) ∧
    (∃ (p : Path) (v : Word) (s : State), HostReady p s ∧ getBits v 12 1 = 1 ∧ getBits v 9 1 = 0 ∧ getBits v 10 2 ≠ 3 ∧ srcExists (getBits v 0 9) = false ∧ s.d.gb bFlt F.FAULT_CLEAR_BUSY = false) :=
  ⟨⟨511, 0, mk (fun d => d.setSrc 511 (fun x => { x with hold := some 0, last := some ⟨0, false, false, false, 511, 0, 0, 0, 0, 0, 0, 0, 0, 0, 0, 0, [], 0⟩ })), ⟨0, false, false, false, 511, 0, 0, 0, 0, 0, 0, 0, 0, 0, 0, 0, [], 0⟩, by decide +kernel⟩,
    ⟨.spi, 0x118C#32, State.reset, spi_ready (by decide +kernel), by decide +kernel⟩,
    ⟨.spi, 0x118C#32, mk (fun d => (d.setSrc 0x18C (fun x => { x with causes := [0x110C] })).pb (bFltState 0x18C) F.FLT_STATE_CAUSE true), spi_ready (by decide +kernel), by decide +kernel⟩,
    ⟨.spi, 0x11FE#32, State.reset, spi_ready (by decide +kernel), by decide +kernel⟩⟩

theorem witness_FaultPinsFifoAndTrace_1 :
    (∃ (p : Path) (_v : Word) (s : State), HostReady p s) ∧
    (∃ (s : State), ((∀ t, s.d.flt.pinMin = some t → s.d.tick < t))) ∧
    (∃ (t : Nat) (s : State), s.d.flt.pinMin = some t ∧ t ≤ s.d.tick) ∧
    (∃ (p : Path) (v : Word) (s : State), HostReady p s ∧ getBits v 0 1 = 1) :=
  ⟨⟨.spi, 1#32, State.reset, spi_ready (by decide +kernel)⟩,
    ⟨State.reset, all_some (by decide +kernel)⟩,
    ⟨0, mk (fun d => { d with flt := { d.flt with pinMin := some 0 } }), by decide +kernel⟩,
    ⟨.spi, 1#32, State.reset, spi_ready (by decide +kernel), by decide +kernel⟩⟩

theorem witness_FaultPinsFifoAndTrace_2 :
    (∃ (p : Path) (_v : Word) (s : State), HostReady p s) ∧
    (∃ (p : Path) (v : Word) (s : State), HostReady p s ∧ s.d.enabled .trace = true ∧ getBits v 0 1 = 1 ∧ getBits v 1 1 = 1 ∧ s.d.g bFlt F.TRC_STATUS_STATE = 1) ∧
    (∃ (p : Path) (s : State), HostReady p s) :=
  ⟨⟨.spi, 1#32, State.reset, spi_ready (by decide +kernel)⟩,
    ⟨.spi, 3#32, mk (fun d => (d.setEnabled .trace true).p bFlt F.TRC_STATUS_STATE 1), spi_ready (by decide +kernel), by decide +kernel⟩,
    ⟨.spi, State.reset, spi_ready (by decide +kernel)⟩⟩

theorem witness_PresenceAndRoles_1 :
    (∃ (s : State), ((pwrState s.d = 3 ∨ s.d.gb bSs F.SS_HEALTH_LOCKSTEP = true ∨ s.d.tick < s.d.pair.hbAt + 256))) ∧
    (∃ (s : State), pwrState s.d ≠ 3 ∧ s.d.gb bSs F.SS_HEALTH_LOCKSTEP = false ∧ s.d.pair.hbAt + 256 ≤ s.d.tick) ∧
    (∃ (s : State), s.d.tick < s.d.pair.hbIn + 750) ∧
    (∃ (s : State) (_l : Fin 4), linkOn s.d = false) :=
  ⟨⟨mk (fun d => d.p bPwr F.PWR_STATE_STATE 3), by decide +kernel⟩,
    ⟨mk aged, by decide +kernel⟩,
    ⟨State.reset, by decide +kernel⟩,
    ⟨mk (fun d => d.p bPwr F.PWR_STATE_STATE 3), 3, by decide +kernel⟩⟩

theorem witness_PresenceAndRoles_2 :
    (∃ (s : State) (l : Fin 4) (c : Instr) (d : Dev), (c, d) ∈ [(Instr.heartbeatLost, s.d.fresh.pb bSs F.SS_STATUS_HB_OK false), (.hbInEdge, (s.d.fresh.pb bSs F.SS_STATUS_HB_OK true).setPair (fun p => { p with hbIn := s.d.tick })), (.laneLost l, laneMoved l.val false s.d.fresh), (.pairLaneUp l, laneMoved l.val true s.d.fresh), (.peerPresentChange (!peerHere s.d), s.d.fresh.pb bDev F.DEV_STATUS_PEER_PRESENT (!peerHere s.d))] ∧ ((c = .heartbeatLost → s.d.pair.hbIn + 750 ≤ s.d.tick)) ∧ pwrState s.d = 0 ∧ pwrTrans s.d = false) ∧
    (∃ (s : State), s.d.img.resolving = true ∧ s.d.role = .out ∧ s.d.gb bDev F.DEV_STATUS_EJECT = false ∧ pwrState s.d < 2) ∧
    (∃ (s : State), s.d.img.resolving = true ∧ s.d.gb bDev F.DEV_STATUS_EJECT = true) ∧
    (∃ (s : State), s.d.img.resolving = false) :=
  ⟨⟨State.reset, 3, .laneLost 3, laneMoved 3 false State.reset.d.fresh, ⟨List.mem_cons_of_mem _ (List.mem_cons_of_mem _ (List.mem_cons_self ..)), (by intro h; cases h), by decide +kernel⟩⟩,
    ⟨mk (fun d => { d with img := { d.img with resolving := true } }), by decide +kernel⟩,
    ⟨mk (fun d => { (d.pb bDev F.DEV_STATUS_EJECT true) with img := { d.img with resolving := true } }), by decide +kernel⟩,
    ⟨State.reset, by decide +kernel⟩⟩

theorem witness_PresenceAndRoles_3 :
    ∃ (d : Dev) (x : PeerId), d.pair.peer = some x ∧ d.gb bDev F.DEV_STATUS_PREF = x.pref ∧ d.g bDev F.DEV_STATUS_SLOT_ID < x.slot :=
  ⟨Dev.reset.setPair (fun p => { p with peer := some ⟨0#512, 0, 64, false, .out, false⟩ }), ⟨0#512, 0, 64, false, .out, false⟩, rfl, by decide +kernel⟩

theorem witness_PairCommands_1 :
    (∃ (p : Path) (_a0 : Word) (_a1 : Word) (_a2 : Word) (_a3 : Word) (s : State), HostReady p s ∧ s.d.role = .active ∧ s.d.gb bSs F.SS_STATUS_PEER_ELIGIBLE = true ∧ busyPair s.d = false) ∧
    (∃ (p : Path) (_a0 : Word) (_a1 : Word) (_a2 : Word) (_a3 : Word) (s : State), HostReady p s ∧ s.d.role = .active ∧ s.d.gb bSs F.SS_STATUS_PEER_ELIGIBLE = true ∧ s.d.pair.sw = none) ∧
    (∃ (p : Path) (_a0 : Word) (_a1 : Word) (_a2 : Word) (_a3 : Word) (s : State), HostReady p s ∧ ((s.d.role = .out ∨ (s.d.role = .solo ∧ (s.d.mode = .hold ∨ s.d.mode = .load))))) ∧
    (∃ (p : Path) (_a0 : Word) (_a1 : Word) (_a2 : Word) (_a3 : Word) (s : State), HostReady p s ∧ s.d.role = .out ∧ peerHere s.d = true) :=
  ⟨⟨.spi, 0#32, 0#32, 0#32, 0#32, mk (fun d => (inRole .active d).pb bSs F.SS_STATUS_PEER_ELIGIBLE true), spi_ready (by decide +kernel), by decide +kernel⟩,
    ⟨.spi, 0#32, 0#32, 0#32, 0#32, mk (fun d => (inRole .active d).pb bSs F.SS_STATUS_PEER_ELIGIBLE true), spi_ready (by decide +kernel), by decide +kernel⟩,
    ⟨.spi, 0#32, 0#32, 0#32, 0#32, State.reset, spi_ready (by decide +kernel), by decide +kernel⟩,
    ⟨.spi, 0#32, 0#32, 0#32, 0#32, mk (fun d => d.pb bDev F.DEV_STATUS_PEER_PRESENT true), spi_ready (by decide +kernel), by decide +kernel⟩⟩

theorem witness_PairCommands_2 :
    ∃ (p : Path) (_a0 : Word) (_a1 : Word) (_a2 : Word) (_a3 : Word) (s : State), HostReady p s ∧ s.d.role = .active ∧ busyPair s.d = false :=
  ⟨.spi, 0#32, 0#32, 0#32, 0#32, mk (fun d => (inRole .active d).pb bSs F.SS_STATUS_PEER_ELIGIBLE true), spi_ready (by decide +kernel), by decide +kernel⟩

theorem witness_MirrorItemsAreTaken_1 :
    (∃ (s : State) (g : Fin 8) (tf : Nat) (_snap : List (Nat × Word × Bool)) (f : Firing), s.d.follows = true ∧ (s.d.rg g.val).fir = some f ∧ f.latched = true ∧ f.wait = true ∧ f.tf = tf ∧ s.d.tick ≤ f.latch + s.d.g bSs F.SS_CFG_MWAIT) ∧
    (∃ (s : State) (g : Fin 8) (_tf : Nat) (_snap : List (Nat × Word × Bool)), s.d.follows = true ∧ (s.d.rg g.val).fir = none) ∧
    (∃ (s : State) (g : Fin 8) (f : Firing), (s.d.rg g.val).fir = some f ∧ s.d.tick < f.latch + s.d.g bSs F.SS_CFG_MWAIT) ∧
    (∃ (s : State) (g : Fin 8) (f : Firing), (s.d.rg g.val).fir = some f ∧ f.latched = true ∧ f.wait = true ∧ f.latch + s.d.g bSs F.SS_CFG_MWAIT ≤ s.d.tick) :=
  ⟨⟨mk (fun d => { (following d).setRg 7 (fun x => { x with fir := some { firing with latched := true, wait := true } }) with tick := 0 }), 7, 0, [], { firing with latched := true, wait := true }, by decide +kernel⟩,
    ⟨mk (fun d => { (following d).setRg 7 (fun x => { x with fir := none }) with tick := 0 }), 7, 9, [], by decide +kernel⟩,
    ⟨mk (fun d => { (following d).setRg 7 (fun x => { x with fir := some { firing with latched := true, wait := true } }) with tick := 0 }), 7, { firing with latched := true, wait := true }, by decide +kernel⟩,
    ⟨mk (fun d => { (following d).setRg 7 (fun x => { x with fir := some { firing with latched := true, wait := true } }) with tick := 10 ^ 12 }), 7, { firing with latched := true, wait := true }, by decide +kernel⟩⟩

theorem witness_MirrorItemsAreTaken_2 :
    (∃ (s : State) (_a : Nat) (_v : Word), s.d.follows = true ∧ s.d.Quiet) ∧
    (∃ (s : State) (m : Mode) (_why : BitVec 8), s.d.follows = true ∧ s.d.mode ≠ m) ∧
    (∃ (s : State) (_src : Fin 512) (_kind : BitVec 16) (_c : Option Bool) (_sev : Bool) (_form : Option Form) (_hi : BitVec 32) (_data : List Byte), s.d.role = .standby) ∧
    (∃ (s : State) (_x : DtCopy), s.d.follows = true) :=
  ⟨⟨mk following, 0, 0#32, by decide +kernel⟩,
    ⟨mk following, .run, 3#8, by decide +kernel⟩,
    ⟨mk following, 511, 0#16, none, true, none, 0#32, [], by decide +kernel⟩,
    ⟨mk following, ⟨95, 5, 1, 1, 2, 2⟩, by decide +kernel⟩⟩

theorem witness_MirrorItemsAreTaken_3 :
    (∃ (s : State) (_start : Nat) (_hor : BitVec 24), s.d.follows = true) ∧
    (∃ (s : State) (_add : Int) (_jump : Int) (_fi : Int) (_st : Fin 4), s.d.follows = true) ∧
    (∃ (s : State) (g : Fin 8) (tf : Nat) (snap : List (Nat × Word × Bool)) (m : Mode) (why : BitVec 8) (src : Fin 512) (kind : BitVec 16) (c : Option Bool) (sev : Bool) (form : Option Form) (hi : BitVec 32) (data : List Byte) (l : List DtCopy) (start : Nat) (hor : BitVec 24) (add : Int) (jump : Int) (fi : Int) (st : Fin 4) (i : Instr), s.d.owns = true ∧ s.d.g bSs F.SS_STATUS_SYNC = 0 ∧ s.d.Quiet ∧ i ∈ [Instr.mirrorSnapshot g tf snap, .mirrorMode m why, .mirrorEvent src kind c sev form hi data, .mirrorDtLatch l, .mirrorTokenFrame start hor, .mirrorTime add jump fi st]) :=
  ⟨⟨mk following, 512, 0#24, by decide +kernel⟩,
    ⟨mk following, 0, 0, 0, 2, by decide +kernel⟩,
    ⟨mk (inRole .active), 7, 0, [], .run, 0#8, 0, 0#16, none, false, none, 0#32, [], [], 0, 0#24, 0, 0, 0, 0, .mirrorMode .run 0#8, ⟨by decide +kernel, by decide +kernel, by decide +kernel, List.mem_cons_of_mem _ (List.mem_cons_self ..)⟩⟩⟩

theorem witness_DigestsAndReplays_1 :
    (∃ (s : State) (g : Fin 8) (tf : Nat) (x : BitVec 64) (_p : BitVec 64) (k : Kept), ((s.d.role = .active ∨ s.d.follows = true)) ∧ s.d.pair.kept.find? (fun y => y.g == g.val && y.tf == tf) = some k ∧ k.d = some x ∧ ((k.compared = true ∨ s.d.follows = false))) ∧
    (∃ (s : State) (g : Fin 8) (tf : Nat) (d : Option (BitVec 64)) (_p : BitVec 64) (k : Kept), ((s.d.role = .active ∨ s.d.follows = true)) ∧ s.d.pair.kept.find? (fun y => y.g == g.val && y.tf == tf) = some k ∧ ((k.d = none ∨ k.d ≠ d)) ∧ ((k.compared = true ∨ s.d.follows = false))) ∧
    (∃ (s : State) (g : Fin 8) (tf : Nat) (_d : Option (BitVec 64)) (_p : BitVec 64), ((s.d.role = .active ∨ s.d.follows = true)) ∧ s.d.pair.kept.find? (fun y => y.g == g.val && y.tf == tf) = none ∧ busyPair s.d = false ∧ ((s.d.role = .active ∨ s.d.g bSs F.SS_STATUS_SYNC = 7))) ∧
    (∃ (s : State) (g : Fin 8) (tf : Nat) (_d : Option (BitVec 64)) (_p : BitVec 64) (k : Kept), s.d.follows = true ∧ s.d.pair.kept.find? (fun y => y.g == g.val && y.tf == tf) = some k ∧ k.compared = false) :=
  ⟨⟨mk (fun d => (inRole .active d).setPair (fun p => { p with kept := [retained] })), 7, 5, 1#64, 0#64, retained, by decide +kernel⟩,
    ⟨mk (fun d => (inRole .active d).setPair (fun p => { p with kept := [retained] })), 7, 5, none, 0#64, retained, by decide +kernel⟩,
    ⟨mk (inRole .active), 7, 5, none, 0#64, by decide +kernel⟩,
    ⟨mk (fun d => (following d).setPair (fun p => { p with kept := [{ retained with compared := false }] })), 7, 5, none, 0#64, { retained with compared := false }, by decide +kernel⟩⟩

theorem witness_DigestsAndReplays_2 :
    (∃ (s : State) (r : Replay) (_own : BitVec 64) (_peer : BitVec 64), s.d.pair.replay = some r) ∧
    (∃ (s : State) (r : Replay), s.d.pair.replay = some r ∧ s.d.tick < r.since + 250000 * s.d.g bSs F.SS_CFG_REPLAY_MAX) ∧
    (∃ (s : State) (r : Replay), s.d.pair.replay = some r ∧ r.since + 250000 * s.d.g bSs F.SS_CFG_REPLAY_MAX ≤ s.d.tick) ∧
    (∃ (s : State) (t : Nat), s.d.pair.resync = some t ∧ s.d.tick < t + 50000000) :=
  ⟨⟨mk (fun d => d.setPair (fun p => { p with replay := some ⟨7, 5, 0, (none, 0#64), (none, 0#64)⟩ })), ⟨7, 5, 0, (none, 0#64), (none, 0#64)⟩, 0#64, 1#64, by decide +kernel⟩,
    ⟨mk (fun d => d.setPair (fun p => { p with replay := some ⟨7, 5, 0, (none, 0#64), (none, 0#64)⟩ })), ⟨7, 5, 0, (none, 0#64), (none, 0#64)⟩, by decide +kernel⟩,
    ⟨mk (fun d => aged (d.setPair (fun p => { p with replay := some ⟨7, 5, 0, (none, 0#64), (none, 0#64)⟩ }))), ⟨7, 5, 0, (none, 0#64), (none, 0#64)⟩, by decide +kernel⟩,
    ⟨mk (fun d => d.setPair (fun p => { p with resync := some 0 })), 0, by decide +kernel⟩⟩

theorem witness_DigestsAndReplays_3 :
    ∃ (s : State) (t : Nat), s.d.pair.resync = some t ∧ t + 50000000 ≤ s.d.tick :=
  ⟨mk (fun d => aged (d.setPair (fun p => { p with resync := some 0 }))), 0, by decide +kernel⟩

theorem witness_HealthAndSwitchOver_1 :
    (∃ (s : State) (_health : BitVec 8) (_elig : Bool) (_sev : Bool) (_role : Role) (_ph : Fin 8) (tk : Nat) (_dec : Option Nat), pwrState s.d < 2 ∧ ((tk = s.d.tick ∨ (s.d.role ≠ .standby ∧ s.d.g bSs F.SS_STATUS_SYNC < 4)))) ∧
    (∃ (s : State) (_health : BitVec 8) (_elig : Bool) (_sev : Bool) (_role : Role) (_ph : Fin 8) (tk : Nat) (_dec : Option Nat), tk ≠ s.d.tick ∧ ((s.d.role = .standby ∨ 4 ≤ s.d.g bSs F.SS_STATUS_SYNC))) ∧
    (∃ (s : State) (_bit : Fin 8) (_fail : Bool) (_eng : Fin 16), s.d.shed = 0) ∧
    (∃ (_s : Dev) (bit : Fin 8), bit.val < 3) :=
  ⟨⟨State.reset, 255#8, true, false, .standby, 7, 1, none, by decide +kernel⟩,
    ⟨mk following, 255#8, true, false, .active, 0, 1, none, by decide +kernel⟩,
    ⟨State.reset, 7, true, 15, by decide +kernel⟩,
    ⟨Dev.reset, 2, by decide +kernel⟩⟩

theorem witness_HealthAndSwitchOver_2 :
    (∃ (s : State) (_bit : Fin 8) (_fail : Bool) (_eng : Fin 16), 1 ≤ s.d.shed) ∧
    (∃ (s : State), ((∀ w, s.d.pair.sw = some w → s.d.tick ≠ w.first))) ∧
    (∃ (s : State) (w : SwitchSt), s.d.pair.sw = some w ∧ s.d.tick = w.first ∧ w.take = true ∧ s.d.role = .standby ∧ pwrState s.d < 2 ∧ max (s.d.g bSs F.SS_TERM_TERM) (topTerm s.d) + 1 < 2 ^ 32) ∧
    (∃ (s : State) (w : SwitchSt), s.d.pair.sw = some w ∧ s.d.tick = w.first ∧ w.take = false ∧ s.d.role = .active) :=
  ⟨⟨mk (fun d => d.p bPwr F.PWR_SHED_STAGE 1), 7, true, 15, by decide +kernel⟩,
    ⟨State.reset, all_some (by decide +kernel)⟩,
    ⟨mk (fun d => { (following d).setPair (fun p => { p with sw := some ⟨0, 512, true, false, false⟩ }) with tick := 512 }), ⟨0, 512, true, false, false⟩, by decide +kernel⟩,
    ⟨mk (fun d => { (inRole .active d).setPair (fun p => { p with sw := some ⟨0, 512, false, false, false⟩ }) with tick := 512 }), ⟨0, 512, false, false, false⟩, by decide +kernel⟩⟩

theorem witness_HealthAndSwitchOver_3 :
    (∃ (s : State) (t : Nat), eligible s.d = true ∧ preferred s.d = true ∧ s.d.gb bSs F.SS_CFG_REVERT_EN = true ∧ s.d.pair.sw = none ∧ s.d.pair.eligFrom = some t ∧ s.d.g bSs F.SS_REVERT_HOLD * 250000000 ≤ s.d.tick - t ∧ ((s.d.mode = .hold ∨ s.d.mode = .run)) ∧ s.d.trans = false ∧ ((∀ i < 8, (s.d.str i).chg = none)) ∧ anySevere s.d = false ∧ s.d.pair.peerSevere = false ∧ s.d.shed = 0 ∧ s.d.gb bSs F.SS_CTRL_NO_REVERT = false ∧ s.d.gb bSs F.SS_STATUS_REVERT_BLOCK = false) ∧
    (∃ (s : State), ((eligible s.d = false ∨ preferred s.d = false ∨ s.d.gb bSs F.SS_CFG_REVERT_EN = false ∨ (s.d.mode ≠ .hold ∧ s.d.mode ≠ .run) ∨ s.d.trans = true ∨ anySevere s.d = true ∨ s.d.pair.peerSevere = true ∨ 1 ≤ s.d.shed ∨ s.d.gb bSs F.SS_CTRL_NO_REVERT = true ∨ s.d.gb bSs F.SS_STATUS_REVERT_BLOCK = true ∨ (∀ t, s.d.pair.eligFrom = some t → s.d.tick - t < s.d.g bSs F.SS_REVERT_HOLD * 250000000)))) :=
  ⟨⟨mk (fun d => let e := (((inMode .run (following d)).pb bDev F.DEV_STATUS_PREF true).pb bSs F.SS_CFG_REVERT_EN true); (aged e).setPair (fun p => { p with eligFrom := some 0 })), 0, by decide +kernel⟩,
    ⟨State.reset, Or.inl (by decide +kernel)⟩⟩

theorem witness_JoinPhases_1 :
    (∃ (s : State), s.d.g bSs F.SS_STATUS_SYNC = 1 ∧ 0 < lanesUsed s.d ∧ hbLost s.d = false) ∧
    (∃ (s : State) (x : PeerId), s.d.g bSs F.SS_STATUS_SYNC = 2 ∧ s.d.role = .out ∧ ((x.role = .active ∨ x.role = .solo))) ∧
    (∃ (s : State) (x : PeerId), s.d.g bSs F.SS_STATUS_SYNC = 2 ∧ s.d.role = .out ∧ x.role = .out ∧ x.joining = false ∧ x.digest = ownDigest s.d ∧ x.version = Config.seesawVersion s.d.img.runFw ∧ pwrState s.d < 2) ∧
    (∃ (s : State) (x : PeerId), s.d.g bSs F.SS_STATUS_SYNC = 2 ∧ s.d.role = .out ∧ ((x.role = .out ∨ x.role = .standby)) ∧ x.digest ≠ ownDigest s.d ∧ pwrState s.d < 2) :=
  ⟨⟨mk (fun d => ((d.p bSs F.SS_STATUS_SYNC 1).pb bSs F.SS_STATUS_HB_OK true).setPair (fun p => { p with lanes := 1 })), by decide +kernel⟩,
    ⟨mk (fun d => d.p bSs F.SS_STATUS_SYNC 2), ⟨0#512, 0, 0, false, .solo, false⟩, by decide +kernel⟩,
    ⟨mk (fun d => d.p bSs F.SS_STATUS_SYNC 2), ⟨ownDigest (mk (fun d => d.p bSs F.SS_STATUS_SYNC 2)).d, Config.seesawVersion (mk (fun d => d.p bSs F.SS_STATUS_SYNC 2)).d.img.runFw, 0, false, .out, false⟩, ⟨by decide +kernel, by decide +kernel, rfl, rfl, rfl, rfl, by decide +kernel⟩⟩,
    ⟨mk (fun d => d.p bSs F.SS_STATUS_SYNC 2), ⟨ownDigest (mk (fun d => d.p bSs F.SS_STATUS_SYNC 2)).d + 1, 0, 0, false, .out, false⟩, ⟨by decide +kernel, by decide +kernel, Or.inl rfl, digest_ne _, by decide +kernel⟩⟩⟩

theorem witness_JoinPhases_2 :
    (∃ (s : State) (_t : TimeCopy), s.d.g bSs F.SS_STATUS_SYNC = 3) ∧
    (∃ (s : State), s.d.g bSs F.SS_STATUS_SYNC = 4 ∧ portsFit s.d = true) ∧
    (∃ (s : State) (b : BulkCopy), s.d.g bSs F.SS_STATUS_SYNC = 5 ∧ b.term < 2 ^ 32) ∧
    (∃ (s : State), s.d.g bSs F.SS_STATUS_SYNC = 6 ∧ verified s.d = true) :=
  ⟨⟨mk (fun d => d.p bSs F.SS_STATUS_SYNC 3), ⟨0, 0, 0, 0, 0, 0, 0, false⟩, by decide +kernel⟩,
    ⟨mk (fun d => d.p bSs F.SS_STATUS_SYNC 4), by decide +kernel⟩,
    ⟨mk (fun d => d.p bSs F.SS_STATUS_SYNC 5), ⟨[], [], [], [], [], [], [], [], [], .run, 3, 4294967295⟩, by decide +kernel⟩,
    ⟨mk (fun d => d.p bSs F.SS_STATUS_SYNC 6), by decide +kernel⟩⟩

theorem witness_JoinPhases_3 :
    (∃ (s : State), s.d.tick < s.d.pair.phaseFrom + phaseLimit (s.d.g bSs F.SS_STATUS_SYNC)) ∧
    (∃ (s : State), 1 ≤ s.d.g bSs F.SS_STATUS_SYNC ∧ s.d.g bSs F.SS_STATUS_SYNC < 7 ∧ s.d.pair.phaseFrom + phaseLimit (s.d.g bSs F.SS_STATUS_SYNC) ≤ s.d.tick ∧ pwrState s.d < 2) ∧
    (∃ (s : State) (t : Nat), s.d.pair.retry = some t ∧ s.d.tick < t) ∧
    (∃ (s : State) (t : Nat), s.d.pair.retry = some t ∧ t ≤ s.d.tick ∧ pairOn s.d = true ∧ s.d.role = .out ∧ s.d.g bSs F.SS_STATUS_SYNC = 0 ∧ s.d.pair.ejected = false ∧ pwrState s.d < 2) :=
  ⟨⟨mk (fun d => d.p bSs F.SS_STATUS_SYNC 6), by decide +kernel⟩,
    ⟨mk (fun d => aged (d.p bSs F.SS_STATUS_SYNC 6)), by decide +kernel⟩,
    ⟨mk (fun d => (d.pb bSs F.SS_CFG_PAIR_EN true).setPair (fun p => { p with retry := some 1 })), 1, by decide +kernel⟩,
    ⟨mk (fun d => (d.pb bSs F.SS_CFG_PAIR_EN true).setPair (fun p => { p with retry := some 0 })), 0, by decide +kernel⟩⟩

theorem witness_EjectionAndWithdrawal :
    (∃ (s : State), ((∀ t, s.d.pair.ejectFree = some t → (s.d.tick : Int) < t + 250000000))) ∧
    (∃ (s : State) (t : Int), s.d.pair.ejectFree = some t ∧ t + 250000000 ≤ (s.d.tick : Int) ∧ pwrState s.d < 2) :=
  ⟨⟨State.reset, all_some (by decide +kernel)⟩,
    ⟨mk (fun d => aged (d.setPair (fun p => { p with ejectFree := some 0 }))), 0, by decide +kernel⟩⟩

theorem witness_ReferencesAreQualified_1 :
    (∃ (s : State) (c : Instr) (x : Fin 2), ((c = Instr.refEdgeMissing x ∨ ∃ ppb : Int, c = .refFreqMeasure x ppb ∧ srcEnabled s.d x.val = true ∧ (s.d.g bClk F.CLK_QUAL_TOL * 1000 : Int) < absI ppb))) ∧
    (∃ (s : State) (x : Fin 2) (ppb : Int), srcEnabled s.d x.val = true ∧ absI ppb ≤ (s.d.g bClk F.CLK_QUAL_TOL * 1000 : Int)) ∧
    (∃ (s : State) (x : Fin 2), srcEnabled s.d x.val = true ∧ (if x.val = 0 then s.d.clk.goodA else s.d.clk.goodB) + 250000 * s.d.g bClk F.CLK_QUAL_QUAL ≤ s.d.tick) ∧
    (∃ (s : State) (x : Fin 2), ((srcEnabled s.d x.val = false ∨ s.d.tick < (if x.val = 0 then s.d.clk.goodA else s.d.clk.goodB) + 250000 * s.d.g bClk F.CLK_QUAL_QUAL))) :=
  ⟨⟨State.reset, .refEdgeMissing 1, 1, Or.inl rfl⟩,
    ⟨mk (fun d => aged (d.pb bClk F.CLK_REFB_EN true)), 1, 0, by decide +kernel⟩,
    ⟨mk (fun d => aged (d.pb bClk F.CLK_REFB_EN true)), 1, by decide +kernel⟩,
    ⟨mk (fun d => d.pb bClk F.CLK_REFB_EN false), 1, by decide +kernel⟩⟩

theorem witness_ReferencesAreQualified_2 :
    (∃ (p : Path) (_v : Word) (s : State), HostReady p s) ∧
    (∃ (d : Dev) (x : Nat), chosen d = some x) :=
  ⟨⟨.spi, 0#32, State.reset, spi_ready (by decide +kernel)⟩,
    ⟨((Dev.reset.pb bClk F.CLK_SEL_FORCE_EN true).p bClk F.CLK_SEL_FORCE 2), 2, by decide +kernel⟩⟩

theorem witness_FrequencyChanges_1 :
    (∃ (p : Path) (s : State), HostReady p s ∧ s.d.clk.op = none ∧ s.d.mode ≠ .ride ∧ (-40000000 ≤ (sgn 32 (s.d.rd (bClk + F.CLK_VCO_OFS.off)).toNat)) ∧ (sgn 32 (s.d.rd (bClk + F.CLK_VCO_OFS.off)).toNat) ≤ 0 ∧ s.d.g bClk F.CLK_DIV_CORE ∈ [4, 5, 8, 16] ∧ (((s.d.g bClk F.CLK_DIV_CORE != s.d.gF bClk F.CLK_DIV_CORE) = true ∨ 5 * (1000000000 + ofsInForce s.d).toNat < absI ((sgn 32 (s.d.rd (bClk + F.CLK_VCO_OFS.off)).toNat) - ofsInForce s.d) * 1000 → s.d.mode = .hold ∨ s.d.mode = .load))) ∧
    (∃ (p : Path) (s : State), HostReady p s ∧ s.d.clk.op ≠ none) ∧
    (∃ (p : Path) (s : State), HostReady p s ∧ s.d.clk.op = none ∧ ((s.d.mode = .load ∨ s.d.mode = .hold))) ∧
    (∃ (p : Path) (s : State), HostReady p s ∧ s.d.clk.op = none ∧ ((s.d.mode = .load ∨ s.d.mode = .hold)) ∧ s.d.gb bClk F.CLK_CFG_SYNC_IN_EN = true) :=
  ⟨⟨.spi, State.reset, spi_ready (by decide +kernel), by decide +kernel⟩,
    ⟨.spi, mk (fun d => (id d).setClk (fun c => { c with op := some (.arm) })), spi_ready (by decide +kernel), by decide +kernel⟩,
    ⟨.spi, mk (inMode .hold), spi_ready (by decide +kernel), by decide +kernel⟩,
    ⟨.spi, mk (fun d => (inMode .hold d).pb bClk F.CLK_CFG_SYNC_IN_EN true), spi_ready (by decide +kernel), by decide +kernel⟩⟩

theorem witness_FrequencyChanges_2 :
    (∃ (p : Path) (s : State), HostReady p s ∧ s.d.clk.op = none ∧ (((s.d.mode ≠ .load ∧ s.d.mode ≠ .hold) ∨ s.d.gb bClk F.CLK_CFG_SYNC_IN_EN = false))) ∧
    (∃ (s : State) (cmd : Bool) (ofs : Int), s.d.clk.op = some (.glide cmd ofs)) ∧
    (∃ (s : State) (ofs : Int) (t : Nat) (_temp : BitVec 16) (_found : Fin 64) (_tune : Bool), s.d.clk.op = some (.hop ofs t)) ∧
    (∃ (s : State) (ofs : Int) (t : Nat), s.d.clk.op = some (.hop ofs t) ∧ s.d.tick < t + 2500000) :=
  ⟨⟨.spi, mk (inMode .safe), spi_ready (by decide +kernel), by decide +kernel⟩,
    ⟨mk (fun d => (id d).setClk (fun c => { c with op := some (.glide true 0) })), true, 0, by decide +kernel⟩,
    ⟨mk (fun d => (id d).setClk (fun c => { c with op := some (.hop 0 0) })), 0, 0, 0#16, 63, true, by decide +kernel⟩,
    ⟨mk (fun d => (id d).setClk (fun c => { c with op := some (.hop 0 0) })), 0, 0, by decide +kernel⟩⟩

theorem witness_FrequencyChanges_3 :
    ∃ (s : State) (ofs : Int) (t : Nat), s.d.clk.op = some (.hop ofs t) ∧ t + 2500000 ≤ s.d.tick :=
  ⟨mk (fun d => (aged d).setClk (fun c => { c with op := some (.hop 0 0) })), 0, 0, by decide +kernel⟩

theorem witness_LockIsLostAndRegained_1 :
    (∃ (s : State) (x : Nat) (_phase : Int), clkState s.d = 3 ∧ returnTo s.d = some x ∧ s.d.mode ≠ .ride ∧ s.d.clk.op = none ∧ onOnyx s.d = false) ∧
    (∃ (s : State) (x : Nat) (_phase : Int), ((clkState s.d = 1 ∨ clkState s.d = 2)) ∧ s.d.gb bClk F.CLK_STATUS_WAIT_RIDE = true ∧ s.d.mode ≠ .ride ∧ chosen s.d = some x ∧ x < 2 ∧ s.d.g bClk F.CLK_STATUS_SRC ≠ x ∧ s.d.clk.op = none ∧ onOnyx s.d = false) ∧
    (∃ (s : State) (_phase : Int), s.d.mode = .ride) ∧
    (∃ (s : State) (_tune : Bool), clkState s.d = 1) :=
  ⟨⟨mk (fun d => (((d.pb bClk F.CLK_SEL_FORCE_EN true).p bClk F.CLK_SEL_FORCE 2).pb bClk F.CLK_STATUS_ON_ONYX false).p bClk F.CLK_STATUS_STATE 3), 2, 0, by decide +kernel⟩,
    ⟨mk (fun d => (((((inMode .run d).p bClk F.CLK_STATUS_STATE 2).pb bClk F.CLK_STATUS_WAIT_RIDE true).pb bClk F.CLK_REFA_EN true).p bClk F.CLK_STATUS_QUALIFIED 5).p bClk F.CLK_STATUS_SRC 2 |>.pb bClk F.CLK_STATUS_ON_ONYX false), 0, 0, by decide +kernel⟩,
    ⟨mk (inMode .ride), 0, by decide +kernel⟩,
    ⟨mk (fun d => d.p bClk F.CLK_STATUS_STATE 1), true, by decide +kernel⟩⟩

theorem witness_LockIsLostAndRegained_2 :
    (∃ (s : State) (c : Instr), ((c = Instr.overspeed ∨ (c = .pllUnlock ∧ (clkState s.d = 2 ∨ clkState s.d = 3)))) ∧ onOnyx s.d = false) ∧
    (∃ (s : State) (c : Instr), c ∈ [Instr.overspeed, .pllUnlock] ∧ onOnyx s.d = true) ∧
    (∃ (s : State) (_err : Int), s.d.clk.op = some .arm) ∧
    (∃ (s : State) (_err : Int), s.d.clk.op ≠ some .arm ∧ ((s.d.role = .standby ∨ 3 ≤ s.d.g bSs F.SS_STATUS_SYNC))) :=
  ⟨⟨mk (fun d => (d.p bClk F.CLK_STATUS_STATE 2).pb bClk F.CLK_STATUS_ON_ONYX false), .pllUnlock, ⟨Or.inr ⟨rfl, Or.inl (by decide +kernel)⟩, by decide +kernel⟩⟩,
    ⟨mk (fun d => d.pb bClk F.CLK_STATUS_ON_ONYX true), .overspeed, ⟨List.mem_cons_self .., by decide +kernel⟩⟩,
    ⟨mk (fun d => (id d).setClk (fun c => { c with op := some (.arm) })), 33, by decide +kernel⟩,
    ⟨mk following, 33, by decide +kernel⟩⟩

theorem witness_PtpMessagesAreTaken_1 :
    (∃ (s : State) (h : PtpHdr) (_origin : Nat), h.wf = true ∧ ocTakes s.d h = true ∧ fromMaster s.d h = true ∧ h.twoStep = false) ∧
    (∃ (s : State) (h : PtpHdr) (_origin : Nat), h.wf = true ∧ ocTakes s.d h = true ∧ fromMaster s.d h = true ∧ h.twoStep = true) ∧
    (∃ (s : State) (h : PtpHdr) (w : SyncWait) (_precise : Nat), h.wf = true ∧ ocTakes s.d h = true ∧ fromMaster s.d h = true ∧ s.d.tb.wait = some w ∧ w.seq = h.seq) ∧
    (∃ (s : State) (h : PtpHdr) (_origin : Nat) (_precise : Nat), h.wf = true ∧ ((ocTakes s.d h = false ∨ fromMaster s.d h = false))) :=
  ⟨⟨mk (fun d => ((fun d => inRole .solo (((d.setEnabled .ptp true).pb (bPtpPort 0) F.PTP_PSTATUS_LINK true).pb (bPtpPort 1) F.PTP_PSTATUS_LINK true)) d).setTb (fun t => { t with master := some ⟨5#64, 1, 0⟩ })), ptp, 0, by decide +kernel⟩,
    ⟨mk (fun d => ((fun d => inRole .solo (((d.setEnabled .ptp true).pb (bPtpPort 0) F.PTP_PSTATUS_LINK true).pb (bPtpPort 1) F.PTP_PSTATUS_LINK true)) d).setTb (fun t => { t with master := some ⟨5#64, 1, 0⟩ })), { ptp with twoStep := true }, 0, by decide +kernel⟩,
    ⟨mk (fun d => ((fun d => inRole .solo (((d.setEnabled .ptp true).pb (bPtpPort 0) F.PTP_PSTATUS_LINK true).pb (bPtpPort 1) F.PTP_PSTATUS_LINK true)) d).setTb (fun t => { t with master := some ⟨5#64, 1, 0⟩, wait := some ⟨⟨5#64, 1, 0⟩, 9, 0, 0⟩ })), ptp, ⟨⟨5#64, 1, 0⟩, 9, 0, 0⟩, 0, by decide +kernel⟩,
    ⟨State.reset, ptp, 0, 0, by decide +kernel⟩⟩

theorem witness_PtpMessagesAreTaken_2 :
    (∃ (s : State) (h : PtpHdr) (a : AnnBody), h.wf = true ∧ a.wf = true ∧ a.steps < 255 ∧ ocTakes s.d h = true) ∧
    (∃ (s : State) (h : PtpHdr) (seq : Nat) (t3 : Int) (x : Int) (_time : Nat), h.wf = true ∧ ocTakes s.d h = true ∧ fromMaster s.d h = true ∧ s.d.tb.dreq = some (seq, t3) ∧ s.d.tb.t12 = some x ∧ h.seq = seq ∧ s.d.gb bTb F.PTP_CFG_DELAY = false) ∧
    (∃ (s : State) (h : PtpHdr) (w : Nat × Nat × Int) (_time : Nat), h.wf = true ∧ ocTakes s.d h = true ∧ h.twoStep = false ∧ s.d.tb.pdreq.find? (fun w => w.1 == h.port.val && w.2.1 == h.seq) = some w) ∧
    (∃ (s : State) (h : PtpHdr) (w : Nat × Nat × Int × Int) (_time : Nat), h.wf = true ∧ ocTakes s.d h = true ∧ s.d.tb.pdwait.find? (fun w => w.1 == h.port.val && w.2.1 == h.seq) = some w) :=
  ⟨⟨mk (fun d => ((fun d => inRole .solo (((d.setEnabled .ptp true).pb (bPtpPort 0) F.PTP_PSTATUS_LINK true).pb (bPtpPort 1) F.PTP_PSTATUS_LINK true)) d).setTb (fun t => { t with master := some ⟨5#64, 1, 0⟩ })), ptp, ⟨0, 0, 0, 0, 0, 0#64, 254⟩, by decide +kernel⟩,
    ⟨mk (fun d => ((fun d => inRole .solo (((d.setEnabled .ptp true).pb (bPtpPort 0) F.PTP_PSTATUS_LINK true).pb (bPtpPort 1) F.PTP_PSTATUS_LINK true)) d).setTb (fun t => { t with master := some ⟨5#64, 1, 0⟩, dreq := some (9, 0), t12 := some 0 })), ptp, 9, 0, 0, 0, by decide +kernel⟩,
    ⟨mk (fun d => ((fun d => inRole .solo (((d.setEnabled .ptp true).pb (bPtpPort 0) F.PTP_PSTATUS_LINK true).pb (bPtpPort 1) F.PTP_PSTATUS_LINK true)) d).setTb (fun t => { t with master := some ⟨5#64, 1, 0⟩, pdreq := [(0, 9, 0)] })), ptp, (0, 9, 0), 0, by decide +kernel⟩,
    ⟨mk (fun d => ((fun d => inRole .solo (((d.setEnabled .ptp true).pb (bPtpPort 0) F.PTP_PSTATUS_LINK true).pb (bPtpPort 1) F.PTP_PSTATUS_LINK true)) d).setTb (fun t => { t with master := some ⟨5#64, 1, 0⟩, pdwait := [(0, 9, 0, 0)] })), ptp, (0, 9, 0, 0), 0, by decide +kernel⟩⟩

theorem witness_PtpMessagesAreTaken_3 :
    (∃ (s : State) (h : PtpHdr) (_type : Fin 16) (_egress : Nat), h.wf = true ∧ netOn s.d = true ∧ linkUp s.d 0 = true ∧ linkUp s.d 1 = true) ∧
    (∃ (s : State) (h : PtpHdr), h.wf = true ∧ ocTakes s.d h = true ∧ ocSends s.d = true) ∧
    (∃ (_s : State) (h : PtpHdr) (_a : AnnBody) (_x : Nat) (_kind : Fin 3) (_type : Fin 16) (_b : Bool), h.wf = false) :=
  ⟨⟨mk (fun d => ((fun d => inRole .solo (((d.setEnabled .ptp true).pb (bPtpPort 0) F.PTP_PSTATUS_LINK true).pb (bPtpPort 1) F.PTP_PSTATUS_LINK true)) d).setTb (fun t => { t with master := some ⟨5#64, 1, 0⟩ })), ptp, 15, 0, by decide +kernel⟩,
    ⟨mk (fun d => ((fun d => inRole .solo (((d.setEnabled .ptp true).pb (bPtpPort 0) F.PTP_PSTATUS_LINK true).pb (bPtpPort 1) F.PTP_PSTATUS_LINK true)) d).setTb (fun t => { t with master := some ⟨5#64, 1, 0⟩ })), ptp, by decide +kernel⟩,
    ⟨State.reset, { ptp with domain := 256 }, ⟨0, 0, 0, 0, 0, 0#64, 254⟩, 0, 0, 0, true, by decide +kernel⟩⟩

theorem witness_PtpIsSentAndTimeIsLost_1 :
    (∃ (s : State), ocSends s.d = true ∧ ocState s.d = 6) ∧
    (∃ (s : State), ocSends s.d = true ∧ ocState s.d = 6) ∧
    (∃ (s : State) (m : Master), ocSends s.d = true ∧ s.d.gb bTb F.PTP_CFG_DELAY = false ∧ ((ocState s.d = 8 ∨ ocState s.d = 9)) ∧ s.d.tb.master = some m) ∧
    (∃ (s : State), ocSends s.d = true ∧ s.d.gb bTb F.PTP_CFG_DELAY = true) :=
  ⟨⟨mk (fun d => ((((fun d => inRole .solo (((d.setEnabled .ptp true).pb (bPtpPort 0) F.PTP_PSTATUS_LINK true).pb (bPtpPort 1) F.PTP_PSTATUS_LINK true)) d).p bTb F.PTP_STATUS_OC_STATE 6).setTb (fun t => { t with master := some ⟨5#64, 1, 0⟩ }))), by decide +kernel⟩,
    ⟨mk (fun d => ((((fun d => inRole .solo (((d.setEnabled .ptp true).pb (bPtpPort 0) F.PTP_PSTATUS_LINK true).pb (bPtpPort 1) F.PTP_PSTATUS_LINK true)) d).p bTb F.PTP_STATUS_OC_STATE 6).setTb (fun t => { t with master := some ⟨5#64, 1, 0⟩ }))), by decide +kernel⟩,
    ⟨mk (fun d => ((((fun d => inRole .solo (((d.setEnabled .ptp true).pb (bPtpPort 0) F.PTP_PSTATUS_LINK true).pb (bPtpPort 1) F.PTP_PSTATUS_LINK true)) d).p bTb F.PTP_STATUS_OC_STATE 9).setTb (fun t => { t with master := some ⟨5#64, 1, 0⟩ }))), ⟨5#64, 1, 0⟩, by decide +kernel⟩,
    ⟨mk (fun d => ((fun d => inRole .solo (((d.setEnabled .ptp true).pb (bPtpPort 0) F.PTP_PSTATUS_LINK true).pb (bPtpPort 1) F.PTP_PSTATUS_LINK true)) d).pb bTb F.PTP_CFG_DELAY true), by decide +kernel⟩⟩

theorem witness_PtpIsSentAndTimeIsLost_2 :
    (∃ (s : State) (c : Instr), c ∈ [Instr.ptpMasterSync, .ptpAnnounceSend, .ptpDelayReqSend] ∧ ocSends s.d = false) ∧
    (∃ (s : State), ((s.d.tb.master = none ∨ s.d.tick < s.d.tb.syncAt + s.d.g bTb F.PTP_INTV_SYNC_TMO * intvTicks (sgn 4 (s.d.g bTb F.PTP_INTV_LOG_SYNC))))) ∧
    (∃ (s : State) (m : Master), s.d.tb.master = some m ∧ s.d.tb.syncAt + s.d.g bTb F.PTP_INTV_SYNC_TMO * intvTicks (sgn 4 (s.d.g bTb F.PTP_INTV_LOG_SYNC)) ≤ s.d.tick) ∧
    (∃ (s : State), s.d.tick < s.d.tb.annAt + s.d.g bTb F.PTP_INTV_ANN_TMO * intvTicks (sgn 4 (s.d.g bTb F.PTP_INTV_LOG_ANN))) :=
  ⟨⟨State.reset, .ptpDelayReqSend, ⟨List.mem_cons_of_mem _ (List.mem_cons_of_mem _ (List.mem_cons_self ..)), by decide +kernel⟩⟩,
    ⟨State.reset, by decide +kernel⟩,
    ⟨mk (fun d => aged ((((fun d => inRole .solo (((d.setEnabled .ptp true).pb (bPtpPort 0) F.PTP_PSTATUS_LINK true).pb (bPtpPort 1) F.PTP_PSTATUS_LINK true)) d).p bTb F.PTP_STATUS_OC_STATE 9).setTb (fun t => { t with master := some ⟨5#64, 1, 0⟩ }))), ⟨5#64, 1, 0⟩, by decide +kernel⟩,
    ⟨State.reset, by decide +kernel⟩⟩

theorem witness_PtpIsSentAndTimeIsLost_3 :
    (∃ (s : State), s.d.tb.master = none ∧ s.d.tb.annAt + s.d.g bTb F.PTP_INTV_ANN_TMO * intvTicks (sgn 4 (s.d.g bTb F.PTP_INTV_LOG_ANN)) ≤ s.d.tick) ∧
    (∃ (s : State) (m : Master), s.d.tb.master = some m ∧ s.d.tb.annAt + s.d.g bTb F.PTP_INTV_ANN_TMO * intvTicks (sgn 4 (s.d.g bTb F.PTP_INTV_LOG_ANN)) ≤ s.d.tick ∧ ((∀ f ∈ s.d.tb.foreign, f.m = m ∨ f.count < 2))) ∧
    (∃ (s : State), ((tState s.d ≠ 1 ∨ s.d.tick < s.d.tb.hoFrom + s.d.g bTb F.TB_CFG_HO_MAX * 250000000))) ∧
    (∃ (s : State), tState s.d = 1 ∧ s.d.tb.hoFrom + s.d.g bTb F.TB_CFG_HO_MAX * 250000000 ≤ s.d.tick) :=
  ⟨⟨mk aged, by decide +kernel⟩,
    ⟨mk (fun d => aged ((((fun d => inRole .solo (((d.setEnabled .ptp true).pb (bPtpPort 0) F.PTP_PSTATUS_LINK true).pb (bPtpPort 1) F.PTP_PSTATUS_LINK true)) d).p bTb F.PTP_STATUS_OC_STATE 9).setTb (fun t => { t with master := some ⟨5#64, 1, 0⟩ }))), ⟨5#64, 1, 0⟩, by decide +kernel⟩,
    ⟨State.reset, by decide +kernel⟩,
    ⟨mk (fun d => aged (d.p bTb F.TB_STATUS_STATE 1)), by decide +kernel⟩⟩

theorem witness_TimeStepsReadsAndPulses_1 :
    (∃ (p : Path) (s : State), HostReady p s ∧ ((s.d.mode = .load ∨ s.d.mode = .hold))) ∧
    (∃ (p : Path) (s : State), HostReady p s ∧ s.d.mode ≠ .load ∧ s.d.mode ≠ .hold) ∧
    (∃ (p : Path) (s : State), HostReady p s) ∧
    (∃ (s : State) (k : Fin 8), s.d.enabled (.tpo k.val) = true ∧ (s.d.tpo k.val).armed = true ∧ s.d.mode ≠ .load ∧ tpoDue s.d k.val = true) :=
  ⟨⟨.spi, mk (inMode .hold), spi_ready (by decide +kernel), by decide +kernel⟩,
    ⟨.spi, mk (inMode .safe), spi_ready (by decide +kernel), by decide +kernel⟩,
    ⟨.spi, State.reset, spi_ready (by decide +kernel)⟩,
    ⟨mk (fun d => (inMode .hold (d.setEnabled (.tpo 7) true)).setTpo 7 (fun t => { t with armed := true })), 7, by decide +kernel⟩⟩

theorem witness_TimeStepsReadsAndPulses_2 :
    ∃ (s : State) (k : Fin 8), ((s.d.enabled (.tpo k.val) = false ∨ (s.d.tpo k.val).armed = false ∨ s.d.mode = .load ∨ tpoDue s.d k.val = false)) :=
  ⟨State.reset, 7, by decide +kernel⟩

theorem witness_CanFramesAndRequests_1 :
    (∃ (s : State) (c : Fin 2) (f : CanFrame) (_stamp : Word) (o : Nat), f.wf = true ∧ onBus s.d c.val = true ∧ ((f.fdf = true → s.d.gb (bCan c.val) F.CAN_CFG_FD_EN = true)) ∧ f.rtr = false ∧ o < 512 ∧ (objsOf s.d c.val).find? (rxMatches s.d f) = some o ∧ ((s.d.gb (bObj o) F.OBJ_STATUS_NEW = false ∨ s.d.gb (bObj o) F.OBJ_CFG_OVERWRITE = true))) ∧
    (∃ (s : State) (c : Fin 2) (f : CanFrame) (_stamp : Word) (o : Nat), f.wf = true ∧ onBus s.d c.val = true ∧ ((f.fdf = true → s.d.gb (bCan c.val) F.CAN_CFG_FD_EN = true)) ∧ f.rtr = false ∧ o < 512 ∧ (objsOf s.d c.val).find? (rxMatches s.d f) = some o ∧ s.d.gb (bObj o) F.OBJ_STATUS_NEW = true ∧ s.d.gb (bObj o) F.OBJ_CFG_OVERWRITE = false) ∧
    (∃ (s : State) (c : Fin 2) (f : CanFrame) (_stamp : Word), f.wf = true ∧ onBus s.d c.val = true ∧ f.rtr = true ∧ ((f.fdf = true → s.d.gb (bCan c.val) F.CAN_CFG_FD_EN = true))) ∧
    (∃ (s : State) (c : Fin 2) (f : CanFrame) (_stamp : Word), f.wf = true ∧ onBus s.d c.val = true ∧ f.fdf = true ∧ s.d.gb (bCan c.val) F.CAN_CFG_FD_EN = false) :=
  ⟨⟨mk (fun d => (((bus 1 d).setEnabled (.obj 511) true).p (bObj 511) F.OBJ_CFG_DIR 1)), 1, can, 0#32, 511, by decide +kernel⟩,
    ⟨mk (fun d => (((bus 1 d).setEnabled (.obj 511) true).p (bObj 511) F.OBJ_CFG_DIR 1).pb (bObj 511) F.OBJ_STATUS_NEW true), 1, can, 0#32, 511, by decide +kernel⟩,
    ⟨mk (bus 1), 1, { can with rtr := true }, 0#32, by decide +kernel⟩,
    ⟨mk (bus 1), 1, { can with fdf := true }, 0#32, by decide +kernel⟩⟩

theorem witness_CanFramesAndRequests_2 :
    (∃ (s : State) (c : Fin 2) (f : CanFrame) (_stamp : Word), f.wf = true ∧ onBus s.d c.val = true ∧ ((f.fdf = true → s.d.gb (bCan c.val) F.CAN_CFG_FD_EN = true)) ∧ f.rtr = false ∧ (objsOf s.d c.val).find? (rxMatches s.d f) = none) ∧
    (∃ (s : State) (c : Fin 2) (lec : Nat) (_dp : Bool) (_up : Nat), onBus s.d c.val = true ∧ lec < 8) ∧
    (∃ (s : State) (c : Fin 2), onBus s.d c.val = true) ∧
    (∃ (s : State) (c : Fin 2) (_f : CanFrame) (_stamp : Word) (_x : CanErr), onBus s.d c.val = false) :=
  ⟨⟨mk (bus 1), 1, can, 0#32, by decide +kernel⟩,
    ⟨mk (bus 1), 1, 7, true, 8, by decide +kernel⟩,
    ⟨mk (bus 1), 1, by decide +kernel⟩,
    ⟨State.reset, 1, can, 0#32, .exception, by decide +kernel⟩⟩

theorem witness_CanFramesAndRequests_3 :
    (∃ (p : Path) (_o : Fin 512) (s : State), HostReady p s) ∧
    (∃ (p : Path) (o : Fin 512) (v : Word) (s : State), HostReady p s ∧ getBits v 0 2 = 1 ∧ s.d.g (bObj o.val) F.OBJ_CFG_DIR ≠ 1 ∧ s.d.enabled (.obj o.val) = true ∧ isAlarm s.d o.val = false ∧ takesPart s.d o.val = true ∧ objState s.d o.val ∈ [0, 4, 5, 6]) ∧
    (∃ (p : Path) (o : Fin 512) (v : Word) (s : State), HostReady p s ∧ getBits v 0 2 = 2 ∧ isAlarm s.d o.val = false ∧ (((takesPart s.d o.val = true ∧ objState s.d o.val ∈ [1, 2, 3]) ∨ (takesPart s.d o.val = false ∧ objState s.d o.val = 7)))) ∧
    (∃ (p : Path) (o : Fin 512) (_w : Fin 16) (_v : Word) (s : State), HostReady p s ∧ isTx s.d o.val = true ∧ isAlarm s.d o.val = false ∧ takesPart s.d o.val = true ∧ objState s.d o.val ∈ [0, 4, 5, 6]) :=
  ⟨⟨.spi, 511, State.reset, spi_ready (by decide +kernel)⟩,
    ⟨.spi, 511, 1#32, mk (fun d => (((bus 1 d).setEnabled (.obj 511) true).p (bObj 511) F.OBJ_CFG_DIR 2)), spi_ready (by decide +kernel), by decide +kernel⟩,
    ⟨.spi, 511, 2#32, mk (fun d => (((bus 1 d).setEnabled (.obj 511) true).p (bObj 511) F.OBJ_CFG_DIR 2).p (bObj 511) F.OBJ_STATUS_STATE 1), spi_ready (by decide +kernel), by decide +kernel⟩,
    ⟨.spi, 511, 15, 1#32, mk (fun d => (((bus 1 d).setEnabled (.obj 511) true).p (bObj 511) F.OBJ_CFG_DIR 2)), spi_ready (by decide +kernel), by decide +kernel⟩⟩

theorem witness_CanAttemptsRun_1 :
    (∃ (s : State) (c : Fin 2) (o : Nat), onBus s.d c.val = true ∧ s.d.owns = true ∧ (s.d.canc c.val).cur = none ∧ ((((∀ h, (s.d.canc c.val).first = some h → objState s.d h ≠ 3) ∧ nextTx s.d c.val = some o) ∨ ((s.d.canc c.val).first = some o ∧ objState s.d o = 3))) ∧ o < 512 ∧ isAlarm s.d o = false) ∧
    (∃ d : Dev, nextTx d 1 = some 511) ∧
    (∃ (s : State) (c : Fin 2), ((onBus s.d c.val = false ∨ s.d.owns = false ∨ (s.d.canc c.val).cur ≠ none))) ∧
    (∃ (s : State) (c : Fin 2) (o : Nat) (v : BitVec 7), (s.d.canc c.val).cur = some o ∧ o < 512 ∧ s.d.gb (bCan c.val) F.CAN_CFG_TDC_EN = true ∧ s.d.g (bObj o) F.OBJ_CFG_FMT = 1 ∧ s.d.gb (bObj o) F.OBJ_CFG_BRS = true ∧ s.d.g (bCan c.val) F.CAN_TDC_TDCF ≤ v.toNat) :=
  ⟨⟨mk (fun d => inRole .solo ((((bus 1 d).setEnabled (.obj 511) true).p (bObj 511) F.OBJ_CFG_DIR 2).p (bObj 511) F.OBJ_STATUS_STATE 1)), 1, 511, by decide +kernel, by decide +kernel, by decide +kernel, Or.inl ⟨all_some (by decide +kernel), by decide +kernel⟩, by decide +kernel⟩,
    ⟨(let d := Dev.reset; (((bus 1 d).setEnabled (.obj 511) true).p (bObj 511) F.OBJ_CFG_DIR 2).p (bObj 511) F.OBJ_STATUS_STATE 1), by decide +kernel⟩,
    ⟨State.reset, 1, by decide +kernel⟩,
    ⟨mk (fun d => ((((((bus 1 d).setEnabled (.obj 511) true).p (bObj 511) F.OBJ_CFG_DIR 2).setCan 1 (fun y => { y with cur := some 511 }))).pb (bCan 1) F.CAN_CFG_TDC_EN true).p (bObj 511) F.OBJ_CFG_FMT 1 |>.pb (bObj 511) F.OBJ_CFG_BRS true), 1, 511, 127#7, by decide +kernel⟩⟩

theorem witness_CanAttemptsRun_2 :
    (∃ (s : State) (c : Fin 2) (o : Nat) (tdcv : Option (BitVec 7)), (s.d.canc c.val).cur = some o ∧ o < 512 ∧ (s.d.canc c.val).tec < 256 ∧ ((∀ v, tdcv = some v → s.d.gb (bCan c.val) F.CAN_CFG_TDC_EN = false ∨ v.toNat + s.d.g (bCan c.val) F.CAN_TDC_TDCO ≤ 127))) ∧
    (∃ (s : State) (c : Fin 2) (o : Nat) (_tdcv : Option (BitVec 7)), (s.d.canc c.val).cur = some o ∧ o < 512 ∧ o / 256 = c.val ∧ (s.d.canc c.val).tec < 256 ∧ (s.d.obj o).abort = false ∧ (s.d.canc c.val).first ≠ some o ∧ s.d.gb (bCan c.val) F.CAN_CFG_ARB_RETRY_LIMIT = false) ∧
    (∃ (s : State) (c : Fin 2) (o : Nat) (lec : Nat) (_dp : Bool) (_conflict : Bool) (_tdcv : Option (BitVec 7)), (s.d.canc c.val).cur = some o ∧ o < 512 ∧ (s.d.obj o).abort = false ∧ (s.d.canc c.val).first ≠ some o ∧ s.d.g (bObj o) F.OBJ_STATUS_RETRIES < 15 ∧ s.d.g (bObj o) F.OBJ_CFG_RETRY < 15 ∧ lec < 8) ∧
    (∃ (p : Path) (c : Fin 2) (v : Word) (s : State), HostReady p s ∧ getBits v 0 1 = 1 ∧ canState s.d c.val = 4 ∧ s.d.gb (bCan c.val) F.CAN_CFG_AUTO_RECOV = false) :=
  ⟨⟨mk (fun d => ((((bus 1 d).setEnabled (.obj 511) true).p (bObj 511) F.OBJ_CFG_DIR 2).setCan 1 (fun y => { y with cur := some 511 }))), 1, 511, none, by decide +kernel, by decide +kernel, by decide +kernel, all_some (by decide +kernel)⟩,
    ⟨mk (fun d => ((((bus 1 d).setEnabled (.obj 511) true).p (bObj 511) F.OBJ_CFG_DIR 2).setCan 1 (fun y => { y with cur := some 511 }))), 1, 511, none, by decide +kernel⟩,
    ⟨mk (fun d => ((((bus 1 d).setEnabled (.obj 511) true).p (bObj 511) F.OBJ_CFG_DIR 2).setCan 1 (fun y => { y with cur := some 511 }))), 1, 511, 7, false, false, none, by decide +kernel⟩,
    ⟨.spi, 1, 1#32, mk (fun d => d.p (bCan 1) F.CAN_STATUS_STATE 4), spi_ready (by decide +kernel), by decide +kernel⟩⟩

theorem witness_CanAttemptsRun_3 :
    (∃ (s : State) (c : Fin 2), canState s.d c.val = 5) ∧
    (∃ (s : State) (c : Fin 2), canState s.d c.val ≠ 5) ∧
    (∃ (s : State) (o : Fin 512), s.d.follows = true ∧ s.d.enabled (.obj o.val) = true ∧ isTx s.d o.val = true) ∧
    (∃ (s : State) (_o : Fin 512) (_x : CanEnd) (_b : Bool), s.d.follows = false) :=
  ⟨⟨mk (fun d => d.p (bCan 1) F.CAN_STATUS_STATE 5), 1, by decide +kernel⟩,
    ⟨State.reset, 1, by decide +kernel⟩,
    ⟨mk (fun d => following ((d.setEnabled (.obj 511) true).p (bObj 511) F.OBJ_CFG_DIR 2)), 511, by decide +kernel⟩,
    ⟨State.reset, 511, .ok, true, by decide +kernel⟩⟩

theorem witness_PowerTransitions_1 :
    (∃ (p : Path) (_v : Word) (s : State), HostReady p s) ∧
    (∃ (s : State) (a : Nat) (b : Nat) (l : List Nat), pwrTrans s.d = true ∧ s.d.pwr.agents = a :: b :: l ∧ a ≤ 5 ∧ ((∀ u, s.d.pwr.until_ = some u → s.d.tick ≤ u))) ∧
    (∃ (s : State) (a : Nat), pwrTrans s.d = true ∧ s.d.pwr.agents = [a] ∧ ((∀ u, s.d.pwr.until_ = some u → s.d.tick ≤ u)) ∧ s.d.gb bPwr F.PWR_STATE_PEND_VALID = false) ∧
    (∃ (s : State) (a : Nat) (l : List Nat) (_m : Nat), pwrTrans s.d = true ∧ s.d.pwr.agents = a :: l ∧ a ≤ 5) :=
  ⟨⟨.spi, 3#32, mk (inMode .hold), spi_ready (by decide +kernel)⟩,
    ⟨mk (fun d => { (((d.p bPwr F.PWR_STATE_STATE 0).p bPwr F.PWR_STATE_IN_PROGRESS 3).pb bPwr F.PWR_STATE_TRANS true) with pwr := { d.pwr with agents := [5, 1] } }), 5, 1, [], by decide +kernel, by decide +kernel, by decide +kernel, all_some (by decide +kernel)⟩,
    ⟨mk (fun d => { (((d.p bPwr F.PWR_STATE_STATE 0).p bPwr F.PWR_STATE_IN_PROGRESS 3).pb bPwr F.PWR_STATE_TRANS true) with pwr := { d.pwr with agents := [1] } }), 1, by decide +kernel, by decide +kernel, all_some (by decide +kernel), by decide +kernel⟩,
    ⟨mk (fun d => { (((d.p bPwr F.PWR_STATE_STATE 0).p bPwr F.PWR_STATE_IN_PROGRESS 3).pb bPwr F.PWR_STATE_TRANS true) with pwr := { d.pwr with agents := [5, 1] } }), 5, [1], 255, by decide +kernel⟩⟩

theorem witness_PowerTransitions_2 :
    (∃ (s : State) (c : Instr) (a : Nat) (l : List Nat) (r : Nat), (((c = Instr.agentAnswer (.refuse r) ∧ ∀ u, s.d.pwr.until_ = some u → s.d.tick ≤ u) ∨ (c = .agentDelayExpired ∧ (∃ u, s.d.pwr.until_ = some u ∧ u ≤ s.d.tick) ∧ r = 0x0C07))) ∧ pwrTrans s.d = true ∧ s.d.pwr.agents = a :: l ∧ a ≤ 5 ∧ r < 65536 ∧ s.d.gb bPwr F.PWR_STATE_PEND_VALID = false) ∧
    (∃ (s : State), ((s.d.pwr.agents = [] ∨ ∀ u, s.d.pwr.until_ = some u → s.d.tick < u))) :=
  ⟨⟨mk (fun d => { (((d.p bPwr F.PWR_STATE_STATE 0).p bPwr F.PWR_STATE_IN_PROGRESS 3).pb bPwr F.PWR_STATE_TRANS true) with pwr := { d.pwr with agents := [5, 1] } }), .agentAnswer (.refuse 65535), 5, [1], 65535, ⟨Or.inl ⟨rfl, all_some (by decide +kernel)⟩, by decide +kernel⟩⟩,
    ⟨State.reset, Or.inl rfl⟩⟩

theorem witness_ShedStagesAndLastGasp_1 :
    (∃ (s : State) (stage : Fin 6) (v : BitVec 16), s.d.Quiet ∧ stage.val ≤ 4 ∧ s.d.shed < stage.val ∧ v.toNat < shedThreshold stage.val) ∧
    (∃ (s : State) (stage : Fin 6) (v : BitVec 16), s.d.Quiet ∧ (((stage.val ≤ s.d.shed ∧ stage.val ≤ 4) ∨ shedThreshold stage.val ≤ v.toNat))) ∧
    (∃ (_s : State) (stage : Fin 6) (v : BitVec 16), stage.val = 5 ∧ v.toNat < shedThreshold 5) ∧
    (∃ (s : State), s.d.Quiet ∧ s.d.box.pwrGone = true) :=
  ⟨⟨State.reset, 4, 0#16, by decide +kernel⟩,
    ⟨State.reset, 5, 0xFFFF#16, by decide +kernel⟩,
    ⟨State.reset, 5, 10999#16, by decide +kernel⟩,
    ⟨mk (fun d => { d with box := { d.box with pwrGone := true } }), by decide +kernel⟩⟩

theorem witness_ShedStagesAndLastGasp_2 :
    (∃ (s : State), s.d.box.pwrGone = false ∧ s.d.Quiet) ∧
    (∃ (s : State), s.d.pwr.lgBusy = true) ∧
    (∃ (s : State), s.d.pwr.lgErase = true ∧ s.d.pair.withdrawn = false) ∧
    (∃ (s : State), s.d.pwr.lgBusy = false) :=
  ⟨⟨State.reset, by decide +kernel⟩,
    ⟨mk (fun d => { d with pwr := { d.pwr with lgBusy := true } }), by decide +kernel⟩,
    ⟨mk (fun d => { d with pwr := { d.pwr with lgErase := true } }), by decide +kernel⟩,
    ⟨State.reset, by decide +kernel⟩⟩

theorem witness_ShedStagesAndLastGasp_3 :
    ∃ (s : State), ((s.d.pwr.lgErase = false ∨ s.d.pair.withdrawn = true)) :=
  ⟨State.reset, by decide +kernel⟩

theorem witness_IndicatorsShow :
    (∃ (p : Path) (a0 : Word) (_a1 : Word) (_a2 : Word) (_a3 : Word) (s : State), HostReady p s ∧ a0.toNat ≤ 3600) ∧
    (∃ (p : Path) (a0 : Word) (_a1 : Word) (_a2 : Word) (_a3 : Word) (s : State), HostReady p s ∧ 3600 < a0.toNat) ∧
    (∃ (_a0 : Word) (d : Dev), romHold d = true) :=
  ⟨⟨.spi, 3600#32, 0#32, 0#32, 0#32, State.reset, spi_ready (by decide +kernel), by decide +kernel⟩,
    ⟨.spi, 3601#32, 0#32, 0#32, 0#32, State.reset, spi_ready (by decide +kernel), by decide +kernel⟩,
    ⟨0#32, Dev.reset.pb bImg F.IMG_STATUS_ROM_HOLD true, by decide +kernel⟩⟩

theorem witness_SpiTransactionsAnswer_1 :
    (∃ (s : State), s.d.Quiet ∧ pwrState s.d = 0 ∧ pwrTrans s.d = false) ∧
    (∃ (s : State) (a : BitVec 24) (_ws : List Word) (_part : Bool), s.d.Quiet ∧ s.d.hs.later = [] ∧ pwrState s.d = 0 ∧ pwrTrans s.d = false ∧ a.toNat % 4 = 0) ∧
    (∃ (s : State) (a : BitVec 24) (_n : Nat), s.d.Quiet ∧ pwrState s.d = 0 ∧ pwrTrans s.d = false ∧ romHold s.d = false ∧ a.toNat % 4 = 0) ∧
    (∃ (s : State) (a : BitVec 24) (_n : Nat), s.d.Quiet ∧ pwrState s.d = 0 ∧ pwrTrans s.d = false ∧ romHold s.d = false ∧ a.toNat % 4 = 0) :=
  ⟨⟨State.reset, by decide +kernel⟩,
    ⟨State.reset, 0xFFFFFC#24, [0#32, 0#32], true, by decide +kernel⟩,
    ⟨State.reset, 0xFFFFFC#24, 2, by decide +kernel⟩,
    ⟨State.reset, 0#24, 2, by decide +kernel⟩⟩

theorem witness_SpiTransactionsAnswer_2 :
    (∃ (s : State) (a : Nat) (step : Nat) (n : Nat), romHold s.d = false ∧ a < 2 ^ 32 ∧ ((∀ k < n, PlainRead ((a + step * k) % 2 ^ 32)))) ∧
    (∃ (s : State) (c : Instr) (a : BitVec 24) (n : Nat) (ws : List Word) (part : Bool), c ∈ [Instr.spiWrite a ws part, .spiRead a n, .spiReadFixed a n, .spiBadOpcode] ∧ s.d.Quiet ∧ s.d.hs.later = [] ∧ pwrState s.d = 0 ∧ pwrTrans s.d = false ∧ romHold s.d = false ∧ a.toNat % 4 ≠ 0) ∧
    (∃ (s : State) (c : Instr) (a : BitVec 24) (n : Nat) (ws : List Word) (part : Bool), c ∈ [Instr.spiStatus, .spiWrite a ws part, .spiRead a n, .spiReadFixed a n, .spiBadOpcode] ∧ s.d.Quiet ∧ s.d.hs.later = [] ∧ pwrState s.d = 3 ∧ pwrTrans s.d = false) :=
  ⟨⟨State.reset, 0, 4, 1, ⟨by decide +kernel, by decide, fun k hk => by obtain rfl : k = 0 := (by omega); exact ⟨by decide, by decide, by decide, by decide +kernel⟩⟩⟩,
    ⟨State.reset, .spiRead 0xFFFFFF#24 1, 0xFFFFFF#24, 1, [], false, ⟨List.mem_cons_of_mem _ (List.mem_cons_self ..), by decide +kernel⟩⟩,
    ⟨mk (fun d => d.p bPwr F.PWR_STATE_STATE 3), .spiStatus, 0#24, 1, [], false, ⟨List.mem_cons_self .., by decide +kernel⟩⟩⟩

theorem witness_LmpRequestsAreServed_1 :
    (∃ (s : State) (x : Sess) (seq : BitVec 32) (c : Instr) (type : Nat) (n : BitVec 16) (a : Word) (step : Nat), LmpReady s.d x seq ∧ a.toNat % 4 = 0 ∧ 1 ≤ n.toNat ∧ n.toNat ≤ 256 ∧ (((type = 0x10 ∧ step = 4 ∧ c = .lmpRead (signed x seq type (leBytes 4 a.toNat ++ leBytes 2 n.toNat)) a n) ∨ (type = 0x11 ∧ step = 0 ∧ c = .lmpReadFixed (signed x seq type (leBytes 4 a.toNat ++ leBytes 2 n.toNat)) a n)))) ∧
    (∃ (s : State) (x : Sess) (seq : BitVec 32) (a : Word) (ws : List Word), LmpReady s.d x seq ∧ a.toNat % 4 = 0 ∧ 1 ≤ ws.length ∧ ws.length ≤ 256) ∧
    (∃ (s : State) (x : Sess) (seq : BitVec 32) (c : Instr) (type : Nat) (a : Word) (n : BitVec 16) (ws : List Word), LmpReady s.d x seq ∧ (((type = 0x12 ∧ c = .lmpWrite (signed x seq type (leBytes 4 a.toNat ++ ws.flatMap (fun w => leBytes 4 w.toNat))) a ws ∧ (a.toNat % 4 ≠ 0 ∨ ws = [] ∨ 256 < ws.length)) ∨ (((type = 0x10 ∧ c = .lmpRead (signed x seq type (leBytes 4 a.toNat ++ leBytes 2 n.toNat)) a n) ∨ (type = 0x11 ∧ c = .lmpReadFixed (signed x seq type (leBytes 4 a.toNat ++ leBytes 2 n.toNat)) a n)) ∧ (a.toNat % 4 ≠ 0 ∨ n = 0 ∨ 256 < n.toNat))))) ∧
    (∃ (s : State) (x : Sess) (seq : BitVec 32) (_op : BitVec 16) (_a0 : Word) (_a1 : Word) (_a2 : Word) (_a3 : Word), LmpReady s.d x seq) :=
  ⟨⟨mk lmp, session, 1#32, .lmpRead (signed session 1#32 0x10 (leBytes 4 (0#32 : Word).toNat ++ leBytes 2 (256#16 : BitVec 16).toNat)) 0#32 256#16, 0x10, 256#16, 0#32, 4, ⟨(by decide +kernel : LmpReady (mk lmp).d session 1#32), by decide, by decide, by decide, Or.inl ⟨rfl, rfl, rfl⟩⟩⟩,
    ⟨mk lmp, session, 1#32, 0#32, List.replicate 256 0#32, by decide +kernel⟩,
    ⟨mk lmp, session, 1#32, .lmpRead (signed session 1#32 0x10 (leBytes 4 (1#32 : Word).toNat ++ leBytes 2 (1#16 : BitVec 16).toNat)) 1#32 1#16, 0x10, 1#32, 1#16, [], ⟨(by decide +kernel : LmpReady (mk lmp).d session 1#32), Or.inr ⟨Or.inl ⟨rfl, rfl⟩, Or.inl (by decide)⟩⟩⟩,
    ⟨mk lmp, session, 1#32, 0x10#16, 0#32, 0#32, 0#32, 0#32, by decide +kernel⟩⟩

theorem witness_LmpRequestsAreServed_2 :
    (∃ (s : State) (x : Sess) (seq : BitVec 32) (_alarms : Bool) (_trace : Bool), LmpReady s.d x seq) ∧
    (∃ (s : State) (x : Sess) (seq : BitVec 32) (_rseq : Word), LmpReady s.d x seq) ∧
    (∃ (s : State) (x : Sess) (seq : BitVec 32), LmpReady s.d x seq) ∧
    (∃ (s : State) (x : Sess) (seq : BitVec 32), LmpReady s.d x seq) :=
  ⟨⟨mk lmp, session, 1#32, true, true, by decide +kernel⟩,
    ⟨mk lmp, session, 1#32, 1#32, by decide +kernel⟩,
    ⟨mk lmp, session, 1#32, by decide +kernel⟩,
    ⟨mk lmp, session, 1#32, by decide +kernel⟩⟩

theorem witness_LmpRequestsAreServed_3 :
    (∃ (s : State) (c : Instr) (h : LmpHdr) (type : Nat) (body : List Byte), sessionRequest c = some (h, type, body) ∧ s.d.Quiet ∧ lmpRuns s.d = true ∧ ((∀ x, s.d.hs.sess.find? (fun y => y.num == h.sess) = some x → h.tag ≠ lmpTag x.key (lmpHeader type h.sess body.length h.seq.toNat ++ body) ∨ h.seq.toNat < x.seqIn))) ∧
    (∃ (s : State) (c : Instr) (h : LmpHdr) (type : Nat) (body : List Byte) (x : Sess), sessionRequest c = some (h, type, body) ∧ s.d.Quiet ∧ lmpRuns s.d = true ∧ pwrState s.d = 0 ∧ pwrTrans s.d = false ∧ s.d.hs.sess.find? (fun y => y.num == h.sess) = some x ∧ h.tag = lmpTag x.key (lmpHeader type h.sess body.length h.seq.toNat ++ body) ∧ h.seq.toNat = x.seqIn) ∧
    (∃ (s : State) (c : Instr) (h : LmpHdr) (type : Nat) (body : List Byte), sessionRequest c = some (h, type, body) ∧ s.d.Quiet ∧ lmpRuns s.d = false) :=
  ⟨⟨mk lmp, .lmpClose ⟨8#16, 1#32, 0#128⟩, ⟨8#16, 1#32, 0#128⟩, 0x31, [], ⟨rfl, by decide +kernel, by decide +kernel, none_all (by decide +kernel)⟩⟩,
    ⟨mk lmp, .lmpClose (signed session 0#32 0x31 []), signed session 0#32 0x31 [], 0x31, [], session, ⟨rfl, by decide +kernel, by decide +kernel, by decide +kernel, by decide +kernel, by decide +kernel, rfl, by decide⟩⟩,
    ⟨State.reset, .lmpClose ⟨8#16, 1#32, 0#128⟩, ⟨8#16, 1#32, 0#128⟩, 0x31, [], ⟨rfl, by decide +kernel⟩⟩⟩

theorem witness_LmpSessionsOpenAndClose :
    (∃ (s : State), s.d.Quiet ∧ lmpRuns s.d = true) ∧
    (∃ (s : State) (_o : LmpOpen), s.d.Quiet ∧ lmpRuns s.d = true) ∧
    (∃ (s : State) (c : Instr) (o : LmpOpen), ((c = .lmpOpenReq ∨ c = .lmpOpen o)) ∧ s.d.Quiet ∧ lmpRuns s.d = false) :=
  ⟨⟨mk lmp, by decide +kernel⟩,
    ⟨mk lmp, ⟨0#256, 4, 0#256, 0#256, 0#512⟩, by decide +kernel⟩,
    ⟨State.reset, .lmpOpen ⟨0#256, 4, 0#256, 0#256, 0#512⟩, ⟨0#256, 4, 0#256, 0#256, 0#512⟩, ⟨Or.inr rfl, by decide +kernel⟩⟩⟩

end Sys2Proof.Tests
end

section
/-! SUPPORT. Registers of the plain windows, whose write does nothing beyond the stored word, and the order of the two host paths (R6, R92, R110, R112, R118, R674). -/

namespace Sys2Proof.Machine

/-! ### Where a register of a family lies -/

/-- An address hits a family that is one block by its size, and a family of many blocks by the block's number. -/
theorem famHit_cases {f : FamD} {a i o : Nat} (h : famHit f a = some (i, o)) : f.base ≤ a ∧
    (i = f.first ∧ o = a - f.base ∧ a - f.base < f.size ∨
      i = f.first + (a - f.base) / f.stride ∧ o = (a - f.base) % f.stride ∧ (a - f.base) / f.stride < f.count ∧ f.stride ≠ 0) := by
  unfold famHit at h
  simp only [] at h
  split_ifs at h with hb hz hs hio
  · cases h
    exact ⟨Nat.le_of_not_lt hb, Or.inl ⟨rfl, rfl, hs⟩⟩
  · cases h
    exact ⟨Nat.le_of_not_lt hb, Or.inr ⟨rfl, rfl, hio.1, hz⟩⟩

theorem famHit_off_le {f : FamD} {a i o : Nat} (h : famHit f a = some (i, o)) : o ≤ a := by
  obtain ⟨-, ⟨-, rfl, -⟩ | ⟨-, rfl, -⟩⟩ := famHit_cases h
  · exact Nat.sub_le _ _
  · exact (Nat.mod_le _ _).trans (Nat.sub_le _ _)

/-- An address that a family names lies in the family's span. -/
theorem famHit_span {f : FamD} {a i o : Nat} (h : famHit f a = some (i, o)) : f.base ≤ a ∧ a < f.base + max f.size (f.stride * f.count) := by
  obtain ⟨hb, ⟨-, -, hs⟩ | ⟨-, -, hi, hz⟩⟩ := famHit_cases h
  · omega
  · have hlt : a - f.base < f.stride * f.count := by
      rw [Nat.mul_comm]
      exact (Nat.div_lt_iff_lt_mul (Nat.pos_of_ne_zero hz)).mp hi
    omega

theorem famHit_idx {f : FamD} {a i o : Nat} (h : famHit f a = some (i, o)) : i < f.first + max 1 f.count := by
  obtain ⟨-, ⟨rfl, -⟩ | ⟨rfl, -, hi, -⟩⟩ := famHit_cases h <;> omega

theorem locIn_hit {l : List FamD} {a : Nat} {fam : Fam} {i off : Nat} {r : RegD} (h : locIn l a = some ⟨fam, i, off, some r⟩) :
    ∃ f ∈ l, f.fam = fam ∧ famHit f a = some (i, off) := by
  induction l with
  | nil => cases h
  | cons f t ih =>
    have tail (ht : locIn t a = some ⟨fam, i, off, some r⟩) : ∃ g ∈ f :: t, g.fam = fam ∧ famHit g a = some (i, off) := by
      obtain ⟨g, hg, e⟩ := ih ht
      exact ⟨g, List.mem_cons_of_mem f hg, e⟩
    unfold locIn at h
    split at h
    · exact tail h
    · rename_i j o hf
      split at h
      · cases h
        exact ⟨f, List.mem_cons_self, rfl, hf⟩
      · split at h
        · rename_i hl
          cases h
          exact tail hl
        · cases h

/-- The windows whose registers only hold what is written: signals, scales, monitors, reaction policies, the pair and the ports of PTP. -/
def plainFams : List Fam := [.loopS, .lnk, .protStr, .mon, .fltPol, .ss, .ptpPort]

/-- Where the plain windows lie among the registers that a host access itself depends on. -/
structure PlainAt (fam : Fam) (i a : Nat) : Prop where
  loop : fam = .loopS → i < 2048
  str : fam = .protStr → i < 8
  low : 0x280000 ≤ a
  high : a < 0x500000
  notTb : a < 0x4C0000 ∨ 0x4C0200 ≤ a
  notSs : fam ≠ .ss → a < 0x440000 ∨ 0x441000 ≤ a
  ss : fam = .ss → 0x440000 ≤ a ∧ a < 0x441000

theorem plainFams_span : ∀ f ∈ famTable, f.fam ∈ plainFams →
    (f.fam = .loopS → f.first + max 1 f.count ≤ 2048) ∧ (f.fam = .protStr → f.first + max 1 f.count ≤ 8) ∧
    0x280000 ≤ f.base ∧ f.base + max f.size (f.stride * f.count) ≤ 0x500000 ∧
    (f.base + max f.size (f.stride * f.count) ≤ 0x4C0000 ∨ 0x4C0200 ≤ f.base) ∧
    (f.fam ≠ .ss → f.base + max f.size (f.stride * f.count) ≤ 0x440000 ∨ 0x441000 ≤ f.base) ∧
    (f.fam = .ss → 0x440000 ≤ f.base ∧ f.base + max f.size (f.stride * f.count) ≤ 0x441000) := by decide

theorem locate_plain {a : Nat} {fam : Fam} {i off : Nat} {r : RegD} (h : locate a = some ⟨fam, i, off, some r⟩) (hf : fam ∈ plainFams) :
    PlainAt fam i a ∧ off ≤ a := by
  obtain ⟨f, hm, rfl, hit⟩ := locIn_hit h
  obtain ⟨loop, str, low, high, notTb, notSs, ss⟩ := plainFams_span f hm hf
  have hs := famHit_span hit
  have hi := famHit_idx hit
  refine ⟨⟨fun e => ?_, fun e => ?_, by omega, by omega, by omega, fun e => ?_, fun e => ?_⟩, famHit_off_le hit⟩
  · have := loop e
    omega
  · have := str e
    omega
  · have := notSs e
    omega
  · have := ss e
    omega

/-! ### Unmapped addresses and FREE slots (R92, R674) -/

theorem shown_unmapped (v : State) (a : Nat) (h : ∀ l, locate a = some l → l.reg = none) : shown v a = 0#32 := by
  unfold shown
  cases hl : locate a with
  | none => rfl
  | some l => simp only [h l hl]

theorem shown_free (v : State) (a : Nat) (l : Loc) (o : Obj) (hl : locate a = some l) (ho : slotOfLoc l = some o) (hf : v.d.occupied o = false) :
    shown v a = 0#32 := by
  unfold shown
  cases hr : l.reg <;> simp [hl, ho, hf, hr]

theorem writeDev_refused {via : Via} {a : Nat} {v mask : Word} {s : Dev} {why : Nat} (h : busReason via (locate a) a s = why) (h0 : why ≠ 0) :
    writeDev via a v mask s = (why, s) := by
  simp [writeDev, h, h0]

theorem busReason_unmapped (p : Path) (a : Nat) (s : Dev) (h : ∀ l, locate a = some l → l.reg = none ∧ slotOfLoc l = none) :
    busReason (.host p) (locate a) a s = 0x0111 := by
  cases hl : locate a with
  | none => simp [busReason]
  | some l =>
    obtain ⟨hr, hs⟩ := h l hl
    simp [busReason, hr, hs]

theorem busReason_free (p : Path) (a : Nat) (s : Dev) (l : Loc) (o : Obj) (hc : s.ms.cmd = none) (hl : locate a = some l) (ho : slotOfLoc l = some o)
    (hf : s.occupied o = false) : busReason (.host p) (locate a) a s = 0x0309 := by
  simp [busReason, hl, ho, hc, hf]

/-! ### One write of a plain register -/

/-- A write to a plain register passes the bus: no command executes, no ROM hold, no STANDBY that may not write there, and the slot of a slotted window is occupied. -/
structure BusOpen (d : Dev) (fam : Fam) (i a : Nat) : Prop where
  cmd : d.ms.cmd = none
  rom : romHold d = false
  role : d.role = .standby → standbyMay a = true
  loop : fam = .loopS → d.occupied (.loop i) = true
  str : fam = .protStr → d.occupied (.string i) = true

theorem busReason_plain {p : Path} {a : Nat} {fam : Fam} {i off : Nat} {r : RegD} {d : Dev} (hl : locate a = some ⟨fam, i, off, some r⟩)
    (hf : fam ∈ plainFams) (hb : BusOpen d fam i a) : busReason (.host p) (locate a) a d = 0 := by
  obtain ⟨hc, hr, hs, hloop, hstr⟩ := hb
  have hm : mailboxReg a = false := by
    have := (locate_plain hl hf).1.low
    have hop : ¬ a ≤ 0x50 := by omega
    simp [mailboxReg, F.CMD_OP, hop]
  have hst : (d.role == .standby && !standbyMay a) = false := by
    cases h : d.role == Role.standby
    · rfl
    · simp [hs (by simpa using h)]
  have hfree : ∀ o, slotOfLoc ⟨fam, i, off, some r⟩ = some o → d.occupied o = true := by
    simp only [plainFams, List.mem_cons, List.not_mem_nil, or_false] at hf
    rcases hf with rfl | rfl | rfl | rfl | rfl | rfl | rfl <;> simp [slotOfLoc, hloop, hstr]
  cases hslot : slotOfLoc ⟨fam, i, off, some r⟩ with
  | none => simp [busReason, hl, hr, hm, hst, hslot]
  | some o => simp [busReason, hl, hc, hfree o hslot, hr, hm, hst, hslot]

/-- What a write leaves in a plain register; a reaction policy also has the RIDE sources looked at again. -/
def plainWrite (fam : Fam) (a : Nat) (x : Word) (d : Dev) : Dev := if fam = .fltPol then (d.wr a x).post .ride else d.wr a x

theorem regWrite_plain {via : Via} {r : RegD} {w : Wr} {mask : Word} {d : Dev} (hf : w.loc.fam ∈ plainFams) (hc : r.cls ≠ .c)
    (hs : r.cls = .s → ownerEnabled d w.loc = false) : regWrite via r w mask d = (0, plainWrite w.loc.fam w.addr w.new d) := by
  have hown : (r.cls == .s && ownerEnabled d w.loc) = false := by
    cases h : r.cls == Cls.s
    · rfl
    · simp [hs (by simpa using h)]
  have hcls : (r.cls == .c) = false := by simpa using hc
  simp only [plainFams, List.mem_cons, List.not_mem_nil, or_false] at hf
  rcases hf with h | h | h | h | h | h | h <;>
    simp [regWrite, hown, valueReason1, valueReason2, enableOf, storeWord, hcls, writeEffect1, writeEffect2, h, plainWrite, Dev.on]

theorem writeDev_plain {p : Path} {a : Nat} {v : Word} {fam : Fam} {i off : Nat} {r : RegD} {d : Dev} (hl : locate a = some ⟨fam, i, off, some r⟩)
    (hf : fam ∈ plainFams) (hb : BusOpen d fam i a) (hc : r.cls ≠ .c) (hs : r.cls = .s → ownerEnabled d ⟨fam, i, off, some r⟩ = false) :
    hostWriteDev p a v d = (0, plainWrite fam a (merge r (d.rd a) v 4294967295#32) d) := by
  have hoff : a - off + off = a := Nat.sub_add_cancel (locate_plain hl hf).2
  have hb0 : busReason (.host p) (locate a) a d = 0 := busReason_plain hl hf hb
  have hw : writeDev (.host p) a v 4294967295#32 d = (0, plainWrite fam a (merge r (d.rd a) v 4294967295#32) d) := by
    rw [hl] at hb0
    unfold writeDev
    simp only [hl, hb0, bne_self_eq_false, Bool.false_eq_true, if_false]
    rw [regWrite_plain hf hc hs]
    simp only [Wr.addr, hoff]
  simp [hostWriteDev, hw]

/-! ### What a write does not touch -/

theorem PlainAt.not_objStatus {fam : Fam} {i a : Nat} (h : PlainAt fam i a) : ¬ IsObjStatus a := not_obj_small a (by have := h.high; omega)

theorem occupied_congr {d e : Dev} (h : e.ms.occ = d.ms.occ) (o : Obj) : e.occupied o = d.occupied o := by simp only [Dev.occupied, h]

theorem enabled_congr {d e : Dev} {o : Obj} (h : e.ms.occ = d.ms.occ) (hr : e.rd (enableReg o) = d.rd (enableReg o)) : e.enabled o = d.enabled o := by
  simp only [Dev.enabled, occupied_congr h, hr]

/-- Whether the owner of a plain register is enabled depends on the occupied slots and on one register below the plain windows or in the time base. -/
theorem ownerEnabled_plain {d e : Dev} {fam : Fam} {i off : Nat} {r : Option RegD} (hf : fam ∈ plainFams) (hloop : fam = .loopS → i < 2048) (hstr : fam = .protStr → i < 8)
    (hocc : e.ms.occ = d.ms.occ)
    (h : ∀ a, a < 0x280000 ∨ 0x4C0000 ≤ a ∧ a < 0x4C0200 → e.rd a = d.rd a) : ownerEnabled e ⟨fam, i, off, r⟩ = ownerEnabled d ⟨fam, i, off, r⟩ := by
  have key (o : Obj) (ho : enableReg o < 0x280000 ∨ 0x4C0000 ≤ enableReg o ∧ enableReg o < 0x4C0200) : e.enabled o = d.enabled o :=
    enabled_congr hocc (h _ ho)
  have hdev : e.enabled .device = d.enabled .device := key _ (by decide)
  have hptp : e.enabled .ptp = d.enabled .ptp := key _ (by decide)
  have eloop (hi : i < 2048) : e.enabled (.loop i) = d.enabled (.loop i) := key _ (by simp only [enableReg, bLoopD, F.LD_CTRL]; omega)
  have estr (hi : i < 8) : e.enabled (.string i) = d.enabled (.string i) := key _ (by simp only [enableReg, bStr, F.STR_ENABLE]; omega)
  simp only [plainFams, List.mem_cons, List.not_mem_nil, or_false] at hf
  rcases hf with rfl | rfl | rfl | rfl | rfl | rfl | rfl
  case inl => simp [ownerEnabled, ownerOf, slotOfLoc, eloop (hloop rfl)]
  case inr.inr.inl => simp [ownerEnabled, ownerOf, slotOfLoc, estr (hstr rfl)]
  all_goals simp [ownerEnabled, ownerOf, slotOfLoc, hdev, hptp]

/-- The bus stays open to a plain register while its registers outside the pair window and the slots stay. -/
theorem BusOpen.congr {d e : Dev} {fam : Fam} {i a : Nat} (hb : BusOpen d fam i a) (hms : e.ms = d.ms)
    (hrom : e.rd (bImg + F.IMG_STATUS_ROM_HOLD.off) = d.rd (bImg + F.IMG_STATUS_ROM_HOLD.off))
    (hrole : standbyMay a = true ∨ e.rd (bSs + F.SS_STATUS_ROLE.off) = d.rd (bSs + F.SS_STATUS_ROLE.off)) : BusOpen e fam i a := by
  obtain ⟨hc, hr, hs, hloop, hstr⟩ := hb
  refine ⟨by rw [hms]; exact hc, ?_, fun he => ?_, fun h => ?_, fun h => ?_⟩
  · rw [← hr]
    simp only [romHold, Dev.gb, Dev.g, hrom]
  · rcases hrole with h | h
    · exact h
    · refine hs (he ▸ ?_)
      simp only [Dev.role, Dev.g, h]
  · exact (occupied_congr (congrArg ModeSt.occ hms) _).trans (hloop h)
  · exact (occupied_congr (congrArg ModeSt.occ hms) _).trans (hstr h)

/-- A module that a host reaches is open to a plain register, also as the access finds it. -/
theorem Responsive.busOpen {d : Dev} (h : Responsive d) {fam : Fam} {i a : Nat} (hl : fam = .loopS → d.occupied (.loop i) = true)
    (hs : fam = .protStr → d.occupied (.string i) = true) : BusOpen (found d) fam i a := by
  obtain ⟨-, -, -, hrom, hrole, hcmd⟩ := h
  have hb : BusOpen d fam i a := ⟨hcmd, hrom, fun e => absurd e hrole, hl, hs⟩
  have far (x : Nat) (hx : x < 0x508000 ∨ 0x520000 ≤ x) : (found d).rd x = d.rd x := found_rd d x (hx.elim (not_obj_small x) (not_obj_big x))
  exact hb.congr (by simp) (far _ (by decide)) (Or.inr (far _ (by decide)))

/-! ### The RIDE instants that a reaction policy moves (R68, R69) -/

/-- The module with other instants of the RIDE interval of CHARGE and of the settling of RIDE. -/
def Dev.rideAt (d : Dev) (rf sf : Option Nat) : Dev := { d with ms := { d.ms with rideFrom := rf, settleFrom := sf } }

/-- A look at the RIDE sources, where no CHARGE that is done can pass on to RUN, moves those two instants only. -/
theorem rideChanged_eq (d : Dev) (h : d.mode = .charge → d.gb bDev F.DEV_MODE_CHARGE_DONE = false) :
    ∃ rf sf, rideChanged d = d.rideAt rf sf ∧ (d.mode ≠ .charge → rf = d.ms.rideFrom) ∧ (d.mode ≠ .ride → sf = d.ms.settleFrom) := by
  cases hm : d.mode
  case charge =>
    refine ⟨if rideActive d then d.ms.rideFrom.or (some d.tick) else none, d.ms.settleFrom, ?_, by simp, by simp⟩
    have hdone (x : ModeSt) : ({ d with ms := x } : Dev).gb bDev F.DEV_MODE_CHARGE_DONE = false := h hm
    simp only [rideChanged, hm, hdone, Bool.and_false, Bool.false_and, Bool.false_eq_true, if_false]
    rfl
  case ride =>
    refine ⟨d.ms.rideFrom, if rideActive d then none else d.ms.settleFrom.or (some d.tick), ?_, by simp, by simp⟩
    simp only [rideChanged, hm]
    rfl
  all_goals
    refine ⟨d.ms.rideFrom, d.ms.settleFrom, ?_, by simp, by simp⟩
    simp only [rideChanged, hm]
    rfl

theorem settle_post_ride (d : Dev) (hd : d.due = []) (hr : (rideChanged d).due = []) : settle (d.post .ride) = rideChanged d := by
  have hp : (d.post .ride).due = [Due.ride] := by simp [Dev.post, hd]
  have hq : ({ d.post .ride with due := [] } : Dev) = d := by rw [← hd]; rfl
  rw [settle, hp, settleN]
  simp only [hp]
  rw [hq]
  exact settleN_quiet _ _ hr

/-- What stands after a write to a plain register once nothing waits. -/
theorem plainWrite_settles (fam : Fam) (i a : Nat) (x : Word) (d : Dev) (hq : d.Quiet) (ha : PlainAt fam i a)
    (hc : fam = .fltPol → d.mode = .charge → d.gb bDev F.DEV_MODE_CHARGE_DONE = false) :
    ∃ rf sf, settle (takeStart (settle (plainWrite fam a x d))) = (d.wr a x).rideAt rf sf ∧
      (fam ≠ .fltPol ∨ d.mode ≠ .charge → rf = d.ms.rideFrom) ∧ (fam ≠ .fltPol ∨ d.mode ≠ .ride → sf = d.ms.settleFrom) := by
  obtain ⟨hdue, hstart⟩ := hq
  by_cases hf : fam = .fltPol
  · have hrd : (d.wr a x).rd (bDev + F.DEV_MODE.off) = d.rd (bDev + F.DEV_MODE.off) :=
      Dev.rd_wr_ne _ _ (by have := ha.low; simp only [bDev, F.DEV_MODE]; omega)
    have hmode : (d.wr a x).mode = d.mode := by
      simp only [Dev.mode, Dev.g]
      rw [show bDev + F.DEV_MODE_MODE.off = bDev + F.DEV_MODE.off from rfl, hrd]
    have hdone : (d.wr a x).gb bDev F.DEV_MODE_CHARGE_DONE = d.gb bDev F.DEV_MODE_CHARGE_DONE := by
      simp only [Dev.gb, Dev.g]
      rw [show bDev + F.DEV_MODE_CHARGE_DONE.off = bDev + F.DEV_MODE.off from rfl, hrd]
    obtain ⟨rf, sf, hr, hrf, hsf⟩ := rideChanged_eq (d.wr a x) (by rw [hmode, hdone]; exact hc hf)
    have hquiet : ((d.wr a x).rideAt rf sf).due = [] := hdue
    refine ⟨rf, sf, ?_, fun h => hrf (hmode ▸ h.resolve_left (absurd hf)), fun h => hsf (hmode ▸ h.resolve_left (absurd hf))⟩
    rw [plainWrite, if_pos hf, settle_post_ride (d.wr a x) hdue (by rw [hr]; exact hquiet), hr, takeStart_quiet ((d.wr a x).rideAt rf sf) hstart,
      settle_quiet _ hquiet]
  · refine ⟨d.ms.rideFrom, d.ms.settleFrom, ?_, fun _ => rfl, fun _ => rfl⟩
    have hquiet : (d.wr a x).due = [] := hdue
    rw [plainWrite, if_neg hf, settle_quiet _ hquiet, takeStart_quiet (d.wr a x) hstart, settle_quiet _ hquiet]
    rfl

/-! ### The register write of a host -/

theorem found_quiet {d : Dev} (h : d.Quiet) : (found d).Quiet := by simpa [Dev.Quiet] using h

/-- A register that is no object state reads the same in the module that an access finds. -/
theorem found_rd_far (d : Dev) {a : Nat} (h : a < 0x508000 ∨ 0x520000 ≤ a) : (found d).rd a = d.rd a :=
  found_rd d a (h.elim (not_obj_small a) (not_obj_big a))

theorem refreshed_rd (d : Dev) {a : Nat} (h : ¬ IsObjStatus a) : (refreshElig (refreshCan d)).rd a = d.rd a := by
  rw [refreshElig_rd, refreshCan_rd d a h]

theorem refreshed_rest (d : Dev) : (refreshElig (refreshCan d)).rest = d.rest := by rw [refreshElig_rest, refreshCan_rest]

/-- The module after a write of a host to a plain register. -/
def plainWritten (d : Dev) (a : Nat) (x : Word) (rf sf : Option Nat) : Dev := refreshElig (refreshCan (((found d).wr a x).rideAt rf sf))

theorem plainWritten_rd_self (d : Dev) {a : Nat} (x : Word) (rf sf : Option Nat) (h : ¬ IsObjStatus a) : (plainWritten d a x rf sf).rd a = x :=
  (refreshed_rd _ h).trans (Dev.rd_wr_self _ _ _)

theorem plainWritten_keeps (d : Dev) (a : Nat) (x : Word) (rf sf : Option Nat) : KeepsRegs d (plainWritten d a x rf sf) [a] := by
  intro b hb hobj
  rw [plainWritten, refreshed_rd _ hobj]
  exact (Dev.rd_wr_ne _ _ (by simpa using hb)).trans (found_rd _ _ hobj)

theorem plainWritten_rideFrom (d : Dev) (a : Nat) (x : Word) (rf sf : Option Nat) : (plainWritten d a x rf sf).ms.rideFrom = rf := by
  simp [plainWritten, Dev.rideAt]

theorem plainWritten_settleFrom (d : Dev) (a : Nat) (x : Word) (rf sf : Option Nat) : (plainWritten d a x rf sf).ms.settleFrom = sf := by
  simp [plainWritten, Dev.rideAt]

theorem plainWritten_rest (d : Dev) (a : Nat) (x : Word) (rf sf : Option Nat) :
    (plainWritten d a x rf sf).rest =
      { d.rest with ms := { d.ms with rideFrom := (plainWritten d a x rf sf).ms.rideFrom, settleFrom := (plainWritten d a x rf sf).ms.settleFrom } } := by
  rw [plainWritten_rideFrom, plainWritten_settleFrom, plainWritten, refreshed_rest, ← found_rest d]
  simp [Dev.rideAt, Dev.rest]

theorem hostWrite_plain {p : Path} {a : Nat} {v : Word} {s : State} {fam : Fam} {i off : Nat} {r : RegD} (hp : HostReady p s) (h4 : a % 4 = 0)
    (hl : locate a = some ⟨fam, i, off, some r⟩) (hf : fam ∈ plainFams) (hloop : fam = .loopS → s.d.occupied (.loop i) = true)
    (hstr : fam = .protStr → s.d.occupied (.string i) = true) (hcharge : fam = .fltPol → s.d.mode = .charge → s.d.gb bDev F.DEV_MODE_CHARGE_DONE = false)
    (hc : r.cls ≠ .c) (hs : r.cls = .s → ownerEnabled s.d ⟨fam, i, off, some r⟩ = false) :
    ∃ x rf sf, hostWrite p a v s = spiNote (fun _ => x) { s with d := plainWritten s.d a (merge r (s.d.rd a) v 4294967295#32) rf sf } ∧
      (fam ≠ .fltPol ∨ s.d.mode ≠ .charge → rf = s.d.ms.rideFrom) ∧ (fam ≠ .fltPol ∨ s.d.mode ≠ .ride → sf = s.d.ms.settleFrom) := by
  have ha : PlainAt fam i a := (locate_plain hl hf).1
  obtain ⟨x, hx⟩ := hostWrite_acts p a v s hp h4 (by have := ha.low; simp only [bDev, F.CMD_OP]; omega)
  have hrd : (found s.d).rd a = s.d.rd a := found_rd _ _ ha.not_objStatus
  have hown : ownerEnabled (found s.d) ⟨fam, i, off, some r⟩ = ownerEnabled s.d ⟨fam, i, off, some r⟩ :=
    ownerEnabled_plain hf ha.loop ha.str (by simp) (fun b hb => found_rd_far _ (by omega))
  have hmode : (found s.d).mode = s.d.mode := by simp only [Dev.mode, Dev.g, found_rd_far s.d (show bDev + F.DEV_MODE_MODE.off < 0x508000 ∨ _ from by decide)]
  have hdone : (found s.d).gb bDev F.DEV_MODE_CHARGE_DONE = s.d.gb bDev F.DEV_MODE_CHARGE_DONE := by
    simp only [Dev.gb, Dev.g, found_rd_far s.d (show bDev + F.DEV_MODE_CHARGE_DONE.off < 0x508000 ∨ _ from by decide)]
  have hw : (hostWriteDev p a v (found s.d)).2 = plainWrite fam a (merge r (s.d.rd a) v 4294967295#32) (found s.d) := by
    rw [writeDev_plain hl hf (hp.1.busOpen hloop hstr) hc (by rw [hown]; exact hs), hrd]
  obtain ⟨rf, sf, hset, hrf, hsf⟩ := plainWrite_settles fam i a (merge r (s.d.rd a) v 4294967295#32) (found s.d) (found_quiet hp.1.1) ha
    (by rw [hmode, hdone]; exact hcharge)
  refine ⟨x, rf, sf, ?_, by simpa [hmode] using hrf, by simpa [hmode] using hsf⟩
  rw [hx, hw, State.run, hset, plainWritten]

/-- R6, R112: a plain register takes the word that the RW and W1C rules make, and nothing else changes but the two instants of RIDE. -/
theorem registerWrite_plain_goes {p : Path} {a : BitVec 24} {v : Word} {s : State} {fam : Fam} {i off : Nat} {r : RegD} (hp : HostReady p s)
    (h4 : a.toNat % 4 = 0) (hl : locate a.toNat = some ⟨fam, i, off, some r⟩) (hf : fam ∈ plainFams)
    (hloop : fam = .loopS → s.d.occupied (.loop i) = true) (hstr : fam = .protStr → s.d.occupied (.string i) = true)
    (hcharge : fam = .fltPol → s.d.mode = .charge → s.d.gb bDev F.DEV_MODE_CHARGE_DONE = false) (hc : r.cls ≠ .c)
    (hs : r.cls = .s → ownerEnabled s.d ⟨fam, i, off, some r⟩ = false) :
    Goes (exec (.registerWrite p a v) s) (fun t => t.d.rd a.toNat = merge r (s.d.rd a.toNat) v 4294967295#32 ∧
      KeepsRegs s.d t.d [a.toNat] ∧ t.d.rest = { s.d.rest with ms := { s.d.ms with rideFrom := t.d.ms.rideFrom, settleFrom := t.d.ms.settleFrom } } ∧
      (fam ≠ .fltPol ∨ s.d.mode ≠ .charge → t.d.ms.rideFrom = s.d.ms.rideFrom) ∧ (fam ≠ .fltPol ∨ s.d.mode ≠ .ride → t.d.ms.settleFrom = s.d.ms.settleFrom) ∧
      t.nv = s.nv ∧ t.pending = s.pending) := by
  obtain ⟨x, rf, sf, hw, hrf, hsf⟩ := hostWrite_plain (v := v) hp h4 hl hf hloop hstr hcharge hc hs
  have hobj : ¬ IsObjStatus a.toNat := (locate_plain hl hf).1.not_objStatus
  exact ⟨_, congrArg Host.Outcome.next hw, plainWritten_rd_self _ _ _ _ hobj, plainWritten_keeps _ _ _ _ _, plainWritten_rest _ _ _ _ _,
    fun h => (plainWritten_rideFrom _ _ _ _ _).trans (hrf h), fun h => (plainWritten_settleFrom _ _ _ _ _).trans (hsf h), rfl, rfl⟩

/-! ### The order of the two host paths (R118, R681) -/

theorem upd_id_found {s : State} (h : s.d.Quiet) : s.upd id = { s with d := found s.d } := by
  rw [← State.upd_id_quiet s h]
  rfl

/-- An LMP write waits while an SPI write of its tick to the same register does. -/
theorem hostWrite_lmp_waits {a : Nat} {v : Word} {s : State} (hq : s.d.Quiet) (hr : lmpRuns s.d = true) (h4 : a % 4 = 0) (hw : spiWaits s.pending a = true) :
    hostWrite .lmp a v s = spiNote (fun h => { h with later := h.later ++ [(a, v)] }) { s with d := found s.d } := by
  simp [hostWrite, h4, hr, hw, upd_id_found hq]

theorem hostWrite_lmp_off {a : Nat} {v : Word} {s : State} (hq : s.d.Quiet) (hr : lmpRuns s.d = false) :
    hostWrite .lmp a v s = { s with d := found s.d } := by
  simp [hostWrite, hr, upd_id_found hq]

theorem busWrite_plain {p : Path} {a : Nat} {v : Word} {s : State} {fam : Fam} {i off : Nat} {r : RegD} (hq : s.d.Quiet)
    (hl : locate a = some ⟨fam, i, off, some r⟩) (hf : fam ∈ plainFams) (hnf : fam ≠ .fltPol) (hb : BusOpen s.d fam i a) (hc : r.cls ≠ .c)
    (hs : r.cls = .s → ownerEnabled s.d ⟨fam, i, off, some r⟩ = false) :
    busWrite p a v s = (0, { s with d := refreshElig (refreshCan (s.d.wr a (merge r (s.d.rd a) v 4294967295#32))) }) := by
  have hop : a ≠ bDev + F.CMD_OP.off := by have := (locate_plain hl hf).1.low; simp only [bDev, F.CMD_OP]; omega
  have hrun : s.run (fun _ => s.d.wr a (merge r (s.d.rd a) v 4294967295#32)) =
      { s with d := refreshElig (refreshCan (s.d.wr a (merge r (s.d.rd a) v 4294967295#32))) } := by
    rw [← State.run_quiet s (fun _ => s.d.wr a (merge r (s.d.rd a) v 4294967295#32)) hq]
    rfl
  simp only [busWrite, hop, false_and, if_false, writeDev_plain hl hf hb hc hs, plainWrite, if_neg hnf, hrun]

/-- An SPI write with one LMP write to the same register held back: the two writes one after the other. -/
theorem spiWrite_later {a : Nat} {v w : Word} {s : State} (hr : Responsive s.d) (hlater : s.d.hs.later = [(a, w)]) (hw : spiWaits s.pending a = false)
    (h4 : a % 4 = 0) {t : State} (ht : (busWrite .spi a v { s with d := found s.d }).2 = t) (htl : t.d.hs.later = [(a, w)]) (htp : t.pending = s.pending) :
    ∃ f : HostSt → HostSt, (f t.d.hs).later = [] ∧ spiWrite a [v] false s = (busWrite .lmp a w (spiNote f t)).2 := by
  refine ⟨fun h => { h with addrErr := false, refused := (busWrite .spi a v { s with d := found s.d }).1 != 0, later := h.later.filter (fun x => spiWaits s.pending x.1) }, ?_, ?_⟩
  · simp [htl, hw]
  · have hwords : spiWriteWords a [v] false s = spiNote (fun h => { h with addrErr := false, refused := (busWrite .spi a v { s with d := found s.d }).1 != 0 }) t := by
      simp [spiWriteWords, spiReady_on _ hr.2.1 hr.2.2.1, spiBegin_ready s hr, upd_id_found hr.1, h4, busWrites, ht]
    have hp : (spiNote (fun h => { h with addrErr := false, refused := (busWrite .spi a v { s with d := found s.d }).1 != 0 }) t).pending = s.pending := htp
    simp only [spiWrite, hlater, List.isEmpty_cons, Bool.false_eq_true, if_false, hwords, applyLater, hp]
    simp [spiNote, htl, hw]

/-- R118: an SPI write and the LMP write that waited for it, both to one register of a plain window: the LMP write is the last. -/
theorem registerWrite_both_go {a : BitVec 24} {v w : Word} {s : State} {fam : Fam} {i off : Nat} {r : RegD} (hr : Responsive s.d)
    (hlater : s.d.hs.later = [(a.toNat, w)]) (hw : spiWaits s.pending a.toNat = false) (h4 : a.toNat % 4 = 0)
    (hl : locate a.toNat = some ⟨fam, i, off, some r⟩) (hf : fam ∈ [Fam.lnk, .mon, .ss, .ptpPort]) (hc : r.cls ≠ .c)
    (hs : r.cls = .s → ownerEnabled s.d ⟨fam, i, off, some r⟩ = false) :
    Goes (exec (.registerWrite .spi a v) s) (fun t => t.d.rd a.toNat = merge r (merge r (s.d.rd a.toNat) v 4294967295#32) w 4294967295#32 ∧
      t.d.hs.later = [] ∧ KeepsRegs s.d t.d [a.toNat] ∧ t.d.rest = s.d.rest ∧ t.nv = s.nv ∧ t.pending = s.pending) := by
  have hfp : fam ∈ plainFams := by revert hf; cases fam <;> decide
  obtain ⟨hnl, hns, hnf⟩ : fam ≠ .loopS ∧ fam ≠ .protStr ∧ fam ≠ .fltPol := by revert hf; cases fam <;> decide
  have ha : PlainAt fam i a.toNat := (locate_plain hl hfp).1
  have hobj := ha.not_objStatus
  have hrd : (found s.d).rd a.toNat = s.d.rd a.toNat := found_rd _ _ hobj
  have hb : BusOpen (found s.d) fam i a.toNat := hr.busOpen (absurd · hnl) (absurd · hns)
  let u : Dev := refreshElig (refreshCan ((found s.d).wr a.toNat (merge r (s.d.rd a.toNat) v 4294967295#32)))
  have hu (b : Nat) (hbo : ¬ IsObjStatus b) (hba : b ≠ a.toNat) : u.rd b = (found s.d).rd b := (refreshed_rd _ hbo).trans (Dev.rd_wr_ne _ _ hba)
  have hums : u.ms = (found s.d).ms := by simp [u]
  have hown (d : Dev) (hocc : d.ms.occ = s.d.ms.occ) (h : ∀ b, b < 0x280000 ∨ 0x4C0000 ≤ b ∧ b < 0x4C0200 → d.rd b = s.d.rd b) :
      r.cls = .s → ownerEnabled d ⟨fam, i, off, some r⟩ = false := fun e => (ownerEnabled_plain hfp ha.loop ha.str hocc h).trans (hs e)
  have hbu : BusOpen u fam i a.toNat := by
    refine hb.congr hums (hu _ (not_obj_big _ (by decide)) ?_) ?_
    · have := ha.high
      simp only [bImg, F.IMG_STATUS_ROM_HOLD]
      omega
    · by_cases hss : fam = .ss
      · have := ha.ss hss
        exact Or.inl (by simp [standbyMay]; omega)
      · have := ha.notSs hss
        exact Or.inr (hu _ (not_obj_small _ (by decide)) (by simp only [bSs, F.SS_STATUS_ROLE]; omega))
  have first : (busWrite .spi a.toNat v { s with d := found s.d }).2 = { s with d := u } := by
    rw [busWrite_plain (found_quiet hr.1) hl hfp hnf hb hc (hown _ (by simp) (fun b hb' => found_rd_far _ (by omega)))]
    simp only [hrd, u]
  obtain ⟨f, hfl, hspi⟩ := spiWrite_later hr hlater hw h4 first (by simpa [u] using hlater) rfl
  let t : Dev := { u with hs := f u.hs }
  have hux : t.rd a.toNat = merge r (s.d.rd a.toNat) v 4294967295#32 := (refreshed_rd _ hobj).trans (Dev.rd_wr_self _ _ _)
  have hut (b : Nat) (hb' : b < 0x280000 ∨ 0x4C0000 ≤ b ∧ b < 0x4C0200) : t.rd b = s.d.rd b := by
    have := ha.low
    have := ha.notTb
    exact (hu b (not_obj_small b (by omega)) (by omega)).trans (found_rd_far _ (by omega))
  have second := busWrite_plain (p := .lmp) (v := w) (s := { s with d := t }) (by simpa [t, u] using hr.1) hl hfp hnf (hbu.congr rfl rfl (Or.inr rfl)) hc
    (hown t (by simp [t, u]) hut)
  refine ⟨_, congrArg Host.Outcome.next (hspi.trans (congrArg Prod.snd second)), ?_, ?_, fun b hb' hbo => ?_, ?_, rfl, rfl⟩
  · rw [refreshed_rd _ hobj, Dev.rd_wr_self, hux]
  · simpa [t] using hfl
  · have hba : b ≠ a.toNat := by simpa using hb'
    rw [refreshed_rd _ hbo, Dev.rd_wr_ne _ _ hba]
    exact (hu b hbo hba).trans (found_rd _ _ hbo)
  · rw [refreshed_rest]
    exact (refreshed_rest _).trans (found_rest s.d)

/-- Settles O9: reads of unmapped addresses and FREE slots, the reasons of refused writes, the write of a plain register, and the order of an SPI and an LMP write of one tick. -/
theorem registerAccessRules : Obligations.RegisterAccessRules := by
  unfold Obligations.RegisterAccessRules
  refine ⟨⟨shown_unmapped, shown_free⟩, ⟨?_, ?_, ?_⟩, ?_, ?_, ?_, ?_⟩
  · intro via r w mask s hs ho
    simp [regWrite, hs, ho]
  · intro p a v mask s _ h
    exact writeDev_refused (busReason_unmapped p a s h) (by decide)
  · intro p a v mask s l o hc hl ho hf
    exact writeDev_refused (busReason_free p a s l o hc hl ho hf) (by decide)
  · intro p a v s fam i off r hp h4 hl hf hloop hstr hcharge hc hs
    exact registerWrite_plain_goes hp h4 hl hf hloop hstr hcharge hc hs
  · intro a v s hq hr h4 hw
    exact ⟨_, congrArg Host.Outcome.next (hostWrite_lmp_waits hq hr h4 hw), by simp [spiNote], fun b _ hb => found_rd s.d b hb, found_rest s.d, rfl, rfl⟩
  · intro a v s hq hr
    exact ⟨_, congrArg Host.Outcome.next (hostWrite_lmp_off hq hr), by simp, fun b _ hb => found_rd s.d b hb, found_rest s.d, rfl, rfl⟩
  · intro a v w s fam i off r hr hlater hw h4 hl hf hc hs
    exact registerWrite_both_go hr hlater hw h4 hl hf hc hs

end Sys2Proof.Machine
end

section
/-! SUPPORT. Resets, the choice of images and the end of LOAD (R6, R37 to R39, R48, R57, R664, R693). -/

namespace Sys2Proof.Machine

/-! ### Operations beside the mode and the slots -/

/-- `e` differs from `d` neither in the modes and slots nor in the device window, but for its interrupts. -/
structure Dev.Aside (d e : Dev) : Prop where
  ms : e.ms = d.ms
  rd : ∀ a < 0x10000, a ≠ bDev + F.DEV_IRQ_STATUS.off → e.rd a = d.rd a

theorem Dev.Aside.refl (d : Dev) : d.Aside d := ⟨rfl, fun _ _ _ => rfl⟩

theorem Dev.Aside.trans {d e f : Dev} (h : d.Aside e) (g : e.Aside f) : d.Aside f :=
  ⟨g.ms.trans h.ms, fun a ha hi => (g.rd a ha hi).trans (h.rd a ha hi)⟩

/-- A change of the state that is no register and no mode state. -/
theorem Dev.Aside.of_eq {d e : Dev} (hm : e.ms = d.ms) (hr : e.regs = d.regs) : d.Aside e := ⟨hm, fun a _ _ => Dev.rd_congr hr a⟩

theorem Dev.aside_wr (d : Dev) {a : Nat} (v : Word) (h : 0x10000 ≤ a) : d.Aside (d.wr a v) := ⟨rfl, fun _ _ _ => Dev.rd_wr_ne _ _ (by omega)⟩

theorem Dev.aside_p (d : Dev) {b : Nat} (f : Fld) (v : Nat) (h : 0x10000 ≤ b) : d.Aside (d.p b f v) := Dev.aside_wr d _ (by omega)

theorem Dev.aside_irq (d : Dev) {f : Fld} (h : f.off = F.DEV_IRQ_STATUS.off) : d.Aside (d.irq f) :=
  ⟨rfl, fun _ _ hi => Dev.rd_p_ne _ _ _ (h ▸ hi)⟩

theorem Dev.aside_on {d : Dev} {f : Dev → Dev} (c : Bool) (h : d.Aside (f d)) : d.Aside (d.on c f) := by
  cases c
  · exact Dev.Aside.refl d
  · exact h

theorem Dev.aside_each {α : Type} {f : α → Dev → Dev} (h : ∀ (x : α) (d : Dev), d.Aside (f x d)) (l : List α) (d : Dev) : d.Aside (d.each l f) := by
  unfold Dev.each
  induction l generalizing d with
  | nil => exact Dev.Aside.refl d
  | cons x t ih => exact (h x d).trans (ih _)

theorem Dev.aside_setPort (d : Dev) (p : Nat) (f : PortSt → PortSt) : d.Aside (d.setPort p f) := Dev.Aside.of_eq rfl rfl

theorem Dev.aside_setNode (d : Dev) (n : Nat) (f : NodeSt → NodeSt) : d.Aside (d.setNode n f) := Dev.Aside.of_eq rfl rfl

theorem aside_mgmtSend (p op addr len : Nat) (data : List Byte) (src : Option Nat) (d : Dev) : d.Aside (mgmtSend p op addr len data src d) := by
  unfold mgmtSend
  split
  · exact Dev.Aside.refl d
  · exact Dev.aside_setPort d _ _

theorem aside_detectDesat (n : Nat) (d : Dev) : d.Aside (detectDesat n d) := by
  unfold detectDesat
  split
  · exact (aside_mgmtSend _ _ _ _ _ _ d).trans (Dev.aside_setNode _ _ _)
  · exact Dev.Aside.refl d

theorem aside_setPState (p : Nat) (st : PState) (d : Dev) : d.Aside (setPState p st d) :=
  (Dev.aside_setPort d _ _).trans (Dev.aside_p _ _ _ (by simp only [bPort]; omega))

theorem aside_refreshToken (p : Nat) (d : Dev) : d.Aside (refreshToken p d) := by
  unfold refreshToken
  simp only []
  split_ifs
  · have h := (Dev.aside_setPort d p (fun q => { q with tok := true })).trans (aside_setPState p .token _)
    split
    · exact h.trans (aside_detectDesat _ _)
    · exact h
  · exact (Dev.aside_setPort d _ _).trans (aside_setPState _ _ _)
  · exact Dev.aside_setPort d _ _
  · exact Dev.Aside.refl d

theorem aside_refreshTokens (d : Dev) : d.Aside (refreshTokens d) := Dev.aside_each aside_refreshToken _ d

theorem aside_auxIdle (i : Nat) (d : Dev) : d.Aside (auxIdle i d) :=
  Dev.Aside.trans (e := d.setAux i _) (Dev.Aside.of_eq rfl rfl) (Dev.aside_p _ _ _ (by simp only [bAux]; omega))

theorem aside_refreshAux (d : Dev) : d.Aside (refreshAux d) := by
  refine Dev.aside_each (fun i d => ?_) _ d
  split
  · exact Dev.aside_p _ _ _ (by simp only [bAux]; omega)
  · exact aside_auxIdle i d

theorem aside_lostRec (d : Dev) : d.Aside (lostRec d) :=
  (Dev.aside_p (b := bFlt) d _ _ (by decide)).trans (Dev.aside_p (b := bFlt) _ _ _ (by decide))

theorem aside_pushRec_plain (r : Rec) (d : Dev) (h : r.severe = false) : d.Aside (pushRec r d) := by
  unfold pushRec
  simp only [h, Bool.false_eq_true, if_false]
  split
  · exact (Dev.aside_on _ (Dev.aside_irq (f := F.DEV_IRQ_STATUS_FAULT_REC) d rfl)).trans (Dev.Aside.of_eq rfl rfl)
  · refine Dev.Aside.trans ?_ (aside_lostRec _)
    exact Dev.Aside.of_eq rfl rfl

theorem aside_modeRec (new old why : Nat) (d : Dev) : d.Aside (modeRec new old why d) := aside_pushRec_plain _ d rfl

theorem aside_stopString (i : Nat) (d : Dev) : d.Aside (stopString i d) := by
  unfold stopString
  refine Dev.Aside.trans (Dev.aside_each (fun m d => ?_) _ d) (Dev.Aside.trans (e := Dev.setStr _ i _) (Dev.Aside.of_eq rfl rfl) (Dev.aside_p _ _ _ (by simp only [bStr]; omega)))
  exact Dev.Aside.of_eq rfl rfl

theorem aside_refreshLevels (d : Dev) : d.Aside (refreshLevels d) := by
  unfold refreshLevels
  exact ((Dev.aside_each (fun i d => Dev.aside_p (b := bLoopStat i) d _ _ (by simp only [bLoopStat]; omega)) _ d).trans
    (Dev.aside_p (b := bLoopCom) _ _ _ (by decide))).trans (Dev.aside_p (b := bLoopCom) _ _ _ (by decide))

theorem aside_refreshPlaced (d : Dev) : d.Aside (refreshPlaced d) := Dev.aside_each (fun _ d => Dev.aside_p (b := bLoopTab) d _ _ (by decide)) _ d

/-! ### RELOAD discards the objects (R57, R93) -/

/-- The disable of an object that has a slot touches no slot. -/
theorem enableEffect_off_ms {o : Obj} (h : o.type ≠ 0) (d : Dev) : (enableEffect o false d).ms = d.ms := by
  cases o with
  | string i => exact (aside_stopString i d).ms
  | node n => exact (aside_refreshToken _ d).ms
  | loop i => exact ((aside_refreshLevels d).trans (aside_refreshPlaced _)).ms
  | profile i => rfl
  | _ => exact absurd rfl h

theorem clearSlot_ms (o : Obj) (d : Dev) : (clearSlot o d).ms = d.ms := by
  have h : (d.each (blockOf o) (fun r d => d.clearRange r.1 r.2)).ms = d.ms := each_field _ (fun (r : Nat × Nat) d => d.clearRange r.1 r.2) Dev.ms (fun _ _ => rfl) d
  unfold clearSlot
  cases o <;> exact h

/-- One object of RELOAD: disabled, and its slot FREE. -/
def discard (o : Obj) (d : Dev) : Dev := freeSlot o (enableEffect o false (d.setEnabled o false))

theorem discard_occ {o : Obj} (h : o.type ≠ 0) (d : Dev) : (discard o d).ms.occ = tset (fun _ => false) d.ms.occ (slotKey o) false := by
  have hms : (clearSlot o (enableEffect o false (d.setEnabled o false))).ms = d.ms := by
    rw [clearSlot_ms, enableEffect_off_ms h]
    rfl
  simp only [discard, freeSlot, hms]

theorem discard_occupied {o p : Obj} (ho : o.type ≠ 0) (d : Dev) (h : (discard o d).occupied p = true) (hp : p.type ≠ 0) :
    p ≠ o ∧ d.occupied p = true := by
  simp only [Dev.occupied, if_neg hp, discard_occ ho] at h ⊢
  by_cases hk : slotKey p = slotKey o
  · rw [hk, tget_tset_self] at h
    cases h
  · exact ⟨fun e => hk (e ▸ rfl), by rwa [tget_tset_ne _ _ _ hk] at h⟩

theorem each_discard_occupied (l : List Obj) (hl : ∀ o ∈ l, o.type ≠ 0) (d : Dev) (p : Obj) (hp : p.type ≠ 0)
    (h : (d.each l discard).occupied p = true) : p ∉ l ∧ d.occupied p = true := by
  unfold Dev.each at h
  induction l generalizing d with
  | nil => exact ⟨List.not_mem_nil, h⟩
  | cons o t ih =>
    obtain ⟨hpt, hd⟩ := ih (fun x hx => hl x (List.mem_cons_of_mem o hx)) (discard o d) h
    obtain ⟨hpo, hd⟩ := discard_occupied (hl o List.mem_cons_self) d hd hp
    exact ⟨by simp [hpo, hpt], hd⟩

theorem allSlots_type {o : Obj} (h : o ∈ allSlots) : o.type ≠ 0 := by
  simp only [allSlots, List.mem_append, List.mem_map] at h
  rcases h with ((⟨i, -, rfl⟩ | ⟨i, -, rfl⟩) | ⟨i, -, rfl⟩) | ⟨i, -, rfl⟩ <;> simp [Obj.type]

theorem discardAll_free (d : Dev) {o : Obj} (h : o ∈ allSlots) : (discardAll d).occupied o = false := by
  let e : Dev := disableAll subObjects (({ d with ms := { d.ms with checking := none, checks := [] } } : Dev).setEnabled .device false)
  by_contra hocc
  have hmem : ∀ x ∈ allSlots.filter e.occupied, x.type ≠ 0 := fun x hx => allSlots_type (List.mem_of_mem_filter hx)
  obtain ⟨hn, he⟩ := each_discard_occupied _ hmem e o (allSlots_type h) (Bool.eq_true_of_not_eq_false hocc)
  exact hn (List.mem_filter.mpr ⟨h, he⟩)

/-! ### Entering LOAD -/

theorem Dev.Aside.mode {d e : Dev} (h : d.Aside e) : e.mode = d.mode := by
  simp only [Dev.mode, Dev.g, h.rd (bDev + F.DEV_MODE_MODE.off) (by decide) (by decide)]

theorem Dev.Aside.occupied {d e : Dev} (h : d.Aside e) (o : Obj) : e.occupied o = d.occupied o := by
  simp only [Dev.occupied, h.ms]

/-- DEV_MODE as an entry to a mode leaves it. -/
def modeWord (m : Mode) (why : Nat) (d : Dev) : Dev :=
  ((((d.p bDev F.DEV_MODE_PREV d.mode.code).p bDev F.DEV_MODE_MODE m.code).p bDev F.DEV_MODE_TRANS 0).p bDev F.DEV_MODE_CAUSE why).p
    bDev F.DEV_MODE_CHARGE_DONE 0

theorem modeOf_code (m : Mode) : modeOf m.code = some m := by cases m <;> rfl

theorem modeWord_mode (m : Mode) (why : Nat) (d : Dev) : (modeWord m why d).mode = m := by
  have h : (modeWord m why d).g bDev F.DEV_MODE_MODE = m.code := by
    unfold modeWord
    simp (disch := decide) only [Dev.g_p_disjoint, Dev.g_p_self]
    cases m <;> rfl
  simp only [Dev.mode, h, modeOf_code, Option.getD_some]

/-- The mode state at an entry to a mode. -/
def entered (m : Mode) (why : Nat) (d : Dev) : Dev :=
  { d with ms := { d.ms with
    entered := d.tick, stop := none, changed := d.ms.changed || why == 4 || why == 5 || why == 9,
    rideFrom := if m == Mode.charge && rideActive d then some d.tick else none,
    settleFrom := if m == Mode.ride && !rideActive d then some d.tick else none } }

theorem entered_regs (m : Mode) (why : Nat) (d : Dev) : (entered m why d).regs = d.regs := rfl

theorem entered_occ (m : Mode) (why : Nat) (d : Dev) : (entered m why d).ms.occ = d.ms.occ := rfl

theorem modeWord_ms (m : Mode) (why : Nat) (d : Dev) : (modeWord m why d).ms = d.ms := by
  rw [modeWord, Dev.p_ms, Dev.p_ms, Dev.p_ms, Dev.p_ms, Dev.p_ms]

theorem enterMode_load_eq (why : Nat) (d : Dev) : enterMode .load why d =
    refreshAux (refreshTokens (modeRec Mode.load.code d.mode.code why ((entered .load why (modeWord .load why d)).irq F.DEV_IRQ_STATUS_MODE))) := by
  unfold enterMode
  rfl

theorem enterMode_load_aside (why : Nat) (d : Dev) : (entered .load why (modeWord .load why d)).Aside (enterMode .load why d) := by
  rw [enterMode_load_eq]
  generalize entered .load why (modeWord .load why d) = x
  have hirq : x.Aside (x.irq F.DEV_IRQ_STATUS_MODE) := Dev.aside_irq x rfl
  exact ((hirq.trans (aside_modeRec _ _ _ _)).trans (aside_refreshTokens _)).trans (aside_refreshAux _)

theorem enterMode_load_mode (why : Nat) (d : Dev) : (enterMode .load why d).mode = .load := by
  rw [(enterMode_load_aside why d).mode, Dev.mode, Dev.g_congr (entered_regs _ _ _)]
  exact modeWord_mode .load why d

theorem enterMode_load_occupied (why : Nat) (d : Dev) (o : Obj) : (enterMode .load why d).occupied o = d.occupied o := by
  rw [(enterMode_load_aside why d).occupied, occupied_congr (entered_occ _ _ _), occupied_congr (congrArg ModeSt.occ (modeWord_ms _ _ _))]

/-! ### The choice of images (R48, R57) -/

/-- `e` keeps what a choice of images and the start of the root PLL leave alone: the modes, the slots, the device window but for its interrupts, and these units. -/
structure Dev.Loads (d e : Dev) : Prop extends d.Aside e where
  tick : e.tick = d.tick
  box : e.box = d.box
  fars : e.fars = d.fars
  pair : e.pair = d.pair
  boots : e.img.boots = d.img.boots

theorem Dev.Loads.refl (d : Dev) : d.Loads d := ⟨Dev.Aside.refl d, rfl, rfl, rfl, rfl, rfl⟩

theorem Dev.Loads.trans {d e f : Dev} (h : d.Loads e) (g : e.Loads f) : d.Loads f :=
  ⟨h.toAside.trans g.toAside, g.tick.trans h.tick, g.box.trans h.box, g.fars.trans h.fars, g.pair.trans h.pair, g.boots.trans h.boots⟩

theorem Dev.loads_wr (d : Dev) {a : Nat} (v : Word) (h : 0x10000 ≤ a) : d.Loads (d.wr a v) := ⟨Dev.aside_wr d v h, rfl, rfl, rfl, rfl, rfl⟩

theorem Dev.loads_p (d : Dev) {b : Nat} (f : Fld) (v : Nat) (h : 0x10000 ≤ b) : d.Loads (d.p b f v) := ⟨Dev.aside_p d f v h, rfl, rfl, rfl, rfl, rfl⟩

theorem Dev.loads_img (d : Dev) (x : ImgSt) (h : x.boots = d.img.boots) : d.Loads { d with img := x } := ⟨Dev.Aside.of_eq rfl rfl, rfl, rfl, rfl, rfl, h⟩

theorem Dev.loads_clk (d : Dev) (f : ClkSt → ClkSt) : d.Loads (d.setClk f) := ⟨Dev.Aside.of_eq rfl rfl, rfl, rfl, rfl, rfl, rfl⟩

/-- The module with what the last-gasp scan at the end of LOAD found. -/
def scanned (m : List Host.Cell) (d : Dev) : Dev :=
  ((d.p bPwr F.PWR_LG_STATUS_SECTOR (lgScan m).2).p bPwr F.PWR_LG_STATUS_LGSEQ (lgScan m).1).pb bPwr F.PWR_LG_STATUS_READY (nvIsBlank m (lgSector (lgScan m).2) 0x1000)

theorem scanned_loads (m : List Host.Cell) (d : Dev) : d.Loads (scanned m d) :=
  ((Dev.loads_p (b := bPwr) d _ _ (by decide)).trans (Dev.loads_p (b := bPwr) _ _ _ (by decide))).trans (Dev.loads_p (b := bPwr) _ _ _ (by decide))

theorem scanned_img (m : List Host.Cell) (d : Dev) : (scanned m d).img = d.img := by
  rw [scanned, Dev.pb, Dev.p_img, Dev.p_img, Dev.p_img]

theorem scanned_rd (m : List Host.Cell) (d : Dev) {a : Nat} (h : a ≠ bPwr + F.PWR_LG_STATUS.off) : (scanned m d).rd a = d.rd a := by
  rw [scanned, Dev.pb, Dev.rd_p_ne _ F.PWR_LG_STATUS_READY _ h, Dev.rd_p_ne _ F.PWR_LG_STATUS_LGSEQ _ h, Dev.rd_p_ne _ F.PWR_LG_STATUS_SECTOR _ h]

/-- What ends with LOAD: the units of power and images after the scan, and the mode to be taken. -/
def loadEnded (m : List Host.Cell) (d : Dev) : Dev :=
  Dev.post { d with
    pwr := { d.pwr with lgSeq := (lgScan m).1, lgErase := !nvIsBlank m (lgSector (lgScan m).2) 0x1000 },
    img := { d.img with resolving := true, applyBank := none } } (.mode .hold 0x00)

theorem endLoad_eq (m : List Host.Cell) (d : Dev) : endLoad m d = loadEnded m (scanned m d) := rfl

theorem loadEnded_loads (m : List Host.Cell) (d : Dev) : d.Loads (loadEnded m d) := ⟨Dev.Aside.of_eq rfl rfl, rfl, rfl, rfl, rfl, rfl⟩

theorem endLoad_loads (m : List Host.Cell) (d : Dev) : d.Loads (endLoad m d) := by
  rw [endLoad_eq]
  exact (scanned_loads m d).trans (loadEnded_loads m _)

theorem loadEnded_img (m : List Host.Cell) (d : Dev) : (loadEnded m d).img = { d.img with resolving := true, applyBank := none } := rfl

theorem loadEnded_regs (m : List Host.Cell) (d : Dev) : (loadEnded m d).regs = d.regs := rfl

theorem loadEnded_due (m : List Host.Cell) (d : Dev) : (loadEnded m d).due = d.due ++ [Due.mode .hold 0x00] := rfl

theorem endLoad_img (m : List Host.Cell) (d : Dev) : (endLoad m d).img = { d.img with resolving := true, applyBank := none } := by
  rw [endLoad_eq, loadEnded_img, scanned_img]

theorem endLoad_rd (m : List Host.Cell) (d : Dev) {a : Nat} (h : a ≠ bPwr + F.PWR_LG_STATUS.off) : (endLoad m d).rd a = d.rd a := by
  rw [endLoad_eq, Dev.rd_congr (loadEnded_regs m _), scanned_rd m d h]

/-- An image register keeps its value at the end of LOAD. -/
theorem endLoad_g (m : List Host.Cell) (d : Dev) {f : Fld} (h : bImg + f.off ≠ bPwr + F.PWR_LG_STATUS.off) : (endLoad m d).g bImg f = d.g bImg f := by
  simp only [Dev.g, endLoad_rd m d h]

theorem endLoad_due (m : List Host.Cell) (d : Dev) : Due.mode .hold 0x00 ∈ (endLoad m d).due := by
  rw [endLoad_eq, loadEnded_due]
  exact List.mem_append_right _ (List.mem_singleton_self _)

/-- What a choice of images forgets of the one before. -/
def choiceForgotten (d : Dev) : Dev :=
  { d with img := { d.img with skipHalf := false, applyBank := none, runCfg := [], startCharge := false, enableRefused := false, requests := [] } }

theorem choiceForgotten_regs (d : Dev) : (choiceForgotten d).regs = d.regs := rfl

/-- The module that has noted what the choice found of the banks, before it shows an outcome and runs firmware. -/
def choiceNoted (nv : Nv) (d : Dev) : Dev :=
  let e := (d.wr (bImg + F.IMG_BANK_A.off) (bankWord nv (choose nv) .bankA)).wr (bImg + F.IMG_BANK_B.off) (bankWord nv (choose nv) .bankB)
  let e := (e.pb bImg F.IMG_STATUS_SKIP_HALF_USED d.img.skipHalf).pb bImg F.IMG_STATUS_CFG_APPLIED false
  let e := choiceForgotten e
  (e.wr (bImg + F.IMG_DETAIL.off) 0#32).wr (bImg + F.IMG_RUN_SEQ.off) 0#32

/-- The outcome of the choice shown. -/
def showCheck (r : Nat × Nat) (d : Dev) : Dev :=
  (d.p bImg F.IMG_CHECK_REASON r.1).p bImg F.IMG_DETAIL_SECTION (if r.1 == 0x020E || r.1 == 0x020F then r.2 else 0)

/-- The firmware of a bank runs. -/
def runBank (m : List Host.Cell) (b : Bank) (d : Dev) : Dev :=
  let h := imgHeader m b .firmware
  let e := ((d.p bImg F.IMG_STATUS_RUN_BANK b.code).p bImg F.IMG_STATUS_ROM_HOLD 0).p bImg F.IMG_FW_VER_VERSION (hdVersion h)
  { e with img := { e.img with runFw := h } }

/-- ROM hold: no firmware runs. -/
def holdRom (r : Nat × Nat) (d : Dev) : Dev :=
  let e := showCheck r ((d.p bImg F.IMG_STATUS_ROM_HOLD 1).p bImg F.IMG_FW_VER_VERSION 0)
  { e with img := { e.img with runFw := [] } }

/-- The CONFIG image of a bank is to be applied. -/
def awaitConfig (b : Bank) (d : Dev) : Dev := { d with img := { d.img with applyBank := some b } }

theorem chooseImages_eq (nv : Nv) (d : Dev) : chooseImages nv d =
    match (choose nv).chosen, (choose nv).fallback with
    | none, none => holdRom (choose nv).reason (choiceNoted nv d)
    | none, some b => endLoad nv.mem (showCheck (choose nv).reason (runBank nv.mem b (choiceNoted nv d)))
    | some b, _ =>
      if (bankState nv.mem .bankA == 1 || bankState nv.mem .bankB == 1) && !d.img.skipHalf then
        endLoad nv.mem (showCheck (0x0208, 0) (runBank nv.mem b (choiceNoted nv d)))
      else awaitConfig b (showCheck (0, 0) (runBank nv.mem b (choiceNoted nv d))) := by
  unfold chooseImages
  rfl

/-- `e` also keeps what the outcome of a choice leaves alone of what the choice noted: the enable requests and SKIP_HALF_USED. -/
structure Dev.Runs (d e : Dev) : Prop extends d.Loads e where
  requests : e.img.requests = d.img.requests
  skip : e.gb bImg F.IMG_STATUS_SKIP_HALF_USED = d.gb bImg F.IMG_STATUS_SKIP_HALF_USED

theorem Dev.Runs.trans {d e f : Dev} (h : d.Runs e) (g : e.Runs f) : d.Runs f :=
  ⟨h.toLoads.trans g.toLoads, g.requests.trans h.requests, g.skip.trans h.skip⟩

theorem Dev.runs_p (d : Dev) {b : Nat} {f : Fld} (v : Nat) (h : 0x10000 ≤ b) (hs : bImg + F.IMG_STATUS.off ≠ b + f.off) : d.Runs (d.p b f v) :=
  ⟨Dev.loads_p d f v h, rfl, congrArg (· != 0) (Dev.g_p_ne d v hs)⟩

theorem Dev.runs_status (d : Dev) {f : Fld} (v : Nat) (ho : F.IMG_STATUS.off = f.off) (h : f.lo + f.w ≤ F.IMG_STATUS_SKIP_HALF_USED.lo) : d.Runs (d.p bImg f v) :=
  ⟨Dev.loads_p d f v (by decide), rfl, congrArg (· != 0)
    (Dev.g_p_disjoint d bImg v ho (h.trans (by decide)) (Or.inl ⟨h, by decide⟩))⟩

theorem Dev.runs_img (d : Dev) (x : ImgSt) (h : x.boots = d.img.boots) (hr : x.requests = d.img.requests) : d.Runs { d with img := x } :=
  ⟨Dev.loads_img d x h, hr, rfl⟩

theorem showCheck_runs (r : Nat × Nat) (d : Dev) : d.Runs (showCheck r d) :=
  (Dev.runs_p (b := bImg) (f := F.IMG_CHECK_REASON) d _ (by decide) (by decide)).trans
    (Dev.runs_p (b := bImg) (f := F.IMG_DETAIL_SECTION) _ _ (by decide) (by decide))

theorem runBank_runs (m : List Host.Cell) (b : Bank) (d : Dev) : d.Runs (runBank m b d) := by
  refine Dev.Runs.trans ?_ (Dev.runs_img _ _ rfl rfl)
  exact ((Dev.runs_status (f := F.IMG_STATUS_RUN_BANK) d _ rfl (by decide)).trans (Dev.runs_status (f := F.IMG_STATUS_ROM_HOLD) _ _ rfl (by decide))).trans
    (Dev.runs_p (b := bImg) (f := F.IMG_FW_VER_VERSION) _ _ (by decide) (by decide))

theorem holdRom_runs (r : Nat × Nat) (d : Dev) : d.Runs (holdRom r d) := by
  refine Dev.Runs.trans ?_ (Dev.runs_img _ _ rfl rfl)
  exact ((Dev.runs_status (f := F.IMG_STATUS_ROM_HOLD) d _ rfl (by decide)).trans
    (Dev.runs_p (b := bImg) (f := F.IMG_FW_VER_VERSION) _ _ (by decide) (by decide))).trans (showCheck_runs r _)

theorem awaitConfig_runs (b : Bank) (d : Dev) : d.Runs (awaitConfig b d) := Dev.runs_img d _ rfl rfl

theorem endLoad_runs (m : List Host.Cell) (d : Dev) : d.Runs (endLoad m d) :=
  ⟨endLoad_loads m d, by rw [endLoad_img], congrArg (· != 0) (endLoad_g m d (by decide))⟩

theorem choiceNoted_loads (nv : Nv) (d : Dev) : d.Loads (choiceNoted nv d) := by
  refine Dev.Loads.trans ?_ (Dev.loads_wr _ _ (by decide))
  refine Dev.Loads.trans ?_ (Dev.loads_wr _ _ (by decide))
  refine Dev.Loads.trans ?_ (Dev.loads_img _ _ rfl : Dev.Loads _ (choiceForgotten _))
  refine Dev.Loads.trans ?_ (Dev.loads_p (b := bImg) _ _ _ (by decide))
  refine Dev.Loads.trans ?_ (Dev.loads_p (b := bImg) _ _ _ (by decide))
  exact (Dev.loads_wr d _ (by decide)).trans (Dev.loads_wr _ _ (by decide))

theorem choiceNoted_requests (nv : Nv) (d : Dev) : (choiceNoted nv d).img.requests = [] := rfl

theorem choiceNoted_skip (nv : Nv) (d : Dev) : (choiceNoted nv d).gb bImg F.IMG_STATUS_SKIP_HALF_USED = d.img.skipHalf := by
  have hwr (e : Dev) (v w : Word) : ((e.wr (bImg + F.IMG_DETAIL.off) v).wr (bImg + F.IMG_RUN_SEQ.off) w).g bImg F.IMG_STATUS_SKIP_HALF_USED =
      e.g bImg F.IMG_STATUS_SKIP_HALF_USED := by
    rw [Dev.g, Dev.rd_wr_ne _ _ (by decide), Dev.rd_wr_ne _ _ (by decide), ← Dev.g]
  rw [Dev.gb, choiceNoted, hwr, Dev.g_congr (choiceForgotten_regs _), Dev.pb, Dev.pb]
  simp (disch := decide) only [Dev.g_p_disjoint, Dev.g_p_self]
  cases d.img.skipHalf <;> rfl

/-- What every choice of images does: no enable request is left, and IMG_STATUS shows whether SKIP_HALF was in force. -/
theorem chooseImages_runs (nv : Nv) (d : Dev) : (choiceNoted nv d).Runs (chooseImages nv d) := by
  rw [chooseImages_eq]
  split
  · exact holdRom_runs _ _
  · exact ((runBank_runs _ _ _).trans (showCheck_runs _ _)).trans (endLoad_runs _ _)
  · split
    · exact ((runBank_runs _ _ _).trans (showCheck_runs _ _)).trans (endLoad_runs _ _)
    · exact ((runBank_runs _ _ _).trans (showCheck_runs _ _)).trans (awaitConfig_runs _ _)

/-! ### ROM hold (R48, R65) -/

theorem showCheck_reason (r : Nat × Nat) (d : Dev) : (showCheck r d).g bImg F.IMG_CHECK_REASON = r.1 % 2 ^ 16 := by
  rw [showCheck]
  simp (disch := decide) only [Dev.g_p_ne, Dev.g_p_self]
  rfl

theorem showCheck_romHold (r : Nat × Nat) (d : Dev) : romHold (showCheck r d) = romHold d := by
  rw [romHold, romHold, Dev.gb, Dev.gb, showCheck]
  simp (disch := decide) only [Dev.g_p_ne]

theorem runFw_regs (d : Dev) (h : List Byte) : ({ d with img := { d.img with runFw := h } } : Dev).regs = d.regs := rfl

theorem holdRom_reason (r : Nat × Nat) (d : Dev) : (holdRom r d).g bImg F.IMG_CHECK_REASON = r.1 % 2 ^ 16 := by
  rw [holdRom, Dev.g_congr (runFw_regs _ _), showCheck_reason]

theorem holdRom_romHold (r : Nat × Nat) (d : Dev) : romHold (holdRom r d) = true := by
  rw [holdRom, romHold, Dev.gb, Dev.g_congr (runFw_regs _ _), ← Dev.gb, ← romHold, showCheck_romHold, romHold, Dev.gb]
  simp (disch := decide) only [Dev.g_p_ne, Dev.g_p_self]
  rfl

/-- Without a candidate ROM holds, with the reason noted. -/
theorem chooseImages_none (nv : Nv) (d : Dev) (hc : (choose nv).chosen = none) (hf : (choose nv).fallback = none) :
    romHold (chooseImages nv d) = true ∧ (chooseImages nv d).g bImg F.IMG_CHECK_REASON = (choose nv).reason.1 % 2 ^ 16 := by
  have h : chooseImages nv d = holdRom (choose nv).reason (choiceNoted nv d) := by rw [chooseImages_eq, hc, hf]
  rw [h]
  exact ⟨holdRom_romHold _ _, holdRom_reason _ _⟩

theorem choose_dead {nv : Nv} (h : nv.dead = true) : choose nv = ⟨(0x0211, 0), none, none, []⟩ := by simp [choose, h]

theorem choose_unsealed {nv : Nv} (h : nv.dead = false) (hc : candidates nv.mem = []) : choose nv = ⟨(0x0201, 0), none, none, []⟩ := by
  simp [choose, h, hc]

/-! ### ROM starts (R48) -/

/-- The registers of the clock show that a hop has begun. -/
def hopShown (d : Dev) : Dev :=
  setResult 0 true (((((d.p bClk F.CLK_STATUS_STATE 4).pb bClk F.CLK_STATUS_ON_ONYX true).pb bClk F.CLK_STATUS_INJECT false).pi bClk F.CLK_BUILDOUT_PHASE 0).pb
    bClk F.CLK_STATUS_GLIDING false)

/-- A hop has begun, before the pair link is looked at. -/
def hopBegun (d : Dev) : Dev := (hopShown d).setClk (fun c => { c with op := some (.hop (ofsInForce d) (hopShown d).tick), meas := [] })

theorem startHop_eq (d : Dev) : startHop d =
    if pairOn (hopBegun d) && (hopBegun d).pair.lanes != 0 then
      checkPeer (((hopBegun d).setPair (fun p => { p with lanes := 0 })).p bSs F.SS_STATUS_LANES 0)
    else hopBegun d := by
  unfold startHop
  rfl

theorem runs_setClk (d : Dev) (f : ClkSt → ClkSt) : d.Runs (d.setClk f) := ⟨Dev.loads_clk d f, rfl, rfl⟩

theorem hopBegun_runs (d : Dev) : d.Runs (hopBegun d) := by
  have clk (e : Dev) (f : Fld) (v : Nat) (h : bImg + F.IMG_STATUS.off ≠ bClk + f.off) : e.Runs (e.p bClk f v) := Dev.runs_p e v (by decide) h
  refine Dev.Runs.trans (e := hopShown d) ?_ (runs_setClk _ _)
  refine Dev.Runs.trans ?_ ((clk _ F.CLK_RESULT_REASON _ (by decide)).trans (clk _ F.CLK_RESULT_BUSY _ (by decide)))
  refine Dev.Runs.trans ?_ (clk _ F.CLK_STATUS_GLIDING _ (by decide))
  refine Dev.Runs.trans ?_ (clk _ F.CLK_BUILDOUT_PHASE _ (by decide))
  refine Dev.Runs.trans ?_ (clk _ F.CLK_STATUS_INJECT _ (by decide))
  exact (clk d F.CLK_STATUS_STATE _ (by decide)).trans (clk _ F.CLK_STATUS_ON_ONYX _ (by decide))

/-- With no lane of the pair link in use, the start of the root PLL is a matter of the clock alone. -/
theorem startPll_runs (d : Dev) (h : d.pair.lanes = 0) : d.Runs (startPll d) := by
  unfold startPll
  split
  · have hl : (hopBegun d).pair.lanes = 0 := by rw [(hopBegun_runs d).pair, h]
    rw [startHop_eq, hl]
    simpa using hopBegun_runs d
  · exact ⟨Dev.Loads.refl d, rfl, rfl⟩

theorem startRom_runs (s : State) (h : s.d.pair.lanes = 0) : (choiceNoted s.nv s.d).Runs (startRom s).d := by
  have hc := chooseImages_runs s.nv s.d
  have hl : (chooseImages s.nv s.d).pair.lanes = 0 := by rw [hc.pair, (choiceNoted_loads _ _).pair, h]
  simp only [startRom]
  split
  · exact hc
  · exact hc.trans (startPll_runs _ hl)

theorem startRom_loads (s : State) (h : s.d.pair.lanes = 0) : s.d.Loads (startRom s).d := (choiceNoted_loads _ _).trans (startRom_runs s h).toLoads

theorem startRom_romHold (s : State) (h : romHold (chooseImages s.nv s.d) = true) : (startRom s).d = chooseImages s.nv s.d := by
  simp [startRom, h]

/-! ### Resets (R6, R690) -/

/-- A register without RWS bits holds its reset value after a warm reset. -/
theorem keepRws_rd (t : Tbl Word) {a : Nat} (h : ((locate a).bind Loc.reg).all (fun r => r.rws == 0) = true) : tget regReset (keepRws t) a = regReset a := by
  unfold keepRws
  refine List.foldlRecOn (motive := fun acc => tget regReset acc a = regReset a) t _ rfl (fun acc hacc w _ => ?_)
  split
  · rename_i r hl
    split
    · exact hacc
    · rename_i hr
      rw [tget_tset_ne _ _ _ (fun e => hr (by simpa [e, hl] using h)), hacc]
  · exact hacc

/-- The module of a reset before anything of it is shown. -/
def blankDev (warm : Bool) (s : Dev) : Dev :=
  { Dev.reset with
    regs := if warm then keepRws s.regs else [], fars := s.fars, free := s.free,
    img := { imgSt0 with boots := s.img.boots + 1, nonces := s.img.nonces + 1 }, box := { boxSt0 with powered := true } }

/-- The module of a reset with DEV_STATUS: what was sampled, and the cause. -/
def causeShown (cause : Nat) (warm : Bool) (s : Dev) : Dev :=
  ((blankDev warm s).wr (bDev + F.DEV_STATUS.off) (w32 (s.g bDev ⟨F.DEV_STATUS.off, 0, 10⟩))).p bDev F.DEV_STATUS_RESET_CAUSE cause

/-- The measured supply and the clock shown after a reset. -/
def supplyShown (s d : Dev) : Dev :=
  let e := d.wr (bPwr + F.PWR_VIN.off) (s.rd (bPwr + F.PWR_VIN.off))
  let e := (e.p bPwr F.PWR_SHED_VHOLD (s.g bPwr F.PWR_SHED_VHOLD)).pb bClk F.CLK_STATUS_ON_ONYX true
  e.p bClk F.CLK_STATUS_QUALIFIED 4

theorem supplyShown_loads (s d : Dev) : d.Loads (supplyShown s d) :=
  (((Dev.loads_wr d _ (by decide)).trans (Dev.loads_p (b := bPwr) _ _ _ (by decide))).trans (Dev.loads_p (b := bClk) _ _ _ (by decide))).trans
    (Dev.loads_p (b := bClk) _ _ _ (by decide))

/-- A reset keeps of the pair what it keeps of the lever and of a withdrawal. -/
theorem resetDev_eq (cause : Nat) (warm : Bool) (s : Dev) : ∃ g : PairSt → PairSt, (∀ p, (g p).lanes = p.lanes) ∧
    resetDev cause warm s = (supplyShown s (causeShown cause warm s)).setPair g :=
  ⟨fun p => { p with
    withdrawn := s.pair.withdrawn && cause != 1 && cause != 0, ejectTaken := false, ejectAt := s.pair.ejectAt.map (fun t => t - (s.tick : Int)),
    ejectFree := s.pair.ejectFree.map (fun t => t - (s.tick : Int)) }, fun _ => rfl, by unfold resetDev; rfl⟩

/-- A module after a reset of `s`: it counts its ticks and its modes anew, in LOAD and disabled; the nodes stay, and one more BOOT_ID is drawn. -/
structure WasReset (s e : Dev) : Prop where
  tick : e.tick = 0
  ms : e.ms = modeSt0
  fars : e.fars = s.fars
  boots : e.img.boots = s.img.boots + 1
  lanes : e.pair.lanes = 0
  mode : e.rd (bDev + F.DEV_MODE.off) = 0#32
  off : e.rd (bDev + F.DEV_ENABLE.off) = 0#32

theorem WasReset.loads {s d e : Dev} (h : WasReset s d) (g : d.Loads e) : WasReset s e :=
  ⟨g.tick.trans h.tick, g.ms.trans h.ms, g.fars.trans h.fars, g.boots.trans h.boots, (congrArg PairSt.lanes g.pair).trans h.lanes,
    (g.rd _ (by decide) (by decide)).trans h.mode, (g.rd _ (by decide) (by decide)).trans h.off⟩

theorem WasReset.setPair {s d : Dev} (h : WasReset s d) {g : PairSt → PairSt} (hg : ∀ p, (g p).lanes = p.lanes) : WasReset s (d.setPair g) :=
  ⟨h.tick, h.ms, h.fars, h.boots, (hg _).trans h.lanes, h.mode, h.off⟩

theorem WasReset.wr_status {s d : Dev} (h : WasReset s d) (v : Word) : WasReset s (d.wr (bDev + F.DEV_STATUS.off) v) :=
  ⟨h.tick, h.ms, h.fars, h.boots, h.lanes, (Dev.rd_wr_ne d v (by decide)).trans h.mode, (Dev.rd_wr_ne d v (by decide)).trans h.off⟩

theorem blankDev_rd (warm : Bool) (s : Dev) {a : Nat} (h : ((locate a).bind Loc.reg).all (fun r => r.rws == 0) = true) : (blankDev warm s).rd a = regReset a := by
  cases warm
  · rfl
  · exact keepRws_rd s.regs h

theorem blankDev_wasReset (warm : Bool) (s : Dev) : WasReset s (blankDev warm s) := by
  refine ⟨rfl, rfl, rfl, rfl, rfl, ?_, ?_⟩
  · rw [blankDev_rd warm s (by decide)]
    decide
  · rw [blankDev_rd warm s (by decide)]
    decide

theorem causeShown_wasReset (cause : Nat) (warm : Bool) (s : Dev) : WasReset s (causeShown cause warm s) :=
  ((blankDev_wasReset warm s).wr_status _).wr_status _

theorem resetDev_wasReset (cause : Nat) (warm : Bool) (s : Dev) : WasReset s (resetDev cause warm s) := by
  obtain ⟨g, hg, h⟩ := resetDev_eq cause warm s
  rw [h]
  exact ((causeShown_wasReset cause warm s).loads (supplyShown_loads s _)).setPair hg

theorem Dev.Aside.status {d e : Dev} (h : d.Aside e) : e.rd (bDev + F.DEV_STATUS.off) = d.rd (bDev + F.DEV_STATUS.off) := h.rd _ (by decide) (by decide)

theorem resetDev_cause (cause : Nat) (warm : Bool) (s : Dev) : (resetDev cause warm s).g bDev F.DEV_STATUS_RESET_CAUSE = cause % 2 ^ 3 := by
  obtain ⟨g, -, h⟩ := resetDev_eq cause warm s
  have hst := (supplyShown_loads s (causeShown cause warm s)).status
  rw [h, Dev.g_congr (Dev.setPair_regs _ _), Dev.g, show bDev + F.DEV_STATUS_RESET_CAUSE.off = bDev + F.DEV_STATUS.off from rfl, hst]
  exact Dev.g_p_self _ bDev F.DEV_STATUS_RESET_CAUSE cause (by decide)

theorem resetDev_box (cause : Nat) (warm : Bool) (s : Dev) : (resetDev cause warm s).box = { boxSt0 with powered := true } := by
  obtain ⟨g, -, h⟩ := resetDev_eq cause warm s
  rw [h, Dev.setPair_box, (supplyShown_loads s _).box, causeShown, Dev.p_box, Dev.wr_box]
  rfl

theorem WasReset.inLoad {s e : Dev} (h : WasReset s e) : e.mode = .load := by
  simp only [Dev.mode, Dev.g]
  rw [show bDev + F.DEV_MODE_MODE.off = bDev + F.DEV_MODE.off from rfl, h.mode]
  rfl

theorem WasReset.disabled {s e : Dev} (h : WasReset s e) : e.gb bDev F.DEV_ENABLE = false := by
  simp only [Dev.gb, Dev.g, h.off]
  rfl

theorem startRom_wasReset {s : Dev} {t : State} (h : WasReset s t.d) : WasReset s (startRom t).d := h.loads (startRom_loads t h.lanes)

theorem startRom_status {t : State} (h : t.d.pair.lanes = 0) : (startRom t).d.rd (bDev + F.DEV_STATUS.off) = t.d.rd (bDev + F.DEV_STATUS.off) :=
  (startRom_loads t h).status

theorem warmReset_wasReset (cause : Nat) (s : State) : WasReset s.d (warmReset cause s).d := startRom_wasReset (resetDev_wasReset cause true s.d)

theorem warmReset_cause (cause : Nat) (s : State) : (warmReset cause s).d.g bDev F.DEV_STATUS_RESET_CAUSE = cause % 2 ^ 3 := by
  rw [← resetDev_cause cause true s.d, Dev.g, Dev.g]
  exact congrArg (getBits · _ _) (startRom_status (t := { s with d := resetDev cause true s.d }) (resetDev_wasReset cause true s.d).lanes)

/-! ### Power-good (R664) -/

/-- DEV_STATUS as power-good samples it. -/
def strapWord (slot : Nat) (pref peer eject : Bool) : Word := w32 (slot % 64 + 64 * b2n pref + 128 + 256 * b2n eject + 512 * b2n peer)

/-- The four indicators are lit, and the lever has been held where it is asserted. -/
def lampsLit (eject : Bool) (d : Dev) : Dev :=
  { d with box := { d.box with lamp := true }, pair := { d.pair with ejectAt := if eject then some 2500000 else none } }

theorem lampsLit_regs (eject : Bool) (d : Dev) : (lampsLit eject d).regs = d.regs := rfl

theorem lampsLit_box (eject : Bool) (d : Dev) : (lampsLit eject d).box = { d.box with lamp := true } := rfl

theorem WasReset.lampsLit {s d : Dev} (h : WasReset s d) (eject : Bool) : WasReset s (lampsLit eject d) :=
  ⟨h.tick, h.ms, h.fars, h.boots, h.lanes, h.mode, h.off⟩

/-- The module at power-good, before ROM starts. -/
def sampled (slot : Nat) (pref peer eject : Bool) (d : Dev) : Dev :=
  lampsLit eject ((resetDev 0 false { d with pair := { d.pair with ejectAt := none } }).wr (bDev + F.DEV_STATUS.off) (strapWord slot pref peer eject))

theorem powerGood_first (slot : Nat) (pref peer eject : Bool) (fit : NvFit) (sound : Bool) (s : State) (hp : s.d.box.powered = false)
    (hg : s.d.box.pwrGone = false) : powerGood slot pref peer eject fit sound s =
      startRom { s with nv := { s.nv with fit := fit, otp := { s.nv.otp with sound := sound } }, d := sampled slot pref peer eject s.d } := by
  simp only [powerGood, hp, hg, Bool.false_and, Bool.false_eq_true, if_false, sampled, lampsLit, strapWord, Nat.mul_zero, Nat.add_zero]

theorem sampled_wasReset (slot : Nat) (pref peer eject : Bool) (d : Dev) : WasReset d (sampled slot pref peer eject d) := by
  have h : WasReset { d with pair := { d.pair with ejectAt := none } } (sampled slot pref peer eject d) :=
    ((resetDev_wasReset 0 false _).wr_status (strapWord slot pref peer eject)).lampsLit eject
  exact ⟨h.tick, h.ms, h.fars, h.boots, h.lanes, h.mode, h.off⟩

theorem sampled_box (slot : Nat) (pref peer eject : Bool) (d : Dev) : (sampled slot pref peer eject d).box = { boxSt0 with powered := true, lamp := true } := by
  rw [sampled, lampsLit_box, Dev.wr_box, resetDev_box]

theorem sampled_status (slot : Nat) (pref peer eject : Bool) (d : Dev) :
    (sampled slot pref peer eject d).rd (bDev + F.DEV_STATUS.off) = strapWord slot pref peer eject := by
  rw [sampled, Dev.rd_congr (lampsLit_regs _ _)]
  exact Dev.rd_wr_self _ _ _

theorem b2n_le_one (b : Bool) : b2n b ≤ 1 := by cases b <;> decide

/-- The fields of DEV_STATUS read back what power-good sampled, with cause 0. -/
theorem strapWord_fields (slot : Fin 64) (pref peer eject : Bool) (d : Dev) (h : d.rd (bDev + F.DEV_STATUS.off) = strapWord slot.val pref peer eject) :
    d.g bDev F.DEV_STATUS_RESET_CAUSE = 0 ∧ d.g bDev F.DEV_STATUS_SLOT_ID = slot.val ∧ d.gb bDev F.DEV_STATUS_PREF = pref ∧
      d.gb bDev F.DEV_STATUS_PEER_PRESENT = peer ∧ d.gb bDev F.DEV_STATUS_EJECT = eject := by
  have fld (f : Fld) (hf : f.off = F.DEV_STATUS.off) : d.g bDev f = getBits (strapWord slot.val pref peer eject) f.lo f.w := by rw [Dev.g, hf, h]
  simp only [Dev.gb, fld F.DEV_STATUS_RESET_CAUSE rfl, fld F.DEV_STATUS_SLOT_ID rfl, fld F.DEV_STATUS_PREF rfl, fld F.DEV_STATUS_PEER_PRESENT rfl,
    fld F.DEV_STATUS_EJECT rfl]
  have hs := slot.isLt
  have hpref := b2n_le_one pref
  have hpeer := b2n_le_one peer
  have heject := b2n_le_one eject
  have hn : (strapWord slot.val pref peer eject).toNat = slot.val + 64 * b2n pref + 128 + 256 * b2n eject + 512 * b2n peer := by
    simp only [strapWord, w32, BitVec.toNat_ofNat]
    omega
  have bit (lo : Nat) (b : Bool) (h1 : (strapWord slot.val pref peer eject).toNat / 2 ^ lo % 2 = b2n b) :
      (getBits (strapWord slot.val pref peer eject) lo 1 != 0) = b := by
    rw [getBits, Nat.pow_one, h1]
    cases b <;> rfl
  refine ⟨?_, ?_, bit 6 pref ?_, bit 9 peer ?_, bit 8 eject ?_⟩
  · simp only [getBits, hn, F.DEV_STATUS_RESET_CAUSE]
    omega
  · simp only [getBits, hn, F.DEV_STATUS_SLOT_ID]
    omega
  all_goals
    rw [hn]
    omega

/-! ### Commands on the whole block -/

/-- A command on the whole block that leaves the queue, as an effect on the module and the memories. -/
theorem updAll_doesNv {s : State} {f : State → State} {P : Nv → Dev → Prop} (hq : s.d.Quiet) (hp : (f { s with d := found s.d }).pending = s.pending)
    (h : P (f { s with d := found s.d }).nv (f { s with d := found s.d }).d) : DoesNv (.next (s.updAll f)) s P := by
  refine ⟨_, _, ?_, h⟩
  rw [State.updAll, upd_id_found hq]
  simp only [State.run, hp, id]

theorem updAll_does {s : State} {f : State → State} {P : Dev → Prop} (hq : s.d.Quiet) (hp : (f { s with d := found s.d }).pending = s.pending)
    (hn : (f { s with d := found s.d }).nv = s.nv) (h : P (f { s with d := found s.d }).d) : Does (.next (s.updAll f)) s P := by
  refine ⟨_, ?_, h⟩
  rw [State.updAll, upd_id_found hq]
  simp only [State.run, hp, hn, id]

/-- A command that leaves the block as it finds it. -/
theorem updAll_still {s : State} {f : State → State} (hq : s.d.Quiet) (hf : f { s with d := found s.d } = { s with d := found s.d }) :
    Does (.next (s.updAll f)) s (fun e => e.rest = s.d.rest ∧ KeepsRegs s.d e []) := by
  refine updAll_does hq (by rw [hf]) (by rw [hf]) ?_
  rw [hf]
  exact ⟨found_rest s.d, fun b _ hb => found_rd s.d b hb⟩

/-! ### RESET_N and power-good -/

theorem resetN_ignored (s : State) (hq : s.d.Quiet) (hp : s.d.box.powered = false) :
    Does (exec .resetNAsserted s) s (fun e => e.rest = s.d.rest ∧ KeepsRegs s.d e []) :=
  updAll_still hq (by simp [resetN, hp])

theorem resetN_restarts (s : State) (hq : s.d.Quiet) (hp : s.d.box.powered = true) (hg : s.d.box.pwrGone = false) :
    Does (exec .resetNAsserted s) s (fun e => e.g bDev F.DEV_STATUS_RESET_CAUSE = 1 ∧ e.tick = 0 ∧ e.img.boots = s.d.img.boots + 1 ∧ e.fars = s.d.fars ∧
      e.mode = .load ∧ e.ms.cmd = none ∧ (∀ o, e.ms.checking ≠ some o) ∧ e.gb bDev F.DEV_ENABLE = false) := by
  have hf : resetN { s with d := found s.d } = warmReset 1 { s with d := found s.d } := by simp [resetN, hp, hg]
  have hw : WasReset (found s.d) (warmReset 1 { s with d := found s.d }).d := warmReset_wasReset 1 { s with d := found s.d }
  refine updAll_does hq (by rw [hf]; rfl) (by rw [hf]; rfl) ?_
  rw [hf]
  refine ⟨warmReset_cause 1 { s with d := found s.d }, hw.tick, ?_, ?_, hw.inLoad, ?_, ?_, hw.disabled⟩
  · simpa using hw.boots
  · simpa using hw.fars
  · rw [hw.ms]
    rfl
  · rw [hw.ms]
    exact fun o => nofun

/-- R664: the module after power-good. -/
structure PoweredUp (slot : Fin 64) (pref peer eject : Bool) (d e : Dev) : Prop where
  box : e.box = { boxSt0 with powered := true, lamp := true }
  reset : WasReset d e
  status : e.rd (bDev + F.DEV_STATUS.off) = strapWord slot.val pref peer eject

theorem powerGood_poweredUp (slot : Fin 64) (pref peer eject : Bool) (s : State) :
    PoweredUp slot pref peer eject s.d (startRom { s with d := sampled slot.val pref peer eject s.d }).d := by
  have hs := sampled_wasReset slot.val pref peer eject s.d
  have hl := startRom_loads { s with d := sampled slot.val pref peer eject s.d } hs.lanes
  exact ⟨hl.box.trans (sampled_box _ _ _ _ _), hs.loads hl, hl.status.trans (sampled_status _ _ _ _ _)⟩

/-- R48, R65: without a candidate ROM holds from the start, with the reason of the choice. -/
theorem startRom_none (s : State) {r : Nat} (hr : r < 2 ^ 16) (h : choose s.nv = ⟨(r, 0), none, none, []⟩) :
    romHold (startRom s).d = true ∧ (startRom s).d.g bImg F.IMG_CHECK_REASON = r := by
  obtain ⟨hrom, hreason⟩ := chooseImages_none s.nv s.d (by rw [h]) (by rw [h])
  rw [startRom_romHold s hrom, hreason, h]
  exact ⟨hrom, Nat.mod_eq_of_lt hr⟩

theorem powerGood_does (slot : Fin 64) (pref peer eject : Bool) (mem : NvFit) (otp : Bool) (s : State) (hq : s.d.Quiet) (hp : s.d.box.powered = false)
    (hg : s.d.box.pwrGone = false) : DoesNv (exec (.powerGood slot pref peer eject mem otp) s) s (fun nv e =>
    nv = { s.nv with fit := mem, otp := { s.nv.otp with sound := otp } } ∧
    e.box.powered = true ∧ e.box.lamp = true ∧ e.box.pwrGone = false ∧ e.tick = 0 ∧ e.img.boots = s.d.img.boots + 1 ∧ e.fars = s.d.fars ∧
    e.g bDev F.DEV_STATUS_RESET_CAUSE = 0 ∧ e.g bDev F.DEV_STATUS_SLOT_ID = slot.val ∧ e.gb bDev F.DEV_STATUS_PREF = pref ∧
    e.gb bDev F.DEV_STATUS_PEER_PRESENT = peer ∧ e.gb bDev F.DEV_STATUS_EJECT = eject ∧
    (nv.dead = true → romHold e = true ∧ e.g bImg F.IMG_CHECK_REASON = 0x0211 ∧ e.mode = .load) ∧
    (nv.dead = false → candidates s.nv.mem = [] → romHold e = true ∧ e.g bImg F.IMG_CHECK_REASON = 0x0201 ∧ e.mode = .load)) := by
  let t : State := { s with nv := { s.nv with fit := mem, otp := { s.nv.otp with sound := otp } }, d := found s.d }
  let u : State := { t with d := sampled slot.val pref peer eject t.d }
  have hf : powerGood slot.val pref peer eject mem otp { s with d := found s.d } = startRom u :=
    powerGood_first _ _ _ _ _ _ _ (by simpa using hp) (by simpa using hg)
  obtain ⟨hbox, hw, hst⟩ := powerGood_poweredUp slot pref peer eject t
  obtain ⟨hcause, hslot, hpref, hpeer, heject⟩ := strapWord_fields slot pref peer eject _ hst
  refine updAll_doesNv hq (by rw [hf]; rfl) ?_
  rw [hf]
  refine ⟨rfl, by rw [hbox], by rw [hbox], by rw [hbox]; rfl, hw.tick, ?_, ?_, hcause, hslot, hpref, hpeer, heject, fun hd => ?_, fun hd hc => ?_⟩
  · simpa [t] using hw.boots
  · simpa [t] using hw.fars
  · obtain ⟨hrom, hreason⟩ := startRom_none u (by decide) (choose_dead hd)
    exact ⟨hrom, hreason, hw.inLoad⟩
  · obtain ⟨hrom, hreason⟩ := startRom_none u (by decide) (choose_unsealed hd hc)
    exact ⟨hrom, hreason, hw.inLoad⟩

/-! ### The CONFIG image is applied, and LOAD ends (R37 to R39) -/

/-- LOAD ends with a write of the CONFIG image refused (R37). -/
def configRefused (m : List Host.Cell) (r : Nat × Nat) (d : Dev) : Dev :=
  endLoad m (((d.p bImg F.IMG_CHECK_REASON 0x0210).p bImg F.IMG_DETAIL_TARGET_REASON r.1).p bImg F.IMG_DETAIL_SECTION r.2)

/-- The CONFIG image is applied. -/
def configApplied (h : List Byte) (d : Dev) : Dev :=
  let e := (d.pb bImg F.IMG_STATUS_CFG_APPLIED true).p bImg F.IMG_RUN_SEQ_SEQ (hdSeq h)
  { e with img := { e.img with runCfg := h, startCharge := fieldLE h 0x98 1 == 1 } }

theorem configApply_eq {s : State} {b : Bank} (hb : s.d.img.applyBank = some b) (ha : s.d.gb bImg F.IMG_STATUS_CFG_APPLIED = false) :
    configApply s =
      let r := applyRecs (configRecs s.nv.mem b) s.d
      { s with d := if r.1 = 0 then configApplied (imgHeader s.nv.mem b .config) (startPll r.2.2)
                    else configRefused s.nv.mem (r.1, r.2.1) (startPll r.2.2) } := by
  simp only [configApply, hb, ha, Bool.false_eq_true, if_false, bne_iff_ne, ne_eq, ite_not]
  split_ifs <;> rfl

theorem configApplied_shown (h : List Byte) (d : Dev) : (configApplied h d).gb bImg F.IMG_STATUS_CFG_APPLIED = true ∧
    (configApplied h d).g bImg F.IMG_RUN_SEQ_SEQ = hdSeq h % 2 ^ 32 ∧ (configApplied h d).img.runCfg = h := by
  have hr : (configApplied h d).regs = ((d.pb bImg F.IMG_STATUS_CFG_APPLIED true).p bImg F.IMG_RUN_SEQ_SEQ (hdSeq h)).regs := rfl
  refine ⟨?_, ?_, rfl⟩
  · rw [Dev.gb, Dev.g_congr hr, Dev.pb]
    simp (disch := decide) only [Dev.g_p_ne, Dev.g_p_self]
    rfl
  · rw [Dev.g_congr hr]
    simp (disch := decide) only [Dev.g_p_self]
    rfl

theorem configRefused_shown (m : List Host.Cell) (r : Nat × Nat) (d : Dev) : (configRefused m r d).g bImg F.IMG_CHECK_REASON = 0x0210 ∧
    (configRefused m r d).g bImg F.IMG_DETAIL_TARGET_REASON = r.1 % 2 ^ 16 ∧ Due.mode .hold 0x00 ∈ (configRefused m r d).due ∧
    (configRefused m r d).img.applyBank = none := by
  refine ⟨?_, ?_, endLoad_due _ _, by rw [configRefused, endLoad_img]⟩
  · rw [configRefused, endLoad_g _ _ (by decide)]
    simp (disch := decide) only [Dev.g_p_ne, Dev.g_p_self]
    rfl
  · rw [configRefused, endLoad_g _ _ (by decide)]
    simp (disch := decide) only [Dev.g_p_disjoint, Dev.g_p_self]
    rfl

/-- The fields of the image window are found as they stand. -/
theorem found_g_img (d : Dev) (f : Fld) (h : 0x520000 ≤ bImg + f.off ∨ bImg + f.off < 0x508000) : (found d).g bImg f = d.g bImg f := by
  simp only [Dev.g, found_rd_far d h.symm]

theorem configApply_does (s : State) (b : Bank) (hb : s.d.img.applyBank = some b) (hq : s.d.Quiet) (ha : s.d.gb bImg F.IMG_STATUS_CFG_APPLIED = false) :
    Does (exec .configApply s) s (fun e =>
    ((applyRecs (configRecs s.nv.mem b) (s.upd id).d).1 = 0 → e.gb bImg F.IMG_STATUS_CFG_APPLIED = true ∧
      e.g bImg F.IMG_RUN_SEQ_SEQ = hdSeq (imgHeader s.nv.mem b .config) % 2 ^ 32 ∧ e.img.runCfg = imgHeader s.nv.mem b .config) ∧
    ((applyRecs (configRecs s.nv.mem b) (s.upd id).d).1 ≠ 0 → e.g bImg F.IMG_CHECK_REASON = 0x0210 ∧
      e.g bImg F.IMG_DETAIL_TARGET_REASON = (applyRecs (configRecs s.nv.mem b) (s.upd id).d).1 % 2 ^ 16 ∧ Due.mode .hold 0x00 ∈ e.due ∧ e.img.applyBank = none)) := by
  have hb' : (found s.d).img.applyBank = some b := by simpa using hb
  have ha' : (found s.d).gb bImg F.IMG_STATUS_CFG_APPLIED = false := by rw [Dev.gb, found_g_img _ _ (by decide), ← Dev.gb, ha]
  have hf := configApply_eq (s := { s with d := found s.d }) hb' ha'
  rw [upd_id_found hq]
  refine updAll_does hq (by rw [hf]) (by rw [hf]) ?_
  rw [hf]
  refine ⟨fun h0 => ?_, fun h0 => ?_⟩
  · simp only [h0, if_true]
    exact configApplied_shown _ _
  · simp only [h0, if_false]
    exact configRefused_shown _ _ _

/-- The start test reads registers that are no message object's. -/
theorem startReady_found (d : Dev) : startReady (found d) = startReady d := by
  have port (p : Nat) (hp : p ∈ upto 96) : (found d).gb (bPort p) F.LNK_PCFG_EN = d.gb (bPort p) F.LNK_PCFG_EN := by
    have := List.mem_range.mp hp
    simp only [Dev.gb, Dev.g, found_rd_far d (show bPort p + F.LNK_PCFG_EN.off < 0x508000 ∨ _ from Or.inl (by simp only [bPort, F.LNK_PCFG_EN]; omega))]
  have node (n : Nat) (hn : n ∈ upto 96) : (found d).gb (bNode n) F.NODE_STATE_PARAM_OK = d.gb (bNode n) F.NODE_STATE_PARAM_OK := by
    have := List.mem_range.mp hn
    simp only [Dev.gb, Dev.g, found_rd_far d (show bNode n + F.NODE_STATE_PARAM_OK.off < 0x508000 ∨ _ from Or.inl (by simp only [bNode, F.NODE_STATE_PARAM_OK]; omega))]
  have st (p : Nat) : (found d).port p = d.port p := congrArg (fun e => e.port p) (found_rest d)
  have hports : (upto 96).all (fun p => !(found d).gb (bPort p) F.LNK_PCFG_EN || ((found d).port p).st == .ready) =
      (upto 96).all (fun p => !d.gb (bPort p) F.LNK_PCFG_EN || (d.port p).st == .ready) := by
    rw [Bool.eq_iff_iff, List.all_eq_true, List.all_eq_true]
    exact forall₂_congr fun p hp => by rw [port p hp, st]
  have hnodes : (upto 96).all (fun n => !(found d).img.requests.contains (.node n) || (found d).gb (bNode n) F.NODE_STATE_PARAM_OK) =
      (upto 96).all (fun n => !d.img.requests.contains (.node n) || d.gb (bNode n) F.NODE_STATE_PARAM_OK) := by
    rw [Bool.eq_iff_iff, List.all_eq_true, List.all_eq_true]
    exact forall₂_congr fun n hn => by rw [node n hn]; simp
  rw [startReady, hports, hnodes, startReady]
  simp

/-- The module with the enable requests carried out, as LOAD ends. -/
theorem enableRequests_ready {s : State} {b : Bank} (hb : s.d.img.applyBank = some b) (ha : s.d.gb bImg F.IMG_STATUS_CFG_APPLIED = true)
    (hr : startReady s.d = true) : ∃ (e : Dev) (x : ImgSt), x.requests = [] ∧ enableRequests s = { s with d := endLoad s.nv.mem { e with img := x } } := by
  simp only [enableRequests, hb, ha, hr, Option.isNone_some, Bool.not_true, Bool.or_false, Bool.false_eq_true, if_false]
  exact ⟨_, _, rfl, rfl⟩

theorem enableRequests_does (s : State) (b : Bank) (hb : s.d.img.applyBank = some b) (hq : s.d.Quiet) (ha : s.d.gb bImg F.IMG_STATUS_CFG_APPLIED = true)
    (hr : startReady s.d = true) : Does (exec .enableRequests s) s (fun e =>
    e.img.requests = [] ∧ e.img.applyBank = none ∧ e.img.resolving = true ∧ Due.mode .hold 0x00 ∈ e.due) := by
  have ha' : (found s.d).gb bImg F.IMG_STATUS_CFG_APPLIED = true := by rw [Dev.gb, found_g_img _ _ (by decide), ← Dev.gb, ha]
  obtain ⟨e, x, hx, hf⟩ := enableRequests_ready (s := { s with d := found s.d }) (by simpa using hb) ha' (by rw [startReady_found, hr])
  refine updAll_does hq (by rw [hf]) (by rw [hf]) ?_
  rw [hf]
  refine ⟨?_, ?_, ?_, endLoad_due _ _⟩ <;> rw [endLoad_img]
  exact hx

theorem enableRequests_waits (s : State) (hq : s.d.Quiet) (hr : startReady s.d = false) :
    Does (exec .enableRequests s) s (fun e => e.rest = s.d.rest ∧ KeepsRegs s.d e []) :=
  updAll_still hq (by simp [enableRequests, startReady_found, hr])

/-! ### Mailbox commands that restart the module (R57, R693) -/

/-- A register away from the argument registers is the executor's as it was the host's. -/
theorem ArgsOnly.g {d e : Dev} (h : ArgsOnly d e) {b : Nat} {f : Fld} (h1 : b + f.off < 0x508000 ∨ 0x520000 ≤ b + f.off)
    (h2 : b + f.off < 0x40 ∨ 0x50 ≤ b + f.off) : e.g b f = d.g b f := by
  have hk : e.rd (b + f.off) = d.rd (b + f.off) := by
    refine h.2 _ ?_ (h1.elim (not_obj_small _) (not_obj_big _))
    simp only [bDev, F.CMD_ARG, List.mem_cons, List.not_mem_nil, or_false]
    omega
  simp only [Dev.g, hk]

theorem ArgsOnly.mode {d e : Dev} (h : ArgsOnly d e) : e.mode = d.mode := by simp only [Dev.mode, h.g (b := bDev) (f := F.DEV_MODE_MODE) (by decide) (by decide)]

theorem ArgsOnly.imgBusy {d e : Dev} (h : ArgsOnly d e) : imgBusy e = imgBusy d := by
  simp only [Machine.imgBusy, Dev.gb, h.g (b := bImg) (f := F.IMG_OP_STATUS_BUSY) (by decide) (by decide)]

theorem ArgsOnly.fars {d e : Dev} (h : ArgsOnly d e) : e.fars = d.fars := (congrArg Dev.fars h.1 :)

theorem ArgsOnly.boots {d e : Dev} (h : ArgsOnly d e) : e.img.boots = d.img.boots := (congrArg (fun x => x.img.boots) h.1 :)

/-- A mailbox command: what its submission does to the module with the arguments written. -/
theorem mailbox_serves {p : Path} {op : Nat} {a0 a1 a2 a3 : Word} {s : State} {P : Dev → Nv → Dev → Prop} (hop : op < 65536) (hp : HostReady p s)
    (h : ∀ d, ArgsOnly s.d d → Responsive d → ∃ u : State, ∃ f : Dev → Dev, (submit (p == .lmp) none op a0 a1 a2 a3 { s with d := d }).2 = u.run f ∧
      u.pending = s.pending ∧ P d u.nv (f u.d)) : Serves (.next (mailbox p op a0 a1 a2 a3 s)) s P := by
  obtain ⟨d, x, ha, hr, hm⟩ := mailbox_acts p op hop a0 a1 a2 a3 s hp
  obtain ⟨u, f, hu, hpend, hP⟩ := h d ha hr
  refine ⟨d, u.nv, f u.d, x, ha, hr, ?_, hP⟩
  rw [hm, hu, State.run, State.run, hpend]

/-- An accepted command of the whole block, as the executor holds it. -/
def accepted (lmp : Bool) (op : Nat) (args : List Word) : CmdRun := { op := op, lmp := lmp, reason := 0, res := [], lock := none, sess := none, args := args }

/-- Such a command leaves its entry in the executor, or nothing of itself where it has reset the module. -/
theorem submit_accepted {lmp : Bool} {op : Nat} {a0 a1 a2 a3 : Word} {s u : State} (hc : s.d.ms.cmd = none) (hop : op ≠ 6 ∧ op ≠ 7)
    (h : runCommand false lmp op a0 a1 a2 a3 s = ⟨0, [], none, false, u⟩) :
    (submit lmp none op a0 a1 a2 a3 s).2 = u.run (if u.d.img.boots = s.d.img.boots then beginCommand (accepted lmp op [a0, a1, a2, a3]) else id) := by
  have ho (t : State) : afterAnchor op t = t := by simp [afterAnchor, hop]
  unfold submit
  rw [if_neg (by simp [hc])]
  simp only [h, ho]
  by_cases hb : u.d.img.boots = s.d.img.boots
  · simp [hb, accepted]
  · simp [hb]

theorem Responsive.cmd_none {d : Dev} (h : Responsive d) : d.ms.cmd = none := by
  obtain ⟨-, -, -, -, -, hc⟩ := h
  exact hc

theorem runCommand_reload {lmp : Bool} {a0 a1 a2 a3 : Word} {s : State} (h : Responsive s.d) :
    runCommand false lmp 1 a0 a1 a2 a3 s = ⟨(reload a0 s).1, [], none, false, (reload a0 s).2⟩ := by
  obtain ⟨-, -, -, hrom, hrole, -⟩ := h
  have hop : 1 ∈ opcodes := by decide
  simp [runCommand, hop, hrom, hrole]

theorem runCommand_reset {lmp : Bool} {a0 a1 a2 a3 : Word} {s : State} (h : Responsive s.d) :
    runCommand false lmp 0x3F a0 a1 a2 a3 s = ⟨(resetCmd s).1, [], none, false, (resetCmd s).2⟩ := by
  obtain ⟨-, -, -, hrom, hrole, -⟩ := h
  have hop : 0x3F ∈ opcodes := by decide
  simp [runCommand, hop, hrom, hrole]

/-- What RELOAD leaves: LOAD with every slot FREE, no enable request, and SKIP_HALF as it was given. -/
structure Reloaded (skip : Bool) (e : Dev) : Prop where
  mode : e.mode = .load
  free : ∀ o ∈ allSlots, e.occupied o = false
  requests : e.img.requests = []
  skip : e.gb bImg F.IMG_STATUS_SKIP_HALF_USED = skip

theorem Reloaded.runs {k : Bool} {d e : Dev} (h : Reloaded k d) (g : d.Runs e) : Reloaded k e :=
  ⟨g.mode.trans h.mode, fun o ho => (g.occupied o).trans (h.free o ho), g.requests.trans h.requests, g.skip.trans h.skip⟩

/-- A choice of images in LOAD with every slot FREE. -/
theorem choiceNoted_reloaded (nv : Nv) {d : Dev} (hm : d.mode = .load) (hf : ∀ o ∈ allSlots, d.occupied o = false) :
    Reloaded d.img.skipHalf (choiceNoted nv d) := by
  have hl := (choiceNoted_loads nv d).toAside
  exact ⟨hl.mode.trans hm, fun o ho => (hl.occupied o).trans (hf o ho), choiceNoted_requests nv d, choiceNoted_skip nv d⟩

theorem WasReset.free {s e : Dev} (h : WasReset s e) {o : Obj} (ho : o ∈ allSlots) : e.occupied o = false := by
  simp only [Dev.occupied, h.ms, if_neg (allSlots_type ho)]
  rfl

/-- A command that begins to execute writes CMD_RESULT and the executor only. -/
theorem beginCommand_reloaded {k : Bool} {d : Dev} (h : Reloaded k d) (c : CmdRun) : Reloaded k (beginCommand c d) := by
  let x : Dev := { d with ms := { d.ms with cmd := some c } }
  have e : beginCommand c d = (((x.p bDev F.CMD_RESULT_REASON 0).p bDev F.CMD_RESULT_BUSY 1).pb bDev F.CMD_RESULT_VIA_LMP c.lmp).p bDev F.CMD_RESULT_OP c.op := rfl
  have hx : Reloaded k x := ⟨h.mode, h.free, h.requests, h.skip⟩
  rw [e, Dev.pb]
  generalize x = y at hx
  refine ⟨?_, fun o ho => ?_, ?_, ?_⟩
  · rw [← hx.mode, Dev.mode, Dev.mode]
    simp (disch := decide) only [Dev.g_p_ne]
  · rw [← hx.free o ho]
    refine occupied_congr ?_ o
    rw [Dev.p_ms, Dev.p_ms, Dev.p_ms, Dev.p_ms]
  · rw [Dev.p_img, Dev.p_img, Dev.p_img, Dev.p_img, hx.requests]
  · rw [← hx.skip, Dev.gb, Dev.gb]
    simp (disch := decide) only [Dev.g_p_ne]

/-- The module that RELOAD has emptied, before it chooses. -/
def emptied (skip : Bool) (d : Dev) : Dev :=
  let e := enterMode .load 0x00 (discardAll (closeSess (fun _ => true) (setRole .out d)))
  { (e.pb bImg F.IMG_STATUS_WARM_RESET false) with img := { e.img with skipHalf := skip } }

theorem emptied_loads (skip : Bool) (d : Dev) : (enterMode .load 0x00 (discardAll (closeSess (fun _ => true) (setRole .out d)))).Loads (emptied skip d) :=
  (Dev.loads_p (b := bImg) _ F.IMG_STATUS_WARM_RESET _ (by decide)).trans (Dev.loads_img _ _ rfl)

theorem emptied_mode (skip : Bool) (d : Dev) : (emptied skip d).mode = .load := by
  rw [(emptied_loads skip d).mode, enterMode_load_mode]

theorem emptied_free (skip : Bool) (d : Dev) {o : Obj} (h : o ∈ allSlots) : (emptied skip d).occupied o = false := by
  rw [(emptied_loads skip d).occupied, enterMode_load_occupied, discardAll_free _ h]

/-- R57: RELOAD accepted. A firmware other than the one that runs makes a warm reset of its own. -/
theorem reload_cases (a0 : Word) (s : State) (hm : s.d.mode = .hold) (hb : imgBusy s.d = false) :
    reload a0 s = (0, { s with d := chooseImages s.nv (emptied (getBits a0 0 1 == 1) s.d) }) ∨
    ∃ d : Dev, reload a0 s = (0, startRom { s with d := { (resetDev 2 true d) with img := { (resetDev 2 true d).img with skipHalf := getBits a0 0 1 == 1 } } }) := by
  simp only [reload, hm, hb, beq_self_eq_true, Bool.true_or, Bool.not_true, Bool.false_eq_true, if_false]
  split
  · exact Or.inr ⟨_, rfl⟩
  · exact Or.inl rfl

theorem reload_reloaded (a0 : Word) (s : State) (hm : s.d.mode = .hold) (hb : imgBusy s.d = false) :
    (reload a0 s).1 = 0 ∧ (reload a0 s).2.pending = s.pending ∧ (reload a0 s).2.nv = s.nv ∧ Reloaded (getBits a0 0 1 == 1) (reload a0 s).2.d := by
  rcases reload_cases a0 s hm hb with h | ⟨d, h⟩ <;> rw [h]
  · refine ⟨rfl, rfl, rfl, ?_⟩
    have hn := choiceNoted_reloaded s.nv (emptied_mode (getBits a0 0 1 == 1) s.d) (fun o ho => emptied_free _ s.d ho)
    exact hn.runs (chooseImages_runs s.nv _)
  · refine ⟨rfl, startRom_pending _, startRom_nv _, ?_⟩
    have hw : WasReset d { (resetDev 2 true d) with img := { (resetDev 2 true d).img with skipHalf := getBits a0 0 1 == 1 } } :=
      (resetDev_wasReset 2 true d).loads (Dev.loads_img _ _ rfl)
    have hn := choiceNoted_reloaded s.nv hw.inLoad (fun o ho => hw.free ho)
    exact hn.runs (startRom_runs { s with d := _ } hw.lanes)

theorem reload_serves (p : Path) (a0 a1 a2 a3 : Word) (s : State) (hp : HostReady p s) (hm : s.d.mode = .hold) (hb : imgBusy s.d = false) :
    Serves (exec (.reload p a0 a1 a2 a3) s) s (fun _ nv e =>
      nv = s.nv ∧ e.mode = .load ∧ (∀ o ∈ allSlots, e.occupied o = false) ∧ e.img.requests = [] ∧ e.gb bImg F.IMG_STATUS_SKIP_HALF_USED = (getBits a0 0 1 == 1)) := by
  refine mailbox_serves (op := 1) (by decide) hp (fun d ha hr => ?_)
  obtain ⟨h0, hpend, hnv, hrl⟩ := reload_reloaded a0 { s with d := d } (ha.mode.trans hm) (ha.imgBusy.trans hb)
  have hrun := runCommand_reload (s := { s with d := d }) (lmp := p == Path.lmp) (a0 := a0) (a1 := a1) (a2 := a2) (a3 := a3) hr
  rw [h0] at hrun
  have hs := submit_accepted hr.cmd_none (by decide) hrun
  refine ⟨_, _, hs, hpend, hnv, ?_⟩
  split
  · obtain ⟨hmode, hfree, hreq, hskip⟩ := beginCommand_reloaded hrl (accepted (p == Path.lmp) 1 [a0, a1, a2, a3])
    exact ⟨hmode, hfree, hreq, hskip⟩
  · exact ⟨hrl.mode, hrl.free, hrl.requests, hrl.skip⟩

theorem reset_serves (p : Path) (a0 a1 a2 a3 : Word) (s : State) (hp : HostReady p s) (hm : s.d.mode = .hold) :
    Serves (exec (.reset p a0 a1 a2 a3) s) s (fun _ nv e =>
      nv = s.nv ∧ e.g bDev F.DEV_STATUS_RESET_CAUSE = 3 ∧ e.tick = 0 ∧ e.img.boots = s.d.img.boots + 1 ∧ e.fars = s.d.fars ∧ e.mode = .load) := by
  refine mailbox_serves (op := 0x3F) (by decide) hp (fun d ha hr => ?_)
  let t : State := { s with d := d }
  have hw : WasReset d (warmReset 3 t).d := warmReset_wasReset 3 t
  have hcmd : resetCmd t = (0, warmReset 3 t) := by simp [resetCmd, t, ha.mode, hm]
  have hrun := runCommand_reset (s := t) (lmp := p == Path.lmp) (a0 := a0) (a1 := a1) (a2 := a2) (a3 := a3) hr
  rw [hcmd] at hrun
  have hs := submit_accepted hr.cmd_none (by decide) hrun
  have hboots : (warmReset 3 t).d.img.boots ≠ t.d.img.boots := hw.boots ▸ Nat.succ_ne_self _
  rw [if_neg hboots] at hs
  exact ⟨_, _, hs, startRom_pending _, startRom_nv _, warmReset_cause 3 t, hw.tick, hw.boots.trans (congrArg (· + 1) ha.boots), hw.fars.trans ha.fars, hw.inLoad⟩

/-- Settles O14: each restart is one reset, shown field by field, followed by a choice of images that leaves the device window and the slots alone; the application of the CONFIG image and the enable requests end in the same end of LOAD. -/
theorem resetAndLoad : Obligations.ResetAndLoad := by
  unfold Obligations.ResetAndLoad
  exact ⟨⟨resetN_ignored, powerGood_does, resetN_restarts⟩, ⟨configApply_does, enableRequests_does, enableRequests_waits⟩, reload_serves, reset_serves⟩

end Sys2Proof.Machine
end

section
/-! SUPPORT. Where the registers of the map lie (R92, R673). -/

namespace Sys2Proof.Machine

/-! ### Locating an address -/

/-- How far the blocks of a family reach. -/
def FamD.span (f : FamD) : Nat := max f.size (f.stride * f.count)

/-- Family `g` begins where `f` ends, or lies in the gaps between the blocks of `f`. -/
abbrev FamD.Before (f g : FamD) : Prop :=
  f.base + f.span ≤ g.base ∨ f.base ≤ g.base ∧ f.size ≤ (g.base - f.base) % f.stride ∧ (g.base - f.base) % f.stride + g.span ≤ f.stride

theorem famTable_ordered : famTable.Pairwise FamD.Before := by decide

theorem famHit_span_le {f : FamD} {a i o : Nat} (h : famHit f a = some (i, o)) : f.base ≤ a ∧ a < f.base + f.span := famHit_span h

/-- An address of one family is none of a family before it. -/
theorem FamD.Before.miss {f g : FamD} (h : f.Before g) {a i o : Nat} (hit : famHit g a = some (i, o)) : famHit f a = none := by
  obtain ⟨hlo, hhi⟩ := famHit_span_le hit
  rcases h with h | ⟨hb, hs, hg⟩
  · cases hf : famHit f a with
    | none => rfl
    | some w =>
      have := (famHit_span_le (i := w.1) (o := w.2) hf).2
      omega
  · have hz : f.stride ≠ 0 := by omega
    have hm : (a - f.base) % f.stride = (g.base - f.base) % f.stride + (a - g.base) := by
      rw [show a - f.base = (g.base - f.base) + (a - g.base) by omega, Nat.add_mod, Nat.mod_eq_of_lt (a := a - g.base) (by omega),
        Nat.mod_eq_of_lt (by omega)]
    have hgap : ¬ ((a - f.base) / f.stride < f.count ∧ (a - f.base) % f.stride < f.size) := by omega
    simp only [famHit, hz, if_false, if_neg (show ¬ a < f.base by omega), if_neg hgap]

theorem locIn_of_hit {l : List FamD} (hl : l.Pairwise FamD.Before) {f : FamD} (hf : f ∈ l) {a i o k : Nat} {r : RegD} (hit : famHit f a = some (i, o))
    (hr : regHit f.regs o = some (r, k)) : locIn l a = some ⟨f.fam, i, o, some r⟩ := by
  induction l with
  | nil => cases hf
  | cons g t ih =>
    obtain ⟨hg, ht⟩ := List.pairwise_cons.mp hl
    rcases List.mem_cons.mp hf with rfl | hft
    · simp only [locIn, hit, hr]
    · simp only [locIn, (hg f hft).miss hit]
      exact ih ht hft

/-- Offset `o` of block `i` of a family of many blocks. -/
theorem famHit_block {f : FamD} {i o : Nat} (hi : i < f.count) (ho : o < f.size) (hs : f.size ≤ f.stride) :
    famHit f (f.base + f.stride * i + o) = some (f.first + i, o) := by
  have hz : 0 < f.stride := by omega
  have ha : f.base + f.stride * i + o - f.base = f.stride * i + o := by omega
  have hd : (f.stride * i + o) / f.stride = i := by
    rw [Nat.mul_add_div hz, Nat.div_eq_of_lt (by omega), Nat.add_zero]
  have hm : (f.stride * i + o) % f.stride = o := by
    rw [Nat.mul_add_mod, Nat.mod_eq_of_lt (by omega)]
  simp only [famHit, ha, hd, hm, if_neg (show ¬ f.base + f.stride * i + o < f.base by omega), if_neg (Nat.pos_iff_ne_zero.mp hz), hi, ho, and_self, if_true]

/-- The register at offset `o` of block `i` of a family of many blocks. -/
theorem locate_block (f : FamD) (hf : f ∈ famTable) {i o k : Nat} {r : RegD} (hi : i < f.count) (ho : o < f.size) (hs : f.size ≤ f.stride)
    (hr : regHit f.regs o = some (r, k)) : locate (f.base + f.stride * i + o) = some ⟨f.fam, f.first + i, o, some r⟩ :=
  locIn_of_hit famTable_ordered hf (famHit_block hi ho hs) hr

/-- The register at offset `o` of block `i` of a family that counts its blocks from 0. -/
theorem locate_numbered (f : FamD) (hf : f ∈ famTable) {i o k : Nat} {r : RegD} (h0 : f.first = 0) (hi : i < f.count) (ho : o < f.size) (hs : f.size ≤ f.stride)
    (hr : regHit f.regs o = some (r, k)) : locate (f.base + f.stride * i + o) = some ⟨f.fam, i, o, some r⟩ := by
  rw [locate_block f hf hi ho hs hr, h0, Nat.zero_add]

/-- Where a located address lies: in a block of its family, at an offset of a register row. -/
theorem locate_hit {a : Nat} {fam : Fam} {i off : Nat} {r : RegD} (h : locate a = some ⟨fam, i, off, some r⟩) :
    ∃ f ∈ famTable, f.fam = fam ∧ famHit f a = some (i, off) := locIn_hit h

/-! ### Enable bits and check reports -/

/-- The object is one of those that the map has registers for. -/
def Obj.InMap : Obj → Prop
  | .string i | .rg i | .aux i | .tpo i => i < 8
  | .node i => i < 96
  | .loop i => i < 2048
  | .profile i => i < 16
  | .can i => i < 2
  | .obj i => i < 512
  | .device | .ptp | .trace => True

/-- The family and the row of the register that holds an enable bit. -/
def enableRow : Obj → Fam × RegD
  | .device => (.dev, ⟨0x10, 1, 0x0, 0x1, 0x0, 0x0, 0x0, .l⟩)
  | .string _ => (.str, ⟨0x4, 1, 0x0, 0x1, 0x0, 0x0, 0x0, .l⟩)
  | .node _ => (.node, ⟨0x4, 1, 0x0, 0x1, 0x0, 0x0, 0x0, .l⟩)
  | .loop _ => (.loopD, ⟨0x0, 1, 0x0, 0x1, 0x0, 0x0, 0x0, .l⟩)
  | .profile _ => (.prof, ⟨0x0, 1, 0x0, 0x1, 0x0, 0x0, 0x0, .l⟩)
  | .rg _ => (.rg, ⟨0x4, 1, 0x0, 0x1, 0x0, 0x0, 0x0, .l⟩)
  | .aux _ => (.aux, ⟨0x4, 1, 0x0, 0x1, 0x0, 0x0, 0x0, .l⟩)
  | .can _ => (.can, ⟨0x4, 1, 0x0, 0x1, 0x0, 0x0, 0x0, .l⟩)
  | .obj _ => (.obj, ⟨0x0, 1, 0x0, 0x1, 0x0, 0x0, 0x0, .l⟩)
  | .ptp => (.tb, ⟨0x10C, 1, 0x0, 0x1, 0x0, 0x0, 0x0, .l⟩)
  | .tpo _ => (.tpo, ⟨0x4, 1, 0x0, 0x1, 0x0, 0x0, 0x0, .l⟩)
  | .trace => (.flt, ⟨0x204, 1, 0x0, 0x5, 0x0, 0x2, 0x0, .l⟩)

theorem locate_enableReg {o : Obj} (h : o.InMap) :
    locate (enableReg o) = some ⟨(enableRow o).1, o.idx, (enableRow o).2.off, some (enableRow o).2⟩ := by
  cases o with
  | device => decide
  | ptp => decide
  | trace => decide
  | string i => exact locate_numbered ⟨.str, 0x10000, 0x1000, 8, 0x1000, 0, regsStr⟩ (by simp [famTable]) rfl h (by decide) (by decide) rfl
  | node i => exact locate_numbered ⟨.node, 0x100000, 0x1000, 96, 0x1000, 0, regsNode⟩ (by simp [famTable]) rfl h (by decide) (by decide) rfl
  | loop i => exact locate_numbered ⟨.loopD, 0x200000, 0x40, 2048, 0x40, 0, regsLoopD⟩ (by simp [famTable]) rfl h (by decide) (by decide) rfl
  | profile i => exact locate_numbered ⟨.prof, 0x381000, 0x40, 16, 0x40, 0, regsProf⟩ (by simp [famTable]) rfl h (by decide) (by decide) rfl
  | rg i => exact locate_numbered ⟨.rg, 0x240100, 0x40, 8, 0x40, 0, regsRg⟩ (by simp [famTable]) rfl h (by decide) (by decide) rfl
  | aux i => exact locate_numbered ⟨.aux, 0x302000, 0x40, 8, 0x40, 0, regsAux⟩ (by simp [famTable]) rfl h (by decide) (by decide) rfl
  | can i => exact locate_numbered ⟨.can, 0x500000, 0x10000, 2, 0x8000, 0, regsCan⟩ (by simp [famTable]) rfl h (by decide) (by decide) rfl
  | tpo i => exact locate_numbered ⟨.tpo, 0x4C0400, 0x20, 8, 0x20, 0, regsTpo⟩ (by simp [famTable]) rfl h (by decide) (by decide) rfl
  | obj i =>
    have h' : i < 512 := h
    by_cases hi : i < 256
    · have := locate_numbered ⟨.obj, 0x508000, 0x80, 256, 0x80, 0, regsObj⟩ (by simp [famTable]) (o := 0) rfl hi (by decide) (by decide) rfl
      rw [show enableReg (.obj i) = 0x508000 + 0x80 * i + 0 by simp only [enableReg, bObj, F.OBJ_ENABLE]; omega]
      exact this
    · have := locate_block ⟨.obj, 0x518000, 0x80, 256, 0x80, 256, regsObj⟩ (by simp [famTable]) (i := i - 256) (o := 0) (show i - 256 < 256 by omega) (by decide) (by decide) rfl
      rw [show enableReg (.obj i) = 0x518000 + 0x80 * (i - 256) + 0 by simp only [enableReg, bObj, F.OBJ_ENABLE]; omega]
      rwa [show 256 + (i - 256) = i by omega] at this

/-- The family and the row of the register that reports the check of an object; a message object and the trace, which report none (R121), have their status row here. -/
def checkRow : Obj → Fam × RegD
  | .device => (.dev, ⟨0x14, 1, 0x0, 0x0, 0x0, 0x0, 0x0, .none⟩)
  | .string _ => (.str, ⟨0xC, 1, 0x0, 0x0, 0x0, 0x0, 0x0, .none⟩)
  | .node _ => (.node, ⟨0x8, 1, 0x0, 0x0, 0x0, 0x0, 0x0, .none⟩)
  | .loop _ => (.loopChk, ⟨0x0, 1, 0x0, 0x0, 0x0, 0x0, 0x0, .none⟩)
  | .profile _ => (.prof, ⟨0x4, 1, 0x0, 0x0, 0x0, 0x0, 0x0, .none⟩)
  | .rg _ => (.rg, ⟨0x18, 1, 0x0, 0x0, 0x6, 0x0, 0x0, .none⟩)
  | .aux _ => (.aux, ⟨0x1C, 1, 0x0, 0x0, 0x2, 0x0, 0x0, .none⟩)
  | .can _ => (.can, ⟨0x20, 1, 0x0, 0x0, 0x0, 0x0, 0x0, .none⟩)
  | .ptp => (.tb, ⟨0x110, 1, 0x0, 0x0, 0x0, 0x0, 0x0, .none⟩)
  | .tpo _ => (.tpo, ⟨0x18, 1, 0x0, 0x0, 0x4, 0x0, 0x0, .none⟩)
  | .obj _ => (.obj, ⟨0x14, 1, 0x0, 0x0, 0x300, 0x0, 0x0, .none⟩)
  | .trace => (.flt, ⟨0x208, 1, 0x0, 0x0, 0x0, 0x0, 0x0, .none⟩)

theorem locate_checkField {o : Obj} (h : o.InMap) {w : Nat × Fld} (hw : checkField o = some w) :
    locate (w.1 + w.2.off) = some ⟨(checkRow o).1, o.idx, (checkRow o).2.off, some (checkRow o).2⟩ := by
  cases o <;> cases hw
  case device => decide
  case ptp => decide
  case string i => exact locate_numbered ⟨.str, 0x10000, 0x1000, 8, 0x1000, 0, regsStr⟩ (by simp [famTable]) (o := 0xC) rfl h (by decide) (by decide) rfl
  case node i => exact locate_numbered ⟨.node, 0x100000, 0x1000, 96, 0x1000, 0, regsNode⟩ (by simp [famTable]) (o := 0x8) rfl h (by decide) (by decide) rfl
  case loop i => exact locate_numbered ⟨.loopChk, 0x220000, 0x4, 2048, 0x4, 0, regsLoopChk⟩ (by simp [famTable]) (o := 0x0) rfl h (by decide) (by decide) rfl
  case profile i => exact locate_numbered ⟨.prof, 0x381000, 0x40, 16, 0x40, 0, regsProf⟩ (by simp [famTable]) (o := 0x4) rfl h (by decide) (by decide) rfl
  case rg i => exact locate_numbered ⟨.rg, 0x240100, 0x40, 8, 0x40, 0, regsRg⟩ (by simp [famTable]) (o := 0x18) rfl h (by decide) (by decide) rfl
  case aux i => exact locate_numbered ⟨.aux, 0x302000, 0x40, 8, 0x40, 0, regsAux⟩ (by simp [famTable]) (o := 0x1C) rfl h (by decide) (by decide) rfl
  case can i => exact locate_numbered ⟨.can, 0x500000, 0x10000, 2, 0x8000, 0, regsCan⟩ (by simp [famTable]) (o := 0x20) rfl h (by decide) (by decide) rfl
  case tpo i => exact locate_numbered ⟨.tpo, 0x4C0400, 0x20, 8, 0x20, 0, regsTpo⟩ (by simp [famTable]) (o := 0x18) rfl h (by decide) (by decide) rfl

/-- How many blocks the map has of a family that holds enable bits. -/
def enableBlocks : Fam → Nat
  | .node => 96
  | .loopD => 2048
  | .prof => 16
  | .can => 2
  | .obj => 512
  | _ => 8

theorem famTable_blocks : ∀ f ∈ famTable, f.fam ∈ [Fam.str, .node, .loopD, .prof, .rg, .aux, .can, .obj, .tpo] →
    f.first + max 1 f.count ≤ enableBlocks f.fam := by decide

/-- The object whose enable bit a located register holds is one of the map. -/
theorem enableOf_inMap {a : Nat} {w : Wr} {o : Obj} (hl : locate a = some w.loc) (hr : w.loc.reg ≠ none) (ho : enableOf w = some o) : o.InMap := by
  obtain ⟨⟨fam, i, off, reg⟩, b, k, old, new, act⟩ := w
  obtain ⟨r, rfl⟩ := Option.ne_none_iff_exists'.mp hr
  obtain ⟨f, hf, rfl, hit⟩ := locate_hit hl
  have hi := famHit_idx hit
  have hb := famTable_blocks f hf
  generalize f.fam = fam at *
  unfold enableOf at ho
  cases fam <;> simp only [Option.ite_none_right_eq_some, Option.some.injEq, reduceCtorEq] at ho <;> obtain ⟨-, rfl⟩ := ho
  case dev => trivial
  case tb => trivial
  case flt => trivial
  all_goals exact lt_of_lt_of_le hi (hb (by decide))

theorem mem_checkAddr {o : Obj} {a : Nat} : a ∈ checkAddr o ↔ ∃ w, checkField o = some w ∧ a = w.1 + w.2.off := by
  simp [checkAddr, eq_comm]

/-- The row that reports a check is not the one that enables. -/
theorem checkRow_ne_enableRow (o : Obj) : (checkRow o).1 = (enableRow o).1 → (checkRow o).2.off ≠ (enableRow o).2.off := by
  cases o <;> simp [checkRow, enableRow]

/-- The enable bit of an object is looked for in its family, at the offset of its row. -/
theorem enableOf_row {w : Wr} {o : Obj} (ho : enableOf w = some o) : w.loc.fam = (enableRow o).1 ∧ w.loc.off - 4 * w.k = (enableRow o).2.off := by
  obtain ⟨⟨fam, i, off, reg⟩, b, k, old, new, act⟩ := w
  unfold enableOf at ho
  cases fam <;> simp only [Option.ite_none_right_eq_some, Option.some.injEq, reduceCtorEq, Wr.is, beq_iff_eq] at ho <;>
    obtain ⟨h, rfl⟩ := ho <;> exact ⟨rfl, h⟩

/-- A register that reports a check holds no enable bit. -/
theorem enableOf_not_check {a : Nat} {w : Wr} {r : RegD} {o : Obj} (hl : locate a = some w.loc) (hr : w.loc.reg = some r) (hk : w.k = (w.loc.off - r.off) / 4)
    (ho : enableOf w = some o) : a ∉ checkAddr o := by
  intro ha
  obtain ⟨x, hx, rfl⟩ := mem_checkAddr.mp ha
  have hc := hl.symm.trans (locate_checkField (enableOf_inMap hl (by simp [hr]) ho) hx)
  obtain ⟨hfam, hoff⟩ := enableOf_row ho
  rw [Option.some.inj hc] at hr hk hfam hoff
  cases hr
  rw [hk, Nat.sub_self] at hoff
  exact checkRow_ne_enableRow o hfam hoff

end Sys2Proof.Machine
end

section
/-! SUPPORT. Refused register writes and their record (R119). -/

namespace Sys2Proof.Machine

/-! ### What a refusal leaves -/

/-- What a refused write to `a` may have touched: nothing but registers that report why, and these are neither `a` nor the record of refused writes. -/
structure Spared (a : Nat) (d e : Dev) : Prop where
  due : e.due = d.due
  start : e.img.startCharge = d.img.startCharge
  ms : e.ms = d.ms
  rd : e.rd a = d.rd a
  note : e.rd (bDev + F.DEV_WR_REASON.off) = d.rd (bDev + F.DEV_WR_REASON.off)

theorem Spared.refl (a : Nat) (d : Dev) : Spared a d d := ⟨rfl, rfl, rfl, rfl, rfl⟩

theorem Spared.wr {a x : Nat} (d : Dev) (v : Word) (hx : x ≠ a) (hn : x ≠ bDev + F.DEV_WR_REASON.off) : Spared a d (d.wr x v) :=
  ⟨rfl, rfl, rfl, Dev.rd_wr_ne d v hx.symm, Dev.rd_wr_ne d v hn.symm⟩

/-- A report of a check writes the register of the report, or nothing where the object has none. -/
theorem setCheck_eq (o : Obj) (r : Nat × Obj) (d : Dev) : (checkAddr o = [] ∧ setCheck o r d = d) ∨ ∃ x ∈ checkAddr o, ∃ v, setCheck o r d = d.wr x v := by
  cases o
  case obj => exact .inl ⟨rfl, rfl⟩
  case trace => exact .inl ⟨rfl, rfl⟩
  all_goals exact .inr ⟨_, List.mem_singleton_self _, _, rfl⟩

theorem checkAddr_ne_note (o : Obj) : bDev + F.DEV_WR_REASON.off ∉ checkAddr o := by
  cases o <;> simp [checkAddr, checkField, bDev, bStr, bNode, bLoopChk, bProf, bRg, bAux, bCan, bTb, bTpo, F.DEV_WR_REASON, F.DEV_CHECK_REASON] <;> omega

theorem spared_setCheck {a : Nat} {o : Obj} (ha : a ∉ checkAddr o) (r : Nat × Obj) (d : Dev) : Spared a d (setCheck o r d) := by
  rcases setCheck_eq o r d with ⟨-, h⟩ | ⟨x, hx, v, h⟩ <;> rw [h]
  · exact Spared.refl a d
  · exact Spared.wr d v (fun e => ha (e ▸ hx)) (fun e => checkAddr_ne_note o (e ▸ hx))

/-- A refused write of an enable bit at most reports why. -/
theorem enableWrite_refused {o : Obj} {v : Bool} {d : Dev} (h : (enableWrite o v d).1 ≠ 0) : (enableWrite o v d).2 = d ∨ (enableWrite o v d).2 = setCheck o (0x0102, o) d := by
  unfold enableWrite at h ⊢
  simp only [] at h ⊢
  split_ifs at h ⊢
  · exact absurd rfl h
  · exact absurd rfl h
  · exact absurd rfl h
  · exact .inr rfl
  · exact .inl rfl
  · exact absurd rfl h
  · exact absurd rfl h
  · exact .inl rfl
  · exact absurd rfl h

/-- A refused change of frequency at most shows why in CLK_RESULT. -/
theorem storeWord_refused {via : Via} {r : RegD} {w : Wr} {d : Dev} (h : (storeWord via r w d).1 ≠ 0) :
    r.cls = .c ∧ (storeWord via r w d).2 = d.p bClk F.CLK_RESULT_REASON (storeWord via r w d).1 := by
  unfold storeWord clockShadow at h ⊢
  simp only [] at h ⊢
  split_ifs at h ⊢ with hshadow
  · exact absurd rfl h
  · have hc : r.cls = .c ∧ ownerEnabled d w.loc = false := by simpa using hshadow
    exact ⟨hc.1, rfl⟩
  · exact absurd rfl h
  · exact absurd rfl h
  · exact absurd rfl h

/-- The test that a value has to pass. -/
def valueReason (w : Wr) (d : Dev) : Nat := if valueReason1 w d != 0 then valueReason1 w d else valueReason2 w d

/-- What a write of an enable bit comes to: accepted, the bits beside it are stored. -/
def enableStore (via : Via) (o : Obj) (w : Wr) (mask : Word) (d : Dev) : Nat × Dev :=
  let e := if via == .record || getBits mask 0 1 = 0 then (0, d) else enableWrite o (getBits w.new 0 1 == 1) d
  if e.1 != 0 then e
  else
    let s := e.2.wr w.addr (putBits w.new 0 1 (getBits (e.2.rd w.addr) 0 1))
    (0, writeEffect2 w s s)

/-- What a write of any other register comes to. -/
def plainStore (via : Via) (r : RegD) (w : Wr) (d : Dev) : Nat × Dev :=
  let t := storeWord via r w d
  if t.1 != 0 then t else (0, writeEffect2 w d (writeEffect1 w d t.2))

/-- A located write: two tests, then the enable bit or the stored word. -/
theorem regWrite_eq (via : Via) (r : RegD) (w : Wr) (mask : Word) (d : Dev) : regWrite via r w mask d =
    if (r.cls == .s && ownerEnabled d w.loc) = true then (0x0310, d)
    else if valueReason w d ≠ 0 then (valueReason w d, d)
    else match enableOf w with
      | some o => enableStore via o w mask d
      | none => plainStore via r w d := by
  unfold regWrite
  by_cases hv : valueReason w d = 0
  · have hv' : (if (valueReason1 w d != 0) = true then valueReason1 w d else valueReason2 w d) = 0 := hv
    simp only [hv, hv', bne_self_eq_false, Bool.false_eq_true, if_false, ne_eq, not_true_eq_false]
    rfl
  · have hv' : ((if (valueReason1 w d != 0) = true then valueReason1 w d else valueReason2 w d) != 0) = true := by simpa [valueReason] using hv
    simp only [hv', if_true, if_pos hv]
    rfl

theorem enableStore_refused {via : Via} {o : Obj} {w : Wr} {mask : Word} {d : Dev} (h : (enableStore via o w mask d).1 ≠ 0) :
    (enableStore via o w mask d).2 = d ∨ (enableStore via o w mask d).2 = setCheck o (0x0102, o) d := by
  unfold enableStore at h ⊢
  by_cases hv : (via == .record || decide (getBits mask 0 1 = 0)) = true
  · simp [hv] at h
  · by_cases he : (enableWrite o (getBits w.new 0 1 == 1) d).1 = 0
    · simp [hv, he] at h
    · simpa [hv, he] using enableWrite_refused he

theorem plainStore_refused {via : Via} {r : RegD} {w : Wr} {d : Dev} (h : (plainStore via r w d).1 ≠ 0) :
    r.cls = .c ∧ ∃ n, (plainStore via r w d).2 = d.p bClk F.CLK_RESULT_REASON n := by
  unfold plainStore at h ⊢
  by_cases ht : (storeWord via r w d).1 = 0
  · simp [ht] at h
  · obtain ⟨hc, e⟩ := storeWord_refused ht
    simp only [bne_iff_ne, ne_eq, ht, not_false_eq_true, if_true]
    exact ⟨hc, _, e⟩

theorem regWrite_refused {via : Via} {a : Nat} {r : RegD} {w : Wr} {mask : Word} {d : Dev} (hl : locate a = some w.loc) (hr : w.loc.reg = some r)
    (hk : w.k = (w.loc.off - r.off) / 4) (h : (regWrite via r w mask d).1 ≠ 0) : Spared a d (regWrite via r w mask d).2 := by
  rw [regWrite_eq] at h ⊢
  split_ifs at h ⊢
  · exact Spared.refl a d
  · exact Spared.refl a d
  · cases ho : enableOf w with
    | some o =>
      rw [ho] at h
      rcases enableStore_refused h with e | e <;> simp only [e]
      · exact Spared.refl a d
      · exact spared_setCheck (enableOf_not_check hl hr hk ho) _ d
    | none =>
      rw [ho] at h
      obtain ⟨hc, n, e⟩ := plainStore_refused h
      simp only [e]
      refine Spared.wr d _ (fun ha => ?_) (by decide)
      have hclk : locate (bClk + F.CLK_RESULT_REASON.off) = some ⟨.clk, 0, 0x38, some ⟨0x38, 1, 0x0, 0x0, 0x0, 0x0, 0x0, .none⟩⟩ := by decide
      rw [ha, hl] at hclk
      rw [Option.some.inj hclk] at hr
      cases hr
      cases hc

/-- R119: a refused write leaves its register, the executor and what waits as they were. -/
theorem writeDev_spared {via : Via} {a : Nat} {v mask : Word} {d : Dev} (h : (writeDev via a v mask d).1 ≠ 0) : Spared a d (writeDev via a v mask d).2 := by
  unfold writeDev at h ⊢
  simp only [] at h ⊢
  split_ifs at h ⊢
  · exact Spared.refl a d
  · split
    · rename_i hl
      simp only [hl] at h
      exact regWrite_refused hl rfl rfl h
    · exact Spared.refl a d

/-! ### The record of a refused write -/

theorem gb_p_true (d : Dev) (b : Nat) {f : Fld} (hf : f.lo + f.w ≤ 32) (hw : 0 < f.w) : (d.p b f 1).gb b f = true := by
  have h1 : 1 % 2 ^ f.w = 1 := Nat.mod_eq_of_lt (Nat.one_lt_two_pow (by omega))
  simp only [Dev.gb, Dev.g_p_self d b f 1 hf, h1]
  rfl

/-- The record with its address and reason. -/
def recorded (a r : Nat) (d : Dev) : Dev := (d.wr (bDev + F.DEV_WR_ADDR.off) (w32 a)).p bDev F.DEV_WR_REASON_REASON r

/-- The record with LOST, where the one before had not been read. -/
def lostMarked (d : Dev) : Dev := d.on (!d.ms.wrRead) (fun s => s.pb bDev F.DEV_WR_REASON_LOST true)

theorem noteRefused_eq (a r : Nat) (d : Dev) :
    noteRefused a r d = { (lostMarked (recorded a r d)).irq F.DEV_IRQ_STATUS_WR_REFUSED with ms := { (lostMarked (recorded a r d)).ms with wrRead := false } } := rfl

theorem recorded_ms (a r : Nat) (d : Dev) : (recorded a r d).ms = d.ms := by rw [recorded, Dev.p_ms, Dev.wr_ms]

theorem recorded_lost (a r : Nat) (d : Dev) : (recorded a r d).gb bDev F.DEV_WR_REASON_LOST = d.gb bDev F.DEV_WR_REASON_LOST := by
  have h : (recorded a r d).g bDev F.DEV_WR_REASON_LOST = d.g bDev F.DEV_WR_REASON_LOST := by
    rw [recorded, Dev.g_p_disjoint (f := F.DEV_WR_REASON_REASON) (e := F.DEV_WR_REASON_LOST) _ _ _ rfl (by decide) (by decide), Dev.g, Dev.rd_wr_ne _ _ (by decide), Dev.g]
  simp only [Dev.gb, h]

theorem lostMarked_cases (d : Dev) : (d.ms.wrRead = false ∧ lostMarked d = d.p bDev F.DEV_WR_REASON_LOST 1) ∨ (d.ms.wrRead = true ∧ lostMarked d = d) := by
  cases h : d.ms.wrRead
  · exact .inl ⟨rfl, by rw [lostMarked, h, Bool.not_false, Dev.on_true]; rfl⟩
  · exact .inr ⟨rfl, by rw [lostMarked, h, Bool.not_true, Dev.on_false]⟩

theorem lostMarked_rd (d : Dev) {b : Nat} (h : b ≠ bDev + F.DEV_WR_REASON.off) : (lostMarked d).rd b = d.rd b := by
  rcases lostMarked_cases d with ⟨-, e⟩ | ⟨-, e⟩ <;> rw [e]
  exact Dev.rd_p_ne d F.DEV_WR_REASON_LOST _ h

theorem lostMarked_reason (d : Dev) : (lostMarked d).g bDev F.DEV_WR_REASON_REASON = d.g bDev F.DEV_WR_REASON_REASON := by
  rcases lostMarked_cases d with ⟨-, e⟩ | ⟨-, e⟩ <;> rw [e]
  exact Dev.g_p_disjoint _ _ _ rfl (by decide) (by decide)

theorem lostMarked_lost (d : Dev) : (lostMarked d).gb bDev F.DEV_WR_REASON_LOST = true ↔ d.ms.wrRead = false ∨ d.gb bDev F.DEV_WR_REASON_LOST = true := by
  rcases lostMarked_cases d with ⟨h, e⟩ | ⟨h, e⟩ <;> rw [e, h]
  · exact iff_of_true (gb_p_true d bDev (f := F.DEV_WR_REASON_LOST) (by decide) (by decide)) (.inl rfl)
  · simp

theorem lostMarked_quiet {d : Dev} (h : d.Quiet) : (lostMarked d).Quiet := by
  rcases lostMarked_cases d with ⟨-, e⟩ | ⟨-, e⟩ <;> rw [e]
  · rw [Dev.Quiet, Dev.p_due, Dev.p_img]
    exact h
  · exact h

theorem noteRefused_regs (a r : Nat) (d : Dev) : (noteRefused a r d).regs = ((lostMarked (recorded a r d)).irq F.DEV_IRQ_STATUS_WR_REFUSED).regs := rfl

/-- A register away from the interrupts is as the record leaves it. -/
theorem noteRefused_rd (a r : Nat) (d : Dev) {b : Nat} (h : b ≠ bDev + F.DEV_IRQ_STATUS.off) : (noteRefused a r d).rd b = (lostMarked (recorded a r d)).rd b :=
  (Dev.rd_congr (noteRefused_regs a r d) b).trans (Dev.rd_p_ne _ F.DEV_IRQ_STATUS_WR_REFUSED 1 h)

theorem noteRefused_g (a r : Nat) (d : Dev) {f : Fld} (h : bDev + f.off ≠ bDev + F.DEV_IRQ_STATUS.off) :
    (noteRefused a r d).g bDev f = (lostMarked (recorded a r d)).g bDev f := by simp only [Dev.g, noteRefused_rd a r d h]

/-- R119: what the module shows after a refusal of a write to `a`, where `d` stood before it. -/
structure ShowsRefusal (a r : Nat) (d e : Dev) : Prop where
  addr : e.rd (bDev + F.DEV_WR_ADDR.off) = w32 a
  reason : e.g bDev F.DEV_WR_REASON_REASON = r % 2 ^ 16
  lost : e.gb bDev F.DEV_WR_REASON_LOST = true ↔ d.ms.wrRead = false ∨ d.gb bDev F.DEV_WR_REASON_LOST = true
  unread : e.ms.wrRead = false
  irq : e.g bDev F.DEV_IRQ_STATUS_WR_REFUSED = 1
  rd : a ∉ [bDev + F.DEV_WR_ADDR.off, bDev + F.DEV_WR_REASON.off, bDev + F.DEV_IRQ_STATUS.off] → ¬ IsObjStatus a → e.rd a = d.rd a

theorem noteRefused_shows {a : Nat} (r : Nat) {d e : Dev} (h : Spared a d e) : ShowsRefusal a r d (noteRefused a r e) := by
  obtain ⟨-, -, hms, hrd, hnote⟩ := h
  have hlost : e.gb bDev F.DEV_WR_REASON_LOST = d.gb bDev F.DEV_WR_REASON_LOST := by
    simp only [Dev.gb, Dev.g, show bDev + F.DEV_WR_REASON_LOST.off = bDev + F.DEV_WR_REASON.off from rfl, hnote]
  refine ⟨?_, ?_, ?_, rfl, ?_, fun ha _ => ?_⟩
  · rw [noteRefused_rd _ _ _ (by decide), lostMarked_rd _ (by decide), recorded, Dev.rd_p_ne _ _ _ (by decide), Dev.rd_wr_self]
  · rw [noteRefused_g _ _ _ (by decide), lostMarked_reason, recorded, Dev.g_p_self _ _ _ _ (by decide)]
    rfl
  · rw [Dev.gb, noteRefused_g _ _ _ (by decide), ← Dev.gb, lostMarked_lost, recorded_ms, recorded_lost, hms, hlost]
  · rw [Dev.g_congr (noteRefused_regs a r e), Dev.irq_eq, Dev.g_p_self _ _ _ _ (by decide)]
    rfl
  · simp only [List.mem_cons, List.not_mem_nil, or_false, not_or] at ha
    obtain ⟨h1, h2, h3⟩ := ha
    rw [noteRefused_rd _ _ _ h3, lostMarked_rd _ h2, recorded, Dev.rd_p_ne _ F.DEV_WR_REASON_REASON _ h2, Dev.rd_wr_ne _ _ h1, hrd]

theorem noteRefused_quiet (a r : Nat) {d : Dev} (h : d.Quiet) : (noteRefused a r d).Quiet := by
  have hr : (recorded a r d).Quiet := by
    rw [recorded, Dev.Quiet, Dev.p_due, Dev.p_img, Dev.wr_due, Dev.wr_img]
    exact h
  have hi (x : Dev) (m : ModeSt) (hx : x.Quiet) : ({ x.irq F.DEV_IRQ_STATUS_WR_REFUSED with ms := m } : Dev).Quiet := hx
  rw [noteRefused_eq]
  exact hi _ _ (lostMarked_quiet hr)

/-- The record stands while message objects and eligibility are brought into line around the refusal. -/
theorem ShowsRefusal.around {a r : Nat} {d e : Dev} (h : ShowsRefusal a r (found d) e) : ShowsRefusal a r d (refreshElig (refreshCan e)) := by
  obtain ⟨haddr, hreason, hlost, hunread, hirq, hrd⟩ := h
  have far (x : Dev) {b : Nat} (hb : b < 0x508000) : (refreshElig (refreshCan x)).rd b = x.rd b := refreshed_rd x (not_obj_small b hb)
  refine ⟨?_, ?_, ?_, ?_, ?_, fun ha ho => ?_⟩
  · rw [far _ (by decide), haddr]
  · rw [Dev.g, far _ (by decide), ← Dev.g, hreason]
  · have hd : (found d).gb bDev F.DEV_WR_REASON_LOST = d.gb bDev F.DEV_WR_REASON_LOST := by
      simp only [Dev.gb, Dev.g, found_rd_far d (show bDev + F.DEV_WR_REASON_LOST.off < 0x508000 ∨ _ from by decide)]
    rw [Dev.gb, Dev.g, far _ (by decide), ← Dev.g, ← Dev.gb, hlost, hd]
    simp
  · simpa using hunread
  · rw [Dev.g, far _ (by decide), ← Dev.g, hirq]
  · rw [refreshed_rd e ho, hrd ha ho, found_rd d a ho]

/-! ### The refused write on the bus and on a path -/

theorem run_quiet_eq (s : State) {e : Dev} (h : e.Quiet) : s.run (fun _ => e) = { s with d := refreshElig (refreshCan e) } := by
  rw [← State.run_quiet s (fun _ => e) h]
  rfl

theorem submit_busy {lmp : Bool} {op : Nat} {a0 a1 a2 a3 : Word} {s : State} (h : (submit lmp none op a0 a1 a2 a3 s).1 ≠ 0) :
    (submit lmp none op a0 a1 a2 a3 s).2 = afterAnchor op s := by
  by_cases hc : s.d.ms.cmd.isSome = true
  · simp only [submit, hc, if_true]
  · refine absurd ?_ h
    simp only [submit, hc, Bool.false_eq_true, if_false]
    split <;> rfl

theorem afterAnchor_spared (a op : Nat) (s : State) : Spared a s.d (afterAnchor op s).d ∧ (afterAnchor op s).nv = s.nv ∧ (afterAnchor op s).pending = s.pending := by
  unfold afterAnchor
  split_ifs
  · exact ⟨⟨rfl, rfl, rfl, rfl, rfl⟩, rfl, rfl⟩
  · exact ⟨Spared.refl _ _, rfl, rfl⟩

/-- R119: the bus records a write that it refuses, and nothing else happens to the register. -/
theorem busWrite_refused {p : Path} {a : Nat} {v : Word} {s : State} {r : Nat} (hr : (busWrite p a v s).1 = r) (h0 : r ≠ 0) :
    ∃ e, Spared a s.d e ∧ (busWrite p a v s).2 = s.run (fun _ => noteRefused a r e) := by
  subst hr
  unfold busWrite at h0 ⊢
  simp only [] at h0 ⊢
  split_ifs at h0 ⊢ with hop hs
  · exact absurd hs h0
  · obtain ⟨hsp, hnv, hp⟩ := afterAnchor_spared a (getBits v 0 16) s
    refine ⟨_, hsp, ?_⟩
    rw [submit_busy h0]
    simp only [State.run, hnv, hp]
  · have h1 : (writeDev (.host p) a v 4294967295#32 s.d).1 ≠ 0 := h0
    refine ⟨_, writeDev_spared h1, ?_⟩
    simp only [hostWriteDev, if_neg h1]

/-- One write of a host in an ON module: the path hands it to the bus, and the SPI notes whether it was refused. -/
theorem hostWrite_once {p : Path} {a : Nat} {v : Word} {s : State} (hst : pwrState s.d = 0) (htr : pwrTrans s.d = false) (hl : s.d.hs.later = [])
    (hlmp : p = .lmp → lmpRuns s.d = true ∧ spiWaits s.pending a = false) (h4 : a % 4 = 0) :
    ∃ f : HostSt → HostSt, hostWrite p a v s = spiNote f (busWrite p a v (s.upd id)).2 ∧ (p = .spi → ∀ h, (f h).refused = ((busWrite p a v (s.upd id)).1 != 0)) := by
  cases p with
  | lmp =>
    obtain ⟨hrun, hw⟩ := hlmp rfl
    exact ⟨id, by simp [hostWrite, h4, hrun, hw, spiNote], nofun⟩
  | spi =>
    have hw : wake 3 s.d.fresh = s.d.fresh := wake_on 3 _ hst htr
    have hb : spiBegin s = s.upd id := by
      simp only [spiBegin, State.upd, State.run, id]
      rw [show wake 3 { s.d with hs := { s.d.hs with out := [] } } = _ from hw]
    refine ⟨fun h => { h with addrErr := false, refused := (busWrite .spi a v (s.upd id)).1 != 0 }, ?_, fun _ _ => rfl⟩
    simp [hostWrite, spiWrite, hl, spiWriteWords, spiReady_on _ hst htr, hb, h4, busWrites]

theorem registerWrite_refused (p : Path) (a : BitVec 24) (v : Word) (s : State) (r : Nat) (hq : s.d.Quiet) (hst : pwrState s.d = 0) (htr : pwrTrans s.d = false)
    (hl : s.d.hs.later = []) (hlmp : p = .lmp → lmpRuns s.d = true ∧ spiWaits s.pending a.toNat = false) (h4 : a.toNat % 4 = 0)
    (hr : (busWrite p a.toNat v (s.upd id)).1 = r) (h0 : r ≠ 0) : Goes (exec (.registerWrite p a v) s) (fun t =>
      ShowsRefusal a.toNat r s.d t.d ∧ (p = .spi → t.d.hs.refused = true) ∧ t.nv = s.nv ∧ t.pending = s.pending) := by
  obtain ⟨f, hw, hf⟩ := hostWrite_once (v := v) hst htr hl hlmp h4
  obtain ⟨e, he, hb⟩ := busWrite_refused hr h0
  rw [hb, upd_id_found hq] at hw
  rw [upd_id_found hq] at he
  have hqe : e.Quiet := ⟨he.due.trans (found_quiet hq).1, he.start.trans (found_quiet hq).2⟩
  rw [run_quiet_eq _ (noteRefused_quiet _ _ hqe)] at hw
  obtain ⟨haddr, hreason, hlost, hunread, hirq, hrd⟩ := (noteRefused_shows r he).around
  refine ⟨_, congrArg Host.Outcome.next hw, ⟨haddr, hreason, hlost, hunread, hirq, hrd⟩, fun hp => ?_, rfl, rfl⟩
  rw [hr] at hf
  exact (hf hp _).trans (by simpa using h0)

/-! ### The read of DEV_WR_REASON -/

/-- The module with the record marked as read. -/
def recordRead (d : Dev) : Dev := { d with ms := { d.ms with wrRead := true } }

theorem land_all (v : Word) : w32 (Nat.land v.toNat (4294967295 - 0)) = v := by
  have h : Nat.land v.toNat 4294967295 = v.toNat := by
    show v.toNat &&& (2 ^ 32 - 1) = v.toNat
    rw [Nat.and_two_pow_sub_one_eq_mod, Nat.mod_eq_of_lt v.isLt]
  rw [Nat.sub_zero, h, w32, BitVec.ofNat_toNat, BitVec.setWidth_eq]

theorem locate_wrReason : locate (bDev + F.DEV_WR_REASON.off) = some ⟨.dev, 0, 0x2C, some ⟨0x2C, 1, 0x0, 0x0, 0x10000, 0x0, 0x0, .none⟩⟩ := by decide

/-- A read of DEV_WR_REASON shows the stored word. -/
theorem shown_wrReason (v : State) : shown v (bDev + F.DEV_WR_REASON.off) = v.d.rd (bDev + F.DEV_WR_REASON.off) := by
  have hs (k : Nat) : shownReg v ⟨.dev, 0, 0x2C, some ⟨0x2C, 1, 0x0, 0x0, 0x10000, 0x0, 0x0, .none⟩⟩ k 0 = none := by
    simp [shownReg, F.DEV_INFO, F.DEV_ROLE, F.DEV_BOOT, F.LMP_STATUS, F.LMP_MAC_LO, F.LMP_MAC_HI]
  unfold shown
  simp only [locate_wrReason, slotOfLoc, Nat.sub_self, Nat.zero_div, hs, Option.getD_none, Bool.false_eq_true, if_false]
  exact land_all _

theorem hostReadWord_wrReason {s : State} (h : romHold s.d = false) :
    hostReadWord (bDev + F.DEV_WR_REASON.off) s = (s.d.rd (bDev + F.DEV_WR_REASON.off), { s with d := recordRead s.d }) := by
  have hb : readBefore (bDev + F.DEV_WR_REASON.off) s.d = s.d := by simp only [readBefore, locate_wrReason]
  simp only [hostReadWord, h, Bool.false_and, Bool.false_eq_true, if_false, hb, shown_wrReason, readAfter, if_true, recordRead]

/-- Whether LMP runs is read from registers that no message object has, and from the domains. -/
theorem lmpRuns_found (d : Dev) : lmpRuns (found d) = lmpRuns d := by
  have far {b : Nat} (hb : b < 0x508000 ∨ 0x520000 ≤ b) : (found d).rd b = d.rd b := found_rd_far d hb
  have hip : (found d).rd (bDev + F.LMP_IP.off) = d.rd (bDev + F.LMP_IP.off) := far (by decide)
  have hst : pwrState (found d) = pwrState d := by rw [pwrState, Dev.g, far (by decide)]; rfl
  have htr : pwrTrans (found d) = pwrTrans d := by rw [pwrTrans, Dev.gb, Dev.g, far (by decide)]; rfl
  have hta : pwrTarget (found d) = pwrTarget d := by rw [pwrTarget, Dev.g, far (by decide)]; rfl
  have hsh : (found d).shed = d.shed := by rw [Dev.shed, Dev.g, far (by decide)]; rfl
  have hro : romHold (found d) = romHold d := by rw [romHold, Dev.gb, Dev.g, far (by decide)]; rfl
  have hpw : (found d).pwr = d.pwr := by rw [found, refreshElig_pwr, refreshCan_pwr]
  have hdom (k : Nat) : domOn (found d) k = domOn d k := by rw [domOn, hst, htr, hta, hpw, domOn]
  rw [lmpRuns, netOn, mgmtOn, hip, hsh, hro, hdom, hdom, lmpRuns, netOn, mgmtOn]

/-- A read of DEV_WR_REASON on either path. -/
theorem hostRead_wrReason {p : Path} {s : State} (hp : HostReady p s) : ∃ f : HostSt → HostSt,
    hostRead p (bDev + F.DEV_WR_REASON.off) s = spiNote f { s with d := recordRead (found s.d) } ∧ (p = .spi → ∀ h, (f h).spiOut = [s.d.rd (bDev + F.DEV_WR_REASON.off)]) := by
  obtain ⟨hr, -, hlmp⟩ := hp
  have hid := upd_id_found hr.1
  have hbegin := (spiBegin_ready s hr).trans hid
  obtain ⟨-, hst, htr, hrom, -⟩ := hr
  have hromf : romHold (found s.d) = false := by rw [romHold, Dev.gb, Dev.g, found_rd_far s.d (by decide), ← Dev.g, ← Dev.gb, ← romHold, hrom]
  have hrd : (found s.d).rd (bDev + F.DEV_WR_REASON.off) = s.d.rd (bDev + F.DEV_WR_REASON.off) := found_rd_far s.d (by decide)
  have h4 : ((bDev + F.DEV_WR_REASON.off) % 4 != 0) = false := by decide
  cases p with
  | lmp =>
    refine ⟨id, ?_, nofun⟩
    simp only [hostRead, hid, lmpRuns_found, (hlmp rfl).1, h4, Bool.not_true, Bool.or_self, Bool.false_eq_true, if_false]
    rw [hostReadWord_wrReason (s := { s with d := found s.d }) hromf]
    rfl
  | spi =>
    have hready : spiReady (some (bDev + F.DEV_WR_REASON.off)) s.d = true := by simp [spiReady, mgmtMoves, hst, htr, hrom]
    let t : State := spiNote (fun h => { h with spiStatus := statusByte (some (bDev + F.DEV_WR_REASON.off)) s.d, spiOut := [] }) { s with d := found s.d }
    have hword : hostReadWord (bDev + F.DEV_WR_REASON.off) t = (s.d.rd (bDev + F.DEV_WR_REASON.off), { t with d := recordRead t.d }) := by
      rw [hostReadWord_wrReason (s := t) hromf, ← hrd]
      rfl
    refine ⟨fun h => { h with spiStatus := statusByte (some (bDev + F.DEV_WR_REASON.off)) s.d, addrErr := false, spiOut := [s.d.rd (bDev + F.DEV_WR_REASON.off)] }, ?_, fun _ _ => rfl⟩
    simp only [hostRead, spiReadOp, hready, hbegin, h4, Bool.not_true, Bool.false_eq_true, if_false, if_true, busReads]
    rw [hword]
    rfl

theorem devWrReasonRead_goes (p : Path) (s : State) (hp : HostReady p s) : Goes (exec (.devWrReasonRead p) s) (fun t =>
    t.d.ms.wrRead = true ∧ KeepsRegs s.d t.d [] ∧ t.d.rest = { s.d.rest with ms := { s.d.ms with wrRead := true } } ∧
      (p = .spi → t.d.hs.spiOut = [s.d.rd (bDev + F.DEV_WR_REASON.off)]) ∧ t.nv = s.nv) := by
  obtain ⟨f, hf, hout⟩ := hostRead_wrReason hp
  have hrest : (recordRead (found s.d)).rest = { s.d.rest with ms := { s.d.ms with wrRead := true } } := by
    rw [← found_rest s.d, ← show (found s.d).ms = s.d.ms by rw [found, refreshElig_ms, refreshCan_ms]]
    rfl
  exact ⟨_, congrArg Host.Outcome.next hf, rfl, fun b _ hb => found_rd s.d b hb, hrest, fun e => hout e _, rfl⟩

/-- Settles O8: a refusal leaves the register and is recorded on either path; the read of the record marks it. -/
theorem refusedWriteIsRecorded : Obligations.RefusedWriteIsRecorded := by
  unfold Obligations.RefusedWriteIsRecorded
  refine ⟨fun p a v s r hq hst htr hl hlmp h4 hr h0 hlt => ?_, devWrReasonRead_goes⟩
  obtain ⟨t, ht, ⟨haddr, hreason, hlost, hunread, hirq, hrd⟩, hspi, hnv, hpend⟩ := registerWrite_refused p a v s r hq hst htr hl hlmp h4 hr h0
  exact ⟨t, ht, haddr, hreason.trans (Nat.mod_eq_of_lt hlt), hlost, hunread, hirq, hrd, hspi, hnv, hpend⟩

end Sys2Proof.Machine
end

section
/-! SUPPORT. Writes of enable bits and the queue of checks (R120, R121, R126). -/

namespace Sys2Proof.Machine

/-! ### The report of a check -/

theorem enableReg_not_check (o : Obj) : enableReg o ∉ checkAddr o := by
  cases o <;> simp [checkAddr, checkField, enableReg, bDev, bStr, bNode, bLoopD, bLoopChk, bProf, bRg, bAux, bCan, bTb, bTpo, F.DEV_ENABLE, F.STR_ENABLE,
    F.NODE_ENABLE, F.LD_CTRL, F.PROF_ENABLE, F.RG_ENABLE, F.AUX_ENABLE, F.CAN_ENABLE, F.PTP_ENABLE, F.TPO_ENABLE, F.DEV_CHECK_REASON, F.STR_CHECK_REASON,
    F.NODE_CHECK_REASON, F.PROF_CHECK_REASON, F.RG_STATUS_CHECK, F.AUX_STATUS_CHECK, F.CAN_ERR_CHECK, F.PTP_STATUS_CHECK, F.TPO_STATUS_CHECK]
  case loop => omega

/-- The reason field of a CHECK word. -/
theorem getBits_checkWord (r i t : Nat) : getBits (w32 (r + 2 ^ 16 * i + 2 ^ 28 * t)) 0 16 = r % 65536 := by
  simp only [getBits, w32, BitVec.toNat_ofNat]
  omega

/-- A report shows its reason. -/
theorem setCheck_reason {o : Obj} {w : Nat × Fld} (hw : checkField o = some w) (r : Nat × Obj) (d : Dev) : (setCheck o r d).g w.1 w.2 = r.1 % 65536 := by
  have word (a : Nat) : (d.wr a (w32 (r.1 + 2 ^ 16 * r.2.idx + 2 ^ 28 * r.2.type))).rd a = _ := Dev.rd_wr_self d a _
  cases o <;> cases hw
  case rg i => exact Dev.g_p_self d _ F.RG_STATUS_CHECK r.1 (by decide)
  case aux i => exact Dev.g_p_self d _ F.AUX_STATUS_CHECK r.1 (by decide)
  case can i => exact Dev.g_p_self d _ F.CAN_ERR_CHECK r.1 (by decide)
  case ptp => exact Dev.g_p_self d _ F.PTP_STATUS_CHECK r.1 (by decide)
  case tpo i => exact Dev.g_p_self d _ F.TPO_STATUS_CHECK r.1 (by decide)
  all_goals
    refine Eq.trans ?_ (getBits_checkWord r.1 r.2.idx r.2.type)
    exact congrArg (getBits · 0 16) (word _)

/-- A report changes registers only, and of these only its own. -/
theorem setCheck_regs_only (o : Obj) (r : Nat × Obj) (d : Dev) : setCheck o r d = { d with regs := (setCheck o r d).regs } := by
  rcases setCheck_eq o r d with ⟨-, h⟩ | ⟨x, -, v, h⟩
  · rw [h]
  · rw [h]
    rfl

theorem setCheck_rd {o : Obj} {a : Nat} (h : a ∉ checkAddr o) (r : Nat × Obj) (d : Dev) : (setCheck o r d).rd a = d.rd a := by
  rcases setCheck_eq o r d with ⟨-, e⟩ | ⟨x, hx, v, e⟩ <;> rw [e]
  exact Dev.rd_wr_ne d v (fun e => h (e ▸ hx))

theorem setCheck_ms (o : Obj) (r : Nat × Obj) (d : Dev) : (setCheck o r d).ms = d.ms := by
  rcases setCheck_eq o r d with ⟨-, h⟩ | ⟨x, -, v, h⟩ <;> rw [h]
  exact Dev.wr_ms d x v

/-! ### The write of an enable bit on the bus -/

/-- The located write of a host to an enable register. -/
def enableWr (o : Obj) (v : Word) (d : Dev) : Wr :=
  { loc := ⟨(enableRow o).1, o.idx, (enableRow o).2.off, some (enableRow o).2⟩, b := enableReg o - (enableRow o).2.off, k := 0, old := d.rd (enableReg o),
    new := merge (enableRow o).2 (d.rd (enableReg o)) v 4294967295#32, act := v &&& 4294967295#32 }

theorem enableWr_addr (o : Obj) (v : Word) (d : Dev) : (enableWr o v d).addr = enableReg o := by
  refine Nat.sub_add_cancel ?_
  cases o <;> simp [enableRow, enableReg, bDev, bStr, bNode, bRg, bAux, bCan, bTb, bTpo, bFlt, F.DEV_ENABLE, F.STR_ENABLE, F.NODE_ENABLE, F.RG_ENABLE, F.AUX_ENABLE,
    F.CAN_ENABLE, F.PTP_ENABLE, F.TPO_ENABLE, F.TRC_CTRL]

theorem enableOf_enableWr (o : Obj) (v : Word) (d : Dev) : enableOf (enableWr o v d) = some o := by
  cases o <;> rfl

/-- No value is refused for an enable register. -/
theorem valueReason_enableWr (o : Obj) (v : Word) (d : Dev) : valueReason (enableWr o v d) d = 0 := by
  cases o <;> simp [valueReason, valueReason1, valueReason2, enableWr, enableRow, Wr.is, q23Above, F.DEV_MODE_CFG, F.STR_MEMBER, F.STR_DAB_ALPHA_ALPHA, F.STR_DAB_PHIMAX_PHIMAX,
    F.STR_ACTIVE, F.STR_CELL_WIN, F.STR_COMMIT, F.NODE_CFG, F.NODE_OVR, F.AUX_DUTY_DUTY, F.AUX_DUTY2_DUTY2, F.FAULT_PIN_CFG, F.TB_LIMIT, F.OBJ_DATA, F.OBJ_CMD, F.CAN_CTRL]

/-- A write of an enable register does nothing beyond the bit and the stored word, unless it triggers the trace. -/
theorem writeEffect2_enableWr {o : Obj} {v : Word} (d e : Dev) (h : o = .trace → getBits v 1 1 = 0) : writeEffect2 (enableWr o v d) e e = e := by
  cases o with
  | trace =>
    have hv : v &&& 4294967295#32 = v := by
      rw [show (4294967295#32 : Word) = BitVec.allOnes 32 from rfl, BitVec.and_allOnes]
    simp [writeEffect2, enableWr, enableRow, Wr.is, Wr.one, F.FAULT_CLEAR, F.FAULT_PIN_CTRL, F.FLT_FIFO_POP, F.FLT_TEST, F.TRC_CTRL, F.TRC_CTRL_TRIG, hv, h rfl]
  | ptp => simp [writeEffect2, enableWr, enableRow, Wr.is, F.TB_CTRL, F.TB_CFG]
  | can c => simp [writeEffect2, enableWr, enableRow, Wr.is, F.CAN_CTRL]
  | obj k => simp [writeEffect2, enableWr, enableRow, Wr.is, F.OBJ_CMD]
  | _ => rfl

theorem testBit_w32 (n : Nat) {i : Nat} (hi : i < 32) : (w32 n).toNat.testBit i = n.testBit i := by
  rw [w32, BitVec.toNat_ofNat, Nat.testBit_mod_two_pow]
  simp [hi]

/-- A bit that is RW and not W1C takes the bit that is written. -/
theorem testBit_merge {r : RegD} (old v : Word) {i : Nat} (hi : i < 32) (h1 : r.rw.testBit i = true) (h2 : r.w1c.testBit i = false) :
    (merge r old v 4294967295#32).toNat.testBit i = v.toNat.testBit i := by
  have land (a b : Nat) : Nat.land a b = a &&& b := rfl
  have lor (a b : Nat) : Nat.lor a b = a ||| b := rfl
  have xor (a b : Nat) : Nat.xor a b = a ^^^ b := rfl
  have hm : Nat.testBit 4294967295 i = true := by
    rw [show 4294967295 = 2 ^ 32 - 1 from rfl, Nat.testBit_two_pow_sub_one]
    simpa using hi
  simp only [merge]
  rw [testBit_w32 _ hi]
  simp only [land, lor, xor, show (4294967295#32).toNat = 4294967295 from rfl, Nat.testBit_and, Nat.testBit_or, Nat.testBit_xor, hm, h1, h2]
  simp

/-- A field that is RW and not W1C takes what is written. -/
theorem getBits_merge {r : RegD} (old v : Word) {lo w : Nat} (hw : lo + w ≤ 32)
    (h : ∀ i < w, r.rw.testBit (lo + i) = true ∧ r.w1c.testBit (lo + i) = false) : getBits (merge r old v 4294967295#32) lo w = getBits v lo w := by
  refine Nat.eq_of_testBit_eq fun i => ?_
  simp only [getBits, Nat.testBit_mod_two_pow, Nat.testBit_div_two_pow]
  by_cases hi : i < w
  · obtain ⟨h1, h2⟩ := h i hi
    rw [Nat.add_comm i lo, testBit_merge old v (by omega) h1 h2]
  · simp [hi]

theorem enableWr_bit (o : Obj) (v : Word) (d : Dev) : getBits (enableWr o v d).new 0 1 = getBits v 0 1 :=
  getBits_merge _ _ (by decide) fun i hi => by
    have h1 : (enableRow o).2.w1c = 0 := by cases o <;> rfl
    have h2 : (enableRow o).2.rw = 1 ∨ (enableRow o).2.rw = 5 := by cases o <;> simp [enableRow]
    obtain rfl : i = 0 := by omega
    rw [h1]
    rcases h2 with h2 | h2 <;> rw [h2] <;> decide

theorem enableReg_not_mailbox (o : Obj) : mailboxReg (enableReg o) = false := by
  cases o <;> simp [mailboxReg, enableReg, bDev, bStr, bNode, bLoopD, bProf, bRg, bAux, bCan, bObj, bTb, bTpo, bFlt, F.CMD_ARG, F.CMD_OP, F.DEV_ENABLE, F.STR_ENABLE,
    F.NODE_ENABLE, F.LD_CTRL, F.PROF_ENABLE, F.RG_ENABLE, F.AUX_ENABLE, F.CAN_ENABLE, F.OBJ_ENABLE, F.PTP_ENABLE, F.TPO_ENABLE, F.TRC_CTRL] <;> omega

theorem enableReg_aligned (o : Obj) : enableReg o % 4 = 0 := by
  cases o <;> simp [enableReg, bDev, bStr, bNode, bLoopD, bProf, bRg, bAux, bCan, bObj, bTb, bTpo, bFlt, F.DEV_ENABLE, F.STR_ENABLE,
    F.NODE_ENABLE, F.LD_CTRL, F.PROF_ENABLE, F.RG_ENABLE, F.AUX_ENABLE, F.CAN_ENABLE, F.OBJ_ENABLE, F.PTP_ENABLE, F.TPO_ENABLE, F.TRC_CTRL] <;> omega

theorem enableReg_not_objStatus {o : Obj} (h : o.InMap) : ¬ IsObjStatus (enableReg o) := by
  rintro ⟨k, hk, e⟩
  cases o <;> simp only [Obj.InMap, enableReg, bDev, bStr, bNode, bLoopD, bProf, bRg, bAux, bCan, bObj, bTb, bTpo, bFlt, F.OBJ_STATUS, F.DEV_ENABLE, F.STR_ENABLE,
    F.NODE_ENABLE, F.LD_CTRL, F.PROF_ENABLE, F.RG_ENABLE, F.AUX_ENABLE, F.CAN_ENABLE, F.OBJ_ENABLE, F.PTP_ENABLE, F.TPO_ENABLE, F.TRC_CTRL] at h e <;> omega

/-- The bus passes the write of an enable bit of an existing object. -/
theorem busReason_enable {p : Path} {o : Obj} {d : Dev} (hm : o.InMap) (hr : Responsive d) (ho : d.occupied o = true) :
    busReason (.host p) (locate (enableReg o)) (enableReg o) d = 0 := by
  obtain ⟨-, -, -, hrom, hrole, hcmd⟩ := hr
  have hmail : mailboxReg (enableReg o) = false := enableReg_not_mailbox o
  have hst : (d.role == .standby) = false := by simpa using hrole
  have hslot : slotOfLoc ⟨(enableRow o).1, o.idx, (enableRow o).2.off, some (enableRow o).2⟩ = none ∨
      slotOfLoc ⟨(enableRow o).1, o.idx, (enableRow o).2.off, some (enableRow o).2⟩ = some o := by
    cases o <;> simp [slotOfLoc, enableRow, Obj.idx]
  rw [locate_enableReg hm]
  rcases hslot with h | h <;> simp [busReason, h, ho, hcmd, hrom, hmail, hst]

theorem writeDev_enable {p : Path} {o : Obj} {v : Word} {d : Dev} (hm : o.InMap) (hr : Responsive d) (ho : d.occupied o = true) :
    writeDev (.host p) (enableReg o) v 4294967295#32 d = enableStore (.host p) o (enableWr o v d) 4294967295#32 d := by
  have hb := busReason_enable (p := p) hm hr ho
  rw [locate_enableReg hm] at hb
  have hcls : ((enableRow o).2.cls == .s && ownerEnabled d (enableWr o v d).loc) = false := by cases o <;> rfl
  have hreg := regWrite_eq (.host p) (enableRow o).2 (enableWr o v d) 4294967295#32 d
  rw [hcls, if_neg Bool.false_ne_true, if_neg (by rw [valueReason_enableWr]; exact fun h => h rfl)] at hreg
  simp only [enableOf_enableWr] at hreg
  have hk : ((enableRow o).2.off - (enableRow o).2.off) / 4 = 0 := by simp
  simp only [writeDev, locate_enableReg hm, hb, bne_self_eq_false, Bool.false_eq_true, if_false, hk]
  exact hreg

/-! ### A check begins or waits (R120, R126) -/

/-- The check of an object begins, or waits where one runs. -/
def queued (o : Obj) (d : Dev) : Dev :=
  if d.ms.checking.isNone && d.ms.checks.isEmpty then { d with ms := { d.ms with checking := some o } }
  else { d with ms := { d.ms with checks := d.ms.checks ++ [o] } }

theorem queued_regs (o : Obj) (d : Dev) : (queued o d).regs = d.regs := by
  unfold queued
  split <;> rfl

theorem queued_ms_only (o : Obj) (d : Dev) : queued o d = { d with ms := (queued o d).ms } := by
  unfold queued
  split <;> rfl

theorem queued_occ (o : Obj) (d : Dev) : (queued o d).ms.occ = d.ms.occ := by
  unfold queued
  split <;> rfl

theorem queued_checkOpen (o : Obj) (d : Dev) : (queued o d).checkOpen o = true := by
  unfold queued
  split <;> simp [Dev.checkOpen]

theorem queued_begins {o : Obj} {d : Dev} (h1 : d.ms.checking = none) (h2 : d.ms.checks = []) : (queued o d).ms.checking = some o ∧ (queued o d).ms.checks = [] := by
  simp [queued, h1, h2]

theorem queued_waits {o : Obj} {d : Dev} (h : d.ms.checking ≠ none) :
    (queued o d).ms.checking = d.ms.checking ∧ (queued o d).ms.checks = d.ms.checks ++ [o] := by
  obtain ⟨x, hx⟩ := Option.ne_none_iff_exists'.mp h
  simp [queued, hx]

/-- The module with the check begun or waiting, CHECK at 0x0101 and the bits beside the enable bit stored. -/
def checkBegun (o : Obj) (v : Word) (d : Dev) : Dev :=
  let s := setCheck o (0x0101, .device) (queued o d)
  s.wr (enableReg o) (putBits (enableWr o v d).new 0 1 (getBits (s.rd (enableReg o)) 0 1))

theorem enableWrite_begins {o : Obj} {d : Dev} (he : d.enabled o = false) (hc : d.checkOpen o = false) (hl : d.ms.checks.length < 16) :
    enableWrite o true d = (0, setCheck o (0x0101, .device) (queued o d)) := by
  unfold enableWrite queued
  rw [if_pos rfl, if_neg (by simp [he, hc])]
  split
  · rfl
  · rfl

/-- R120: the write of 1 to the enable bit of a disabled object with no check open. -/
theorem hostWriteDev_enable {p : Path} {o : Obj} {v : Word} {d : Dev} (hm : o.InMap) (hr : Responsive d) (ho : d.occupied o = true) (he : d.enabled o = false)
    (hc : d.checkOpen o = false) (hl : d.ms.checks.length < 16) (hv : getBits v 0 1 = 1) (ht : o = .trace → getBits v 1 1 = 0) :
    (hostWriteDev p (enableReg o) v d).2 = checkBegun o v d := by
  have hmask : getBits (4294967295#32) 0 1 ≠ 0 := by decide
  have hw := writeDev_enable (p := p) (v := v) hm hr ho
  have hs : enableStore (.host p) o (enableWr o v d) 4294967295#32 d = (0, checkBegun o v d) := by
    simp only [enableStore, enableWr_bit, hv, beq_self_eq_true, enableWrite_begins he hc hl, hmask, reduceCtorEq, beq_iff_eq, decide_false, Bool.or_false,
      Bool.false_eq_true, if_false, bne_self_eq_false, enableWr_addr, writeEffect2_enableWr _ _ ht]
    rfl
  simp [hostWriteDev, hw, hs]

/-- What the write of an enable bit leaves in a module that it finds as `d`. -/
theorem checkBegun_ms (o : Obj) (v : Word) (d : Dev) : (checkBegun o v d).ms = (queued o d).ms := by
  rw [checkBegun, Dev.wr_ms, setCheck_ms]

theorem checkBegun_rd {o : Obj} (v : Word) (d : Dev) {a : Nat} (h1 : a ≠ enableReg o) (h2 : a ∉ checkAddr o) : (checkBegun o v d).rd a = d.rd a := by
  rw [checkBegun, Dev.rd_wr_ne _ _ h1, setCheck_rd h2, Dev.rd_congr (queued_regs o d)]

theorem checkBegun_bit (o : Obj) (v : Word) (d : Dev) : getBits ((checkBegun o v d).rd (enableReg o)) 0 1 = getBits (d.rd (enableReg o)) 0 1 := by
  rw [checkBegun, Dev.rd_wr_self, getBits_putBits_self _ _ _ _ (by decide), setCheck_rd (enableReg_not_check o), Dev.rd_congr (queued_regs o d)]
  simp [getBits]

theorem checkBegun_disabled {o : Obj} (v : Word) {d : Dev} (h : d.enabled o = false) : (checkBegun o v d).enabled o = false := by
  have hocc : (checkBegun o v d).occupied o = d.occupied o := occupied_congr (by rw [checkBegun_ms, queued_occ]) o
  rw [Dev.enabled, checkBegun_bit, hocc]
  exact h

theorem checkBegun_reason {o : Obj} (v : Word) (d : Dev) {w : Nat × Fld} (hw : checkField o = some w) : (checkBegun o v d).g w.1 w.2 = 0x0101 := by
  have hne : w.1 + w.2.off ≠ enableReg o := fun e => enableReg_not_check o (e ▸ mem_checkAddr.mpr ⟨w, hw, rfl⟩)
  rw [checkBegun, Dev.g, Dev.rd_wr_ne _ _ hne]
  exact setCheck_reason hw (0x0101, .device) (queued o d)

theorem checkBegun_rest (o : Obj) (v : Word) (d : Dev) : (checkBegun o v d).rest = { d.rest with ms := (checkBegun o v d).ms } := by
  have hwr (x : Dev) (a : Nat) (u : Word) : (x.wr a u).rest = x.rest := rfl
  rw [checkBegun_ms, checkBegun, hwr, setCheck_regs_only, queued_ms_only]
  rfl

/-- R120, R126: each command that writes an enable bit to 1. -/
theorem startsCheck {p : Path} {v : Word} {o : Obj} {c : Instr} (hm : o.InMap) (hc : ∀ s, exec c s = .next (hostWrite p (enableReg o) v s)) : StartsCheck p v o c := by
  intro s hp ho he hopen hlen hv ht
  have hobj := enableReg_not_objStatus hm
  have hop : enableReg o ≠ bDev + F.CMD_OP.off := fun e => absurd (enableReg_not_mailbox o) (by rw [e]; decide)
  have hocc (q : Obj) : (found s.d).occupied q = s.d.occupied q := occupied_congr (by rw [found, refreshElig_ms, refreshCan_ms]) q
  have hms : (found s.d).ms = s.d.ms := by rw [found, refreshElig_ms, refreshCan_ms]
  have hen : (found s.d).enabled o = false := (enabled_congr (congrArg ModeSt.occ hms) (found_rd s.d _ hobj)).trans he
  obtain ⟨x, hx⟩ := hostWrite_acts p (enableReg o) v s hp (enableReg_aligned o) hop
  have hd : (hostWriteDev p (enableReg o) v (found s.d)).2 = checkBegun o v (found s.d) :=
    hostWriteDev_enable hm ((argsOnly_found s.d).ready hp.1) ((hocc o).trans ho) hen (by rwa [Dev.checkOpen, hms]) (by rwa [hms]) hv ht
  rw [hd] at hx
  refine ⟨s.nv, checkBegun o v (found s.d), x, (hc s).trans (congrArg Host.Outcome.next hx), rfl, checkBegun_disabled v hen, ?_, ?_, ?_, fun w hw => checkBegun_reason v _ hw, ?_, ?_⟩
  · rw [Dev.checkOpen, checkBegun_ms]
    exact queued_checkOpen o _
  · intro h1 h2
    rw [checkBegun_ms]
    exact queued_begins (hms ▸ h1) (hms ▸ h2)
  · intro h1
    rw [checkBegun_ms, ← hms]
    exact queued_waits (hms ▸ h1)
  · rw [← found_rest s.d]
    exact checkBegun_rest o v _
  · intro a ha hna
    simp only [List.mem_cons, not_or] at ha
    rw [checkBegun_rd v _ ha.1 ha.2, found_rd s.d a hna]

/-! ### A check begins and ends (R121, R126) -/

theorem consistencyCheckStart_does (s : State) (o : Obj) (l : List Obj) (h1 : s.d.ms.checking = none) (h2 : s.d.ms.checks = o :: l) :
    Does (exec .consistencyCheckStart s) s (fun e => e = { s.d.fresh with ms := { s.d.ms with checking := some o, checks := l } }) :=
  ⟨_, rfl, by simp only [checkStart, h1, h2]⟩

/-- The module as the check of an object that runs comes to its end. -/
def checkDone (d : Dev) : Dev := { d.fresh with ms := { d.ms with checking := none } }

theorem checkDone_regs (d : Dev) : (checkDone d).regs = d.regs := rfl

theorem checkEnd_eq {s : State} {o : Obj} (h : s.d.ms.checking = some o) :
    checkEnd s.d.fresh = ((finishCheck o (checkDone s.d)).2).irq F.DEV_IRQ_STATUS_CHECK := by
  simp only [checkEnd, h]
  rfl

/-- A report leaves the interrupts alone. -/
theorem irq_not_check (o : Obj) : bDev + F.DEV_IRQ_STATUS.off ∉ checkAddr o := by
  cases o <;> simp [checkAddr, checkField, bDev, bStr, bNode, bLoopChk, bProf, bRg, bAux, bCan, bTb, bTpo, F.DEV_IRQ_STATUS, F.DEV_CHECK_REASON] <;> omega

theorem irq_not_enable (o : Obj) : enableReg o ≠ bDev + F.DEV_IRQ_STATUS.off := by
  cases o <;> simp [enableReg, bDev, bStr, bNode, bLoopD, bProf, bRg, bAux, bCan, bObj, bTb, bTpo, bFlt, F.DEV_IRQ_STATUS, F.DEV_ENABLE] <;> omega

theorem irqCheck_rd (d : Dev) {a : Nat} (h : a ≠ bDev + F.DEV_IRQ_STATUS.off) : (d.irq F.DEV_IRQ_STATUS_CHECK).rd a = d.rd a := Dev.rd_p_ne d F.DEV_IRQ_STATUS_CHECK 1 h

theorem irqCheck_g (d : Dev) : (d.irq F.DEV_IRQ_STATUS_CHECK).g bDev F.DEV_IRQ_STATUS_CHECK = 1 := Dev.g_p_self d bDev F.DEV_IRQ_STATUS_CHECK 1 (by decide)

/-- R121: a check that fails leaves the object as it was, with its first reason. -/
theorem consistencyCheckEnd_fails (s : State) (o : Obj) (h : s.d.ms.checking = some o) (hr : (checkOf (checkDone s.d) o).1 ≠ 0) :
    Does (exec .consistencyCheckEnd s) s (fun e => e.ms.checking = none ∧ e.enabled o = s.d.enabled o ∧ e.g bDev F.DEV_IRQ_STATUS_CHECK = 1 ∧
      (∀ w, checkField o = some w → e.g w.1 w.2 = (checkOf (checkDone s.d) o).1 % 65536) ∧
      (∀ a, a ∉ checkAddr o → a ≠ bDev + F.DEV_IRQ_STATUS.off → e.rd a = s.d.rd a)) := by
  have hf : (finishCheck o (checkDone s.d)).2 = setCheck o (checkOf (checkDone s.d) o) (checkDone s.d) := by simp only [finishCheck, if_neg hr]
  refine ⟨_, rfl, ?_⟩
  rw [checkEnd_eq h, hf]
  generalize checkOf (checkDone s.d) o = r
  have hms : ((setCheck o r (checkDone s.d)).irq F.DEV_IRQ_STATUS_CHECK).ms = (checkDone s.d).ms := by rw [Dev.irq_eq, Dev.p_ms, setCheck_ms]
  have hrd (a : Nat) (h1 : a ∉ checkAddr o) (h2 : a ≠ bDev + F.DEV_IRQ_STATUS.off) : ((setCheck o r (checkDone s.d)).irq F.DEV_IRQ_STATUS_CHECK).rd a = s.d.rd a := by
    rw [irqCheck_rd _ h2, setCheck_rd h1, Dev.rd_congr (checkDone_regs s.d)]
  refine ⟨?_, ?_, irqCheck_g _, fun w hw => ?_, hrd⟩
  · rw [hms]
    rfl
  · exact enabled_congr (by rw [hms]; rfl) (hrd _ (enableReg_not_check o) (irq_not_enable o))
  · have hne : w.1 + w.2.off ≠ bDev + F.DEV_IRQ_STATUS.off := fun e => irq_not_check o (e ▸ mem_checkAddr.mpr ⟨w, hw, rfl⟩)
    rw [Dev.g, irqCheck_rd _ hne]
    exact setCheck_reason hw r _

/-- The profile is enabled, with CHECK 0 and the interrupt. -/
def profilePassed (n : Nat) (d : Dev) : Dev := ((setCheck (.profile n) (0, .device) d).setEnabled (.profile n) true).irq F.DEV_IRQ_STATUS_CHECK

theorem checkOf_free {d : Dev} {o : Obj} (h : d.occupied o = false) : (checkOf d o).1 = 0x0309 := by
  simp [checkOf, h]

/-- R121: a profile that passes its check is enabled. -/
theorem consistencyCheckEnd_profile (s : State) (n : Nat) (h : s.d.ms.checking = some (.profile n)) (hr : (checkOf (checkDone s.d) (.profile n)).1 = 0) :
    Does (exec .consistencyCheckEnd s) s (fun e => e.ms.checking = none ∧ e.enabled (.profile n) = true ∧ e.g (bProf n) F.PROF_CHECK_REASON = 0 ∧
      e.g bDev F.DEV_IRQ_STATUS_CHECK = 1 ∧ KeepsRegs s.d e [bProf n + F.PROF_ENABLE.off, bProf n + F.PROF_CHECK.off, bDev + F.DEV_IRQ_STATUS.off]) := by
  have hf : (finishCheck (.profile n) (checkDone s.d)).2 = (setCheck (.profile n) (0, .device) (checkDone s.d)).setEnabled (.profile n) true := by
    simp only [finishCheck, hr, if_true, enableEffect]
  have hocc : (checkDone s.d).occupied (.profile n) = true := by
    by_contra ho
    have := checkOf_free (Bool.eq_false_iff.mpr ho)
    rw [hr] at this
    cases this
  refine ⟨profilePassed n (checkDone s.d), by rw [profilePassed, ← hf, ← checkEnd_eq h]; rfl, ?_⟩
  have hms : (profilePassed n (checkDone s.d)).ms = (checkDone s.d).ms := by
    rw [profilePassed, Dev.irq_eq, Dev.p_ms, Dev.setEnabled, Dev.wr_ms, setCheck_ms]
  have hne : bProf n + F.PROF_CHECK_REASON.off ≠ enableReg (.profile n) := by simp [enableReg, F.PROF_CHECK_REASON, F.PROF_ENABLE]
  have hnc : bProf n + F.PROF_CHECK_REASON.off ≠ bDev + F.DEV_IRQ_STATUS.off := by simp [bProf, bDev, F.PROF_CHECK_REASON, F.DEV_IRQ_STATUS]; omega
  refine ⟨?_, ?_, ?_, irqCheck_g _, fun a ha _ => ?_⟩
  · rw [hms]
    rfl
  · rw [Dev.enabled, occupied_congr (congrArg ModeSt.occ hms), hocc, profilePassed, irqCheck_rd _ (irq_not_enable _), Dev.setEnabled, Dev.rd_wr_self,
      getBits_putBits_self _ _ _ _ (by decide)]
    rfl
  · rw [profilePassed, Dev.g, irqCheck_rd _ hnc, Dev.setEnabled, Dev.rd_wr_ne _ _ hne]
    exact setCheck_reason (o := .profile n) rfl (0, .device) (checkDone s.d)
  · simp only [List.mem_cons, List.not_mem_nil, or_false, not_or] at ha
    obtain ⟨h1, h2, h3⟩ := ha
    have hck : a ∉ checkAddr (.profile n) := fun hm => h2 (List.mem_singleton.mp hm)
    have hen : a ≠ enableReg (.profile n) := h1
    rw [profilePassed, irqCheck_rd _ h3, Dev.setEnabled, Dev.rd_wr_ne _ _ hen, setCheck_rd hck, Dev.rd_congr (checkDone_regs s.d)]

/-- Settles O10: the twelve commands are one write of an enable bit; the end of a check is its report, and for a check passed the enable. -/
theorem enablesAndChecks : Obligations.EnablesAndChecks := by
  unfold Obligations.EnablesAndChecks
  refine ⟨fun p v => ⟨?_, fun i => ?_, fun n => ?_, fun i => ?_, fun i => ?_, fun g => ?_, fun i => ?_, fun c => ?_, fun o => ?_, ?_, fun k => ?_, ?_⟩,
    consistencyCheckStart_does, consistencyCheckEnd_fails, fun s n _ => consistencyCheckEnd_profile s n⟩
  · exact startsCheck trivial fun _ => rfl
  · exact startsCheck i.isLt fun _ => rfl
  · exact startsCheck n.isLt fun _ => rfl
  · exact startsCheck i.isLt fun _ => rfl
  · exact startsCheck i.isLt fun _ => rfl
  · exact startsCheck g.isLt fun _ => rfl
  · exact startsCheck i.isLt fun _ => rfl
  · exact startsCheck c.isLt fun _ => rfl
  · exact startsCheck o.isLt fun _ => rfl
  · exact startsCheck trivial fun _ => rfl
  · exact startsCheck k.isLt fun _ => rfl
  · exact startsCheck trivial fun _ => rfl

end Sys2Proof.Machine
end

section
/-! SUPPORT. The mailbox executor: a command begins, and a command ends (R101, R107). -/

namespace Sys2Proof.Machine

/-! ### A command begins to execute -/

/-- CMD_RESULT of a command that executes. -/
def resultBusy (op : Nat) (lmp : Bool) (d : Dev) : Dev :=
  (((d.p bDev F.CMD_RESULT_REASON 0).p bDev F.CMD_RESULT_BUSY 1).p bDev F.CMD_RESULT_VIA_LMP (b2n lmp)).p bDev F.CMD_RESULT_OP op

/-- The executor holds a command, or none. -/
def holding (c : Option CmdRun) (d : Dev) : Dev := { d with ms := { d.ms with cmd := c } }

theorem beginCommand_eq (c : CmdRun) (d : Dev) : beginCommand c d = resultBusy c.op c.lmp (holding (some c) d) := rfl

theorem resultBusy_rd (op : Nat) (lmp : Bool) (d : Dev) {a : Nat} (h : a ≠ bDev + F.CMD_RESULT.off) : (resultBusy op lmp d).rd a = d.rd a := by
  have h0 (x : Dev) (v : Nat) : (x.p bDev F.CMD_RESULT_REASON v).rd a = x.rd a := Dev.rd_p_ne x _ v h
  have h1 (x : Dev) (v : Nat) : (x.p bDev F.CMD_RESULT_BUSY v).rd a = x.rd a := Dev.rd_p_ne x _ v h
  have h2 (x : Dev) (v : Nat) : (x.p bDev F.CMD_RESULT_VIA_LMP v).rd a = x.rd a := Dev.rd_p_ne x _ v h
  have h3 (x : Dev) (v : Nat) : (x.p bDev F.CMD_RESULT_OP v).rd a = x.rd a := Dev.rd_p_ne x _ v h
  rw [resultBusy, h3, h2, h1, h0]

theorem resultBusy_ms (op : Nat) (lmp : Bool) (d : Dev) : (resultBusy op lmp d).ms = d.ms := by
  rw [resultBusy, Dev.p_ms, Dev.p_ms, Dev.p_ms, Dev.p_ms]

theorem p_rest (d : Dev) (b : Nat) (f : Fld) (v : Nat) : (d.p b f v).rest = d.rest := rfl

theorem resultBusy_rest (op : Nat) (lmp : Bool) (d : Dev) : (resultBusy op lmp d).rest = d.rest := by
  rw [resultBusy, p_rest, p_rest, p_rest, p_rest]

theorem b2n_mod_two (b : Bool) : b2n b % 2 = b2n b := by cases b <;> rfl

theorem b2n_bne_zero (b : Bool) : (b2n b != 0) = b := by cases b <;> rfl

theorem resultBusy_fields (op : Nat) (lmp : Bool) (d : Dev) :
    (resultBusy op lmp d).gb bDev F.CMD_RESULT_BUSY = true ∧ (resultBusy op lmp d).g bDev F.CMD_RESULT_REASON = 0 ∧
    (resultBusy op lmp d).g bDev F.CMD_RESULT_OP = op % 256 ∧ (resultBusy op lmp d).gb bDev F.CMD_RESULT_VIA_LMP = lmp := by
  have hlmp := (congrArg (· != 0) (b2n_mod_two lmp)).trans (b2n_bne_zero lmp)
  refine ⟨?_, ?_, ?_, ?_⟩ <;> simp (disch := decide) only [resultBusy, Dev.gb, Dev.g_p_disjoint, Dev.g_p_self]
  · rfl
  · rfl
  · rfl
  · exact hlmp

theorem beginCommand_executes {c : CmdRun} (h : c.reason = 0) (d : Dev) : Executes (beginCommand c d) c.op c.lmp c.res c.lock := by
  obtain ⟨hbusy, hreason, hop, hlmp⟩ := resultBusy_fields c.op c.lmp (holding (some c) d)
  rw [beginCommand_eq]
  exact ⟨hbusy, hreason, hop, hlmp, c, by rw [resultBusy_ms]; rfl, rfl, rfl, h, rfl, rfl⟩

theorem beginCommand_rd (c : CmdRun) (d : Dev) {a : Nat} (h : a ≠ bDev + F.CMD_RESULT.off) : (beginCommand c d).rd a = d.rd a := by
  rw [beginCommand_eq, resultBusy_rd _ _ _ h]
  rfl

theorem beginCommand_ms (c : CmdRun) (d : Dev) : (beginCommand c d).ms = { d.ms with cmd := some c } := by
  rw [beginCommand_eq, resultBusy_ms]
  rfl

theorem beginCommand_rest (c : CmdRun) (d : Dev) : (beginCommand c d).rest = { d.rest with ms := (beginCommand c d).ms } := by
  rw [beginCommand_ms, beginCommand_eq, resultBusy_rest]
  rfl

/-! ### A command ends -/

/-- CMD_RESULT of a command that has ended. -/
def resultDone (op : Nat) (lmp : Bool) (reason : Nat) (d : Dev) : Dev :=
  ((((d.p bDev F.CMD_RESULT_REASON reason).p bDev F.CMD_RESULT_BUSY 0).p bDev F.CMD_RESULT_DONE 1).p bDev F.CMD_RESULT_VIA_LMP (b2n lmp)).p bDev F.CMD_RESULT_OP op

theorem publishResult_eq (op : Nat) (lmp : Bool) (reason : Nat) (d : Dev) :
    publishResult op lmp reason d = (resultDone op lmp reason d).p bDev F.DEV_IRQ_STATUS_CMD_DONE 1 := rfl

theorem endCommand_eq {c : CmdRun} (h : c.sess = none) (d : Dev) : endCommand c d = publishResult c.op c.lmp c.reason (writeArgs c (holding none d)) := by
  simp only [endCommand, commandReply, h, holding]

theorem resultDone_rd (op : Nat) (lmp : Bool) (r : Nat) (d : Dev) {a : Nat} (h : a ≠ bDev + F.CMD_RESULT.off) : (resultDone op lmp r d).rd a = d.rd a := by
  have h0 (x : Dev) (v : Nat) : (x.p bDev F.CMD_RESULT_REASON v).rd a = x.rd a := Dev.rd_p_ne x _ v h
  have h1 (x : Dev) (v : Nat) : (x.p bDev F.CMD_RESULT_BUSY v).rd a = x.rd a := Dev.rd_p_ne x _ v h
  have h2 (x : Dev) (v : Nat) : (x.p bDev F.CMD_RESULT_DONE v).rd a = x.rd a := Dev.rd_p_ne x _ v h
  have h3 (x : Dev) (v : Nat) : (x.p bDev F.CMD_RESULT_VIA_LMP v).rd a = x.rd a := Dev.rd_p_ne x _ v h
  have h4 (x : Dev) (v : Nat) : (x.p bDev F.CMD_RESULT_OP v).rd a = x.rd a := Dev.rd_p_ne x _ v h
  rw [resultDone, h4, h3, h2, h1, h0]

theorem resultDone_fields (op : Nat) (lmp : Bool) (r : Nat) (d : Dev) :
    (resultDone op lmp r d).gb bDev F.CMD_RESULT_BUSY = false ∧ (resultDone op lmp r d).gb bDev F.CMD_RESULT_DONE = true ∧
    (resultDone op lmp r d).g bDev F.CMD_RESULT_REASON = r % 65536 ∧ (resultDone op lmp r d).g bDev F.CMD_RESULT_OP = op % 256 ∧
    (resultDone op lmp r d).gb bDev F.CMD_RESULT_VIA_LMP = lmp := by
  have hlmp := (congrArg (· != 0) (b2n_mod_two lmp)).trans (b2n_bne_zero lmp)
  refine ⟨?_, ?_, ?_, ?_, ?_⟩ <;> simp (disch := decide) only [resultDone, Dev.gb, Dev.g_p_disjoint, Dev.g_p_self]
  · rfl
  · rfl
  · rfl
  · rfl
  · exact hlmp

theorem publishResult_rd (op : Nat) (lmp : Bool) (r : Nat) (d : Dev) {a : Nat} (h1 : a ≠ bDev + F.CMD_RESULT.off) (h2 : a ≠ bDev + F.DEV_IRQ_STATUS.off) :
    (publishResult op lmp r d).rd a = d.rd a := by
  rw [publishResult_eq, Dev.rd_p_ne _ F.DEV_IRQ_STATUS_CMD_DONE _ h2, resultDone_rd _ _ _ _ h1]

theorem publishResult_rest (op : Nat) (lmp : Bool) (r : Nat) (d : Dev) : (publishResult op lmp r d).rest = d.rest := by
  rw [publishResult_eq, p_rest, resultDone, p_rest, p_rest, p_rest, p_rest, p_rest]

theorem publishResult_ms (op : Nat) (lmp : Bool) (r : Nat) (d : Dev) : (publishResult op lmp r d).ms = d.ms := by
  rw [publishResult_eq, Dev.p_ms, resultDone, Dev.p_ms, Dev.p_ms, Dev.p_ms, Dev.p_ms, Dev.p_ms]

theorem publishResult_ended (op : Nat) (lmp : Bool) {r : Nat} (hr : r < 65536) {d : Dev} (hc : d.ms.cmd = none) : Ended (publishResult op lmp r d) op lmp r := by
  have hg {f : Fld} (h : bDev + f.off ≠ bDev + F.DEV_IRQ_STATUS_CMD_DONE.off) : (publishResult op lmp r d).g bDev f = (resultDone op lmp r d).g bDev f :=
    Dev.g_p_ne _ _ h
  obtain ⟨hbusy, hdone, hreason, hop, hlmp⟩ := resultDone_fields op lmp r d
  refine ⟨?_, ?_, ?_, ?_, ?_, ?_, ?_⟩
  · rw [Dev.gb, hg (by decide)]
    exact hbusy
  · rw [Dev.gb, hg (by decide)]
    exact hdone
  · rw [hg (by decide), hreason, Nat.mod_eq_of_lt hr]
  · rw [hg (by decide), hop]
  · rw [Dev.gb, hg (by decide)]
    exact hlmp
  · rw [publishResult_eq, Dev.g_p_self _ _ _ _ (by decide)]
    rfl
  · rw [publishResult_ms, hc]

/-- The results of a command are written to the argument registers, one after the other. -/
theorem writeArgs_cases (c : CmdRun) (d : Dev) :
    ((c.lmp = true ∨ c.reason ≠ 0) ∧ writeArgs c d = d) ∨
    (c.lmp = false ∧ c.reason = 0 ∧ writeArgs c d = d.each c.res (fun w e => e.wr (bDev + F.CMD_ARG.off + 4 * w.1) w.2)) := by
  unfold writeArgs
  cases c.lmp <;> by_cases h : c.reason = 0 <;> simp [h]

theorem writeArgs_rest (c : CmdRun) (d : Dev) : (writeArgs c d).rest = d.rest := by
  rcases writeArgs_cases c d with ⟨-, h⟩ | ⟨-, -, h⟩ <;> rw [h]
  exact each_field c.res (fun w e => e.wr (bDev + F.CMD_ARG.off + 4 * w.1) w.2) Dev.rest (fun _ _ => rfl) d

theorem writeArgs_ms (c : CmdRun) (d : Dev) : (writeArgs c d).ms = d.ms := by
  have h : (writeArgs c d).rest.ms = d.rest.ms := by rw [writeArgs_rest]
  exact h

theorem writeArgs_rd (c : CmdRun) (d : Dev) {a : Nat} (h : ∀ w ∈ c.res, a ≠ bDev + F.CMD_ARG.off + 4 * w.1) : (writeArgs c d).rd a = d.rd a := by
  rcases writeArgs_cases c d with ⟨-, e⟩ | ⟨-, -, e⟩ <;> rw [e]
  exact each_field_mem c.res (fun w e => e.wr (bDev + F.CMD_ARG.off + 4 * w.1) w.2) (fun x => x.rd a) (fun w hw x => Dev.rd_wr_ne x w.2 (h w hw)) d

theorem writeArgs_one {c : CmdRun} {w : Nat × Word} (d : Dev) (hl : c.lmp = false) (hr : c.reason = 0) (h : c.res = [w]) :
    (writeArgs c d).rd (bDev + F.CMD_ARG.off + 4 * w.1) = w.2 := by
  rcases writeArgs_cases c d with ⟨e | e, -⟩ | ⟨-, -, e⟩
  · simp [hl] at e
  · exact absurd hr e
  · rw [e, h]
    exact Dev.rd_wr_self d _ _

theorem endCommand_ended {c : CmdRun} (hs : c.sess = none) (hr : c.reason < 65536) (d : Dev) : Ended (endCommand c d) c.op c.lmp c.reason := by
  rw [endCommand_eq hs]
  refine publishResult_ended _ _ hr ?_
  rw [writeArgs_ms]
  rfl

theorem endCommand_rd {c : CmdRun} (hs : c.sess = none) (d : Dev) {a : Nat} (h : ∀ w ∈ c.res, a ≠ bDev + F.CMD_ARG.off + 4 * w.1)
    (h1 : a ≠ bDev + F.CMD_RESULT.off) (h2 : a ≠ bDev + F.DEV_IRQ_STATUS.off) : (endCommand c d).rd a = d.rd a := by
  rw [endCommand_eq hs, publishResult_rd _ _ _ _ h1 h2, writeArgs_rd c _ h]
  rfl

theorem endCommand_rest {c : CmdRun} (hs : c.sess = none) (d : Dev) : (endCommand c d).rest = { d.rest with ms := { d.ms with cmd := none } } := by
  rw [endCommand_eq hs, publishResult_rest, writeArgs_rest]
  rfl

/-! ### The submission of a command -/

/-- What the executor holds of a submission that answers `o`. -/
def entry (lmp : Bool) (op : Nat) (args : List Word) (o : CmdOut) : CmdRun :=
  { op := op, lmp := lmp, reason := o.reason, res := o.res, lock := o.lock, sess := none, args := args }

/-- R101, R107: a command that is submitted to a free executor, other than ENROL and REVOKE. -/
theorem submit_runs {lmp : Bool} {op : Nat} {a0 a1 a2 a3 : Word} {s : State} {o : CmdOut} (hc : s.d.ms.cmd = none) (hop : op ≠ 6 ∧ op ≠ 7)
    (h : runCommand false lmp op a0 a1 a2 a3 s = o) : (submit lmp none op a0 a1 a2 a3 s).2 = o.s.run
      (if o.s.d.img.boots ≠ s.d.img.boots then id
       else if o.bg || o.reason != 0 then endCommand (entry lmp op [a0, a1, a2, a3] o) else beginCommand (entry lmp op [a0, a1, a2, a3] o)) := by
  have ha (t : State) : afterAnchor op t = t := by simp [afterAnchor, hop]
  unfold submit
  rw [if_neg (by simp [hc])]
  simp only [h, ha]
  by_cases hb : o.s.d.img.boots = s.d.img.boots
  · simp only [bne_iff_ne, hb, ne_eq, not_true, if_false, entry]
  · simp only [bne_iff_ne, hb, ne_eq, not_false_iff, if_true]

/-- A mailbox command that answers `o` and resets nothing: the module it leaves is that of `o` with its entry begun or ended. -/
theorem mailbox_runs {p : Path} {op : Nat} {a0 a1 a2 a3 : Word} {s : State} {P : Dev → Nv → Dev → Prop} (hop : op < 65536) (hop' : op ≠ 6 ∧ op ≠ 7) (hp : HostReady p s)
    (h : ∀ d, ArgsOnly s.d d → Responsive d → ∃ o : CmdOut, runCommand false (p == .lmp) op a0 a1 a2 a3 { s with d := d } = o ∧ o.s.pending = s.pending ∧
      P d o.s.nv ((if o.s.d.img.boots ≠ d.img.boots then id else if o.bg || o.reason != 0 then endCommand (entry (p == .lmp) op [a0, a1, a2, a3] o)
        else beginCommand (entry (p == .lmp) op [a0, a1, a2, a3] o)) o.s.d)) :
    Serves (.next (mailbox p op a0 a1 a2 a3 s)) s P := by
  refine mailbox_serves hop hp fun d ha hr => ?_
  obtain ⟨o, ho, hpend, hP⟩ := h d ha hr
  exact ⟨_, _, submit_runs hr.cmd_none hop' ho, hpend, hP⟩

end Sys2Proof.Machine
end

section
/-! SUPPORT. Slots, handles and the object commands (R86 to R99). -/

namespace Sys2Proof.Machine

/-! ### Slots -/

/-- The slots that a type and an index name. -/
theorem objOf_cases {t i : Nat} {o : Obj} (h : objOf t i = some o) :
    (t = 1 ∧ i < 8 ∧ o = .string i) ∨ (t = 2 ∧ i < 96 ∧ o = .node i) ∨ (t = 3 ∧ i < 2048 ∧ o = .loop i) ∨ (t = 4 ∧ i < 16 ∧ o = .profile i) := by
  unfold objOf typeSlots at h
  split at h <;> split at h <;> simp_all

theorem objOf_inMap {t i : Nat} {o : Obj} (h : objOf t i = some o) : o.InMap := by
  rcases objOf_cases h with ⟨-, hi, rfl⟩ | ⟨-, hi, rfl⟩ | ⟨-, hi, rfl⟩ | ⟨-, hi, rfl⟩ <;> exact hi

theorem objOf_type {t i : Nat} {o : Obj} (h : objOf t i = some o) : o.type ≠ 0 := by
  rcases objOf_cases h with ⟨-, -, rfl⟩ | ⟨-, -, rfl⟩ | ⟨-, -, rfl⟩ | ⟨-, -, rfl⟩ <;> simp [Obj.type]

theorem objOf_typeSlots {t i : Nat} {o : Obj} (h : objOf t i = some o) : typeSlots t ≠ 0 := by
  rcases objOf_cases h with ⟨rfl, -⟩ | ⟨rfl, -⟩ | ⟨rfl, -⟩ | ⟨rfl, -⟩ <;> decide

/-- A block lies beyond the device window. -/
theorem blockOf_beyond {o : Obj} {w : Nat × Nat} (h : w ∈ blockOf o) : 0x10000 ≤ w.1 := by
  cases o <;> simp only [blockOf, List.mem_cons, List.not_mem_nil, or_false] at h
  case string => rcases h with rfl | rfl <;> simp only [bStr, bProtStr] <;> omega
  case node => rw [h]; simp only [bNode]; omega
  case loop => rcases h with rfl | rfl | rfl | rfl <;> simp only [bLoopD, bLoopS, bLoopChk, bLoopStat] <;> omega
  case profile => rw [h]; simp only [bProf]; omega

/-- An offset of an object names an address beyond the device window. -/
theorem blockAddr_beyond {o : Obj} {off a : Nat} (h : blockAddr o off = some a) : 0x10000 ≤ a := by
  unfold blockAddr at h
  split at h
  · cases h
  · cases o <;> simp only [reduceCtorEq] at h
    case string => split at h <;> cases h; simp only [bStr]; omega
    case node => split at h <;> cases h; simp only [bNode]; omega
    case loop => split at h <;> [cases h; (split at h <;> cases h)] <;> simp only [bLoopD, bLoopS] <;> omega
    case profile => split at h <;> cases h; simp only [bProf]; omega

theorem clearRange_rd (d : Dev) (lo n a : Nat) : (d.clearRange lo n).rd a = if lo ≤ a ∧ a < lo + n then regReset a else d.rd a :=
  tget_teraseRange regReset d.regs lo n a

/-- The registers of a slot that is cleared are those of its block, cleared. -/
theorem clearSlot_regs (o : Obj) (d : Dev) : (clearSlot o d).regs = (d.each (blockOf o) (fun r d => d.clearRange r.1 r.2)).regs := by
  unfold clearSlot
  cases o <;> rfl

/-- The effect that clears an object's run-time state touches neither images nor host paths. -/
theorem clearSlot_img (o : Obj) (d : Dev) : (clearSlot o d).img = d.img := by
  have h : (d.each (blockOf o) (fun r d => d.clearRange r.1 r.2)).img = d.img := each_field _ (fun (r : Nat × Nat) d => d.clearRange r.1 r.2) Dev.img (fun _ _ => rfl) d
  unfold clearSlot
  cases o <;> exact h

theorem clearSlot_rd_out (o : Obj) (d : Dev) {a : Nat} (h : ∀ w ∈ blockOf o, a < w.1 ∨ w.1 + w.2 ≤ a) : (clearSlot o d).rd a = d.rd a := by
  rw [Dev.rd_congr (clearSlot_regs o d)]
  refine each_field_mem (blockOf o) (fun (r : Nat × Nat) d => d.clearRange r.1 r.2) (fun x => x.rd a) (fun w hw x => ?_) d
  have := h w hw
  rw [clearRange_rd, if_neg (by omega)]

theorem each_clearRange_rd_in (l : List (Nat × Nat)) {w : Nat × Nat} (hw : w ∈ l) {a : Nat} (h : w.1 ≤ a ∧ a < w.1 + w.2) (d : Dev) :
    (d.each l (fun r d => d.clearRange r.1 r.2)).rd a = regReset a := by
  have stays (l : List (Nat × Nat)) : ∀ d : Dev, d.rd a = regReset a → (d.each l (fun r d => d.clearRange r.1 r.2)).rd a = regReset a := by
    induction l with
    | nil => exact fun _ h => h
    | cons r t ih => exact fun d hd => ih _ (by rw [clearRange_rd, hd, ite_self])
  induction l generalizing d with
  | nil => cases hw
  | cons r t ih =>
    rcases List.mem_cons.mp hw with rfl | ht
    · exact stays t _ (by rw [clearRange_rd, if_pos h])
    · exact ih ht _

theorem clearSlot_rd_in (o : Obj) (d : Dev) {w : Nat × Nat} (hw : w ∈ blockOf o) {a : Nat} (h : w.1 ≤ a ∧ a < w.1 + w.2) : (clearSlot o d).rd a = regReset a := by
  rw [Dev.rd_congr (clearSlot_regs o d), each_clearRange_rd_in _ hw h]

/-- The enable bit of an object lies in its block. -/
theorem enableReg_block {o : Obj} (h : o.type ≠ 0) : ∃ w ∈ blockOf o, w.1 ≤ enableReg o ∧ enableReg o < w.1 + w.2 := by
  cases o with
  | string i => exact ⟨_, List.mem_cons_self, by simp [enableReg, F.STR_ENABLE]⟩
  | node i => exact ⟨_, List.mem_cons_self, by simp [enableReg, F.NODE_ENABLE]⟩
  | loop i => exact ⟨_, List.mem_cons_self, by simp [enableReg, F.LD_CTRL]⟩
  | profile i => exact ⟨_, List.mem_cons_self, by simp [enableReg, F.PROF_ENABLE]⟩
  | _ => exact absurd rfl h

theorem regReset_enableReg {o : Obj} (h : o.InMap) : regReset (enableReg o) = 0#32 := by
  rw [regReset, locate_enableReg h]
  cases o <;> rfl

/-! ### A slot is taken and freed -/

theorem handleOf_congr {d e : Dev} {o : Obj} (h : genOf e o = genOf d o) : handleOf e o = handleOf d o :=
  congrArg (fun g => w32 (o.type * 2 ^ 28 + g * 2 ^ 16 + o.idx)) h

/-- The generation that follows one (R88). -/
def nextGen (g : Nat) : Nat := if g = 0xFFF then 1 else g + 1

/-- The slot tables once an object has been made in a slot. -/
def slotTaken (o : Obj) (m : ModeSt) : ModeSt :=
  { m with occ := tset (fun _ => false) m.occ (slotKey o) true, gens := tset (fun _ => 0) m.gens (slotKey o) (nextGen (tget (fun _ => 0) m.gens (slotKey o))) }

theorem createSlot_eq (o : Obj) (d : Dev) : createSlot o d = { clearSlot o d with ms := slotTaken o (clearSlot o d).ms } := rfl

theorem freeSlot_eq (o : Obj) (d : Dev) : freeSlot o d = { clearSlot o d with ms := { d.ms with occ := tset (fun _ => false) d.ms.occ (slotKey o) false } } := by
  simp only [freeSlot, clearSlot_ms]

theorem createSlot_ms (o : Obj) (d : Dev) : (createSlot o d).ms = slotTaken o d.ms := by rw [createSlot_eq, clearSlot_ms]

theorem createSlot_regs (o : Obj) (d : Dev) : (createSlot o d).regs = (clearSlot o d).regs := by rw [createSlot_eq]

theorem createSlot_img (o : Obj) (d : Dev) : (createSlot o d).img = d.img := by rw [createSlot_eq, clearSlot_img]

theorem freeSlot_regs (o : Obj) (d : Dev) : (freeSlot o d).regs = (clearSlot o d).regs := by rw [freeSlot_eq]

theorem freeSlot_ms (o : Obj) (d : Dev) : (freeSlot o d).ms = { d.ms with occ := tset (fun _ => false) d.ms.occ (slotKey o) false } := by rw [freeSlot_eq]

theorem freeSlot_img (o : Obj) (d : Dev) : (freeSlot o d).img = d.img := by rw [freeSlot_eq, clearSlot_img]

/-! ### What a command finds -/

theorem ArgsOnly.ms {d e : Dev} (h : ArgsOnly d e) : e.ms = d.ms := (congrArg Dev.ms h.1 :)

theorem ArgsOnly.occupied {d e : Dev} (h : ArgsOnly d e) (o : Obj) : e.occupied o = d.occupied o := occupied_congr (congrArg ModeSt.occ h.ms) o

theorem ArgsOnly.genOf {d e : Dev} (h : ArgsOnly d e) (o : Obj) : genOf e o = genOf d o := by simp only [Machine.genOf, h.ms]

theorem ArgsOnly.handleOf {d e : Dev} (h : ArgsOnly d e) (o : Obj) : handleOf e o = handleOf d o := handleOf_congr (h.genOf o)

theorem ArgsOnly.checkOpen {d e : Dev} (h : ArgsOnly d e) (o : Obj) : e.checkOpen o = d.checkOpen o := by simp only [Dev.checkOpen, h.ms]

theorem ArgsOnly.openHandle {d e : Dev} (h : ArgsOnly d e) (w : Word) (t : Option Nat) : openHandle e w t = openHandle d w t := by
  simp only [Machine.openHandle, h.occupied, h.genOf]

theorem ArgsOnly.enabled {d e : Dev} (h : ArgsOnly d e) {o : Obj} (hm : o.InMap) (ht : o.type ≠ 0) : e.enabled o = d.enabled o := by
  obtain ⟨w, hw, hlo, -⟩ := enableReg_block ht
  have hfar := blockOf_beyond hw
  refine enabled_congr (congrArg ModeSt.occ h.ms) (h.2 _ ?_ (enableReg_not_objStatus hm))
  simp only [bDev, F.CMD_ARG, List.mem_cons, List.not_mem_nil, or_false]
  omega

/-- A valid handle names its slot (R90). -/
theorem openHandle_slot {d : Dev} {w : Word} {o : Obj} (h : openHandle d w none = (0, o)) : slotOfArg w = some o := by
  unfold openHandle at h
  split at h
  · cases h
  · simp only [Bool.or_false, decide_eq_true_eq] at h
    split at h
    · cases h
    · split at h
      · cases h
      · rename_i p hp
        split at h <;> cases h
        exact hp

/-- A slot word names its slot (R94). -/
theorem openSlot_slot {w : Word} {o : Obj} (h : openSlot w = (0, o)) : objOf (getBits w 28 4) (getBits w 0 16) = some o := by
  unfold openSlot at h
  simp only at h
  split at h
  · cases h
  · split at h <;> cases h
    assumption

theorem openSlot_of {w : Word} {o : Obj} (h : objOf (getBits w 28 4) (getBits w 0 16) = some o) : openSlot w = (0, o) := by
  simp only [openSlot, if_neg (objOf_typeSlots h), h]

/-! ### The object commands reach their rules -/

/-- An object command out of LOAD is carried out (R100, R692). -/
theorem runCommand_object {lmp : Bool} {op : Nat} {a0 a1 a2 a3 : Word} {s : State} (hop : op ∈ [0x10, 0x11, 0x12, 0x13, 0x14]) (h : Responsive s.d) :
    runCommand false lmp op a0 a1 a2 a3 s = objectCmd op a0 a1 a2 a3 s := by
  obtain ⟨-, -, -, hrom, hrole, -⟩ := h
  have hmem : op ∈ opcodes := by
    have : ∀ x ∈ [0x10, 0x11, 0x12, 0x13, 0x14], x ∈ opcodes := by decide
    exact this op hop
  simp only [List.mem_cons, List.not_mem_nil, or_false] at hop
  rcases hop with rfl | rfl | rfl | rfl | rfl <;> simp [runCommand, hmem, hrom, hrole]

theorem Responsive.objectMode {d : Dev} (h : Responsive d) (hm : d.mode ≠ .load) : objectMode d = true := by
  obtain ⟨-, -, -, hrom, -, -⟩ := h
  simp [Machine.objectMode, hrom, hm]

/-- What the executor holds of an accepted object command. -/
def objectEntry (lmp : Bool) (op : Nat) (args : List Word) (res : List (Nat × Word)) (lock : Option Obj) : CmdRun :=
  { op := op, lmp := lmp, reason := 0, res := res, lock := lock, sess := none, args := args }

/-- An accepted object command whose effect is `f`, with its results and its slot. -/
theorem object_serves {p : Path} {op : Nat} {a0 a1 a2 a3 : Word} {s : State} {P : Dev → Nv → Dev → Prop} {res : Dev → List (Nat × Word)} {lock : Option Obj} {f : Dev → Dev}
    (hop : op ∈ [0x10, 0x11, 0x12, 0x13, 0x14]) (hp : HostReady p s) (hm : s.d.mode ≠ .load)
    (hrun : ∀ d, ArgsOnly s.d d → Machine.objectMode d = true → objectCmd op a0 a1 a2 a3 { s with d := d } = ⟨0, res d, lock, false, { s with d := f d }⟩)
    (hboots : ∀ d, (f d).img.boots = d.img.boots)
    (hP : ∀ d, ArgsOnly s.d d → P d s.nv (beginCommand (objectEntry (p == .lmp) op [a0, a1, a2, a3] (res d) lock) (f d))) :
    Serves (.next (mailbox p op a0 a1 a2 a3 s)) s P := by
  have hlim : ∀ x ∈ [0x10, 0x11, 0x12, 0x13, 0x14], x < 65536 ∧ x ≠ 6 ∧ x ≠ 7 := by decide
  obtain ⟨h1, h2⟩ := hlim op hop
  refine mailbox_runs h1 h2 hp fun d ha hr => ⟨_, (runCommand_object hop hr).trans (hrun d ha (hr.objectMode (ha.mode ▸ hm))), rfl, ?_⟩
  simp only [hboots d, ne_eq, not_true, if_false, bne_self_eq_false, Bool.or_self, Bool.false_eq_true]
  exact hP d ha

/-! ### OBJ_CREATE, OBJ_DESTROY, OBJ_LOOKUP -/

theorem cmdResult_out {o : Obj} {w : Nat × Nat} (hw : w ∈ blockOf o) {a : Nat} (h : w.1 ≤ a) : a ≠ bDev + F.CMD_RESULT.off := by
  have := blockOf_beyond hw
  simp only [bDev, F.CMD_RESULT]
  omega

/-- R94, R98: which slot OBJ_CREATE takes. -/
def Chosen (a0 : Word) (d : Dev) (o : Obj) : Prop :=
  (getBits a0 0 16 ≠ 0xFFFF ∧ objOf (getBits a0 28 4) (getBits a0 0 16) = some o ∧ d.occupied o = false) ∨
  (getBits a0 0 16 = 0xFFFF ∧ ((upto (typeSlots (getBits a0 28 4))).filterMap (objOf (getBits a0 28 4))).find? (fun o => !d.occupied o) = some o)

theorem Chosen.named {a0 : Word} {d : Dev} {o : Obj} (h : Chosen a0 d o) : ∃ i, objOf (getBits a0 28 4) i = some o := by
  rcases h with ⟨-, h, -⟩ | ⟨-, h⟩
  · exact ⟨_, h⟩
  · obtain ⟨i, -, hi⟩ := List.mem_filterMap.mp (List.mem_of_find?_eq_some h)
    exact ⟨i, hi⟩

theorem Chosen.objCreate {a0 : Word} {d : Dev} {o : Obj} (h : Chosen a0 d o) : objCreate a0 d = (0, o, createSlot o d) := by
  obtain ⟨i, hi⟩ := h.named
  rcases h with ⟨hidx, ho, hocc⟩ | ⟨hidx, ho⟩
  · simp [Machine.objCreate, hidx, openSlot_of ho, hocc]
  · simp [Machine.objCreate, hidx, objOf_typeSlots hi, ho]

theorem objCreate_serves (p : Path) (a0 a1 a2 a3 : Word) (s : State) (o : Obj) (hp : HostReady p s) (hm : s.d.mode ≠ .load) (hc : Chosen a0 s.d o) :
    Serves (exec (.objCreate p a0 a1 a2 a3) s) s (fun d nv e => nv = s.nv ∧ e.occupied o = true ∧ e.enabled o = false ∧
      genOf e o = (if genOf s.d o = 0xFFF then 1 else genOf s.d o + 1) ∧
      (∀ w ∈ blockOf o, ∀ k, k < w.2 → e.rd (w.1 + k) = regReset (w.1 + k)) ∧
      Executes e 0x10 (p == .lmp) [(0, handleOf e o)] (some o) ∧
      (∀ a, (∀ w ∈ blockOf o, a < w.1 ∨ w.1 + w.2 ≤ a) → a ≠ bDev + F.CMD_RESULT.off → e.rd a = d.rd a)) := by
  obtain ⟨i, hi⟩ := hc.named
  have ht := objOf_type hi
  have hfound (d : Dev) (ha : ArgsOnly s.d d) : Chosen a0 d o := by
    simpa only [Chosen, ha.occupied] using hc
  refine object_serves (op := 0x10) (res := fun d => [(0, handleOf (createSlot o d) o)]) (lock := some o) (f := createSlot o) (by decide) hp hm
    (fun d ha hmode => by simp only [objectCmd, hmode, (hfound d ha).objCreate, Bool.not_true, Bool.false_eq_true, if_false])
    (fun d => by rw [createSlot_img]) fun d ha => ?_
  generalize hcmd : objectEntry (p == .lmp) 0x10 [a0, a1, a2, a3] [(0, handleOf (createSlot o d) o)] (some o) = c
  have hex : Executes (beginCommand c (createSlot o d)) 0x10 (p == .lmp) [(0, handleOf (createSlot o d) o)] (some o) := by
    rw [← hcmd]
    exact beginCommand_executes rfl _
  have hms : (beginCommand c (createSlot o d)).ms = { slotTaken o d.ms with cmd := some c } := by rw [beginCommand_ms, createSlot_ms]
  have hrd {a : Nat} (h : a ≠ bDev + F.CMD_RESULT.off) : (beginCommand c (createSlot o d)).rd a = (clearSlot o d).rd a := by
    rw [beginCommand_rd c _ h, Dev.rd_congr (createSlot_regs o d)]
  generalize beginCommand c (createSlot o d) = e at hex hms hrd
  have hgen : genOf e o = nextGen (genOf d o) := by
    rw [genOf, hms]
    exact tget_tset_self (fun _ => 0) d.ms.gens (slotKey o) _
  have hgen' : genOf (createSlot o d) o = nextGen (genOf d o) := by
    rw [genOf, createSlot_ms]
    exact tget_tset_self (fun _ => 0) d.ms.gens (slotKey o) _
  have hhandle : handleOf e o = handleOf (createSlot o d) o := handleOf_congr (hgen.trans hgen'.symm)
  have hocc : e.occupied o = true := by
    rw [Dev.occupied, if_neg ht, hms]
    exact tget_tset_self (fun _ => false) d.ms.occ (slotKey o) true
  refine ⟨rfl, hocc, ?_, ?_, fun w hw k hk => ?_, ?_, fun a hout ha' => ?_⟩
  · obtain ⟨w, hw, hlo, hhi⟩ := enableReg_block ht
    rw [Dev.enabled, hrd (cmdResult_out hw hlo), clearSlot_rd_in o d hw ⟨hlo, hhi⟩, regReset_enableReg (objOf_inMap hi)]
    simp [getBits]
  · rw [hgen, ha.genOf]
    rfl
  · rw [hrd (cmdResult_out hw (Nat.le_add_right _ _)), clearSlot_rd_in o d hw ⟨Nat.le_add_right _ _, by omega⟩]
  · rw [hhandle]
    exact hex
  · rw [hrd ha', clearSlot_rd_out o d hout]

theorem objDestroy_serves (p : Path) (a0 a1 a2 a3 : Word) (s : State) (o : Obj) (hp : HostReady p s) (hm : s.d.mode ≠ .load)
    (hh : openHandle s.d a0 none = (0, o)) (hen : s.d.enabled o = false) (hck : s.d.checkOpen o = false) :
    Serves (exec (.objDestroy p a0 a1 a2 a3) s) s (fun d nv e => nv = s.nv ∧ e.occupied o = false ∧ genOf e o = genOf s.d o ∧
      Executes e 0x11 (p == .lmp) [] (some o) ∧
      (∀ a, (∀ w ∈ blockOf o, a < w.1 ∨ w.1 + w.2 ≤ a) → a ≠ bDev + F.CMD_RESULT.off → e.rd a = d.rd a)) := by
  have hslot := openHandle_slot hh
  have ht := objOf_type hslot
  refine object_serves (op := 0x11) (res := fun _ => []) (lock := some o) (f := freeSlot o) (by decide) hp hm (fun d ha hmode => ?_)
    (fun d => by rw [freeSlot_img]) fun d ha => ?_
  · have hd : objDestroy a0 d = (0, o, freeSlot o d) := by
      simp [objDestroy, ha.openHandle, hh, ha.enabled (objOf_inMap hslot) ht, ha.checkOpen, hen, hck]
    simp only [objectCmd, hmode, hd, hslot, Bool.not_true, Bool.false_eq_true, if_false]
  · have hms := beginCommand_ms (objectEntry (p == .lmp) 0x11 [a0, a1, a2, a3] [] (some o)) (freeSlot o d)
    refine ⟨rfl, ?_, ?_, beginCommand_executes rfl _, fun a hout ha' => ?_⟩
    · simp only [Dev.occupied, if_neg ht, hms, freeSlot_ms, tget_tset_self]
    · rw [← ha.genOf]
      simp only [genOf, hms, freeSlot_ms]
    · rw [beginCommand_rd _ _ ha', Dev.rd_congr (freeSlot_regs o d), clearSlot_rd_out o d hout]

/-- A command that answers a word and changes nothing but the executor. -/
theorem query_serves {p : Path} {op : Nat} {a0 a1 a2 a3 : Word} {s : State} {res : Dev → List (Nat × Word)} {lock : Option Obj}
    (hop : op ∈ [0x10, 0x11, 0x12, 0x13, 0x14]) (hp : HostReady p s) (hm : s.d.mode ≠ .load)
    (hrun : ∀ d, ArgsOnly s.d d → Machine.objectMode d = true → objectCmd op a0 a1 a2 a3 { s with d := d } = ⟨0, res d, lock, false, { s with d := d }⟩) :
    Serves (.next (mailbox p op a0 a1 a2 a3 s)) s (fun d nv e => nv = s.nv ∧ Executes e op (p == .lmp) (res d) lock ∧
      e.rest = { d.rest with ms := e.ms } ∧ KeepsRegs d e [bDev + F.CMD_RESULT.off]) := by
  refine object_serves (f := id) hop hp hm hrun (fun _ => rfl) fun d _ => ⟨rfl, beginCommand_executes rfl _, beginCommand_rest _ d, fun a ha _ => ?_⟩
  exact beginCommand_rd _ d (fun e => ha (List.mem_singleton.mpr e))

theorem objLookup_serves (p : Path) (a0 a1 a2 a3 : Word) (s : State) (o : Obj) (hp : HostReady p s) (hm : s.d.mode ≠ .load) (hs : openSlot a0 = (0, o)) :
    Serves (exec (.objLookup p a0 a1 a2 a3) s) s (fun d nv e => nv = s.nv ∧
      Executes e 0x12 (p == .lmp) [(0, if s.d.occupied o then handleOf s.d o else 0#32)] (some o) ∧
      e.rest = { d.rest with ms := e.ms } ∧ KeepsRegs d e [bDev + F.CMD_RESULT.off]) := by
  refine query_serves (op := 0x12) (res := fun _ => [(0, if s.d.occupied o then handleOf s.d o else 0#32)]) (lock := some o) (by decide) hp hm fun d ha hmode => ?_
  have hl : objLookup a0 d = (0, o, if s.d.occupied o then handleOf s.d o else 0#32) := by
    simp [objLookup, hs, ha.occupied, ha.handleOf]
  simp only [objectCmd, hmode, hl, Bool.not_true, Bool.false_eq_true, if_false]

theorem objRead_serves (p : Path) (a0 a1 a2 a3 : Word) (s : State) (o : Obj) (a : Nat) (hp : HostReady p s) (hm : s.d.mode ≠ .load)
    (hh : openHandle s.d a0 none = (0, o)) (hb : blockAddr o a1.toNat = some a) :
    Serves (exec (.objRead p a0 a1 a2 a3) s) s (fun d nv e => nv = s.nv ∧
      Executes e 0x14 (p == .lmp) [(2, shown { s with d := d } a)] (some o) ∧ e.rest = { d.rest with ms := e.ms } ∧ KeepsRegs d e [bDev + F.CMD_RESULT.off]) := by
  refine query_serves (op := 0x14) (res := fun d => [(2, shown { s with d := d } a)]) (lock := some o) (by decide) hp hm fun d ha hmode => ?_
  have hr : objRead a0 a1 { s with d := d } = (0, shown { s with d := d } a) := by
    simp [objRead, ha.openHandle, hh, hb]
  simp only [objectCmd, hmode, hr, openHandle_slot hh, Bool.not_true, Bool.false_eq_true, if_false]

/-! ### OBJ_WRITE -/

theorem objWrite_serves (p : Path) (a0 a1 a2 a3 : Word) (s : State) (o : Obj) (a : Nat) (hp : HostReady p s) (hm : s.d.mode ≠ .load)
    (hh : openHandle s.d a0 none = (0, o)) (hb : blockAddr o a1.toNat = some a) :
    Serves (exec (.objWrite p a0 a1 a2 a3) s) s (fun d nv e => nv = s.nv ∧
      ((writeDev .cmd a a2 a3 d).1 = 0 → (writeDev .cmd a a2 a3 d).2.img.boots = d.img.boots →
        Executes e 0x13 (p == .lmp) [] (some o) ∧ e.rd a = (writeDev .cmd a a2 a3 d).2.rd a) ∧
      ((writeDev .cmd a a2 a3 d).1 ≠ 0 → (writeDev .cmd a a2 a3 d).1 < 65536 → (writeDev .cmd a a2 a3 d).2.img.boots = d.img.boots →
        Ended e 0x13 (p == .lmp) (writeDev .cmd a a2 a3 d).1 ∧ e.rd a = (writeDev .cmd a a2 a3 d).2.rd a)) := by
  have hfar := blockAddr_beyond hb
  have h1 : a ≠ bDev + F.CMD_RESULT.off := by simp only [bDev, F.CMD_RESULT]; omega
  have h2 : a ≠ bDev + F.DEV_IRQ_STATUS.off := by simp only [bDev, F.DEV_IRQ_STATUS]; omega
  refine mailbox_runs (op := 0x13) (by decide) (by decide) hp fun d ha hr =>
    ⟨⟨(writeDev .cmd a a2 a3 d).1, [], some o, false, { s with d := (writeDev .cmd a a2 a3 d).2 }⟩, ?_, rfl, rfl, fun h0 hboots => ?_, fun h0 hlt hboots => ?_⟩
  · have hw : objWrite a0 a1 a2 a3 d = writeDev .cmd a a2 a3 d := by simp [objWrite, ha.openHandle, hh, hb]
    rw [runCommand_object (by decide) hr]
    simp only [objectCmd, hr.objectMode (ha.mode ▸ hm), hw, openHandle_slot hh, Bool.not_true, Bool.false_eq_true, if_false, cmdDev]
  · rw [if_neg (not_not_intro hboots), if_neg (by simp [h0])]
    exact ⟨beginCommand_executes h0 _, beginCommand_rd _ _ h1⟩
  · rw [if_neg (not_not_intro hboots), if_pos (by simpa using h0)]
    exact ⟨endCommand_ended rfl hlt _, endCommand_rd rfl _ (fun _ h => absurd h List.not_mem_nil) h1 h2⟩

/-! ### The mailbox ends its commands -/

theorem badOpcode_serves (p : Path) (op : BitVec 16) (a0 a1 a2 a3 : Word) (s : State) (hp : HostReady p s) (hop : opcodes.contains op.toNat = false) :
    Serves (exec (.badOpcode p op a0 a1 a2 a3) s) s (fun d nv e => nv = s.nv ∧ Ended e op.toNat (p == .lmp) 0x0103 ∧
      KeepsRegs d e [bDev + F.CMD_RESULT.off, bDev + F.DEV_IRQ_STATUS.off] ∧ e.rest = d.rest) := by
  have hnot : op.toNat ≠ 6 ∧ op.toNat ≠ 7 := by
    constructor <;> intro h <;> rw [h] at hop <;> revert hop <;> decide
  refine mailbox_runs op.isLt hnot hp fun d ha hr => ⟨⟨0x0103, [], none, false, { s with d := d }⟩, ?_, rfl, rfl, ?_⟩
  · simp only [runCommand, hop, Bool.not_false, if_true, cmdDev]
  · rw [if_neg (not_not_intro rfl), if_pos (by simp)]
    refine ⟨endCommand_ended rfl (show 0x0103 < 65536 by decide) d, fun a hx _ => ?_, ?_⟩
    · simp only [List.mem_cons, List.not_mem_nil, or_false, not_or] at hx
      obtain ⟨h1, h2⟩ := hx
      exact endCommand_rd rfl d (fun _ h => absurd h List.not_mem_nil) h1 h2
    · rw [endCommand_rest rfl, ← hr.cmd_none]
      rfl

theorem commandEnd_does (s : State) (c : CmdRun) (hc : s.d.ms.cmd = some c) (hs : c.sess = none) (hr : c.reason < 65536) :
    Does (exec .commandEnd s) s (fun e => Ended e c.op c.lmp c.reason ∧
      (c.lmp = false → c.reason = 0 → ∀ w, c.res = [w] → w.1 < 4 → e.rd (bDev + F.CMD_ARG.off + 4 * w.1) = w.2) ∧
      (∀ a, (∀ w ∈ c.res, a ≠ bDev + F.CMD_ARG.off + 4 * w.1) → a ≠ bDev + F.CMD_RESULT.off → a ≠ bDev + F.DEV_IRQ_STATUS.off → e.rd a = s.d.rd a) ∧
      e.due = s.d.due) := by
  have he : commandEnd s.d.fresh = endCommand c s.d.fresh := by simp only [commandEnd, hc]
  refine ⟨endCommand c s.d.fresh, congrArg (fun e => Host.Outcome.next (s.run fun _ => e)) he, endCommand_ended hs hr _, fun hl h0 w hw hlt => ?_,
    fun a ha h1 h2 => endCommand_rd hs _ ha h1 h2, ?_⟩
  · have h1 : bDev + F.CMD_ARG.off + 4 * w.1 ≠ bDev + F.CMD_RESULT.off := by simp only [bDev, F.CMD_ARG, F.CMD_RESULT]; omega
    have h2 : bDev + F.CMD_ARG.off + 4 * w.1 ≠ bDev + F.DEV_IRQ_STATUS.off := by simp only [bDev, F.CMD_ARG, F.DEV_IRQ_STATUS]; omega
    rw [endCommand_eq hs, publishResult_rd _ _ _ _ h1 h2, writeArgs_one _ hl h0 hw]
  · have h : (endCommand c s.d.fresh).rest.due = s.d.due := by rw [endCommand_rest hs]; rfl
    exact h

/-- Settles O11: a command ends by its report alone; the object commands are the operations on their slot, with the executor's entry after them. -/
theorem objectAndMailboxCommands : Obligations.ObjectAndMailboxCommands := by
  unfold Obligations.ObjectAndMailboxCommands
  exact ⟨⟨badOpcode_serves, commandEnd_does⟩, ⟨objCreate_serves, objDestroy_serves, objLookup_serves⟩, objRead_serves, objWrite_serves⟩

end Sys2Proof.Machine
end

section
/-! SUPPORT. The entry to a mode: what its effects leave alone (R69, R78). -/

namespace Sys2Proof.Machine

/-! ### Operations beside the mode and the tick -/

/-- `e` differs from `d` neither in the modes and slots, nor in the device window but for its interrupts, nor in the tick. -/
structure Dev.Steady (d e : Dev) : Prop extends d.Aside e where
  tick : e.tick = d.tick

theorem Dev.Steady.refl (d : Dev) : d.Steady d := ⟨Dev.Aside.refl d, rfl⟩

theorem Dev.Steady.trans {d e f : Dev} (h : d.Steady e) (g : e.Steady f) : d.Steady f := ⟨h.toAside.trans g.toAside, g.tick.trans h.tick⟩

/-- A change of the state that is no register, no mode state and not the tick. -/
theorem Dev.Steady.of_eq {d e : Dev} (hm : e.ms = d.ms) (hr : e.regs = d.regs) (ht : e.tick = d.tick) : d.Steady e := ⟨Dev.Aside.of_eq hm hr, ht⟩

theorem Dev.steady_wr (d : Dev) {a : Nat} (v : Word) (h : 0x10000 ≤ a) : d.Steady (d.wr a v) := ⟨Dev.aside_wr d v h, Dev.wr_tick d a v⟩

theorem Dev.steady_p (d : Dev) {b : Nat} (f : Fld) (v : Nat) (h : 0x10000 ≤ b) : d.Steady (d.p b f v) := ⟨Dev.aside_p d f v h, Dev.p_tick d b f v⟩

theorem Dev.steady_irq (d : Dev) {f : Fld} (h : f.off = F.DEV_IRQ_STATUS.off) : d.Steady (d.irq f) := ⟨Dev.aside_irq d h, Dev.p_tick d bDev f 1⟩

theorem Dev.steady_on {d : Dev} {f : Dev → Dev} (c : Bool) (h : d.Steady (f d)) : d.Steady (d.on c f) := by
  cases c
  · exact Dev.Steady.refl d
  · exact h

theorem Dev.steady_each {α : Type} {f : α → Dev → Dev} (h : ∀ (x : α) (d : Dev), d.Steady (f x d)) (l : List α) (d : Dev) : d.Steady (d.each l f) :=
  ⟨Dev.aside_each (fun x d => (h x d).toAside) l d, each_field l f Dev.tick (fun x d => (h x d).tick) d⟩

theorem Dev.steady_post (d : Dev) (w : Due) : d.Steady (d.post w) := Dev.Steady.of_eq rfl rfl rfl

theorem Dev.steady_setNode (d : Dev) (n : Nat) (f : NodeSt → NodeSt) : d.Steady (d.setNode n f) := Dev.Steady.of_eq rfl rfl rfl

theorem Dev.steady_setLeg (d : Dev) (n y : Nat) (f : LegSt → LegSt) : d.Steady (d.setLeg n y f) := Dev.Steady.of_eq rfl rfl rfl

theorem Dev.steady_setStr (d : Dev) (i : Nat) (f : StrSt → StrSt) : d.Steady (d.setStr i f) := Dev.Steady.of_eq rfl rfl rfl

theorem Dev.steady_setPort (d : Dev) (p : Nat) (f : PortSt → PortSt) : d.Steady (d.setPort p f) := Dev.Steady.of_eq rfl rfl rfl

/-! ### What an entry to a mode does beside the mode -/

theorem steady_mgmtSend (p op addr len : Nat) (data : List Byte) (src : Option Nat) (d : Dev) : d.Steady (mgmtSend p op addr len data src d) := by
  refine ⟨aside_mgmtSend p op addr len data src d, ?_⟩
  unfold mgmtSend
  split <;> rfl

theorem steady_sendDetect (n m : Nat) (d : Dev) : d.Steady (sendDetect n m d) := (steady_mgmtSend _ _ _ _ _ _ d).trans (Dev.steady_setNode _ _ _)

theorem steady_detectDesat (n : Nat) (d : Dev) : d.Steady (detectDesat n d) := by
  unfold detectDesat
  split
  · exact steady_sendDetect n 1 d
  · exact Dev.Steady.refl d

theorem steady_setPState (p : Nat) (st : PState) (d : Dev) : d.Steady (setPState p st d) :=
  (Dev.steady_setPort d _ _).trans (Dev.steady_p _ _ _ (by simp only [bPort]; omega))

theorem steady_refreshToken (p : Nat) (d : Dev) : d.Steady (refreshToken p d) := by
  have token : d.Steady (setPState p .token (d.setPort p (fun q => { q with tok := true }))) := (Dev.steady_setPort d _ _).trans (steady_setPState _ _ _)
  unfold refreshToken
  simp only []
  split_ifs
  · split
    · exact token.trans (steady_detectDesat _ _)
    · exact token
  · exact (Dev.steady_setPort d _ _).trans (steady_setPState _ _ _)
  · exact Dev.steady_setPort d _ _
  · exact Dev.Steady.refl d

theorem steady_refreshTokens (d : Dev) : d.Steady (refreshTokens d) := Dev.steady_each steady_refreshToken _ d

theorem steady_refreshAux (d : Dev) : d.Steady (refreshAux d) := by
  refine Dev.steady_each (fun i d => ?_) _ d
  split
  · exact Dev.steady_p _ _ _ (by simp only [bAux]; omega)
  · exact ⟨aside_auxIdle i d, rfl⟩

theorem pushRec_plain_tick (r : Rec) (d : Dev) (h : r.severe = false) : (pushRec r d).tick = d.tick := by
  have noted (c : Bool) (d : Dev) : (d.on c (fun s => s.irq F.DEV_IRQ_STATUS_FAULT_REC)).tick = d.tick := by
    cases c
    · rfl
    · exact Dev.p_tick d _ _ _
  unfold pushRec
  simp only [h, Bool.false_eq_true, if_false]
  split
  · exact noted _ d
  · rw [lostRec, Dev.p_tick, Dev.inc, Dev.p_tick]

theorem steady_modeRec (new old why : Nat) (d : Dev) : d.Steady (modeRec new old why d) := ⟨aside_modeRec new old why d, pushRec_plain_tick _ d rfl⟩

theorem steady_stopString (i : Nat) (d : Dev) : d.Steady (stopString i d) := by
  refine ⟨aside_stopString i d, ?_⟩
  exact each_field (d.members i) (fun m d => cutLegs m.2 (upto 7) 0 (d.setNode m.2 (fun x => { x with step := 0 }))) Dev.tick (fun _ _ => rfl) d

theorem Dev.steady_wrF (d : Dev) (a : Nat) (v : Word) : d.Steady (d.wrF a v) := Dev.Steady.of_eq rfl rfl rfl

theorem steady_writeEntry (e : Nat) (v : Word) (d : Dev) : d.Steady (writeEntry e v d) := by
  unfold writeEntry
  split
  · exact (Dev.steady_wr d _ (by simp only [bLoopD]; omega)).trans (Dev.steady_wrF _ _ _)
  · exact Dev.Steady.refl d

theorem bStr_beyond (i : Nat) : 0x10000 ≤ bStr i := by
  simp only [bStr]
  omega

theorem steady_setPos (i k v : Nat) (d : Dev) : d.Steady (setPos i k v d) := Dev.steady_p d _ v (bStr_beyond i)

theorem steady_setActive (i mask : Nat) (both : Bool) (d : Dev) : d.Steady (setActive i mask both d) := by
  have hw : d.Steady (d.wr (bStr i + F.STR_ACTIVE.off) (w32 mask)) := Dev.steady_wr d _ (by have := bStr_beyond i; omega)
  cases both
  · exact hw
  · exact hw.trans (Dev.steady_wrF _ _ _)

theorem steady_changeCoefs (i leave enter n : Nat) (d : Dev) : d.Steady (changeCoefs i leave enter n d) := by
  have both (k : Nat) (v : Word) (d : Dev) := (steady_writeEntry (d.g (bStr i) (F.STR_POSTERM_ENTRY_V.at k)) v d).trans
    (steady_writeEntry (d.g (bStr i) (F.STR_POSTERM_ENTRY_T.at k)) v _)
  unfold changeCoefs
  refine (Dev.steady_each (fun k d => ?_) _ d).trans (Dev.steady_on _ (Dev.steady_each (fun k d => ?_) _ _))
  · split
    · exact both k _ d
    · split
      · exact both k _ d
      · exact Dev.Steady.refl d
  · exact (steady_writeEntry _ _ d).trans (steady_writeEntry _ _ _)

theorem steady_checkMin (i n : Nat) (d : Dev) : d.Steady (checkMin i n d) :=
  Dev.steady_on _ ((Dev.steady_p d _ _ (bStr_beyond i)).trans (Dev.steady_post _ _))

theorem steady_changeWhole (i leave enter : Nat) (d : Dev) : d.Steady (changeWhole i leave enter d) := by
  unfold changeWhole
  refine ((((steady_setActive _ _ _ _).trans (steady_changeCoefs _ _ _ _ _)).trans (Dev.steady_each (fun k d => ?_) _ _)).trans
    ((Dev.steady_p _ _ _ (bStr_beyond i)).trans (Dev.steady_p _ _ _ (bStr_beyond i)))).trans (steady_checkMin _ _ _)
  split
  · exact steady_setPos _ _ _ d
  · split
    · exact steady_setPos _ _ _ d
    · exact Dev.Steady.refl d

/-- A change of a string that has not begun is made whole. -/
def changeSettled (i : Nat) (c : Option Chg) (d : Dev) : Dev :=
  match c with
  | some c => if c.latched then d.inc (bStr i) F.STR_CELL_STATUS_CHANGES else changeWhole i c.leave c.enter d
  | none => d

theorem steady_changeSettled (i : Nat) (c : Option Chg) (d : Dev) : d.Steady (changeSettled i c d) := by
  unfold changeSettled
  split
  · split
    · exact Dev.steady_p d _ _ (bStr_beyond i)
    · exact steady_changeWhole _ _ _ d
  · exact Dev.Steady.refl d

/-- The positions of a string as its mask has them. -/
def positionsSet (i : Nat) (d : Dev) : Dev :=
  let mask := d.g (bStr i) F.STR_ACTIVE_MASK
  d.each (d.members i) (fun m d => if bitOf mask m.1 then setPos i m.1 0 d else if posState d i m.1 == 0 then setPos i m.1 1 d else d)

theorem steady_positionsSet (i : Nat) (d : Dev) : d.Steady (positionsSet i d) := by
  refine Dev.steady_each (fun m d => ?_) _ d
  split
  · exact steady_setPos _ _ _ d
  · split
    · exact steady_setPos _ _ _ d
    · exact Dev.Steady.refl d

theorem steady_settleChange (i : Nat) (d : Dev) : d.Steady (settleChange i d) := by
  have hs : settleChange i d = if ((d.str i).chg.isNone && (d.str i).chg2.isNone && !((d.str i).pendMv != moves0 || (d.str i).latMv != moves0)) = true then d
      else
        let e := changeSettled i (d.str i).chg2 (changeSettled i (d.str i).chg d)
        let mask := e.g (bStr i) F.STR_ACTIVE_MASK
        (((setActive i mask true (positionsSet i e)).setStr i (fun y => { y with chg := none, chg2 := none, pendMv := moves0, latMv := moves0 })).p
          (bStr i) F.STR_CELL_STATUS_PENDING 0).p (bStr i) F.STR_CELL_STATUS_N (activeCount (positionsSet i e) i mask) := rfl
  rw [hs]
  split
  · exact Dev.Steady.refl d
  · have he := (steady_changeSettled i (d.str i).chg d).trans (steady_changeSettled i (d.str i).chg2 _)
    exact ((he.trans (steady_positionsSet i _)).trans (((steady_setActive _ _ _ _).trans (Dev.steady_setStr _ _ _)).trans
      (Dev.steady_p _ _ _ (bStr_beyond i)))).trans (Dev.steady_p _ _ _ (bStr_beyond i))

theorem steady_runSelfTest (n sw comp : Nat) (d : Dev) : d.Steady (runSelfTest n sw comp d) := by
  unfold runSelfTest execNode
  exact (steady_mgmtSend _ _ _ _ _ _ d).trans (Dev.steady_setNode _ _ _)

theorem steady_serveSelfTests (ns : List Nat) (d : Dev) : d.Steady (serveSelfTests ns d) := by
  refine Dev.steady_each (fun n d => ?_) _ d
  unfold serveSelfTest
  simp only []
  split
  · exact steady_runSelfTest _ _ _ d
  · exact Dev.Steady.refl d

theorem steady_startString (i : Nat) (d : Dev) : d.Steady (startString i d) := by
  unfold startString
  refine (((Dev.steady_setStr d _ _).trans (Dev.steady_each (fun m d => ?_) _ _)).trans (Dev.steady_p _ _ _ (bStr_beyond i))).trans (Dev.steady_p _ _ _ (bStr_beyond i))
  exact (Dev.steady_setNode d _ _).trans (Dev.steady_each (fun y d => Dev.steady_setLeg d _ _ _) _ _)

theorem steady_sendEdge (p : Nat) (e : Edge) (d : Dev) : d.Steady (sendEdge p e d) := by
  unfold sendEdge
  simp only []
  split
  · exact Dev.steady_setPort d _ _
  · split
    · exact Dev.steady_setPort d _ _
    · exact Dev.Steady.refl d

theorem steady_sendFences (n : Nat) (es : List Edge) (d : Dev) : d.Steady (sendFences n es d) := by
  unfold sendFences sendFencesFrom
  refine (Dev.steady_each (fun y d => ?_) _ d).trans (Dev.steady_each (fun e d => (steady_sendEdge _ e d).trans (Dev.steady_each (fun y d => ?_) _ _)) _ _)
  · exact Dev.Steady.of_eq rfl rfl rfl
  · exact Dev.steady_setLeg d _ _ _

theorem steady_sendForm (n : Nat) (f : Form) (d : Dev) : d.Steady (sendForm n f d) := by
  unfold sendForm
  split
  · exact Dev.Steady.refl d
  · exact steady_sendFences _ _ d

theorem steady_safeStates (d : Dev) : d.Steady (safeStates d) :=
  Dev.steady_each (fun _ d => Dev.steady_each (fun _ d => steady_sendForm _ _ d) _ d) _ d

theorem Dev.steady_sens (d : Dev) (f : Fld) (v : Nat) : d.Steady (d.p bSens f v) := Dev.steady_p d f v (by decide)

theorem steady_injServe (i : Nat) (d : Dev) : d.Steady (injServe i d) := (Dev.steady_sens d F.ADC_INJ_STATUS_PENDING 1).trans (Dev.Steady.of_eq rfl rfl rfl)

theorem steady_injQueued (d : Dev) : d.Steady (injQueued d) := by
  unfold injQueued
  split
  · exact (Dev.steady_sens d _ _).trans (steady_injServe _ _)
  · exact Dev.Steady.refl d

theorem steady_abortCal (d : Dev) : d.Steady (abortCal d) := by
  unfold abortCal
  split
  · exact ((Dev.steady_sens d _ _).trans (Dev.steady_sens _ _ _)).trans (steady_injQueued _)
  · exact Dev.Steady.refl d

theorem steady_injRequest (d : Dev) : d.Steady (injRequest d) := by
  have lost (d : Dev) : d.Steady (injLost d) := Dev.steady_sens d _ _
  unfold injRequest
  simp only []
  split_ifs
  · exact lost d
  · exact (steady_abortCal d).trans (lost _)
  · exact (steady_abortCal d).trans (steady_injServe _ _)
  · exact lost d
  · exact Dev.steady_sens d _ _
  · exact steady_injServe _ d

theorem steady_assertPin (d : Dev) : d.Steady (assertPin d) := by
  have pin (d : Dev) (f : Fld) (v : Nat) : d.Steady (d.p bFlt f v) := Dev.steady_p d f v (by decide)
  unfold assertPin
  extract_lets e x
  have he : d.Steady e := (pin d _ _).trans (pin _ _ _)
  have hx : d.Steady x := he.trans (Dev.steady_irq (f := F.DEV_IRQ_STATUS_FAULT_PIN) e rfl)
  clear_value x
  exact hx.trans (Dev.Steady.of_eq rfl rfl rfl)

theorem steady_reapply (d : Dev) : d.Steady (reapply d) := Dev.steady_each (fun _ d => Dev.steady_post d _) _ d

theorem steady_clearCarries (d : Dev) : d.Steady (clearCarries d) := Dev.Steady.of_eq rfl rfl rfl

theorem steady_startStrings (d : Dev) : d.Steady (startStrings d) := Dev.steady_each steady_startString _ d

/-! ### The entry to a mode (R69, R78) -/

theorem enterMode_steady (m : Mode) (why : Nat) (d : Dev) : (entered m why (modeWord m why d)).Steady (enterMode m why d) := by
  unfold enterMode
  extract_lets old word ride ms begun noted s0 s1 s2
  have hw : word = modeWord m why d := rfl
  clear_value word
  rw [← hw]
  have hb : begun = entered m why word := rfl
  clear_value begun
  rw [← hb]
  have h : begun.Steady s0 :=
    (((Dev.steady_irq (f := F.DEV_IRQ_STATUS_MODE) begun rfl).trans (steady_modeRec _ _ _ _)).trans (steady_refreshTokens _)).trans (steady_refreshAux _)
  have safe : s0.Steady s1 := ((Dev.steady_each steady_settleChange _ s0).trans (Dev.steady_each (fun n d => steady_sendDetect n 2 d) _ _)).trans (steady_safeStates _)
  have inj : s0.Steady s2 := safe.trans (Dev.steady_on _ (steady_injRequest _))
  clear_value s2 s1 s0
  refine h.trans ?_
  have desat (l : List Nat) (d : Dev) : d.Steady (d.each l detectDesat) := Dev.steady_each steady_detectDesat l d
  cases m with
  | load => exact Dev.Steady.refl _
  | hold => exact ((Dev.steady_each steady_settleChange _ _).trans (Dev.steady_each steady_stopString _ _)).trans (steady_serveSelfTests _ _)
  | charge => exact ((Dev.steady_each (fun n d => steady_sendDetect n 2 d) _ _).trans (steady_startStrings _)).trans (steady_reapply _)
  | run => exact ((desat _ _).trans (steady_clearCarries _)).trans (steady_reapply _)
  | ride => exact (desat _ _).trans (steady_reapply _)
  | safe => exact (inj.trans (Dev.steady_on _ (steady_assertPin _))).trans (steady_serveSelfTests _ _)

theorem Dev.Steady.g {d e : Dev} (h : d.Steady e) {f : Fld} (h1 : bDev + f.off < 0x10000) (h2 : bDev + f.off ≠ bDev + F.DEV_IRQ_STATUS.off) :
    e.g bDev f = d.g bDev f := by simp only [Dev.g, h.rd _ h1 h2]

theorem entered_g (m : Mode) (why : Nat) (d : Dev) (f : Fld) : (entered m why d).g bDev f = d.g bDev f := Dev.g_congr (entered_regs m why d) bDev f

theorem entered_entered (m : Mode) (why : Nat) (d : Dev) : (entered m why d).ms.entered = d.tick := rfl

theorem entered_stop (m : Mode) (why : Nat) (d : Dev) : (entered m why d).ms.stop = none := rfl

theorem entered_tick (m : Mode) (why : Nat) (d : Dev) : (entered m why d).tick = d.tick := rfl

theorem modeWord_fields (m : Mode) (why : Nat) (d : Dev) : (modeWord m why d).g bDev F.DEV_MODE_PREV = d.mode.code % 8 ∧
    (modeWord m why d).g bDev F.DEV_MODE_CAUSE = why % 256 ∧ (modeWord m why d).g bDev F.DEV_MODE_TRANS = 0 ∧ (modeWord m why d).g bDev F.DEV_MODE_CHARGE_DONE = 0 := by
  refine ⟨?_, ?_, ?_, ?_⟩ <;> unfold modeWord <;> simp (disch := decide) only [Dev.g_p_disjoint, Dev.g_p_self] <;> rfl

theorem takeDue_mode (m : Mode) (why : Nat) (s : Dev) (hw : why < 256) :
    let e := takeDue (.mode m why) s
    e.mode = m ∧ e.g bDev F.DEV_MODE_PREV = s.mode.code ∧ e.g bDev F.DEV_MODE_CAUSE = why ∧ e.trans = false ∧ e.gb bDev F.DEV_MODE_CHARGE_DONE = false ∧
    e.ms.entered = s.tick ∧ e.ms.stop = none ∧ e.tick = s.tick := by
  intro e
  have h : (entered m why (modeWord m why s)).Steady e := enterMode_steady m why s
  clear_value e
  obtain ⟨hprev, hcause, htrans, hdone⟩ := modeWord_fields m why s
  have hg (f : Fld) (h1 : bDev + f.off < 0x10000) (h2 : bDev + f.off ≠ bDev + F.DEV_IRQ_STATUS.off) : e.g bDev f = (modeWord m why s).g bDev f :=
    (h.g h1 h2).trans (entered_g m why _ f)
  have htick : (modeWord m why s).tick = s.tick := by rw [modeWord, Dev.p_tick, Dev.p_tick, Dev.p_tick, Dev.p_tick, Dev.p_tick]
  have hcode : s.mode.code % 8 = s.mode.code := by cases s.mode <;> rfl
  refine ⟨?_, ?_, ?_, ?_, ?_, ?_, ?_, ?_⟩
  · rw [Dev.mode, hg F.DEV_MODE_MODE (by decide) (by decide)]
    exact modeWord_mode m why s
  · rw [hg F.DEV_MODE_PREV (by decide) (by decide), hprev, hcode]
  · rw [hg F.DEV_MODE_CAUSE (by decide) (by decide), hcause, Nat.mod_eq_of_lt hw]
  · rw [Dev.trans, Dev.gb, hg F.DEV_MODE_TRANS (by decide) (by decide), htrans]
    rfl
  · rw [Dev.gb, hg F.DEV_MODE_CHARGE_DONE (by decide) (by decide), hdone]
    rfl
  · rw [h.ms, entered_entered, htick]
  · rw [h.ms, entered_stop]
  · rw [h.tick, entered_tick, htick]

end Sys2Proof.Machine
end

section
/-! SUPPORT. The write of a host to a register that acts, for DEV_MODE_REQ and DEV_MODE_CFG (R75, R82). -/

namespace Sys2Proof.Machine

/-! ### The write of a host to a register that acts -/

/-- The located write of a host. -/
def hostWr (fam : Fam) (i off a : Nat) (r : RegD) (v : Word) (d : Dev) : Wr :=
  { loc := ⟨fam, i, off, some r⟩, b := a - off, k := (off - r.off) / 4, old := d.rd a, new := merge r (d.rd a) v 4294967295#32, act := v &&& 4294967295#32 }

/-- The module with the word of a host's write stored. -/
def stored (a : Nat) (r : RegD) (v : Word) (d : Dev) : Dev := d.wr a (merge r (d.rd a) v 4294967295#32)

theorem stored_rd_ne {a b : Nat} (r : RegD) (v : Word) (d : Dev) (h : b ≠ a) : (stored a r v d).rd b = d.rd b := Dev.rd_wr_ne d _ h

theorem stored_rest (a : Nat) (r : RegD) (v : Word) (d : Dev) : (stored a r v d).rest = d.rest := rfl

/-- A field that is RW reads as it was written. -/
theorem stored_g {b : Nat} {f : Fld} {r : RegD} (v : Word) (d : Dev) (hw : f.lo + f.w ≤ 32)
    (h : ∀ i < f.w, r.rw.testBit (f.lo + i) = true ∧ r.w1c.testBit (f.lo + i) = false) : (stored (b + f.off) r v d).g b f = getBits v f.lo f.w := by
  rw [Dev.g, stored, Dev.rd_wr_self, getBits_merge _ _ hw h]

theorem storeWord_plain {via : Via} {r : RegD} {w : Wr} {d : Dev} (hc : r.cls ≠ .c) (hf : w.loc.fam ≠ .clk) : storeWord via r w d = (0, d.wr w.addr w.new) := by
  have h1 : (r.cls == .c) = false := by simpa using hc
  have h2 : (w.loc.fam == .clk) = false := by simpa using hf
  simp only [storeWord, h1, h2, Bool.false_and, Bool.and_false, Bool.false_eq_true, if_false, Dev.on_false]

/-- An accepted write to a register of class L or of no class that holds no enable bit: the word is stored, then the write acts. -/
theorem hostWriteDev_acts {p : Path} {fam : Fam} {i off a : Nat} {r : RegD} {v : Word} {d : Dev} (hl : locate a = some ⟨fam, i, off, some r⟩) (ha : off ≤ a)
    (hs : r.cls ≠ .s) (hc : r.cls ≠ .c) (hf : fam ≠ .clk) (hb : busReason (.host p) (locate a) a d = 0) (hv : valueReason (hostWr fam i off a r v d) d = 0)
    (he : enableOf (hostWr fam i off a r v d) = none) :
    (hostWriteDev p a v d).2 = writeEffect2 (hostWr fam i off a r v d) d (writeEffect1 (hostWr fam i off a r v d) d (stored a r v d)) := by
  have haddr : (hostWr fam i off a r v d).addr = a := Nat.sub_add_cancel ha
  have hst := storeWord_plain (via := .host p) (w := hostWr fam i off a r v d) (d := d) (r := r) hc hf
  rw [haddr] at hst
  have hreg := regWrite_eq (.host p) r (hostWr fam i off a r v d) 4294967295#32 d
  rw [if_neg (by simp [hs]), if_neg (by simp [hv]), he] at hreg
  simp only [plainStore, hst, bne_self_eq_false, Bool.false_eq_true, if_false] at hreg
  have hw : writeDev (.host p) a v 4294967295#32 d = regWrite (.host p) r (hostWr fam i off a r v d) 4294967295#32 d := by
    rw [hl] at hb
    simp only [writeDev, hl, hb, bne_self_eq_false, Bool.false_eq_true, if_false]
    rfl
  simp only [hostWriteDev, hw, hreg, if_true]
  rfl

/-! ### The registers of a mode request and of the limits -/

/-- The row of DEV_MODE_REQ. -/
def modeReqRow : RegD := ⟨0x1C, 1, 0x1, 0x7, 0x0, 0x0, 0x0, .l⟩

/-- The row of DEV_MODE_CFG. -/
def modeCfgRow : RegD := ⟨0x20, 1, 0x3C147D0, 0x1FFFFFFF, 0x0, 0x0, 0x0, .l⟩

theorem locate_modeReq : locate (bDev + F.DEV_MODE_REQ.off) = some ⟨.dev, 0, 0x1C, some modeReqRow⟩ := by decide

theorem locate_modeCfg : locate (bDev + F.DEV_MODE_CFG.off) = some ⟨.dev, 0, 0x20, some modeCfgRow⟩ := by decide

/-- The bus passes the write of a register whose slot, if it lies in one, is occupied. -/
theorem busReason_owned {p : Path} {a off : Nat} {r : RegD} {fam : Fam} {i : Nat} {d : Dev} (hl : locate a = some ⟨fam, i, off, some r⟩)
    (hs : ∀ o, slotOfLoc ⟨fam, i, off, some r⟩ = some o → d.occupied o = true) (hm : mailboxReg a = false) (hr : Responsive d) :
    busReason (.host p) (locate a) a d = 0 := by
  obtain ⟨-, -, -, hrom, hrole, hcmd⟩ := hr
  have hst : (d.role == .standby) = false := by simpa using hrole
  rw [hl]
  cases h : slotOfLoc ⟨fam, i, off, some r⟩ with
  | none => simp [busReason, h, hcmd, hrom, hst, hm]
  | some o => simp [busReason, h, hs o h, hcmd, hrom, hst, hm]

/-- The module with a mode request stored. -/
def asked (v : Word) (d : Dev) : Dev := stored (bDev + F.DEV_MODE_REQ.off) modeReqRow v d

theorem hostWriteDev_modeReq {p : Path} {v : Word} {d : Dev} (hr : Responsive d) :
    (hostWriteDev p (bDev + F.DEV_MODE_REQ.off) v d).2 = modeRequest (getBits v 0 3) (asked v d) := by
  have ht : (asked v d).g bDev F.DEV_MODE_REQ_TARGET = getBits v 0 3 := stored_g (b := bDev) (f := F.DEV_MODE_REQ_TARGET) v d (by decide) (by decide)
  rw [hostWriteDev_acts locate_modeReq (by decide) (by decide) (by decide) (by decide) (busReason_owned locate_modeReq (fun o h => nomatch h) (by decide) hr) rfl rfl, ← ht]
  rfl

/-- The module with the limits stored. -/
def limited (v : Word) (d : Dev) : Dev := stored (bDev + F.DEV_MODE_CFG.off) modeCfgRow v d

theorem limited_fields (v : Word) (d : Dev) : (limited v d).g bDev F.DEV_MODE_CFG_RIDE_MAX = getBits v 0 12 ∧
    (limited v d).g bDev F.DEV_MODE_CFG_RIDE_SETTLE = getBits v 12 8 ∧ (limited v d).g bDev F.DEV_MODE_CFG_CHARGE_MAX = getBits v 20 8 ∧
    (limited v d).g bDev F.DEV_MODE_CFG_AUTO_RUN = getBits v 28 1 :=
  ⟨stored_g (b := bDev) (f := F.DEV_MODE_CFG_RIDE_MAX) v d (by decide) (by decide), stored_g (b := bDev) (f := F.DEV_MODE_CFG_RIDE_SETTLE) v d (by decide) (by decide),
    stored_g (b := bDev) (f := F.DEV_MODE_CFG_CHARGE_MAX) v d (by decide) (by decide), stored_g (b := bDev) (f := F.DEV_MODE_CFG_AUTO_RUN) v d (by decide) (by decide)⟩

theorem writeEffect_modeCfg (v : Word) (d e : Dev) : writeEffect2 (hostWr .dev 0 0x20 (bDev + F.DEV_MODE_CFG.off) modeCfgRow v d) d
    (writeEffect1 (hostWr .dev 0 0x20 (bDev + F.DEV_MODE_CFG.off) modeCfgRow v d) d e) = newLimits e := by
  simp [writeEffect2, writeEffect1, hostWr, Wr.is, modeCfgRow, F.DEV_MODE_REQ, F.DEV_MODE_CFG]

theorem hostWriteDev_modeCfg {p : Path} {v : Word} {d : Dev} (hr : Responsive d) (h1 : 10 ≤ getBits v 0 12) (h2 : getBits v 0 12 ≤ 4000) (h3 : getBits v 12 8 ≠ 0)
    (h4 : getBits v 20 8 ≠ 0) : (hostWriteDev p (bDev + F.DEV_MODE_CFG.off) v d).2 = newLimits (limited v d) := by
  have hm {lo w : Nat} (hw : lo + w ≤ 32) (h : ∀ i < w, modeCfgRow.rw.testBit (lo + i) = true ∧ modeCfgRow.w1c.testBit (lo + i) = false) :
      getBits (hostWr .dev 0 0x20 (bDev + F.DEV_MODE_CFG.off) modeCfgRow v d).new lo w = getBits v lo w := getBits_merge _ v hw h
  have hmax : (hostWr .dev 0 0x20 (bDev + F.DEV_MODE_CFG.off) modeCfgRow v d).f F.DEV_MODE_CFG_RIDE_MAX = getBits v 0 12 := hm (by decide) (by decide)
  have hset : (hostWr .dev 0 0x20 (bDev + F.DEV_MODE_CFG.off) modeCfgRow v d).f F.DEV_MODE_CFG_RIDE_SETTLE = getBits v 12 8 := hm (by decide) (by decide)
  have hcha : (hostWr .dev 0 0x20 (bDev + F.DEV_MODE_CFG.off) modeCfgRow v d).f F.DEV_MODE_CFG_CHARGE_MAX = getBits v 20 8 := hm (by decide) (by decide)
  have hv1 : valueReason1 (hostWr .dev 0 0x20 (bDev + F.DEV_MODE_CFG.off) modeCfgRow v d) d = 0 := by
    unfold valueReason1
    rw [hmax, hset, hcha]
    simp [hostWr, h3, h4, Nat.not_lt.mpr h1, Nat.not_lt.mpr h2]
  have hv : valueReason (hostWr .dev 0 0x20 (bDev + F.DEV_MODE_CFG.off) modeCfgRow v d) d = 0 := by
    rw [valueReason, hv1]
    rfl
  rw [hostWriteDev_acts locate_modeCfg (by decide) (by decide) (by decide) (by decide) (busReason_owned locate_modeCfg (fun o h => nomatch h) (by decide) hr) hv rfl]
  exact writeEffect_modeCfg v d _

end Sys2Proof.Machine
end

section
/-! SUPPORT. Mode requests and the stop sequence (R73, R75, R76). -/

namespace Sys2Proof.Machine

/-- What a host's write to a register does, as a command serves it. -/
theorem hostWrite_serves {p : Path} {a : Nat} {v : Word} {s : State} {P : Dev → Nv → Dev → Prop} (hp : HostReady p s) (ha : a % 4 = 0) (ho : a ≠ bDev + F.CMD_OP.off)
    (h : P (found s.d) s.nv (hostWriteDev p a v (found s.d)).2) : Serves (.next (hostWrite p a v s)) s P := by
  obtain ⟨x, hx⟩ := hostWrite_acts p a v s hp ha ho
  exact ⟨found s.d, s.nv, _, x, argsOnly_found s.d, (argsOnly_found s.d).ready hp.1, congrArg Host.Outcome.next hx, h⟩

/-! ### The rows of R76 -/

/-- The module `e` reads as `d` in the registers that a mode request looks at. -/
def SameModes (d e : Dev) : Prop :=
  e.ms.changed = d.ms.changed ∧ ∀ a, a ≠ bDev + F.DEV_MODE_REQ.off → (a < 0x508000 ∨ 0x520000 ≤ a) → e.rd a = d.rd a

theorem SameModes.g {d e : Dev} (h : SameModes d e) (b : Nat) (f : Fld) (h1 : b + f.off ≠ bDev + F.DEV_MODE_REQ.off)
    (h2 : b + f.off < 0x508000 ∨ 0x520000 ≤ b + f.off) : e.g b f = d.g b f := by simp only [Dev.g, h.2 _ h1 h2]

theorem SameModes.mode {d e : Dev} (h : SameModes d e) : e.mode = d.mode := by
  simp only [Dev.mode, h.g bDev F.DEV_MODE_MODE (by decide) (by decide)]

theorem SameModes.outcome {d e : Dev} (h : SameModes d e) (t : Nat) : modeOutcome t e = modeOutcome t d := by
  have hrole : e.role = d.role := by simp only [Dev.role, h.g bSs F.SS_STATUS_ROLE (by decide) (by decide)]
  have howns : e.owns = d.owns := by simp only [Dev.owns, hrole]
  have htrans : e.trans = d.trans := by simp only [Dev.trans, Dev.gb, h.g bDev F.DEV_MODE_TRANS (by decide) (by decide)]
  have hdone : e.gb bDev F.DEV_MODE_CHARGE_DONE = d.gb bDev F.DEV_MODE_CHARGE_DONE := by
    simp only [Dev.gb, h.g bDev F.DEV_MODE_CHARGE_DONE (by decide) (by decide)]
  have hdrive : e.driveMode = d.driveMode := by simp only [Dev.driveMode, h.mode]
  have henable : e.gb bDev F.DEV_ENABLE = d.gb bDev F.DEV_ENABLE := by simp only [Dev.gb, h.g bDev F.DEV_ENABLE (by decide) (by decide)]
  have hshed : e.shed = d.shed := by simp only [Dev.shed, h.g bPwr F.PWR_SHED_STAGE (by decide) (by decide)]
  have hcharge : chargeReason e = chargeReason d := by
    simp only [chargeReason, howns, henable, hshed, h.g bPwr F.PWR_STATE_STATE (by decide) (by decide)]
  simp only [modeOutcome, howns, htrans, h.1, h.mode, hdrive, hcharge, hdone]

theorem modeOutcome_lt (t : Nat) (d : Dev) : modeOutcome t d < 65536 := by
  have hc : chargeReason d < 65536 := by
    unfold chargeReason
    split_ifs <;> decide
  unfold modeOutcome
  split_ifs
  · decide
  · decide
  · decide
  · decide
  · decide
  · decide
  · exact hc
  · decide
  · decide

/-- R76 for a module with no request that waits on another and that owns its mode. -/
theorem modeOutcome_rows (s : Dev) (ho : s.owns = true) (ht : s.trans = false) (hc : s.ms.changed = false) :
    (s.mode = .hold → s.gb bDev F.DEV_ENABLE = true → s.g bPwr F.PWR_STATE_STATE < 2 → s.shed < 3 → modeOutcome 2 s = 0) ∧
    (s.mode = .charge → s.gb bDev F.DEV_MODE_CHARGE_DONE = true → modeOutcome 3 s = 0) ∧ (s.mode = .charge → s.gb bDev F.DEV_MODE_CHARGE_DONE = false → modeOutcome 3 s = 0x0108) ∧
    (s.driveMode = true → modeOutcome 1 s = 0 ∧ modeOutcome 5 s = 0) ∧ (s.mode = .hold → modeOutcome 3 s = 0x0109 ∧ modeOutcome 5 s = 0x0109) := by
  have rows (t : Nat) (h : t ∈ [1, 2, 3, 5]) : modeOutcome t s = if t = s.mode.code then 0
      else if !((s.mode == .hold && t == 2) || (s.mode == .charge && t == 3) || (s.driveMode && (t == 1 || t == 5))) then 0x0109
      else if t = 2 then chargeReason s
      else if t = 3 && !s.gb bDev F.DEV_MODE_CHARGE_DONE then 0x0108
      else 0 := by
    have hin : (t == 1 || t == 2 || t == 3 || t == 5) = true := by
      simp only [List.mem_cons, List.not_mem_nil, or_false] at h
      rcases h with rfl | rfl | rfl | rfl <;> rfl
    simp only [modeOutcome, hin, ho, ht, hc, Bool.not_true, Bool.false_eq_true, if_false]
  refine ⟨fun hm he hp hs => ?_, fun hm hd => ?_, fun hm hd => ?_, fun hd => ⟨?_, ?_⟩, fun hm => ⟨?_, ?_⟩⟩
  · rw [rows 2 (by decide)]
    simp [hm, Mode.code, chargeReason, ho, he, Nat.not_le.mpr hp, Nat.not_le.mpr hs]
  · rw [rows 3 (by decide)]
    simp [hm, Mode.code, hd]
  · rw [rows 3 (by decide)]
    simp [hm, Mode.code, hd]
  · rw [rows 1 (by decide)]
    simp [hd]
  · rw [rows 5 (by decide)]
    simp [hd]
  · rw [rows 3 (by decide)]
    simp [hm, Mode.code, Dev.driveMode]
  · rw [rows 5 (by decide)]
    simp [hm, Mode.code, Dev.driveMode]

/-! ### A mode request (R75, R76) -/

/-- The outcome of a request, in DEV_MODE_REQ.RESULT. -/
def answered (r : Nat) (d : Dev) : Dev := d.p bDev F.DEV_MODE_REQ_RESULT r

theorem answered_mode (r : Nat) (d : Dev) : (answered r d).mode = d.mode := by
  rw [Dev.mode, answered, Dev.g_p_ne _ _ (by decide), Dev.mode]

/-- What an accepted request for another mode begins. -/
def begins (t : Nat) (d : Dev) : Dev :=
  match t with
  | 1 => beginStop d
  | 2 => d.post (.mode .charge 0x01)
  | 3 => d.post (.mode .run 0x01)
  | _ => d.post (.mode .safe 0x01)

theorem modeRequest_eq (t : Nat) (d : Dev) : modeRequest t d =
    if (modeOutcome t d != 0 || decide (t = (answered (modeOutcome t d) d).mode.code)) = true then answered (modeOutcome t d) d
    else begins t (answered (modeOutcome t d) d) := rfl

theorem modeRequest_still {t : Nat} {d : Dev} (h : modeOutcome t d ≠ 0 ∨ t = d.mode.code) : modeRequest t d = answered (modeOutcome t d) d := by
  rw [modeRequest_eq, answered_mode, if_pos (by simpa using h)]

theorem modeRequest_begins {t : Nat} {d : Dev} (h0 : modeOutcome t d = 0) (ht : t ≠ d.mode.code) : modeRequest t d = begins t (answered 0 d) := by
  rw [modeRequest_eq, answered_mode, if_neg (by simp [h0, ht]), h0]

theorem sameModes_found (d : Dev) : SameModes d (found d) := ⟨congrArg ModeSt.changed (by rw [found, refreshElig_ms, refreshCan_ms]), fun _ _ h => found_rd_far d h⟩

theorem sameModes_asked (v : Word) (d : Dev) : SameModes d (asked v (found d)) :=
  ⟨(sameModes_found d).1, fun _ h1 h2 => (stored_rd_ne _ v _ h1).trans (found_rd_far d h2)⟩

theorem asked_rd (v : Word) (d : Dev) {a : Nat} (h : a ≠ bDev + F.DEV_MODE_REQ.off) : (asked v d).rd a = d.rd a := stored_rd_ne _ v d h

/-- A request that begins nothing. -/
theorem answered_keeps (r : Nat) (v : Word) (d : Dev) : KeepsRegs d (answered r (asked v d)) [bDev + F.DEV_MODE_REQ.off] := by
  intro b ha _
  have h : b ≠ bDev + F.DEV_MODE_REQ.off := fun e => ha (List.mem_singleton.mpr e)
  rw [answered, Dev.rd_p_ne _ F.DEV_MODE_REQ_RESULT _ h, asked_rd v d h]

theorem answered_result {r : Nat} (hr : r < 65536) (d : Dev) : (answered r d).g bDev F.DEV_MODE_REQ_RESULT = r := by
  rw [answered, Dev.g_p_self _ _ _ _ (by decide)]
  exact Nat.mod_eq_of_lt hr

theorem answered_rest (r : Nat) (v : Word) (d : Dev) : (answered r (asked v d)).rest = d.rest := by
  rw [answered, p_rest, asked, stored_rest]

theorem devModeReq_refused (p : Path) (v : Word) (s : State) (hp : HostReady p s) (hr : modeOutcome (getBits v 0 3) s.d ≠ 0) :
    Serves (exec (.devModeReq p v) s) s (fun d nv e =>
      nv = s.nv ∧ e.g bDev F.DEV_MODE_REQ_RESULT = modeOutcome (getBits v 0 3) s.d ∧ e.rest = d.rest ∧ KeepsRegs d e [bDev + F.DEV_MODE_REQ.off]) := by
  refine hostWrite_serves hp (by decide) (by decide) ?_
  have ho := (sameModes_asked v s.d).outcome (getBits v 0 3)
  rw [hostWriteDev_modeReq ((argsOnly_found s.d).ready hp.1), modeRequest_still (.inl (ho ▸ hr)), ho]
  exact ⟨rfl, answered_result (modeOutcome_lt _ _) _, answered_rest _ v _, answered_keeps _ v _⟩

/-! ### The stop sequence begins (R73) -/

/-- The module with TRANS and the echo deadline of the stop sequence. -/
def stopBegun (d : Dev) : Dev :=
  { d.p bDev F.DEV_MODE_TRANS 1 with ms := { d.ms with stop := some (d.tick + 4096 + 2 * dMax (d.p bDev F.DEV_MODE_TRANS 1)) } }

theorem beginStop_steady (d : Dev) : (stopBegun d).Steady (beginStop d) :=
  Dev.steady_each (fun n e => (steady_sendFences n _ e).trans (Dev.steady_setNode _ _ _)) (enabledNodes (stopBegun d)) (stopBegun d)

theorem each_due {α : Type} {f : α → Dev → Dev} (h : ∀ x d, (f x d).due = d.due) (l : List α) (d : Dev) : (d.each l f).due = d.due := each_field l f Dev.due h d

theorem sendFences_due (n : Nat) (es : List Edge) (d : Dev) : (sendFences n es d).due = d.due := by
  have hedge (p : Nat) (e : Edge) (d : Dev) : (sendEdge p e d).due = d.due := by
    unfold sendEdge
    simp only []
    split
    · rfl
    · split <;> rfl
  unfold sendFences sendFencesFrom
  refine (each_due ?_ es _).trans (each_due ?_ _ d)
  · intro e x
    refine (each_due ?_ _ _).trans (hedge _ e x)
    exact fun _ _ => rfl
  · exact fun _ _ => rfl

theorem beginStop_due (d : Dev) : (beginStop d).due = d.due :=
  each_due (f := fun n e =>
    let es := formEdges e n (formOf (e.g (bNode n) F.NODE_HOLD_SAFE)) false (earliest e (e.portOf n))
    (sendFences n es e).setNode n (fun x => { x with stopAwait := es.map (fun e => (e.leg, e.tExec)) }))
    (fun n e => sendFences_due n _ e) (enabledNodes (stopBegun d)) (stopBegun d)

theorem dMax_congr {d e : Dev} (ho : e.ms.occ = d.ms.occ) (hr : ∀ a, 0x10000 ≤ a → a < 0x508000 → e.rd a = d.rd a) : dMax e = dMax d := by
  have hn : enabledNodes e = enabledNodes d := by
    refine List.filter_congr fun n hn => enabled_congr ho (hr _ ?_ ?_)
    · simp only [enableReg, bNode]
      omega
    · have : n < 96 := by simpa [upto] using hn
      simp only [enableReg, bNode, F.NODE_ENABLE]
      omega
  have hb {n : Nat} (hn : n ∈ enabledNodes d) : n < 96 := by
    have := List.mem_of_mem_filter hn
    simpa [upto] using this
  rw [dMax, dMax, hn]
  congr 1
  refine List.map_congr_left fun n hn => ?_
  have h96 := hb hn
  have hp : e.portOf n = d.portOf n := by
    simp only [Dev.portOf, Dev.g]
    rw [hr _ (by simp only [bNode]; omega) (by simp only [bNode, F.NODE_CFG_PORT]; omega)]
  have hlt : d.portOf n < 128 := Nat.mod_lt _ (by decide)
  rw [hp, Dev.g, Dev.g, hr _ (by simp only [bPort]; omega) (by simp only [bPort, F.LNK_PCFG_DMAX]; omega)]

end Sys2Proof.Machine
end

section
/-! SUPPORT. Accepted mode requests and the time limits of the modes (R68, R69, R73 to R75, R82). -/

namespace Sys2Proof.Machine

theorem stopBegun_regs (d : Dev) : (stopBegun d).regs = (d.p bDev F.DEV_MODE_TRANS 1).regs := rfl

theorem stopBegun_stop (d : Dev) : (stopBegun d).ms.stop = some (d.tick + 4096 + 2 * dMax (d.p bDev F.DEV_MODE_TRANS 1)) := rfl

theorem beginStop_g (d : Dev) {f : Fld} (h1 : bDev + f.off < 0x10000) (h2 : bDev + f.off ≠ bDev + F.DEV_IRQ_STATUS.off) :
    (beginStop d).g bDev f = (d.p bDev F.DEV_MODE_TRANS 1).g bDev f := by
  rw [(beginStop_steady d).g h1 h2, Dev.g_congr (stopBegun_regs d)]

theorem beginStop_trans (d : Dev) : (beginStop d).trans = true := by
  rw [Dev.trans, Dev.gb, beginStop_g d (by decide) (by decide), Dev.g_p_self _ _ _ _ (by decide)]
  rfl

theorem beginStop_mode (d : Dev) : (beginStop d).mode = d.mode := by
  rw [Dev.mode, beginStop_g d (by decide) (by decide), Dev.g_p_disjoint (f := F.DEV_MODE_TRANS) (e := F.DEV_MODE_MODE) _ _ _ rfl (by decide) (by decide), Dev.mode]

theorem beginStop_result (d : Dev) : (beginStop d).g bDev F.DEV_MODE_REQ_RESULT = d.g bDev F.DEV_MODE_REQ_RESULT := by
  rw [beginStop_g d (by decide) (by decide), Dev.g_p_ne _ _ (by decide)]

theorem beginStop_stop (d : Dev) : (beginStop d).ms.stop = some (d.tick + 4096 + 2 * dMax d) := by
  have h : dMax (d.p bDev F.DEV_MODE_TRANS 1) = dMax d := by
    refine dMax_congr (congrArg ModeSt.occ (Dev.p_ms d _ _ _)) fun a ha _ => Dev.rd_p_ne d F.DEV_MODE_TRANS 1 ?_
    simp only [bDev, F.DEV_MODE_TRANS]
    omega
  rw [(beginStop_steady d).ms, stopBegun_stop, h]

theorem begins_result (t : Nat) (d : Dev) : (begins t d).g bDev F.DEV_MODE_REQ_RESULT = d.g bDev F.DEV_MODE_REQ_RESULT := by
  unfold begins
  split
  · exact beginStop_result d
  · rfl
  · rfl
  · rfl

theorem begins_mode {m : Mode} (hm : m ∈ [Mode.charge, .run, .safe]) (d : Dev) : begins m.code d = d.post (.mode m 0x01) := by
  simp only [List.mem_cons, List.not_mem_nil, or_false] at hm
  rcases hm with rfl | rfl | rfl <;> rfl

theorem hold_of_code {m : Mode} (h : m.code = 1) : m = .hold := by
  cases m <;> simp [Mode.code] at h ⊢

theorem devModeReq_accepted (p : Path) (v : Word) (s : State) (hp : HostReady p s) (hr : modeOutcome (getBits v 0 3) s.d = 0) :
    Serves (exec (.devModeReq p v) s) s (fun d nv e =>
    nv = s.nv ∧ e.g bDev F.DEV_MODE_REQ_RESULT = 0 ∧
    (getBits v 0 3 = s.d.mode.code → e.rest = d.rest ∧ KeepsRegs d e [bDev + F.DEV_MODE_REQ.off]) ∧
    (getBits v 0 3 ≠ s.d.mode.code → ∀ m, m ∈ [Mode.charge, .run, .safe] → getBits v 0 3 = m.code →
      e.rest = { d.rest with due := [Due.mode m 0x01] } ∧ KeepsRegs d e [bDev + F.DEV_MODE_REQ.off]) ∧
    (getBits v 0 3 = 1 → s.d.mode ≠ .hold → e.trans = true ∧ e.mode = s.d.mode ∧ e.ms.stop = some (s.d.tick + 4096 + 2 * dMax s.d) ∧ e.due = [])) := by
  refine hostWrite_serves hp (by decide) (by decide) ?_
  have hsame := sameModes_asked v s.d
  have ho := hsame.outcome (getBits v 0 3)
  have hresult := answered_result (show 0 < 65536 by decide) (asked v (found s.d))
  rw [hostWriteDev_modeReq ((argsOnly_found s.d).ready hp.1)]
  by_cases ht : getBits v 0 3 = s.d.mode.code
  · rw [modeRequest_still (.inr (hsame.mode ▸ ht)), ho, hr]
    refine ⟨rfl, hresult, fun _ => ⟨answered_rest 0 v _, answered_keeps 0 v _⟩, fun h => absurd ht h, fun h1 hm => ?_⟩
    exact absurd (hold_of_code (ht.symm.trans h1)) hm
  · rw [modeRequest_begins (ho.trans hr) (hsame.mode ▸ ht)]
    have hdue : (found s.d).due = [] := (found_quiet hp.1.1).1
    have hx : (answered 0 (asked v (found s.d))).due = [] := by
      rw [answered, Dev.p_due, asked, stored, Dev.wr_due, hdue]
    refine ⟨rfl, (begins_result _ _).trans hresult, fun h => absurd h ht, fun _ m hm hc => ?_, fun h1 _ => ?_⟩
    · have hpost (x : Dev) (w : Due) : (x.post w).rest = { x.rest with due := x.due ++ [w] } := rfl
      have hpost_rd (x : Dev) (w : Due) (a : Nat) : (x.post w).rd a = x.rd a := rfl
      rw [hc, begins_mode hm]
      refine ⟨?_, fun a ha ho => (hpost_rd _ _ a).trans (answered_keeps 0 v _ a ha ho)⟩
      rw [hpost, hx, answered_rest]
      rfl
    · have hb : begins (getBits v 0 3) (answered 0 (asked v (found s.d))) = beginStop (answered 0 (asked v (found s.d))) := by rw [h1]; rfl
      have htick : (answered 0 (asked v (found s.d))).tick = s.d.tick := by
        rw [answered, Dev.p_tick, asked, stored, Dev.wr_tick, found, refreshElig_tick, refreshCan_tick]
      have hms : (answered 0 (asked v (found s.d))).ms = s.d.ms := by
        rw [answered, Dev.p_ms, asked, stored, Dev.wr_ms, found, refreshElig_ms, refreshCan_ms]
      have hd : dMax (answered 0 (asked v (found s.d))) = dMax s.d := by
        refine dMax_congr (congrArg ModeSt.occ hms) fun a h1 h2 => ?_
        have hne : a ≠ bDev + F.DEV_MODE_REQ.off := by simp only [bDev, F.DEV_MODE_REQ]; omega
        rw [answered, Dev.rd_p_ne _ F.DEV_MODE_REQ_RESULT _ hne, asked_rd v _ hne, found_rd_far _ (.inl h2)]
      rw [hb]
      refine ⟨beginStop_trans _, ?_, ?_, ?_⟩
      · rw [beginStop_mode, answered_mode, hsame.mode]
      · rw [beginStop_stop, htick, hd]
      · rw [beginStop_due, hx]

/-! ### The time limits (R68, R69, R73, R82) -/

theorem stopSequence_waits {d : Dev} (h : ∀ t, d.ms.stop = some t → d.tick < t) : stopEnd d = d := by
  have hn : d.ms.stop.any (reached d) = false := by
    cases hs : d.ms.stop with
    | none => rfl
    | some t => simpa [reached] using h t hs
  rw [stopEnd, hn, if_neg Bool.false_ne_true]

theorem rideSettled_goes {d : Dev} {t : Nat} (hm : d.mode = .ride) (hs : stopping d = false) (hr : rideActive d = false) (hf : d.ms.settleFrom = some t)
    (h1 : t + rideSettle d ≤ d.tick) (h2 : t + rideSettle d ≤ d.ms.entered + rideMax d) : rideSettled d = d.post (.mode .run 0x06) := by
  have hd : d.ms.settleFrom.any (fun t => reached d (t + rideSettle d) && t + rideSettle d ≤ d.ms.entered + rideMax d) = true := by
    rw [hf, Option.any_some]
    simp [reached, h1, h2]
  exact if_pos (by rw [hm, hs, hr, hd]; rfl)

theorem rideSettled_waits {d : Dev} (h : ∀ t, d.ms.settleFrom = some t → d.tick < t + rideSettle d) : rideSettled d = d := by
  have hd : d.ms.settleFrom.any (fun t => reached d (t + rideSettle d) && t + rideSettle d ≤ d.ms.entered + rideMax d) = false := by
    cases hs : d.ms.settleFrom with
    | none => rfl
    | some t =>
      rw [Option.any_some]
      simp [reached, h t hs]
  exact if_neg (by rw [hd, Bool.and_false]; decide)

theorem rideMaxElapsed_goes {d : Dev} (hm : d.mode = .ride) (hs : stopping d = false) (h : d.ms.entered + rideMax d ≤ d.tick) :
    rideMaxElapsed d = d.post (.mode (if rideActive d then .safe else .run) 0x07) := by
  cases hr : rideActive d <;> simp [rideMaxElapsed, hm, hs, hr, reached, h]

theorem rideMaxElapsed_waits {d : Dev} (h : d.mode ≠ .ride ∨ d.tick < d.ms.entered + rideMax d) : rideMaxElapsed d = d := by
  rcases h with h | h <;> simp [rideMaxElapsed, reached, h]

theorem chargeMaxElapsed_goes {d : Dev} (hm : d.mode = .charge) (hs : stopping d = false) (hd : d.gb bDev F.DEV_MODE_CHARGE_DONE = false)
    (h : d.ms.entered + chargeMax d ≤ d.tick) : chargeMaxElapsed d = d.post (.mode .safe 0x08) := by
  simp [chargeMaxElapsed, hm, hs, hd, reached, h]

theorem chargeMaxElapsed_waits {d : Dev} (h : d.mode ≠ .charge ∨ d.tick < d.ms.entered + chargeMax d) : chargeMaxElapsed d = d := by
  rcases h with h | h <;> simp [chargeMaxElapsed, reached, h]

theorem chargeRide_goes {d : Dev} {t : Nat} (hm : d.mode = .charge) (hs : stopping d = false) (hf : d.ms.rideFrom = some t) (h : t + rideMax d ≤ d.tick) :
    chargeRide d = d.post (.mode .safe 0x0D) := by
  have hd : d.ms.rideFrom.any (fun t => reached d (t + rideMax d)) = true := by
    rw [hf, Option.any_some]
    simpa [reached] using h
  exact if_pos (by rw [hm, hs, hd]; rfl)

theorem chargeRide_waits {d : Dev} (h : d.mode ≠ .charge ∨ ∀ t, d.ms.rideFrom = some t → d.tick < t + rideMax d) : chargeRide d = d := by
  rcases h with h | h
  · exact if_neg (by simp [h])
  · have hd : d.ms.rideFrom.any (fun t => reached d (t + rideMax d)) = false := by
      cases hs : d.ms.rideFrom with
      | none => rfl
      | some t =>
        rw [Option.any_some]
        simpa [reached] using h t hs
    exact if_neg (by rw [hd, Bool.and_false]; decide)

/-- A command of the module alone. -/
theorem upd_does {s : State} {f : Dev → Dev} {P : Dev → Prop} (h : P (f s.d.fresh)) : Does (.next (s.upd f)) s P := ⟨f s.d.fresh, rfl, h⟩

theorem rideActive_fresh (d : Dev) : rideActive d.fresh = rideActive d := rfl

theorem rideSettleElapsed_does (s : State) (t : Nat) (hm : s.d.mode = .ride) (hs : stopping s.d = false) (hr : rideActive s.d = false) (hf : s.d.ms.settleFrom = some t)
    (h1 : t + rideSettle s.d ≤ s.d.tick) (h2 : t + rideSettle s.d ≤ s.d.ms.entered + rideMax s.d) :
    Does (exec .rideSettleElapsed s) s (fun e => e = { s.d.fresh with due := s.d.due ++ [Due.mode .run 0x06] }) :=
  upd_does (rideSettled_goes (d := s.d.fresh) hm hs ((rideActive_fresh s.d).trans hr) hf h1 h2)

theorem rideMaxElapsed_does (s : State) (hm : s.d.mode = .ride) (hs : stopping s.d = false) (h : s.d.ms.entered + rideMax s.d ≤ s.d.tick) :
    Does (exec .rideMaxElapsed s) s (fun e => e = { s.d.fresh with due := s.d.due ++ [Due.mode (if rideActive s.d then .safe else .run) 0x07] }) :=
  upd_does ((rideMaxElapsed_goes (d := s.d.fresh) hm hs h).trans (by rw [rideActive_fresh]; rfl))

theorem chargeMaxElapsed_does (s : State) (hm : s.d.mode = .charge) (hs : stopping s.d = false) (hd : s.d.gb bDev F.DEV_MODE_CHARGE_DONE = false)
    (h : s.d.ms.entered + chargeMax s.d ≤ s.d.tick) :
    Does (exec .chargeMaxElapsed s) s (fun e => e = { s.d.fresh with due := s.d.due ++ [Due.mode .safe 0x08] }) :=
  upd_does (chargeMaxElapsed_goes (d := s.d.fresh) hm hs hd h)

theorem chargeRideTimeout_does (s : State) (t : Nat) (hm : s.d.mode = .charge) (hs : stopping s.d = false) (hf : s.d.ms.rideFrom = some t)
    (h : t + rideMax s.d ≤ s.d.tick) : Does (exec .chargeRideTimeout s) s (fun e => e = { s.d.fresh with due := s.d.due ++ [Due.mode .safe 0x0D] }) :=
  upd_does (chargeRide_goes (d := s.d.fresh) hm hs hf h)

/-- Before its instant none of the five does anything. -/
theorem limits_wait (s : State) (c : Instr) (h : (c = .stopSequenceEnd ∧ ∀ t, s.d.ms.stop = some t → s.d.tick < t) ∨
    (c = .rideSettleElapsed ∧ ∀ t, s.d.ms.settleFrom = some t → s.d.tick < t + rideSettle s.d) ∨
    (c = .rideMaxElapsed ∧ s.d.tick < s.d.ms.entered + rideMax s.d) ∨ (c = .chargeMaxElapsed ∧ s.d.tick < s.d.ms.entered + chargeMax s.d) ∨
    (c = .chargeRideTimeout ∧ ∀ t, s.d.ms.rideFrom = some t → s.d.tick < t + rideMax s.d)) : Does (exec c s) s (fun e => e = s.d.fresh) := by
  rcases h with ⟨rfl, h⟩ | ⟨rfl, h⟩ | ⟨rfl, h⟩ | ⟨rfl, h⟩ | ⟨rfl, h⟩
  · exact upd_does (stopSequence_waits (d := s.d.fresh) h)
  · exact upd_does (rideSettled_waits (d := s.d.fresh) h)
  · exact upd_does (rideMaxElapsed_waits (d := s.d.fresh) (.inr h))
  · exact upd_does (chargeMaxElapsed_waits (d := s.d.fresh) (.inr h))
  · exact upd_does (chargeRide_waits (d := s.d.fresh) (.inr h))

/-! ### The echo deadline of the stop sequence (R73, R74) -/

/-- The event of the node at port `p` whose echo has not come. -/
def lateEvent (p : Nat) : Ev := { src := 0xC0 + p, kind := 0x1007, cause := none, severe := false, safe := false, form := none, time := none, hi := 0, data := [] }

/-- A node whose echo has not come is given up. -/
def giveUp (n : Nat) (d : Dev) : Dev := raise (0xC0 + d.portOf n) 0x1007 (d.setNode n (fun x => { x with stopAwait := [] }))

theorem giveUp_due (n : Nat) (d : Dev) : (giveUp n d).due = d.due ++ [.event (lateEvent (d.portOf n))] := rfl

theorem giveUp_portOf (n m : Nat) (d : Dev) : (giveUp n d).portOf m = d.portOf m := rfl

theorem giveUp_node (n m : Nat) (d : Dev) : ((giveUp n d).node m).stopAwait = if m = n then [] else (d.node m).stopAwait := by
  show (tget (fun _ => nodeSt0) (tset (fun _ => nodeSt0) d.nodes n { d.node n with stopAwait := [] }) m).stopAwait = _
  split
  · rename_i h
    rw [h, tget_tset_self]
  · rename_i h
    rw [tget_tset_ne _ _ _ h]
    rfl

theorem each_giveUp_due (l : List Nat) (d : Dev) : (d.each l giveUp).due = d.due ++ l.map (fun n => Due.event (lateEvent (d.portOf n))) := by
  unfold Dev.each
  induction l generalizing d with
  | nil => simp
  | cons n t ih => simp [ih, giveUp_due, giveUp_portOf]

theorem each_giveUp_node (l : List Nat) (d : Dev) (m : Nat) : ((d.each l giveUp).node m).stopAwait = if m ∈ l then [] else (d.node m).stopAwait := by
  unfold Dev.each
  induction l generalizing d with
  | nil => simp
  | cons n t ih =>
    rw [List.foldl_cons, ih, giveUp_node]
    by_cases h1 : m ∈ t <;> by_cases h2 : m = n <;> simp [h1, h2]

theorem each_giveUp_only (l : List Nat) (d : Dev) : d.each l giveUp = { d with nodes := (d.each l giveUp).nodes, due := (d.each l giveUp).due } := by
  have h : ({ d.each l giveUp with nodes := [], due := [] } : Dev) = { d with nodes := [], due := [] } :=
    each_field l giveUp (fun x => ({ x with nodes := [], due := [] } : Dev)) (fun _ _ => rfl) d
  generalize d.each l giveUp = e at *
  exact congrArg (fun x : Dev => { x with nodes := e.nodes, due := e.due }) h

/-- The nodes whose echo has not come. -/
def lateNodes (d : Dev) : List Nat := (enabledNodes d).filter (fun n => !(d.node n).stopAwait.isEmpty)

theorem stopEnd_eq {d : Dev} {t : Nat} (h : d.ms.stop = some t) (ht : t ≤ d.tick) : stopEnd d = (d.post (.mode .hold 0x01)).each (lateNodes d) giveUp :=
  if_pos (by rw [h, Option.any_some]; simpa [reached] using ht)

theorem stopSequenceEnd_does (s : State) (t : Nat) (h : s.d.ms.stop = some t) (ht : t ≤ s.d.tick) :
    Does (exec .stopSequenceEnd s) s (fun e => (e.due.drop s.d.due.length).head? = some (Due.mode .hold 0x01) ∧
    (∀ n ∈ enabledNodes s.d, (e.node n).stopAwait = []) ∧ (∀ n ∈ enabledNodes s.d, (s.d.node n).stopAwait ≠ [] → Raised e (0xC0 + s.d.portOf n) 0x1007 none) ∧
    e = { s.d.fresh with nodes := e.nodes, due := e.due }) := by
  refine upd_does ?_
  rw [stopEnd_eq (d := s.d.fresh) h ht]
  have hlate (n : Nat) : n ∈ lateNodes s.d.fresh ↔ n ∈ enabledNodes s.d ∧ (s.d.node n).stopAwait ≠ [] := by
    rw [lateNodes, List.mem_filter]
    exact and_congr Iff.rfl (by simp; rfl)
  generalize lateNodes s.d.fresh = l at hlate
  have hdue : ((s.d.fresh.post (.mode .hold 0x01)).each l giveUp).due = s.d.due ++ Due.mode .hold 0x01 :: l.map (fun n => Due.event (lateEvent (s.d.portOf n))) := by
    rw [each_giveUp_due, Dev.post_due, List.append_assoc]
    rfl
  refine ⟨?_, fun n hn => ?_, fun n hn hne => ?_, ?_⟩
  · rw [hdue]
    simp
  · rw [each_giveUp_node]
    split
    · rfl
    · rename_i hl
      by_contra hc
      exact hl ((hlate n).mpr ⟨hn, hc⟩)
  · refine ⟨lateEvent (s.d.portOf n), ?_, rfl, rfl, rfl⟩
    rw [hdue]
    exact List.mem_append_right _ (List.mem_cons_of_mem _ (List.mem_map.mpr ⟨n, (hlate n).mpr ⟨hn, hne⟩, rfl⟩))
  · exact each_giveUp_only l (s.d.fresh.post (.mode .hold 0x01))

/-! ### The end of CHARGE (R69, R369) -/

theorem filter_terase {α : Type} (P : Nat × α → Bool) {k : Nat} (h : ∀ v, P (k, v) = false) (t : Tbl α) : (terase t k).filter P = t.filter P := by
  induction t with
  | nil => rfl
  | cons w t ih =>
    obtain ⟨k', v⟩ := w
    by_cases hk : k' = k
    · subst hk
      simp [terase, ih, h]
    · simp [terase, hk, List.filter_cons, ih]

theorem filter_tins {α : Type} (P : Nat × α → Bool) {k : Nat} (v : α) (h : P (k, v) = false) (t : Tbl α) : (tins t k v).filter P = t.filter P := by
  induction t with
  | nil => simp [tins, h]
  | cons w t ih =>
    obtain ⟨k', v'⟩ := w
    unfold tins
    split
    · rw [List.filter_cons_of_neg (by simp [h])]
    · simp only [List.filter_cons, ih]

theorem filter_tset {α : Type} [DecidableEq α] (P : Nat × α → Bool) (d : Nat → α) {k : Nat} (v : α) (h : ∀ v, P (k, v) = false) (t : Tbl α) :
    (tset d t k v).filter P = t.filter P := by
  unfold tset
  split
  · exact filter_terase P h t
  · rw [filter_tins P v (h v), filter_terase P h]

theorem liveSrcs_p (d : Dev) {b : Nat} (f : Fld) (v : Nat) (h : b + f.off < bFltState 0) : liveSrcs (d.p b f v) = liveSrcs d := by
  rw [liveSrcs, Dev.p_regs, filter_tset _ _ _ (fun _ => by simp [Nat.not_le.mpr h]), liveSrcs]

/-- Which RIDE sources are active does not depend on the device window. -/
theorem rideActive_p (d : Dev) (f : Fld) (v : Nat) (h : f.off < 0x10000) : rideActive (d.p bDev f v) = rideActive d := by
  have hl : liveSrcs (d.p bDev f v) = liveSrcs d := liveSrcs_p d f v (by simp only [bDev, bFltState]; omega)
  have hg (b : Nat) (hb : 0x10000 ≤ b) (e : Fld) : (d.p bDev f v).g b e = d.g b e := Dev.g_p_ne d v (by simp only [bDev]; omega)
  have hstate (n : Nat) (e : Fld) := hg (bFltState n) (by simp only [bFltState]; omega) e
  have hpol (n : Nat) (e : Fld) := hg (bFltPol n) (by simp only [bFltPol]; omega) e
  have hcause (n : Nat) : causeActive (d.p bDev f v) n = causeActive d n := by simp only [causeActive, Dev.gb, hstate]
  have heff (n : Nat) : effective (d.p bDev f v) n = effective d n := by
    have hs : srcSevere (d.p bDev f v) n = srcSevere d n := by simp only [srcSevere, Dev.srcState, hstate]
    have hc (b : Bool) : configured (d.p bDev f v) n b = configured d n b := by simp only [configured, hpol]
    have hsrc : (d.p bDev f v).src n = d.src n := rfl
    rw [effective, effective, hs, hc, hc, hsrc]
  simp only [rideActive, hl, hcause, heff]

/-- What CHARGE waits for: a start step of an enabled string. -/
def stepsLeft (d : Dev) : Bool := (upto 8).any (fun i => d.enabled (.string i) && (d.str i).stepsOpen)

/-- What CHARGE waits for: an ACTIVE cell that is not fresh and in its window for DWELL. -/
def cellsOut (d : Dev) : Bool := (upto 8).any (fun i => d.enabled (.string i) && d.kind i == 1 &&
    (d.members i).any (fun m => posState d i m.1 == 0 &&
      !(inWindow d i m.2 && (d.node m.2).inWin.any (fun w => freshAt d w.2 d.tick && reached d (w.1 + d.g (bStr i) F.STR_BAL_CFG_DWELL * 250000)))))

theorem chargeComplete_eq {d : Dev} (hm : d.mode = .charge) (hs : stopping d = false) (h1 : stepsLeft d = false) (h2 : cellsOut d = false) : chargeComplete d =
    if ((d.p bDev F.DEV_MODE_CHARGE_DONE 1).gb bDev F.DEV_MODE_CFG_AUTO_RUN && !rideActive (d.p bDev F.DEV_MODE_CHARGE_DONE 1)) = true
      then (d.p bDev F.DEV_MODE_CHARGE_DONE 1).post (.mode .run 0x03) else d.p bDev F.DEV_MODE_CHARGE_DONE 1 := by
  have hc : (d.mode == .charge && !stopping d && !stepsLeft d && !cellsOut d) = true := by
    rw [hm, hs, h1, h2]
    rfl
  exact if_pos hc

theorem mem_upto {n i : Nat} : i ∈ upto n ↔ i < n := by simp [upto]

theorem chargeComplete_does (s : State) (hm : s.d.mode = .charge) (hs : stopping s.d = false)
    (h1 : ∀ i < 8, s.d.enabled (.string i) = true → (s.d.str i).stepsOpen = false)
    (h2 : ∀ i < 8, s.d.enabled (.string i) = true → s.d.kind i = 1 → ∀ m ∈ s.d.members i, posState s.d i m.1 = 0 →
      inWindow s.d i m.2 = true ∧ ∃ w, (s.d.node m.2).inWin = some w ∧ freshAt s.d w.2 s.d.tick = true ∧ w.1 + s.d.g (bStr i) F.STR_BAL_CFG_DWELL * 250000 ≤ s.d.tick) :
    Does (exec .chargeComplete s) s (fun e => e.gb bDev F.DEV_MODE_CHARGE_DONE = true ∧ (∀ a, a ≠ bDev + F.DEV_MODE.off → e.rd a = s.d.rd a) ∧
      e = { s.d.fresh with regs := e.regs, due := s.d.due ++ (if s.d.gb bDev F.DEV_MODE_CFG_AUTO_RUN && !rideActive s.d then [Due.mode .run 0x03] else []) }) := by
  have hsteps : stepsLeft s.d = false := by
    refine List.any_eq_false.mpr fun i hi => ?_
    cases he : s.d.enabled (.string i)
    · simp
    · simp [h1 i (mem_upto.mp hi) he]
  have hcells : cellsOut s.d = false := by
    refine List.any_eq_false.mpr fun i hi => ?_
    rw [Bool.and_eq_true, Bool.and_eq_true]
    rintro ⟨⟨he, hk⟩, hany⟩
    obtain ⟨m, hmem, hm⟩ := List.any_eq_true.mp hany
    rw [Bool.and_eq_true, beq_iff_eq] at hm
    obtain ⟨hin, w, hw, hfresh, hdwell⟩ := h2 i (mem_upto.mp hi) he (by simpa using hk) m hmem hm.1
    have hr : reached s.d (w.1 + s.d.g (bStr i) F.STR_BAL_CFG_DWELL * 250000) = true := decide_eq_true hdwell
    have hout := hm.2
    rw [hin, hw, Option.any_some, hfresh, hr] at hout
    cases hout
  refine upd_does ?_
  have hauto : (s.d.fresh.p bDev F.DEV_MODE_CHARGE_DONE 1).gb bDev F.DEV_MODE_CFG_AUTO_RUN = s.d.gb bDev F.DEV_MODE_CFG_AUTO_RUN := by
    rw [Dev.gb, Dev.g_p_ne _ _ (by decide)]
    rfl
  rw [chargeComplete_eq (d := s.d.fresh) hm hs hsteps hcells, hauto, rideActive_p _ _ _ (by decide), rideActive_fresh]
  have hdone : (s.d.fresh.p bDev F.DEV_MODE_CHARGE_DONE 1).gb bDev F.DEV_MODE_CHARGE_DONE = true := gb_p_true s.d.fresh bDev (f := F.DEV_MODE_CHARGE_DONE) (by decide) (by decide)
  have hrd (a : Nat) (ha : a ≠ bDev + F.DEV_MODE.off) : (s.d.fresh.p bDev F.DEV_MODE_CHARGE_DONE 1).rd a = s.d.rd a := Dev.rd_p_ne s.d.fresh F.DEV_MODE_CHARGE_DONE 1 ha
  have hp (x : Dev) (f : Fld) (v : Nat) : x.p bDev f v = { x with regs := (x.p bDev f v).regs } := rfl
  split
  · exact ⟨hdone, hrd, by rw [hp]; rfl⟩
  · refine ⟨hdone, hrd, ?_⟩
    rw [List.append_nil]
    exact hp s.d.fresh F.DEV_MODE_CHARGE_DONE 1

/-! ### New limits (R82) -/

/-- A limit that has passed is raised; nothing else happens. -/
theorem rideMaxElapsed_posts (d : Dev) : ∃ l, rideMaxElapsed d = { d with due := l } := by
  unfold rideMaxElapsed
  split
  · split
    · exact ⟨_, rfl⟩
    · exact ⟨_, rfl⟩
  · exact ⟨d.due, rfl⟩

theorem chargeRide_posts (d : Dev) : ∃ l, chargeRide d = { d with due := l } := by
  unfold chargeRide
  split
  · exact ⟨_, rfl⟩
  · exact ⟨d.due, rfl⟩

theorem chargeMaxElapsed_posts (d : Dev) : ∃ l, chargeMaxElapsed d = { d with due := l } := by
  unfold chargeMaxElapsed
  split
  · exact ⟨_, rfl⟩
  · exact ⟨d.due, rfl⟩

theorem newLimits_posts (d : Dev) : ∃ l, newLimits d = { d with due := l } := by
  obtain ⟨l1, h1⟩ := rideMaxElapsed_posts d
  obtain ⟨l2, h2⟩ := chargeRide_posts (rideMaxElapsed d)
  obtain ⟨l3, h3⟩ := chargeMaxElapsed_posts (chargeRide (rideMaxElapsed d))
  exact ⟨l3, by rw [newLimits, h3, h2, h1]⟩

theorem newLimits_waits {d : Dev} (h1 : d.mode ≠ .ride) (h2 : d.mode ≠ .charge) : newLimits d = d := by
  rw [newLimits, rideMaxElapsed_waits (.inl h1), chargeRide_waits (.inl h2), chargeMaxElapsed_waits (.inl h2)]

theorem newLimits_ride {d : Dev} (hm : d.mode = .ride) (hs : stopping d = false) (h : d.ms.entered + rideMax d ≤ d.tick) : (newLimits d).due ≠ [] := by
  have hn : (rideMaxElapsed d).mode ≠ .charge := by
    rw [rideMaxElapsed_goes hm hs h, show (d.post (.mode (if rideActive d then .safe else .run) 0x07)).mode = d.mode from rfl, hm]
    decide
  rw [newLimits, chargeRide_waits (.inl hn), chargeMaxElapsed_waits (.inl hn), rideMaxElapsed_goes hm hs h, Dev.post_due]
  simp

theorem newLimits_charge {d : Dev} (hm : d.mode = .charge) (hs : stopping d = false) (hd : d.gb bDev F.DEV_MODE_CHARGE_DONE = false)
    (h : d.ms.entered + chargeMax d ≤ d.tick) : Due.mode .safe 0x08 ∈ (newLimits d).due := by
  have hn : d.mode ≠ .ride := by
    rw [hm]
    decide
  obtain ⟨l, hl⟩ := chargeRide_posts d
  have hgo := chargeMaxElapsed_goes (d := { d with due := l }) hm hs hd h
  rw [newLimits, rideMaxElapsed_waits (.inl hn), hl, hgo, Dev.post_due]
  simp

theorem limited_rd (v : Word) (d : Dev) {a : Nat} (h : a ≠ bDev + F.DEV_MODE_CFG.off) : (limited v d).rd a = d.rd a := stored_rd_ne _ v d h

theorem devModeCfg_serves (p : Path) (v : Word) (s : State) (hp : HostReady p s) (h1 : 10 ≤ getBits v 0 12) (h2 : getBits v 0 12 ≤ 4000) (h3 : getBits v 12 8 ≠ 0)
    (h4 : getBits v 20 8 ≠ 0) :
    Serves (exec (.devModeCfg p v) s) s (fun d nv e => nv = s.nv ∧ e.g bDev F.DEV_MODE_CFG_RIDE_MAX = getBits v 0 12 ∧
      e.g bDev F.DEV_MODE_CFG_RIDE_SETTLE = getBits v 12 8 ∧ e.g bDev F.DEV_MODE_CFG_CHARGE_MAX = getBits v 20 8 ∧ e.gb bDev F.DEV_MODE_CFG_AUTO_RUN = (getBits v 28 1 == 1) ∧
      KeepsRegs d e [bDev + F.DEV_MODE_CFG.off] ∧ e.rest = { d.rest with due := e.due } ∧
      (s.d.mode ≠ .ride → s.d.mode ≠ .charge → e.due = []) ∧
      (s.d.mode = .ride → stopping s.d = false → s.d.ms.entered + getBits v 0 12 * 250000 ≤ s.d.tick → e.due ≠ []) ∧
      (s.d.mode = .charge → stopping s.d = false → s.d.gb bDev F.DEV_MODE_CHARGE_DONE = false → s.d.ms.entered + getBits v 20 8 * 250000000 ≤ s.d.tick →
        Due.mode .safe 0x08 ∈ e.due)) := by
  refine hostWrite_serves hp (by decide) (by decide) ?_
  rw [hostWriteDev_modeCfg ((argsOnly_found s.d).ready hp.1) h1 h2 h3 h4]
  obtain ⟨hmax, hset, hcha, hauto⟩ := limited_fields v (found s.d)
  have hg (f : Fld) (hf : bDev + f.off ≠ bDev + F.DEV_MODE_CFG.off) (hf' : bDev + f.off < 0x508000) : (limited v (found s.d)).g bDev f = s.d.g bDev f := by
    rw [Dev.g, limited_rd v _ hf, found_rd_far _ (.inl hf'), Dev.g]
  have hmode : (limited v (found s.d)).mode = s.d.mode := by rw [Dev.mode, hg F.DEV_MODE_MODE (by decide) (by decide), Dev.mode]
  have hdone : (limited v (found s.d)).gb bDev F.DEV_MODE_CHARGE_DONE = s.d.gb bDev F.DEV_MODE_CHARGE_DONE := by
    rw [Dev.gb, hg F.DEV_MODE_CHARGE_DONE (by decide) (by decide), Dev.gb]
  have hms : (limited v (found s.d)).ms = s.d.ms := by rw [limited, stored, Dev.wr_ms, found, refreshElig_ms, refreshCan_ms]
  have htick : (limited v (found s.d)).tick = s.d.tick := by rw [limited, stored, Dev.wr_tick, found, refreshElig_tick, refreshCan_tick]
  have hdue : (limited v (found s.d)).due = [] := by rw [limited, stored, Dev.wr_due, (found_quiet hp.1.1).1]
  have hstop : stopping (limited v (found s.d)) = stopping s.d := by rw [stopping, hms, stopping]
  have hkeep (a : Nat) (ha : a ∉ [bDev + F.DEV_MODE_CFG.off]) : (limited v (found s.d)).rd a = (found s.d).rd a :=
    limited_rd v _ (fun e => ha (List.mem_singleton.mpr e))
  have hrest : (limited v (found s.d)).rest = (found s.d).rest := stored_rest _ _ v _
  have hauto' : (limited v (found s.d)).gb bDev F.DEV_MODE_CFG_AUTO_RUN = (getBits v 28 1 == 1) := by
    have hlt : getBits v 28 1 < 2 := Nat.mod_lt _ (by decide)
    rw [Dev.gb, hauto]
    generalize getBits v 28 1 = n at hlt
    interval_cases n <;> rfl
  generalize limited v (found s.d) = x at *
  have hquiet : x.mode ≠ .ride → x.mode ≠ .charge → (newLimits x).due = [] := fun h1 h2 => by rw [newLimits_waits h1 h2, hdue]
  have hride : x.mode = .ride → stopping x = false → x.ms.entered + rideMax x ≤ x.tick → (newLimits x).due ≠ [] := newLimits_ride
  have hcharge : x.mode = .charge → stopping x = false → x.gb bDev F.DEV_MODE_CHARGE_DONE = false → x.ms.entered + chargeMax x ≤ x.tick →
      Due.mode .safe 0x08 ∈ (newLimits x).due := newLimits_charge
  rw [rideMax, hmax, hmode, hstop, hms, htick] at hride
  rw [chargeMax, hcha, hmode, hstop, hdone, hms, htick] at hcharge
  rw [hmode] at hquiet
  obtain ⟨l, hl⟩ := newLimits_posts x
  rw [hl] at hquiet hride hcharge ⊢
  exact ⟨rfl, hmax, hset, hcha, hauto', fun a ha _ => hkeep a ha, by rw [← hrest]; rfl, hquiet, hride, hcharge⟩

/-- Settles O15: the rows of R76 and what an accepted request begins; the entry to a mode, whose effects leave the mode word alone; each limit at its instant and before it. -/
theorem modesFollowTheirRules : Obligations.ModesFollowTheirRules := by
  unfold Obligations.ModesFollowTheirRules
  exact ⟨⟨devModeReq_refused, devModeReq_accepted, modeOutcome_rows⟩, takeDue_mode, ⟨stopSequenceEnd_does, rideSettleElapsed_does, rideMaxElapsed_does, chargeMaxElapsed_does,
    chargeRideTimeout_does, limits_wait, chargeComplete_does⟩, devModeCfg_serves⟩

end Sys2Proof.Machine
end

section
/-! SUPPORT. The shadows of a rate group and the thaw of a loop (R113, R305, R333, R355). -/

namespace Sys2Proof.Machine

/-! ### Sequences of changes -/

/-- What one element of a list brings about and no other undoes holds at the end. -/
theorem each_reaches {α : Type} {f : α → Dev → Dev} {P : Dev → Prop} {x : α} (hx : ∀ d, P (f x d)) {l : List α} (hl : ∀ y ∈ l, ∀ d, P d → P (f y d)) (hm : x ∈ l)
    (d : Dev) : P (d.each l f) := by
  have keeps (l : List α) (hl : ∀ y ∈ l, ∀ d, P d → P (f y d)) : ∀ d, P d → P (d.each l f) := by
    induction l with
    | nil => exact fun d h => h
    | cons y l ih => exact fun d h => ih (fun z hz => hl z (.tail _ hz)) (f y d) (hl y (.head _) d h)
  induction l generalizing d with
  | nil => exact absurd hm List.not_mem_nil
  | cons y l ih =>
    have hl' : ∀ z ∈ l, ∀ d, P d → P (f z d) := fun z hz => hl z (.tail _ hz)
    cases hm with
    | head => exact keeps l hl' _ (hx d)
    | tail _ hm => exact ih hl' hm (f y d)

/-- What every element keeps holds at the end. -/
theorem each_keeps {α : Type} {f : α → Dev → Dev} {P : Dev → Prop} {l : List α} (hl : ∀ y ∈ l, ∀ d, P d → P (f y d)) (d : Dev) (h : P d) : P (d.each l f) := by
  induction l generalizing d with
  | nil => exact h
  | cons y l ih => exact ih (fun z hz => hl z (.tail _ hz)) (f y d) (hl y (.head _) d h)

/-! ### The commit of the loops of a group (R113, R355) -/

/-- Bring coefficient k of loop i into force. -/
def coefForced (i k : Nat) (d : Dev) : Dev := d.wrF (bLoopD i + F.LD_C.off + 4 * k) (d.rd (bLoopD i + F.LD_C.off + 4 * k))

theorem coefForced_brings (i k : Nat) (d : Dev) : (coefForced i k d).rdF (bLoopD i + F.LD_C.off + 4 * k) = (coefForced i k d).rd (bLoopD i + F.LD_C.off + 4 * k) :=
  Dev.rdF_wrF_self d _ _

/-- A register whose stored word is in force stays so. -/
theorem coefForced_keeps (i k : Nat) {a : Nat} (d : Dev) (h : d.rdF a = d.rd a) : (coefForced i k d).rdF a = (coefForced i k d).rd a := by
  by_cases ha : a = bLoopD i + F.LD_C.off + 4 * k
  · rw [ha]
    exact coefForced_brings i k d
  · exact (Dev.rdF_wrF_ne d _ ha).trans h

/-- Bring the coefficients of loop i into force. -/
def loopForced (i : Nat) (d : Dev) : Dev := d.each (upto 7) (coefForced i)

theorem loopCommit_eq (g : Nat) (d : Dev) : loopCommit g d = d.each ((loopSlots d).filter (fun i => loopRg d i == g)) loopForced := rfl

theorem loopCommit_regs (g : Nat) (d : Dev) : (loopCommit g d).regs = d.regs :=
  each_field _ loopForced Dev.regs (fun i d => each_field _ (coefForced i) Dev.regs (fun _ _ => rfl) d) d

theorem loopCommit_forces (g : Nat) (s : Dev) (i k : Nat) (hi : i ∈ loopSlots s) (hg : loopRg s i = g) (hk : k < 7) :
    (loopCommit g s).rdF (bLoopD i + F.LD_C.off + 4 * k) = s.rd (bLoopD i + F.LD_C.off + 4 * k) := by
  have hloop : i ∈ (loopSlots s).filter (fun i => loopRg s i == g) := List.mem_filter.mpr ⟨hi, by simpa using hg⟩
  have h : (loopCommit g s).rdF (bLoopD i + F.LD_C.off + 4 * k) = (loopCommit g s).rd (bLoopD i + F.LD_C.off + 4 * k) := by
    rw [loopCommit_eq]
    refine each_reaches (P := fun d => d.rdF (bLoopD i + F.LD_C.off + 4 * k) = d.rd (bLoopD i + F.LD_C.off + 4 * k)) (fun d => ?_) (fun j _ d h => ?_) hloop s
    · exact each_reaches (coefForced_brings i k) (fun j _ d h => coefForced_keeps i j d h) (mem_upto.mpr hk) d
    · exact each_keeps (fun l _ d h => coefForced_keeps j l d h) d h
  rw [h, Dev.rd_congr (loopCommit_regs g s)]

/-! ### The thaw of a loop (R333) -/

theorem thaw_osc (i : Nat) (d : Dev) : (thaw i d).rd (bLoopS i + F.LS_OSC.off) =
    putBits (putBits (putBits (putBits (putBits (d.rd (bLoopS i + F.LS_OSC.off)) 0 8 0) 8 5 0) 14 1 0) 18 4 0) 22 1 0 := by
  rw [thaw, Dev.rd_wr_ne _ _ (by simp [F.LS_OSC, F.LS_ENV]), Dev.rd_wr_self]

theorem Dev.wr_wr_only (d : Dev) (a b : Nat) (v w : Word) : (d.wr a v).wr b w = { d with regs := ((d.wr a v).wr b w).regs } := rfl

theorem thaw_only (i : Nat) (d : Dev) : thaw i d = { d with regs := (thaw i d).regs } := by
  unfold thaw
  exact Dev.wr_wr_only _ _ _ _ _

theorem thaw_does (i : Nat) (s : Dev) (_ : i < 2048) : getBits ((thaw i s).rd (bLoopS i + F.LS_OSC.off)) 22 1 = 0 ∧ getBits ((thaw i s).rd (bLoopS i + F.LS_OSC.off)) 0 8 = 0 ∧
    getBits ((thaw i s).rd (bLoopS i + F.LS_OSC.off)) 15 3 = getBits (s.rd (bLoopS i + F.LS_OSC.off)) 15 3 ∧
    (∀ a, a ∉ [bLoopS i + F.LS_OSC.off, bLoopS i + F.LS_ENV.off] → (thaw i s).rd a = s.rd a) ∧ thaw i s = { s with regs := (thaw i s).regs } := by
  rw [thaw_osc]
  generalize s.rd (bLoopS i + F.LS_OSC.off) = o
  refine ⟨?_, ?_, ?_, fun a ha => ?_, thaw_only i s⟩
  · rw [getBits_putBits_self _ 22 1 0 (by decide), Nat.zero_mod]
  · rw [getBits_putBits_below _ 22 1 0 0 8 (by decide) (by decide), getBits_putBits_below _ 18 4 0 0 8 (by decide) (by decide),
      getBits_putBits_below _ 14 1 0 0 8 (by decide) (by decide), getBits_putBits_below _ 8 5 0 0 8 (by decide) (by decide), getBits_putBits_self _ 0 8 0 (by decide),
      Nat.zero_mod]
  · rw [getBits_putBits_below _ 22 1 0 15 3 (by decide) (by decide), getBits_putBits_below _ 18 4 0 15 3 (by decide) (by decide),
      getBits_putBits_above _ 14 1 0 15 3 (by decide) (by decide), getBits_putBits_above _ 8 5 0 15 3 (by decide) (by decide),
      getBits_putBits_above _ 0 8 0 15 3 (by decide) (by decide)]
  · obtain ⟨h1, h2⟩ : a ≠ bLoopS i + F.LS_OSC.off ∧ a ≠ bLoopS i + F.LS_ENV.off := by simpa using ha
    rw [thaw, Dev.rd_wr_ne _ _ h2, Dev.rd_wr_ne _ _ h1]

/-! ### LOOP_COMMIT (R305) -/

/-- The row of LOOP_COMMIT. -/
def loopCommitRow : RegD := ⟨0x4, 1, 0x0, 0x0, 0x0, 0xFF, 0x0, .none⟩

theorem locate_loopCommit : locate (bLoopCom + F.LOOP_COMMIT.off) = some ⟨.loopCom, 0, 0x4, some loopCommitRow⟩ := by decide

/-- A group marked for a commit at its next latch instant. -/
def commitMark (t : Nat) (x : RgSt) : RgSt := { x with commitFrom := x.commitFrom.or (some t), commitLast := some t }

theorem commitMark_twice (t : Nat) (x : RgSt) : commitMark t (commitMark t x) = commitMark t x := by
  cases h : x.commitFrom <;> simp [commitMark, h]

/-- Mark the groups of a list. -/
def groupsMarked (l : List Nat) (d : Dev) : Dev := d.each l (fun g d => d.setRg g (commitMark d.tick))

theorem Dev.rg_setRg (d : Dev) (g h : Nat) (f : RgSt → RgSt) : (d.setRg g f).rg h = if h = g then f (d.rg h) else d.rg h := by
  by_cases hg : h = g
  · rw [if_pos hg, hg]
    exact tget_tset_self _ _ _ _
  · rw [if_neg hg]
    exact tget_tset_ne _ _ _ hg

theorem groupsMarked_rg (l : List Nat) (d : Dev) (h : Nat) : (groupsMarked l d).rg h = if h ∈ l then commitMark d.tick (d.rg h) else d.rg h := by
  induction l generalizing d with
  | nil => rfl
  | cons g l ih =>
    have hstep : groupsMarked (g :: l) d = groupsMarked l (d.setRg g (commitMark d.tick)) := rfl
    rw [hstep, ih, Dev.rg_setRg, Dev.setRg_tick]
    by_cases hg : h = g
    · simp [hg, commitMark_twice]
    · simp [hg]

theorem groupsMarked_rgs (l : List Nat) (d : Dev) : groupsMarked l d = { d with rgs := (groupsMarked l d).rgs } := by
  refine each_keeps (P := fun e => e = { d with rgs := e.rgs }) (fun g _ e h => ?_) d rfl
  rw [h]
  rfl

/-- The write of a register without bits that are RW or W1C stores what it held. -/
theorem stored_none {a : Nat} {r : RegD} (v : Word) (d : Dev) (h1 : r.rw = 0) (h2 : r.w1c = 0) (x : Nat) : (stored a r v d).rd x = d.rd x := by
  by_cases hx : x = a
  · have hword : merge r (d.rd a) v 4294967295#32 = d.rd a := by
      have hlt : (d.rd a).toNat &&& 4294967295 = (d.rd a).toNat := by
        rw [show (4294967295 : Nat) = 2 ^ 32 - 1 from rfl, Nat.and_two_pow_sub_one_eq_mod, Nat.mod_eq_of_lt (d.rd a).isLt]
      simp [merge, w32, h1, h2, hlt]
    rw [hx, stored, Dev.rd_wr_self, hword]
  · exact stored_rd_ne r v d hx

theorem hostWriteDev_loopCommit {p : Path} {v : Word} {d : Dev} (hr : Responsive d) : (hostWriteDev p (bLoopCom + F.LOOP_COMMIT.off) v d).2 =
    groupsMarked ((upto 8).filter (bitOf (getBits v 0 8))) (stored (bLoopCom + F.LOOP_COMMIT.off) loopCommitRow v d) := by
  have hv : v &&& 4294967295#32 = v := by rw [show (4294967295#32 : Word) = BitVec.allOnes 32 from rfl, BitVec.and_allOnes]
  rw [hostWriteDev_acts locate_loopCommit (by decide) (by decide) (by decide) (by decide)
    (busReason_owned locate_loopCommit (fun o h => nomatch h) (by decide) hr) rfl rfl]
  simp only [writeEffect2, writeEffect1, hostWr, Wr.is, loopCommitRow, F.LOOP_COMMIT, hv, Nat.sub_self, Nat.zero_div, Nat.mul_zero, Nat.sub_zero, BEq.rfl, if_true]
  rfl

theorem loopCommit_serves (p : Path) (v : Word) (s : State) (hp : HostReady p s) : Serves (exec (.loopCommit p v) s) s (fun d nv e => nv = s.nv ∧
    (∀ g < 8, (e.rg g).commitFrom = (if bitOf (getBits v 0 8) g then (d.rg g).commitFrom.or (some s.d.tick) else (d.rg g).commitFrom) ∧
      (e.rg g).commitLast = if bitOf (getBits v 0 8) g then some s.d.tick else (d.rg g).commitLast) ∧ e.force = d.force ∧
    e.rest = { d.rest with rgs := e.rgs } ∧ KeepsRegs d e []) := by
  refine hostWrite_serves hp (by decide) (by decide) ?_
  rw [hostWriteDev_loopCommit ((argsOnly_found s.d).ready hp.1)]
  have htick : (found s.d).tick = s.d.tick := by rw [found, refreshElig_tick, refreshCan_tick]
  have hrd (x : Nat) := stored_none (a := bLoopCom + F.LOOP_COMMIT.off) (r := loopCommitRow) v (found s.d) rfl rfl x
  have hrest := stored_rest (bLoopCom + F.LOOP_COMMIT.off) loopCommitRow v (found s.d)
  have hrg (g : Nat) := groupsMarked_rg ((upto 8).filter (bitOf (getBits v 0 8))) (stored (bLoopCom + F.LOOP_COMMIT.off) loopCommitRow v (found s.d)) g
  have hstrg (g : Nat) : (stored (bLoopCom + F.LOOP_COMMIT.off) loopCommitRow v (found s.d)).rg g = (found s.d).rg g := rfl
  have hforce : (stored (bLoopCom + F.LOOP_COMMIT.off) loopCommitRow v (found s.d)).force = (found s.d).force := rfl
  have htk : (stored (bLoopCom + F.LOOP_COMMIT.off) loopCommitRow v (found s.d)).tick = s.d.tick := htick
  generalize stored (bLoopCom + F.LOOP_COMMIT.off) loopCommitRow v (found s.d) = x at *
  have hx := groupsMarked_rgs ((upto 8).filter (bitOf (getBits v 0 8))) x
  generalize groupsMarked ((upto 8).filter (bitOf (getBits v 0 8))) x = e at *
  refine ⟨rfl, fun g hg => ?_, by rw [hx]; exact hforce, by rw [hx, ← hrest]; rfl, fun a _ _ => by rw [hx]; exact hrd a⟩
  have hmem : g ∈ (upto 8).filter (bitOf (getBits v 0 8)) ↔ bitOf (getBits v 0 8) g = true := by simp [mem_upto, hg]
  rw [hrg, hstrg, htk]
  by_cases hb : bitOf (getBits v 0 8) g = true
  · rw [if_pos (hmem.mpr hb), if_pos hb, if_pos hb]
    exact ⟨rfl, rfl⟩
  · rw [if_neg (fun h => hb (hmem.mp h)), if_neg hb, if_neg hb]
    exact ⟨rfl, rfl⟩

/-! ### LOOP_STAT.THAW (R333) -/

/-- The row of LOOP_STAT. -/
def loopStatRow : RegD := ⟨0x0, 1, 0x0, 0x0, 0xE00, 0x2000, 0x0, .none⟩

theorem locate_loopStat {i : Nat} (hi : i < 2048) : locate (bLoopStat i + F.LOOP_STAT.off) = some ⟨.loopStat, i, 0x0, some loopStatRow⟩ :=
  locate_numbered ⟨.loopStat, 0x230000, 0x4, 2048, 0x4, 0, regsLoopStat⟩ (by simp [famTable]) (o := 0) (k := 0) (r := loopStatRow) rfl hi (by decide) (by decide) rfl

/-- Queue a loop for the next latch instant of its group. -/
def thawAsked (i : Nat) (d : Dev) : Dev := d.setRg (loopRg d i) (fun x => { x with thaw := if x.thaw.contains i then x.thaw else x.thaw ++ [i] })

theorem bLoopStat_span {i : Nat} (hi : i < 2048) : 0x230000 ≤ bLoopStat i ∧ bLoopStat i < 0x240000 := by
  simp only [bLoopStat]
  omega

theorem hostWriteDev_loopThaw {p : Path} {i : Nat} {v : Word} {d : Dev} (hi : i < 2048) (hr : Responsive d) (ho : d.occupied (.loop i) = true) (ht : getBits v 13 1 = 1) :
    (hostWriteDev p (bLoopStat i + F.LOOP_STAT.off) v d).2 = thawAsked i (stored (bLoopStat i + F.LOOP_STAT.off) loopStatRow v d) := by
  have hv : v &&& 4294967295#32 = v := by rw [show (4294967295#32 : Word) = BitVec.allOnes 32 from rfl, BitVec.and_allOnes]
  have hspan := bLoopStat_span hi
  have hmail : mailboxReg (bLoopStat i + F.LOOP_STAT.off) = false := by
    simp [mailboxReg, F.LOOP_STAT, F.CMD_OP, F.CMD_ARG]
    omega
  have hslot (o : Obj) (h : slotOfLoc ⟨.loopStat, i, 0x0, some loopStatRow⟩ = some o) : d.occupied o = true := by
    rw [← Option.some.inj (h : some (Obj.loop i) = some o)]
    exact ho
  rw [hostWriteDev_acts (locate_loopStat hi) (Nat.zero_le _) (by decide) (by decide) (by decide) (busReason_owned (locate_loopStat hi) hslot hmail hr) rfl rfl]
  simp only [writeEffect2, writeEffect1, hostWr, Wr.one, F.LOOP_STAT_THAW, hv, ht, BEq.rfl, if_true]
  rfl

theorem thawAsked_eq (i : Nat) (d : Dev) : thawAsked i d = { d with rgs := (thawAsked i d).rgs } := rfl

theorem loopThaw_serves (p : Path) (i : Fin 2048) (v : Word) (s : State) (hp : HostReady p s) (ho : s.d.occupied (.loop i.val) = true) (ht : getBits v 13 1 = 1) :
    Serves (exec (.loopThaw p i v) s) s (fun d nv e => nv = s.nv ∧
    (e.rg (loopRg s.d i.val)).thaw = (if (d.rg (loopRg s.d i.val)).thaw.contains i.val then (d.rg (loopRg s.d i.val)).thaw else (d.rg (loopRg s.d i.val)).thaw ++ [i.val]) ∧
    (∀ a, (bLoopS i.val ≤ a ∧ a < bLoopS i.val + 32) → e.rd a = d.rd a) ∧ e.rest = { d.rest with rgs := e.rgs } ∧ KeepsRegs d e [bLoopStat i.val + F.LOOP_STAT.off]) := by
  have hi := i.isLt
  have hspan := bLoopStat_span hi
  have haddr : bLoopStat i.val + F.LOOP_STAT.off = bLoopStat i.val := rfl
  refine hostWrite_serves hp (by simp only [bLoopStat]; omega) (by simp only [haddr, bDev, F.CMD_OP]; omega) ?_
  have hms : (found s.d).ms = s.d.ms := by rw [found, refreshElig_ms, refreshCan_ms]
  have hocc : (found s.d).occupied (.loop i.val) = true := by rw [occupied_congr (congrArg ModeSt.occ hms), ho]
  rw [hostWriteDev_loopThaw hi ((argsOnly_found s.d).ready hp.1) hocc ht]
  have hrd (x : Nat) (hx : x ≠ bLoopStat i.val + F.LOOP_STAT.off) := stored_rd_ne loopStatRow v (found s.d) hx
  have hrg : loopRg (stored (bLoopStat i.val + F.LOOP_STAT.off) loopStatRow v (found s.d)) i.val = loopRg s.d i.val := by
    have h1 : bLoopD i.val + F.LD_CFG_RG.off ≠ bLoopStat i.val + F.LOOP_STAT.off := by
      simp only [haddr, bLoopD, F.LD_CFG_RG]
      omega
    have h2 : bLoopD i.val + F.LD_CFG_RG.off < 0x508000 := by
      simp only [bLoopD, F.LD_CFG_RG]
      omega
    rw [loopRg, Dev.g, hrd _ h1, found_rd_far _ (.inl h2), loopRg, Dev.g]
  have hst (g : Nat) : (stored (bLoopStat i.val + F.LOOP_STAT.off) loopStatRow v (found s.d)).rg g = (found s.d).rg g := rfl
  have hrest := stored_rest (bLoopStat i.val + F.LOOP_STAT.off) loopStatRow v (found s.d)
  generalize stored (bLoopStat i.val + F.LOOP_STAT.off) loopStatRow v (found s.d) = x at *
  have hthaw : ((thawAsked i.val x).rg (loopRg s.d i.val)).thaw =
      if (x.rg (loopRg s.d i.val)).thaw.contains i.val then (x.rg (loopRg s.d i.val)).thaw else (x.rg (loopRg s.d i.val)).thaw ++ [i.val] := by
    rw [thawAsked, hrg, Dev.rg_setRg, if_pos rfl]
  rw [hst] at hthaw
  have hx := thawAsked_eq i.val x
  generalize thawAsked i.val x = e at *
  have hkeep (a : Nat) (ha : a ≠ bLoopStat i.val + F.LOOP_STAT.off) : e.rd a = (found s.d).rd a := by
    rw [hx]
    exact hrd a ha
  refine ⟨rfl, hthaw, fun a ha => hkeep a ?_, by rw [hx, ← hrest]; rfl, fun a ha _ => hkeep a (fun h => ha (List.mem_singleton.mpr h))⟩
  simp only [bLoopS] at ha
  omega

end Sys2Proof.Machine
end

section
/-! SUPPORT. What the commit tick of a firing publishes (R299, R300, R324, R331). -/

namespace Sys2Proof.Machine

/-! ### Where a result goes -/

/-- The word at the place of a result: a register, or from 0x1000000 on a modulation slot. -/
def Dev.pubAt (d : Dev) (a : Nat) : Word := if a < 0x1000000 then d.rd a else tget (fun _ => 0#32) d.slotVals (a - 0x1000000)

theorem Dev.pubAt_reg (d : Dev) {a : Nat} (h : a < 0x1000000) : d.pubAt a = d.rd a := if_pos h

theorem Dev.pubAt_slot (d : Dev) {a : Nat} (h : 0x1000000 ≤ a) : d.pubAt a = tget (fun _ => 0#32) d.slotVals (a - 0x1000000) := if_neg (Nat.not_lt.mpr h)

theorem Dev.pubAt_congr {d e : Dev} (hr : e.regs = d.regs) (hs : e.slotVals = d.slotVals) (a : Nat) : e.pubAt a = d.pubAt a := by
  simp only [Dev.pubAt, Dev.rd_congr hr, hs]

theorem Dev.pubAt_wr_ne (d : Dev) {a b : Nat} (v : Word) (h : b ≠ a) : (d.wr a v).pubAt b = d.pubAt b := by
  simp only [Dev.pubAt, Dev.rd_wr_ne d v h, Dev.wr_slotVals]

/-- Publish one word of a result. -/
def publishWord (w : Nat × Word) (d : Dev) : Dev :=
  if w.1 < 0x1000000 then d.wr w.1 w.2 else { d with slotVals := tset (fun _ => 0#32) d.slotVals (w.1 - 0x1000000) w.2 }

theorem publishWord_reg {w : Nat × Word} (d : Dev) (h : w.1 < 0x1000000) : publishWord w d = d.wr w.1 w.2 := if_pos h

theorem publishWord_slot {w : Nat × Word} (d : Dev) (h : ¬ w.1 < 0x1000000) :
    publishWord w d = { d with slotVals := tset (fun _ => 0#32) d.slotVals (w.1 - 0x1000000) w.2 } := if_neg h

theorem publishWord_self (w : Nat × Word) (d : Dev) : (publishWord w d).pubAt w.1 = w.2 := by
  by_cases h : w.1 < 0x1000000
  · rw [publishWord_reg d h, Dev.pubAt_reg _ h, Dev.rd_wr_self]
  · rw [publishWord_slot d h, Dev.pubAt_slot _ (Nat.not_lt.mp h)]
    exact tget_tset_self _ _ _ _

theorem publishWord_ne (w : Nat × Word) (d : Dev) {a : Nat} (h : a ≠ w.1) : (publishWord w d).pubAt a = d.pubAt a := by
  by_cases hw : w.1 < 0x1000000
  · rw [publishWord_reg d hw, Dev.pubAt_wr_ne d _ h]
  · rw [publishWord_slot d hw]
    by_cases ha : a < 0x1000000
    · rw [Dev.pubAt_reg _ ha, Dev.pubAt_reg _ ha]
      rfl
    · rw [Dev.pubAt_slot _ (Nat.not_lt.mp ha), Dev.pubAt_slot _ (Nat.not_lt.mp ha)]
      exact tget_tset_ne _ _ _ (by omega)

/-! ### What a part of the commit tick may change -/

/-- `e` differs from `d` at no place of a result outside `A`, in no string outside `B`, and neither in the modes, the faults, the tick nor the firings under way. -/
structure Dev.Within (A B : Nat → Prop) (d e : Dev) : Prop where
  ms : e.ms = d.ms
  flt : e.flt = d.flt
  tick : e.tick = d.tick
  fir : ∀ g, (e.rg g).fir = (d.rg g).fir
  pub : ∀ a, ¬ A a → e.pubAt a = d.pubAt a
  str : ∀ i, ¬ B i → e.str i = d.str i

section
variable {A B : Nat → Prop} {d e f : Dev}

theorem Dev.Within.refl (d : Dev) : Dev.Within A B d d := ⟨rfl, rfl, rfl, fun _ => rfl, fun _ _ => rfl, fun _ _ => rfl⟩

theorem Dev.Within.trans (h : Dev.Within A B d e) (k : Dev.Within A B e f) : Dev.Within A B d f :=
  ⟨k.ms.trans h.ms, k.flt.trans h.flt, k.tick.trans h.tick, fun g => (k.fir g).trans (h.fir g), fun a ha => (k.pub a ha).trans (h.pub a ha),
    fun i hi => (k.str i hi).trans (h.str i hi)⟩

theorem Dev.Within.mono {A' B' : Nat → Prop} (h : Dev.Within A B d e) (hA : ∀ a, A a → A' a) (hB : ∀ i, B i → B' i) : Dev.Within A' B' d e :=
  ⟨h.ms, h.flt, h.tick, h.fir, fun a ha => h.pub a (fun x => ha (hA a x)), fun i hi => h.str i (fun x => hi (hB i x))⟩

theorem Dev.Within.rd (h : Dev.Within A B d e) {a : Nat} (h1 : ¬ A a) (h2 : a < 0x1000000) : e.rd a = d.rd a := by
  rw [← Dev.pubAt_reg e h2, h.pub a h1, Dev.pubAt_reg d h2]

theorem Dev.Within.g (h : Dev.Within A B d e) {b : Nat} {f : Fld} (h1 : ¬ A (b + f.off)) (h2 : b + f.off < 0x1000000) : e.g b f = d.g b f := by
  rw [Dev.g, h.rd h1 h2, Dev.g]

theorem Dev.within_wr (d : Dev) {a : Nat} (v : Word) (h : A a) : Dev.Within A B d (d.wr a v) :=
  ⟨rfl, rfl, rfl, fun _ => rfl, fun _ hb => Dev.pubAt_wr_ne d v (fun e => hb (e ▸ h)), fun _ _ => rfl⟩

theorem Dev.within_p (d : Dev) {b : Nat} (f : Fld) (v : Nat) (h : A (b + f.off)) : Dev.Within A B d (d.p b f v) := Dev.within_wr d _ h

theorem Dev.within_on {f : Dev → Dev} (c : Bool) (h : Dev.Within A B d (f d)) : Dev.Within A B d (d.on c f) := by
  cases c
  · exact Dev.Within.refl d
  · exact h

theorem Dev.within_each {α : Type} {l : List α} {f : α → Dev → Dev} (h : ∀ x ∈ l, ∀ d, Dev.Within A B d (f x d)) (d : Dev) : Dev.Within A B d (d.each l f) :=
  each_keeps (P := fun e => Dev.Within A B d e) (fun x hx e he => he.trans (h x hx e)) d (Dev.Within.refl d)

theorem Dev.within_post (d : Dev) (w : Due) : Dev.Within A B d (d.post w) := ⟨rfl, rfl, rfl, fun _ => rfl, fun _ _ => rfl, fun _ _ => rfl⟩

theorem Dev.within_setLeg (d : Dev) (n y : Nat) (f : LegSt → LegSt) : Dev.Within A B d (d.setLeg n y f) :=
  ⟨rfl, rfl, rfl, fun _ => rfl, fun _ _ => rfl, fun _ _ => rfl⟩

theorem Dev.within_setAux (d : Dev) (i : Nat) (f : AuxSt → AuxSt) : Dev.Within A B d (d.setAux i f) :=
  ⟨rfl, rfl, rfl, fun _ => rfl, fun _ _ => rfl, fun _ _ => rfl⟩

theorem Dev.str_setStr_self (d : Dev) (i : Nat) (f : StrSt → StrSt) : (d.setStr i f).str i = f (d.str i) := tget_tset_self _ _ _ _

theorem Dev.within_setStr (d : Dev) {i : Nat} (f : StrSt → StrSt) (h : B i) : Dev.Within A B d (d.setStr i f) :=
  ⟨rfl, rfl, rfl, fun _ => rfl, fun _ _ => rfl, fun _ hj => tget_tset_ne _ _ _ (fun e => hj (e ▸ h))⟩

theorem Dev.within_setRg (d : Dev) (g : Nat) {f : RgSt → RgSt} (h : ∀ x, (f x).fir = x.fir) : Dev.Within A B d (d.setRg g f) := by
  refine ⟨rfl, rfl, rfl, fun k => ?_, fun _ _ => rfl, fun _ _ => rfl⟩
  rw [Dev.rg_setRg]
  split
  · exact h _
  · rfl

theorem Dev.within_setTrks (d : Dev) (t : Tbl TrkSt) : Dev.Within A B d { d with trks := t } := ⟨rfl, rfl, rfl, fun _ => rfl, fun _ _ => rfl, fun _ _ => rfl⟩

theorem within_publishWord (w : Nat × Word) (d : Dev) (h : A w.1) : Dev.Within A B d (publishWord w d) := by
  have pub (a : Nat) (ha : ¬ A a) : (publishWord w d).pubAt a = d.pubAt a := publishWord_ne w d (fun e => ha (e ▸ h))
  by_cases hw : w.1 < 0x1000000
  · rw [publishWord_reg d hw]
    exact Dev.within_wr d _ h
  · rw [publishWord_slot d hw] at pub ⊢
    exact ⟨rfl, rfl, rfl, fun _ => rfl, pub, fun _ _ => rfl⟩

/-! ### The result of one loop -/

theorem within_seeSector (g : Nat) (d : Dev) : Dev.Within A B d (seeSector g d) := by
  unfold seeSector
  split
  · exact Dev.within_setRg d g (fun _ => rfl)
  · exact Dev.Within.refl d

end

/-- The bits of LOOP_STAT that a result shows before its words are stored. -/
def flagsBefore (r : LoopRes) (d : Dev) : Dev :=
  (d.p (bLoopStat r.loop) F.LOOP_STAT_SKIPPED (b2n r.skipped)).on r.stale (fun d => d.p (bLoopStat r.loop) F.LOOP_STAT_STALE 1)

/-- The bits that it shows after. -/
def flagsAfter (r : LoopRes) (d : Dev) : Dev :=
  let d := d.on r.sat (fun d => d.p (bLoopStat r.loop) F.LOOP_STAT_SAT 1)
  let d := d.on (compGroup d r.loop != 0) (fun d => d.p (bLoopStat r.loop) F.LOOP_STAT_WIN (b2n r.win))
  d.on (r.osc.contains 0x102A) (fun d => d.p (bLoopStat r.loop) F.LOOP_STAT_OSC 1)

/-- The events of a result. -/
def resultEvents (g : Nat) (r : LoopRes) (d : Dev) : Dev :=
  d.each (r.osc ++ (if r.held then [0x102D] else [])) (fun k d =>
    d.post (.event { src := 0x130 + g, kind := k, cause := none, severe := false, safe := false, form := none, time := none, hi := r.loop, data := [] }))

/-- What a result publishes on a tracker (R324). -/
def resultTracked (f : Firing) (r : LoopRes) (d : Dev) : Dev :=
  match r.trk with
  | some (th, delta, amp) =>
    let k := d.g (bLoopD r.loop) F.LD_ROUTE_TRK
    let t : TrkSt := { pub := true, amp := amp, now := ⟨th.toNat, delta, f.latch, f.since⟩, was := (d.trk k).now, since := d.tick }
    ({ d with trks := tset (fun _ => trkSt0) d.trks k t } : Dev).each (upto 8) seeSector
  | none => d

theorem publishLoop_eq (g : Nat) (f : Firing) (r : LoopRes) (d : Dev) :
    publishLoop g f r d = resultTracked f r (resultEvents g r (flagsAfter r ((flagsBefore r d).each r.regs publishWord))) := rfl

section
variable {A B : Nat → Prop} {r : LoopRes}

theorem within_flagsBefore (d : Dev) (h : A (bLoopStat r.loop)) : Dev.Within A B d (flagsBefore r d) :=
  (Dev.within_p d _ _ h).trans (Dev.within_on _ (Dev.within_p _ _ _ h))

theorem within_flagsAfter (d : Dev) (h : A (bLoopStat r.loop)) : Dev.Within A B d (flagsAfter r d) := by
  have on (c : Bool) (f : Fld) (v : Nat) (ho : f.off = 0) (d : Dev) : Dev.Within A B d (d.on c (fun d => d.p (bLoopStat r.loop) f v)) :=
    Dev.within_on _ (Dev.within_p d f v (by rw [ho]; exact h))
  unfold flagsAfter
  exact ((on _ _ _ rfl d).trans (on _ _ _ rfl _)).trans (on _ _ _ rfl _)

theorem within_resultEvents (g : Nat) (d : Dev) : Dev.Within A B d (resultEvents g r d) := Dev.within_each (fun _ _ d => Dev.within_post d _) d

theorem within_resultTracked (f : Firing) (d : Dev) : Dev.Within A B d (resultTracked f r d) := by
  unfold resultTracked
  split
  · exact (Dev.within_setTrks d _).trans (Dev.within_each (fun g _ d => within_seeSector g d) _)
  · exact Dev.Within.refl d

/-- After its words are stored a result changes nothing but its LOOP_STAT. -/
theorem within_resultEnd (g : Nat) (f : Firing) (d : Dev) (h : A (bLoopStat r.loop)) : Dev.Within A B d (resultTracked f r (resultEvents g r (flagsAfter r d))) :=
  ((within_flagsAfter d h).trans (within_resultEvents g _)).trans (within_resultTracked f _)

theorem within_publishLoop (g : Nat) (f : Firing) (d : Dev) (h : A (bLoopStat r.loop)) (hr : ∀ w ∈ r.regs, A w.1) : Dev.Within A B d (publishLoop g f r d) := by
  rw [publishLoop_eq]
  exact ((within_flagsBefore d h).trans (Dev.within_each (fun w hw d => within_publishWord w d (hr w hw)) _)).trans (within_resultEnd g f _ h)

/-- A word of a result is published. -/
theorem publishLoop_pubAt (g : Nat) (f : Firing) (d : Dev) {w : Nat × Word} (hw : w ∈ r.regs) (hu : ∀ x ∈ r.regs, x.1 = w.1 → x = w) (hs : w.1 ≠ bLoopStat r.loop) :
    (publishLoop g f r d).pubAt w.1 = w.2 := by
  rw [publishLoop_eq, (within_resultEnd (A := fun a => a = bLoopStat r.loop) (B := fun _ => False) g f _ rfl).pub _ hs]
  refine each_reaches (P := fun d => d.pubAt w.1 = w.2) (publishWord_self w) (fun x hx d h => ?_) hw _
  by_cases he : x.1 = w.1
  · rw [hu x hx he]
    exact publishWord_self w d
  · rw [publishWord_ne x d (Ne.symm he), h]

theorem g_on_p (d : Dev) (c : Bool) (b : Nat) {f e : Fld} (v : Nat) (ho : e.off = f.off) (hf : f.lo + f.w ≤ 32) (h : (f.lo + f.w ≤ e.lo ∧ e.lo ≤ 32) ∨ e.lo + e.w ≤ f.lo) :
    (d.on c (fun d => d.p b f v)).g b e = d.g b e := by
  cases c
  · rfl
  · exact Dev.g_p_disjoint d b v ho hf h

theorem flagsBefore_skipped (d : Dev) : (flagsBefore r d).gb (bLoopStat r.loop) F.LOOP_STAT_SKIPPED = r.skipped := by
  rw [Dev.gb, flagsBefore, g_on_p _ _ _ _ (by decide) (by decide) (by decide), Dev.g_p_self _ _ _ _ (by decide)]
  cases r.skipped <;> rfl

theorem flagsAfter_skipped (d : Dev) : (flagsAfter r d).g (bLoopStat r.loop) F.LOOP_STAT_SKIPPED = d.g (bLoopStat r.loop) F.LOOP_STAT_SKIPPED := by
  rw [flagsAfter, g_on_p _ _ _ _ (by decide) (by decide) (by decide), g_on_p _ _ _ _ (by decide) (by decide) (by decide), g_on_p _ _ _ _ (by decide) (by decide) (by decide)]

theorem publishLoop_skipped (g : Nat) (f : Firing) (d : Dev) (hi : r.loop < 2048) (hr : ∀ w ∈ r.regs, w.1 ≠ bLoopStat r.loop) :
    (publishLoop g f r d).gb (bLoopStat r.loop) F.LOOP_STAT_SKIPPED = r.skipped := by
  have hlow : bLoopStat r.loop + F.LOOP_STAT_SKIPPED.off < 0x1000000 := Nat.lt_trans (bLoopStat_span hi).2 (by decide)
  have hend (x : Dev) : Dev.Within (fun _ => False) (fun _ => False) x (resultTracked f r (resultEvents g r x)) :=
    (within_resultEvents g x).trans (within_resultTracked f _)
  have hmid (x : Dev) : Dev.Within (fun a => a ≠ bLoopStat r.loop) (fun _ => False) x (x.each r.regs publishWord) :=
    Dev.within_each (fun w hw d => within_publishWord w d (hr w hw)) x
  rw [publishLoop_eq, Dev.gb, (hend _).g not_false hlow, flagsAfter_skipped, (hmid _).g (not_not_intro rfl) hlow]
  exact flagsBefore_skipped d

end

end Sys2Proof.Machine
end

section
/-! SUPPORT. The results of a firing together, and the commit of the strings and pairs that its group names (R300, R347). -/

namespace Sys2Proof.Machine

/-! ### The results of a firing -/

/-- Publish the results of a firing. -/
def published (g : Nat) (f : Firing) (d : Dev) : Dev := d.each f.res (publishLoop g f)

/-- A word of a result goes to the state block of its loop or to a modulation slot. -/
def LoopRes.Placed (r : LoopRes) : Prop := r.loop < 2048 ∧ ∀ w ∈ r.regs, (bLoopS r.loop ≤ w.1 ∧ w.1 < bLoopS r.loop + 32) ∨ 0x1000000 ≤ w.1

/-- The places of results and of their flags. -/
def ResultPlace (a : Nat) : Prop := (0x230000 ≤ a ∧ a < 0x240000) ∨ (0x280000 ≤ a ∧ a < 0x290000) ∨ 0x1000000 ≤ a

theorem resultPlace_flags {i : Nat} (hi : i < 2048) : ResultPlace (bLoopStat i) := .inl (bLoopStat_span hi)

theorem LoopRes.Placed.place {r : LoopRes} (h : r.Placed) {w : Nat × Word} (hw : w ∈ r.regs) : ResultPlace w.1 := by
  have hi := h.1
  rcases h.2 w hw with hb | hs
  · simp only [bLoopS] at hb
    exact .inr (.inl (by omega))
  · exact .inr (.inr hs)

theorem LoopRes.Placed.not_flags {r : LoopRes} (h : r.Placed) {w : Nat × Word} (hw : w ∈ r.regs) {i : Nat} (hi : i < 2048) : w.1 ≠ bLoopStat i := by
  have hspan := bLoopStat_span hi
  rcases h.2 w hw with hb | hs
  · simp only [bLoopS] at hb
    omega
  · omega

/-- Two results with a word at one register are of one loop. -/
theorem LoopRes.Placed.same_loop {q r : LoopRes} (hq : q.Placed) (hr : r.Placed) {x w : Nat × Word} (hx : x ∈ q.regs) (hw : w ∈ r.regs) (hlow : w.1 < 0x1000000)
    (he : x.1 = w.1) : q.loop = r.loop := by
  rcases hq.2 x hx with h1 | h1
  · rcases hr.2 w hw with h2 | h2
    · simp only [bLoopS] at h1 h2
      omega
    · omega
  · omega

section
variable {g : Nat} {f : Firing} (hp : ∀ r ∈ f.res, r.Placed)
include hp

theorem within_published {B : Nat → Prop} (d : Dev) : Dev.Within ResultPlace B d (published g f d) :=
  Dev.within_each (fun r hr d => within_publishLoop g f d (resultPlace_flags (hp r hr).1) (fun _ hw => (hp r hr).place hw)) d

theorem published_pubAt (d : Dev) {r : LoopRes} (hr : r ∈ f.res) {w : Nat × Word} (hw : w ∈ r.regs) (hu : ∀ q ∈ f.res, ∀ x ∈ q.regs, x.1 = w.1 → x = w) :
    (published g f d).pubAt w.1 = w.2 := by
  have hflag (q : LoopRes) (hq : q ∈ f.res) : w.1 ≠ bLoopStat q.loop := (hp r hr).not_flags hw (hp q hq).1
  refine each_reaches (P := fun d => d.pubAt w.1 = w.2) (fun d => publishLoop_pubAt g f d hw (hu r hr) (hflag r hr)) (fun q hq d h => ?_) hr d
  by_cases hx : w ∈ q.regs
  · exact publishLoop_pubAt g f d hx (hu q hq) (hflag q hq)
  · have hk : Dev.Within (fun a => a ≠ w.1) (fun _ => False) d (publishLoop g f q d) :=
      within_publishLoop g f d (hflag q hq).symm (fun x hxq he => hx (hu q hq x hxq he ▸ hxq))
    exact (hk.pub w.1 (not_not_intro rfl)).trans h

theorem published_word (d : Dev) (hn : (f.res.map (fun r => r.loop)).Nodup) {r : LoopRes} (hr : r ∈ f.res) {w : Nat × Word} (hw : w ∈ r.regs) (hlow : w.1 < 0x1000000)
    (hu : ∀ x ∈ r.regs, x.1 = w.1 → x = w) : (published g f d).rd w.1 = w.2 := by
  rw [← Dev.pubAt_reg _ hlow]
  refine published_pubAt hp d hr hw (fun q hq x hx he => ?_)
  have hqr : q = r := List.inj_on_of_nodup_map hn hq hr ((hp q hq).same_loop (hp r hr) hx hw hlow he)
  exact hu x (hqr ▸ hx) he

theorem published_skipped (d : Dev) (hn : (f.res.map (fun r => r.loop)).Nodup) {r : LoopRes} (hr : r ∈ f.res) :
    (published g f d).gb (bLoopStat r.loop) F.LOOP_STAT_SKIPPED = r.skipped := by
  have hi := (hp r hr).1
  have own (d : Dev) := publishLoop_skipped g f d hi (fun w hw => (hp r hr).not_flags hw hi)
  refine each_reaches (P := fun d => d.gb (bLoopStat r.loop) F.LOOP_STAT_SKIPPED = r.skipped) own (fun q hq d h => ?_) hr d
  by_cases he : q.loop = r.loop
  · rw [List.inj_on_of_nodup_map hn hq hr he]
    exact own d
  · have hflag : bLoopStat q.loop ≠ bLoopStat r.loop := by
      simp only [bLoopStat]
      omega
    have hk : Dev.Within (fun a => a ≠ bLoopStat r.loop) (fun _ => False) d (publishLoop g f q d) :=
      within_publishLoop g f d hflag (fun w hw => (hp q hq).not_flags hw hi)
    rw [Dev.gb, hk.g (not_not_intro rfl) (Nat.lt_trans (bLoopStat_span hi).2 (by decide))]
    exact h

end

/-! ### The commit of a string -/

/-- The registers of the strings and of the auxiliary pairs. -/
def PairPlace (a : Nat) : Prop := (0x10000 ≤ a ∧ a < 0x100000) ∨ (0x302000 ≤ a ∧ a < 0x340000)

theorem pairPlace_str {i o : Nat} (hi : i < 8) (ho : o < 0x1000) : PairPlace (bStr i + o) := by
  simp only [PairPlace, bStr]
  omega

theorem pairPlace_aux {i o : Nat} (hi : i < 8) (ho : o < 0x40) : PairPlace (bAux i + o) := by
  simp only [PairPlace, bAux]
  omega

section
variable {i : Nat} (hi : i < 8)
include hi

theorem within_strField (d : Dev) {f : Fld} (v : Nat) (hf : f.off < 0x1000) : Dev.Within PairPlace (· = i) d (d.p (bStr i) f v) :=
  Dev.within_p d f v (pairPlace_str hi hf)

theorem within_noteRefusal (n r : Nat) (d : Dev) : Dev.Within PairPlace (· = i) d (noteRefusal i n r d) :=
  ((within_strField hi d _ (by decide)).trans (within_strField hi _ _ (by decide))).trans (within_strField hi _ _ (by decide))

theorem within_latchNow (d : Dev) : Dev.Within PairPlace (· = i) d (latchNow i d) := by
  have str (x : Dev) (f : StrSt → StrSt) : Dev.Within PairPlace (· = i) x (x.setStr i f) := Dev.within_setStr x f rfl
  unfold latchNow
  extract_lets b st noted legs begun latch
  have hnoted : Dev.Within PairPlace (· = i) d noted := str d _
  have hlegs : Dev.Within PairPlace (· = i) noted legs := Dev.within_each (fun w _ x => Dev.within_on _ (Dev.within_setLeg x w.1 w.2 _)) _
  replace hlegs := hnoted.trans hlegs
  clear_value legs
  have hbegun : Dev.Within PairPlace (· = i) d begun := (hlegs.trans (str _ _)).trans (within_strField (f := F.STR_COMMIT_STATUS_PENDING) hi _ 0 (by decide))
  have hlatch (set : SetV) (x : Dev) : Dev.Within PairPlace (· = i) x (latch set x) :=
    (str x _).trans (within_strField (f := F.STR_COMMIT_STATUS_LATCHED) hi _ 1 (by decide))
  clear_value begun latch
  split
  · exact hlegs
  · extract_lets v bad
    split
    · exact hbegun.trans (hlatch _ _)
    · split
      · exact hbegun.trans (within_noteRefusal hi _ _ _)
      · exact (hbegun.trans (within_noteRefusal hi _ _ _)).trans (hlatch _ _)

theorem within_latchString (d : Dev) : Dev.Within PairPlace (· = i) d (latchString i d) := by
  unfold latchString
  split
  · exact within_latchNow hi d
  · exact Dev.Within.refl d

/-- A commit of a string: a set is pending, and only its status beside it has changed. -/
theorem commitString_does (d : Dev) : Dev.Within PairPlace (· = i) d (commitString i d) ∧ ((commitString i d).str i).pend ≠ none := by
  have on (c : Bool) (f : Fld) (hf : f.off < 0x1000) (x : Dev) : Dev.Within PairPlace (· = i) x (x.on c (fun s => s.p (bStr i) f 1)) :=
    Dev.within_on c (within_strField hi x 1 hf)
  unfold commitString
  extract_lets b latched st late merged set
  have hlate : Dev.Within PairPlace (· = i) d late := (within_latchString hi d).trans (on _ F.STR_COMMIT_STATUS_COMMIT_LATE (by decide) _)
  have hmerged : Dev.Within PairPlace (· = i) d merged := hlate.trans (on _ F.STR_COMMIT_STATUS_COALESCED (by decide) _)
  clear_value merged set
  refine ⟨(hmerged.trans (Dev.within_setStr _ _ rfl)).trans (within_strField hi _ _ (by decide)), ?_⟩
  have hstr : (((merged.setStr i (fun x => { x with pend := some set })).p (bStr i) F.STR_COMMIT_STATUS_PENDING 1).str i).pend = some set := by
    rw [Dev.str, Dev.p_strs, ← Dev.str, Dev.str_setStr_self]
  rw [hstr]
  exact Option.some_ne_none set

/-- A change of positions that goes with the commit leaves the pending set. -/
theorem commitChange_does (d : Dev) : Dev.Within PairPlace (· = i) d (commitChange i d) ∧ ((commitChange i d).str i).pend = (d.str i).pend := by
  unfold commitChange
  split
  · split
    · extract_lets next
      have hset (f : StrSt → StrSt) : Dev.Within PairPlace (· = i) d (d.setStr i f) := Dev.within_setStr d f rfl
      have hfld (x : Dev) (f : Fld) (v : Nat) (hf : f.off = F.STR_CELL_STATUS.off) : Dev.Within PairPlace (· = i) x (x.p (bStr i) f v) :=
        within_strField hi x v (by rw [hf]; decide)
      refine ⟨((hset _).trans (hfld _ F.STR_CELL_STATUS_PENDING _ rfl)).trans (hfld _ F.STR_CELL_STATUS_CHANGES _ rfl), ?_⟩
      rw [Dev.inc, Dev.str, Dev.p_strs, Dev.p_strs, ← Dev.str, Dev.str_setStr_self]
    · exact ⟨Dev.Within.refl d, rfl⟩
  · exact ⟨Dev.Within.refl d, rfl⟩

theorem within_commitAux (d : Dev) {B : Nat → Prop} : Dev.Within PairPlace B d (commitAux i d) := by
  have hl : Dev.Within PairPlace B d (auxLatch i d) := by
    unfold auxLatch
    extract_lets x
    split
    · exact Dev.within_setAux d i _
    · exact Dev.Within.refl d
  unfold commitAux
  extract_lets latched late set
  have hlate : Dev.Within PairPlace B latched late := Dev.within_on _ (Dev.within_p _ _ _ (pairPlace_aux (o := F.AUX_STATUS_COMMIT_LATE.off) hi (by decide)))
  exact (hl.trans hlate).trans (Dev.within_setAux late i _)

end

/-! ### The commit of what a group names (R300 step 2, R347) -/

/-- The strings whose commit a group brings now. -/
def namedStrings (g : Nat) (d : Dev) : List Nat :=
  (upto 8).filter (fun i => bitOf (d.g (bRg g) F.RG_COMMITS_STRINGS) i && d.enabled (.string i) && commitsTaken d i)

/-- The auxiliary pairs whose commit a group brings now. -/
def namedAux (g : Nat) (d : Dev) : List Nat := (upto 8).filter (fun i => bitOf (d.g (bRg g) F.RG_COMMITS_AUX) i && d.enabled (.aux i) && d.mode != .safe && !stopping d)

/-- Note whether the commit falls in a late band (R347). -/
def bandNoted (g : Nat) (d : Dev) : Dev :=
  let own := d.g (bRg g) F.RG_CFG_EVENT / 2
  let tested := d.g (bRg g) F.RG_CFG_SRC == 0 && (namedStrings g d).contains own
  let band := tested && lateNow d own
  let was := (d.rg g).band
  let d := (d.setRg g (fun x => { x with band := if tested then band else x.band })).on band (fun s => s.p (bRg g) F.RG_STATUS_LATE_BAND 1)
  d.on (band && !was) (raise (0x128 + g) 0x1029)

/-- The commit of the strings that a group names. -/
def stringsCommitted (g : Nat) (d : Dev) : Dev := (bandNoted g d).each (namedStrings g d) (fun i d => commitChange i (commitString i d))

theorem commitNamed_eq (g : Nat) (d : Dev) : commitNamed g d = (stringsCommitted g d).each (namedAux g (stringsCommitted g d)) commitAux := rfl

theorem mem_namedStrings {g i : Nat} {d : Dev} :
    i ∈ namedStrings g d ↔ i < 8 ∧ bitOf (d.g (bRg g) F.RG_COMMITS_STRINGS) i = true ∧ d.enabled (.string i) = true ∧ commitsTaken d i = true := by
  simp [namedStrings, mem_upto, and_assoc]

/-- The commit of one string with its change of positions. -/
theorem stringCommit_does {i : Nat} (hi : i < 8) (d : Dev) : Dev.Within PairPlace (· = i) d (commitChange i (commitString i d)) ∧
    ((commitChange i (commitString i d)).str i).pend ≠ none := by
  obtain ⟨h1, h2⟩ := commitString_does hi d
  obtain ⟨h3, h4⟩ := commitChange_does hi (commitString i d)
  exact ⟨h1.trans h3, h4 ▸ h2⟩

theorem within_bandNoted (g : Nat) {B : Nat → Prop} (d : Dev) : Dev.Within (· = bRg g + F.RG_STATUS.off) B d (bandNoted g d) := by
  unfold bandNoted
  extract_lets own tested band was noted
  have hset : Dev.Within (· = bRg g + F.RG_STATUS.off) B d (d.setRg g (fun x => { x with band := if tested then band else x.band })) :=
    Dev.within_setRg d g (fun _ => rfl)
  have hnoted : Dev.Within (· = bRg g + F.RG_STATUS.off) B d noted := hset.trans (Dev.within_on _ (Dev.within_p _ _ _ rfl))
  exact hnoted.trans (Dev.within_on _ (Dev.within_post _ _))

theorem bandNoted_consec (g : Nat) (d : Dev) : (bandNoted g d).g (bRg g) F.RG_STATUS_CONSEC = d.g (bRg g) F.RG_STATUS_CONSEC := by
  have raised (c : Bool) (x : Dev) : (x.on c (raise (0x128 + g) 0x1029)).g (bRg g) F.RG_STATUS_CONSEC = x.g (bRg g) F.RG_STATUS_CONSEC := by
    cases c <;> rfl
  unfold bandNoted
  extract_lets own tested band was noted
  rw [raised, g_on_p _ _ _ _ (by decide) (by decide) (by decide)]
  rfl

theorem bRg_span {g : Nat} (hg : g < 8) : 0x240100 ≤ bRg g ∧ bRg g ≤ 0x2402C0 := by
  simp only [bRg]
  omega

/-- The commits themselves touch nothing but the strings and pairs. -/
theorem within_commits (g : Nat) (d : Dev) : Dev.Within PairPlace (· < 8) (bandNoted g d) (commitNamed g d) := by
  rw [commitNamed_eq]
  have strs : Dev.Within PairPlace (· < 8) (bandNoted g d) (stringsCommitted g d) := Dev.within_each (fun i hm x => by
    have hi := (mem_namedStrings.mp hm).1
    exact (stringCommit_does hi x).1.mono (fun _ h => h) (fun j hj => hj ▸ hi)) _
  exact strs.trans (Dev.within_each (fun i hm x => within_commitAux (mem_upto.mp (List.mem_filter.mp hm).1) x) _)

theorem within_commitNamed (g : Nat) (d : Dev) : Dev.Within (fun a => a = bRg g + F.RG_STATUS.off ∨ PairPlace a) (· < 8) d (commitNamed g d) :=
  ((within_bandNoted g d).mono (fun _ h => .inl h) (fun _ h => h)).trans ((within_commits g d).mono (fun _ h => .inr h) (fun _ h => h))

theorem commitNamed_consec {g : Nat} (hg : g < 8) (d : Dev) : (commitNamed g d).g (bRg g) F.RG_STATUS_CONSEC = d.g (bRg g) F.RG_STATUS_CONSEC := by
  have hspan := bRg_span hg
  have hout : ¬ PairPlace (bRg g + F.RG_STATUS_CONSEC.off) := by
    simp only [PairPlace, F.RG_STATUS_CONSEC]
    omega
  rw [(within_commits g d).g hout (by simp only [F.RG_STATUS_CONSEC]; omega), bandNoted_consec]

theorem commitNamed_pend {g i : Nat} {d : Dev} (hm : i ∈ namedStrings g d) : ((commitNamed g d).str i).pend ≠ none := by
  have hi := (mem_namedStrings.mp hm).1
  have hs : ((stringsCommitted g d).str i).pend ≠ none := by
    refine each_reaches (P := fun d => (d.str i).pend ≠ none) (fun x => (stringCommit_does hi x).2) (fun j hj x h => ?_) hm _
    by_cases hji : i = j
    · rw [← hji]
      exact (stringCommit_does hi x).2
    · rw [(stringCommit_does (mem_namedStrings.mp hj).1 x).1.str i hji]
      exact h
  have haux : Dev.Within PairPlace (fun _ => False) (stringsCommitted g d) (commitNamed g d) := by
    rw [commitNamed_eq]
    exact Dev.within_each (fun i hm x => within_commitAux (mem_upto.mp (List.mem_filter.mp hm).1) x) _
  rw [haux.str i not_false]
  exact hs

end Sys2Proof.Machine
end

section
/-! SUPPORT. The commit tick of a firing (R299 to R302, R347). -/

namespace Sys2Proof.Machine

/-- The firing of a group is over. -/
def firingEnded (g : Nat) (d : Dev) : Dev := d.setRg g (fun x => { x with fir := none })

theorem firingEnded_fir (g : Nat) (d : Dev) : ((firingEnded g d).rg g).fir = none := by rw [firingEnded, Dev.rg_setRg, if_pos rfl]

theorem firingEnded_g (g : Nat) (d : Dev) (b : Nat) (f : Fld) : (firingEnded g d).g b f = d.g b f := Dev.g_congr rfl b f

theorem commitTick_waits {g : Nat} {d : Dev} {f : Firing} (hf : (d.rg g).fir = some f) (ht : d.tick ≠ f.tf + d.g (bRg g) F.RG_DL_DL) : commitTick g d = d := by
  have hc : (d.tick != f.tf + d.g (bRg g) F.RG_DL_DL) = true := by simpa using ht
  rw [commitTick, hf]
  exact if_pos hc

/-- The commit of a firing that is evaluated: what is left once its results are published. -/
def resultsOut (g : Nat) (f : Firing) (d : Dev) : Dev := (published g f (firingEnded g d)).p (bRg g) F.RG_STATUS_CONSEC 0

theorem commitTick_publishes {g : Nat} {d : Dev} {f : Firing} (hf : (d.rg g).fir = some f) (ht : d.tick = f.tf + d.g (bRg g) F.RG_DL_DL) (hl : f.latched = true)
    (hd : f.done = true) : commitTick g d = commitNamed g (resultsOut g f d) := by
  have hc : ¬ (d.tick != f.tf + d.g (bRg g) F.RG_DL_DL) = true := by simpa using ht
  have hready : (f.latched && f.done) = true := by rw [hl, hd]; rfl
  rw [commitTick, hf]
  exact (if_neg hc).trans (if_pos hready)

theorem commitTick_overruns {g : Nat} {d : Dev} {f : Firing} (hf : (d.rg g).fir = some f) (ht : d.tick = f.tf + d.g (bRg g) F.RG_DL_DL) (hr : (f.latched && f.done) = false) :
    commitTick g d = overrun g (firingEnded g d) := by
  have hc : ¬ (d.tick != f.tf + d.g (bRg g) F.RG_DL_DL) = true := by simpa using ht
  rw [commitTick, hf]
  exact (if_neg hc).trans (if_neg (by rw [hr]; exact Bool.false_ne_true))

/-- Beside the commit tick of the group, the pair notes a digest of what a firing has published and of nothing else (R516). -/
theorem commitPair_eq {g : Nat} {d : Dev} {f : Firing} (hf : (d.rg g).fir = some f) : ∃ q, commitPair g d = (commitTick g d).setPair q := by
  have noted (sets : List SetV) (x : Dev) : ∃ q, noteDigest f g sets x = x.setPair q := by
    unfold noteDigest
    split
    · exact ⟨_, rfl⟩
    · exact ⟨id, rfl⟩
  rw [commitPair, hf]
  generalize commitTick g d = x
  simp only []
  generalize (f.latched && f.done && (x.rg g).fir.isNone) = c
  cases c
  · exact ⟨id, rfl⟩
  · exact noted _ x

theorem commitPair_quiet {g : Nat} {d : Dev} {f : Firing} (hf : (d.rg g).fir = some f) (h : ((commitTick g d).rg g).fir = some f) : commitPair g d = commitTick g d := by
  rw [commitPair, hf]
  simp only [h, Option.isNone_some, Bool.and_false]
  rfl

theorem commitPair_does {g : Fin 8} {s : State} {f : Firing} {P : Dev → Prop} (hf : (s.d.rg g.val).fir = some f)
    (h : ∀ q, P ((commitTick g.val s.d.fresh).setPair q)) : Does (exec (.rgCommitTick g) s) s P := by
  refine upd_does (f := commitPair g.val) ?_
  obtain ⟨q, hq⟩ := commitPair_eq (d := s.d.fresh) hf
  rw [hq]
  exact h q

theorem rgCommitTick_waits (g : Fin 8) (s : State) (f : Firing) (hf : (s.d.rg g.val).fir = some f) (ht : s.d.tick ≠ f.tf + s.d.g (bRg g.val) F.RG_DL_DL) :
    Does (exec (.rgCommitTick g) s) s (fun e => e = s.d.fresh) := by
  have hw : commitTick g.val s.d.fresh = s.d.fresh := commitTick_waits (d := s.d.fresh) hf ht
  refine upd_does (f := commitPair g.val) ?_
  rw [commitPair_quiet (d := s.d.fresh) hf (by rw [hw]; exact hf), hw]

/-! ### An overrun (R301, R302) -/

/-- The registers that count an overrun. -/
def overrunCounted (g : Nat) (d : Dev) : Dev :=
  ((d.inc (bRg g) F.RG_COUNT_OVERRUNS).p (bRg g) F.RG_STATUS_CONSEC (min 15 (d.g (bRg g) F.RG_STATUS_CONSEC + 1))).p (bRg g) F.RG_STATUS_OVERRUN 1

theorem overrunCounted_g (g : Nat) (d : Dev) : (overrunCounted g d).g (bRg g) F.RG_COUNT_OVERRUNS = (d.g (bRg g) F.RG_COUNT_OVERRUNS + 1) % 65536 := by
  have hne : bRg g + F.RG_COUNT_OVERRUNS.off ≠ bRg g + F.RG_STATUS.off := by simp [F.RG_COUNT_OVERRUNS, F.RG_STATUS]
  rw [overrunCounted, Dev.g_p_ne (f := F.RG_STATUS_OVERRUN) _ _ hne, Dev.g_p_ne (f := F.RG_STATUS_CONSEC) _ _ hne, Dev.inc, Dev.g_p_self _ _ _ _ (by decide)]
  rfl

theorem overrunCounted_rd (g : Nat) (d : Dev) {a : Nat} (h1 : a ≠ bRg g + F.RG_COUNT.off) (h2 : a ≠ bRg g + F.RG_STATUS.off) : (overrunCounted g d).rd a = d.rd a := by
  rw [overrunCounted, Dev.rd_p_ne _ F.RG_STATUS_OVERRUN _ h2, Dev.rd_p_ne _ F.RG_STATUS_CONSEC _ h2, Dev.inc, Dev.rd_p_ne _ F.RG_COUNT_OVERRUNS _ h1]

theorem overrunCounted_keeps (g : Nat) (d : Dev) : (overrunCounted g d).slotVals = d.slotVals ∧ (overrunCounted g d).strs = d.strs ∧ (overrunCounted g d).rgs = d.rgs := by
  rw [overrunCounted, Dev.inc]
  refine ⟨?_, ?_, ?_⟩
  · rw [Dev.p_slotVals, Dev.p_slotVals, Dev.p_slotVals]
  · rw [Dev.p_strs, Dev.p_strs, Dev.p_strs]
  · rw [Dev.p_rgs, Dev.p_rgs, Dev.p_rgs]

/-- The event of an overrun, severe at the third in a row (R302, R303). -/
def overrunEvent (g c : Nat) : Ev :=
  { src := 0x128 + g, kind := 0x1028, cause := none, severe := c == 3, safe := false, form := none, time := none, hi := 0, data := [] }

theorem overrun_eq (g : Nat) (d : Dev) : overrun g d =
    ((overrunCounted g d).setRg g (fun x => { x with boundary := x.boundary || !(overrunCounted g d).gb bLoopCom F.LOOP_CFG_PLACE })).post
      (.event (overrunEvent g (min 15 (d.g (bRg g) F.RG_STATUS_CONSEC + 1)))) := rfl

/-- An overrun as the module shows it: the firing is over, the count and the event are there, and nothing is published. -/
def OverrunSeen (g : Nat) (d e : Dev) : Prop :=
  (e.rg g).fir = none ∧ e.g (bRg g) F.RG_COUNT_OVERRUNS = (d.g (bRg g) F.RG_COUNT_OVERRUNS + 1) % 65536 ∧ e.slotVals = d.slotVals ∧ e.strs = d.strs ∧
    (∃ ev : Ev, Due.event ev ∈ e.due ∧ ev.src = 0x128 + g ∧ ev.kind = 0x1028) ∧ (∀ a, a ∉ [bRg g + F.RG_COUNT.off, bRg g + F.RG_STATUS.off] → e.rd a = d.rd a)

theorem overrun_seen (g : Nat) (d : Dev) : OverrunSeen g d (overrun g (firingEnded g d)) := by
  generalize ho : overrun g (firingEnded g d) = e
  have he : e = _ := ho.symm.trans (overrun_eq g (firingEnded g d))
  clear ho
  have hg := overrunCounted_g g (firingEnded g d)
  have hrd (a : Nat) := overrunCounted_rd g (firingEnded g d) (a := a)
  obtain ⟨hslot, hstr, hrgs⟩ := overrunCounted_keeps g (firingEnded g d)
  have hfir : ((overrunCounted g (firingEnded g d)).rg g).fir = none := by rw [Dev.rg, hrgs, ← Dev.rg, firingEnded_fir]
  generalize overrunCounted g (firingEnded g d) = x at *
  generalize (!x.gb bLoopCom F.LOOP_CFG_PLACE) = b at he
  generalize min 15 _ = c at he
  have hend : ((x.setRg g (fun y => { y with boundary := y.boundary || b })).rg g).fir = none := by
    rw [Dev.rg_setRg, if_pos rfl]
    exact hfir
  have hregs : e.regs = x.regs := by rw [he, Dev.post_regs, Dev.setRg_regs]
  refine ⟨?_, ?_, ?_, ?_, ⟨overrunEvent g c, ?_, rfl, rfl⟩, fun a ha => ?_⟩
  · rw [he, Dev.rg, Dev.post_rgs, ← Dev.rg, hend]
  · rw [Dev.g_congr hregs, hg, firingEnded_g]
  · rw [he, Dev.post_slotVals, Dev.setRg_slotVals, hslot]
    rfl
  · rw [he, Dev.post_strs, Dev.setRg_strs, hstr]
    rfl
  · rw [he, Dev.post_due]
    exact List.mem_append_right _ (List.mem_singleton.mpr rfl)
  · obtain ⟨h1, h2⟩ : a ≠ bRg g + F.RG_COUNT.off ∧ a ≠ bRg g + F.RG_STATUS.off := by simpa using ha
    rw [Dev.rd_congr hregs, hrd a h1 h2]
    rfl

/-- It rests on the registers, the slots and the strings of before. -/
theorem OverrunSeen.of_eq {g : Nat} {d d' e : Dev} (h : OverrunSeen g d' e) (hr : d'.regs = d.regs) (hs : d'.slotVals = d.slotVals) (ht : d'.strs = d.strs) :
    OverrunSeen g d e := by
  obtain ⟨hfir, hover, hslot, hstr, hev, hrd⟩ := h
  exact ⟨hfir, hover.trans (by rw [Dev.g_congr hr]), hslot.trans hs, hstr.trans ht, hev, fun a ha => (hrd a ha).trans (Dev.rd_congr hr a)⟩

theorem OverrunSeen.setPair {g : Nat} {d e : Dev} (h : OverrunSeen g d e) (q : PairSt → PairSt) : OverrunSeen g d (e.setPair q) := by
  obtain ⟨hfir, hover, hslot, hstr, hev, hrd⟩ := h
  have hregs : (e.setPair q).regs = e.regs := Dev.setPair_regs e q
  refine ⟨?_, (Dev.g_congr hregs _ _).trans hover, by rw [Dev.setPair_slotVals, hslot], by rw [Dev.setPair_strs, hstr], by rw [Dev.setPair_due]; exact hev,
    fun a ha => (Dev.rd_congr hregs a).trans (hrd a ha)⟩
  rw [Dev.rg, Dev.setPair_rgs, ← Dev.rg, hfir]

theorem rgCommitTick_overruns (g : Fin 8) (s : State) (f : Firing) (hf : (s.d.rg g.val).fir = some f) (ht : s.d.tick = f.tf + s.d.g (bRg g.val) F.RG_DL_DL)
    (hr : (f.latched && f.done) = false) : Does (exec (.rgCommitTick g) s) s (fun e => (e.rg g.val).fir = none ∧
    e.g (bRg g.val) F.RG_COUNT_OVERRUNS = (s.d.g (bRg g.val) F.RG_COUNT_OVERRUNS + 1) % 65536 ∧ e.slotVals = s.d.slotVals ∧ e.strs = s.d.strs ∧
    (∃ ev : Ev, Due.event ev ∈ e.due ∧ ev.src = 0x128 + g.val ∧ ev.kind = 0x1028) ∧
    (∀ a, a ∉ [bRg g.val + F.RG_COUNT.off, bRg g.val + F.RG_STATUS.off] → e.rd a = s.d.rd a)) := by
  refine commitPair_does hf (fun q => ?_)
  rw [commitTick_overruns (d := s.d.fresh) hf ht hr]
  exact ((overrun_seen g.val s.d.fresh).of_eq rfl rfl rfl).setPair q

/-! ### A commit (R299, R300, R347) -/

/-- After the results are out the commits touch no place of a result. -/
theorem committed_pub {g : Nat} (f : Firing) (hg : g < 8) (d : Dev) {a : Nat} (ha : ResultPlace a) : (commitNamed g (resultsOut g f d)).pubAt a = (published g f (firingEnded g d)).pubAt a := by
  have hspan := bRg_span hg
  have hne : a ≠ bRg g + F.RG_STATUS.off := by
    simp only [F.RG_STATUS]
    rcases ha with h | h | h <;> omega
  have hout : ¬ (a = bRg g + F.RG_STATUS.off ∨ PairPlace a) := by
    rintro (h | h)
    · exact hne h
    · rcases ha with ha | ha | ha <;> rcases h with h | h <;> omega
  rw [(within_commitNamed g _).pub a hout]
  exact Dev.pubAt_wr_ne _ _ hne

section
variable {g : Nat} {f : Firing} (hp : ∀ r ∈ f.res, r.Placed)
include hp

/-- What comes before the commits of the strings: results, and the count of overruns in a row. -/
theorem within_resultsOut (d : Dev) :
    Dev.Within (fun a => a = bRg g + F.RG_STATUS.off ∨ ResultPlace a) (fun _ => False) (firingEnded g d) (resultsOut g f d) :=
  ((within_published hp _).mono (fun _ h => .inr h) (fun _ h => h)).trans (Dev.within_p _ _ _ (.inl rfl))

/-- The strings that are committed are those that the group named before. -/
theorem named_resultsOut (hg : g < 8) (d : Dev) {i : Nat} (hi : i < 8) (hb : bitOf (d.g (bRg g) F.RG_COMMITS_STRINGS) i = true) (he : d.enabled (.string i) = true)
    (hc : commitsTaken d i = true) : i ∈ namedStrings g (resultsOut g f d) := by
  have hspan := bRg_span hg
  have h := within_resultsOut (g := g) hp d
  have hlow {a : Nat} (ha : a < 0x230000) : (resultsOut g f d).rd a = d.rd a := h.rd (by
    rintro (h | h | h | h) <;> simp only [F.RG_STATUS] at * <;> omega) (by omega)
  have hcom : (resultsOut g f d).g (bRg g) F.RG_COMMITS_STRINGS = d.g (bRg g) F.RG_COMMITS_STRINGS := h.g (by
    rintro (h | h | h | h) <;> simp only [F.RG_STATUS, F.RG_COMMITS_STRINGS] at * <;> omega) (by simp only [F.RG_COMMITS_STRINGS]; omega)
  have hen : (resultsOut g f d).enabled (.string i) = d.enabled (.string i) := enabled_congr (congrArg ModeSt.occ h.ms) (hlow (by
    simp only [enableReg, bStr, F.STR_ENABLE]
    omega))
  have hmode : (resultsOut g f d).mode = d.mode := by rw [Dev.mode, Dev.g, hlow (by decide), Dev.mode, Dev.g]
  have htaken : commitsTaken (resultsOut g f d) i = commitsTaken d i := by
    rw [commitsTaken, stopping, Dev.halted, h.ms, h.flt, hmode, commitsTaken, stopping, Dev.halted]
    rfl
  exact mem_namedStrings.mpr ⟨hi, hcom ▸ hb, hen ▸ he, htaken ▸ hc⟩

theorem committed_does (hg : g < 8) (d : Dev) (hn : (f.res.map (fun r => r.loop)).Nodup) :
    let e := commitNamed g (resultsOut g f d)
    (e.rg g).fir = none ∧ e.g (bRg g) F.RG_STATUS_CONSEC = 0 ∧
      (∀ r ∈ f.res, ∀ w ∈ r.regs, w.1 < 0x1000000 → (∀ x ∈ r.regs, x.1 = w.1 → x = w) → e.rd w.1 = w.2) ∧
      (∀ r ∈ f.res, ∀ w ∈ r.regs, 0x1000000 ≤ w.1 → (∀ q ∈ f.res, ∀ x ∈ q.regs, x.1 = w.1 → x = w) → tget (fun _ => 0#32) e.slotVals (w.1 - 0x1000000) = w.2) ∧
      (∀ r ∈ f.res, e.gb (bLoopStat r.loop) F.LOOP_STAT_SKIPPED = r.skipped) ∧
      (∀ i < 8, bitOf (d.g (bRg g) F.RG_COMMITS_STRINGS) i = true → d.enabled (.string i) = true → commitsTaken d i = true → (e.str i).pend ≠ none) ∧
      e.tick = d.tick ∧ e.mode = d.mode := by
  intro e
  have hpub (a : Nat) (ha : ResultPlace a) : e.pubAt a = (published g f (firingEnded g d)).pubAt a := committed_pub f hg d ha
  have hw : Dev.Within _ _ (resultsOut g f d) e := within_commitNamed g _
  have hr := within_resultsOut (g := g) hp d
  have hlow : e.rd (bDev + F.DEV_MODE_MODE.off) = d.rd (bDev + F.DEV_MODE_MODE.off) := by
    have hspan := bRg_span hg
    have h1 : ¬ (bDev + F.DEV_MODE_MODE.off = bRg g + F.RG_STATUS.off ∨ PairPlace (bDev + F.DEV_MODE_MODE.off)) := by
      simp only [PairPlace, bDev, F.DEV_MODE_MODE, F.RG_STATUS]
      omega
    have h2 : ¬ (bDev + F.DEV_MODE_MODE.off = bRg g + F.RG_STATUS.off ∨ ResultPlace (bDev + F.DEV_MODE_MODE.off)) := by
      simp only [ResultPlace, bDev, F.DEV_MODE_MODE, F.RG_STATUS]
      omega
    rw [hw.rd h1 (by decide), hr.rd h2 (by decide)]
    rfl
  have hconsec : e.g (bRg g) F.RG_STATUS_CONSEC = 0 := (commitNamed_consec hg _).trans (Dev.g_p_self _ (bRg g) F.RG_STATUS_CONSEC 0 (by decide))
  have hpend (i : Nat) (hi : i < 8) (h1 : bitOf (d.g (bRg g) F.RG_COMMITS_STRINGS) i = true) (h2 : d.enabled (.string i) = true) (h3 : commitsTaken d i = true) :
      (e.str i).pend ≠ none := commitNamed_pend (named_resultsOut hp hg d hi h1 h2 h3)
  clear_value e
  refine ⟨?_, hconsec, fun r hr w hw hlow hu => ?_, fun r hr w hw hslot hu => ?_, fun r hr => ?_, hpend, ?_, ?_⟩
  · rw [hw.fir, hr.fir, firingEnded_fir]
  · rw [← Dev.pubAt_reg _ hlow, hpub _ ((hp r hr).place hw), Dev.pubAt_reg _ hlow]
    exact published_word hp _ hn hr hw hlow hu
  · rw [← Dev.pubAt_slot _ hslot, hpub _ ((hp r hr).place hw)]
    exact published_pubAt hp _ hr hw hu
  · have hi := (hp r hr).1
    have hlow : bLoopStat r.loop < 0x1000000 := Nat.lt_trans (bLoopStat_span hi).2 (by decide)
    have hrd : e.rd (bLoopStat r.loop) = (published g f (firingEnded g d)).rd (bLoopStat r.loop) := by
      rw [← Dev.pubAt_reg _ hlow, hpub _ (resultPlace_flags hi), Dev.pubAt_reg _ hlow]
    have hgb := published_skipped hp (g := g) (firingEnded g d) hn hr
    rw [Dev.gb, Dev.g] at hgb ⊢
    rw [← hgb]
    exact congrArg (fun x => getBits x _ _ != 0) hrd
  · rw [hw.tick, hr.tick]
    rfl
  · rw [Dev.mode, Dev.g, hlow, Dev.mode, Dev.g]

end

theorem rgCommitTick_publishes (g : Fin 8) (s : State) (f : Firing) (hf : (s.d.rg g.val).fir = some f) (ht : s.d.tick = f.tf + s.d.g (bRg g.val) F.RG_DL_DL)
    (hl : f.latched = true) (hd : f.done = true)
    (hp : ∀ r ∈ f.res, r.loop < 2048 ∧ ∀ w ∈ r.regs, (bLoopS r.loop ≤ w.1 ∧ w.1 < bLoopS r.loop + 32) ∨ (0x1000000 ≤ w.1)) (hn : (f.res.map (fun r => r.loop)).Nodup) :
    Does (exec (.rgCommitTick g) s) s (fun e => (e.rg g.val).fir = none ∧ e.g (bRg g.val) F.RG_STATUS_CONSEC = 0 ∧
      (∀ r ∈ f.res, ∀ w ∈ r.regs, w.1 < 0x1000000 → (∀ x ∈ r.regs, x.1 = w.1 → x = w) → e.rd w.1 = w.2) ∧
      (∀ r ∈ f.res, ∀ w ∈ r.regs, 0x1000000 ≤ w.1 → (∀ q ∈ f.res, ∀ x ∈ q.regs, x.1 = w.1 → x = w) → tget (fun _ => 0#32) e.slotVals (w.1 - 0x1000000) = w.2) ∧
      (∀ r ∈ f.res, e.gb (bLoopStat r.loop) F.LOOP_STAT_SKIPPED = r.skipped) ∧
      (∀ i < 8, bitOf (s.d.g (bRg g.val) F.RG_COMMITS_STRINGS) i = true → s.d.enabled (.string i) = true → commitsTaken s.d i = true → (e.str i).pend ≠ none) ∧
      e.tick = s.d.tick ∧ e.mode = s.d.mode) := by
  refine commitPair_does hf (fun q => ?_)
  have h := committed_does hp g.isLt s.d.fresh hn
  rw [commitTick_publishes (d := s.d.fresh) hf ht hl hd]
  generalize commitNamed g.val (resultsOut g.val f s.d.fresh) = e at *
  exact h

/-- Settles O29: what a result of a firing publishes no other undoes, and the commits of the strings touch none of it; an overrun counts and drops; LOOP_COMMIT and THAW mark their groups, and thawing and the loop commit are taken register by register. -/
theorem rateGroupsCommit : Obligations.RateGroupsCommit := by
  unfold Obligations.RateGroupsCommit
  exact ⟨⟨rgCommitTick_publishes, rgCommitTick_overruns, rgCommitTick_waits⟩, loopCommit_serves, loopThaw_serves, thaw_does, loopCommit_forces⟩

end Sys2Proof.Machine
end

section
/-! SUPPORT. The pulse of a period and its carry (R169). -/

namespace Sys2Proof.Machine

/-! ### The pulse of a period (R169) -/

/-- The width asked for, cut to a period, and what the cut leaves over. -/
def cutWidth (w0 : Int) (per : Nat) : Int × Int := if w0 < 0 then (0, w0) else if w0 > per then (per, w0 - per) else (w0, 0)

/-- A pulse shorter than MINP becomes MINP wide or none. -/
def noShortPulse (minp : Nat) (stretch : Bool) (p : Int × Int) : Int × Int :=
  if 0 < p.1 ∧ p.1 < minp then (if stretch then (minp, p.2 + p.1 - minp) else (0, p.2 + p.1)) else p

/-- A gap shorter than MINP becomes MINP wide or none. -/
def noShortGap (per minp : Nat) (stretch : Bool) (p : Int × Int) : Int × Int :=
  if 0 < per - p.1 ∧ per - p.1 < minp then (if stretch then (per - minp, p.2 + p.1 - (per - minp)) else (per, p.2 - (per - p.1))) else p

/-- The carry is kept within MINP. -/
def clampCarry (minp : Nat) (p : Int × Int) : Int × Int × Bool := if absI p.2 > minp then (p.1, signI p.2 * minp, true) else (p.1, p.2, false)

theorem pulse_eq (w0 : Int) (per minp : Nat) (stretch : Bool) :
    pulse w0 per minp stretch = clampCarry minp (noShortGap per minp stretch (noShortPulse minp stretch (cutWidth w0 per))) := by
  have hcut : cutWidth w0 per = (if (if w0 < 0 then ((0 : Int), w0) else (w0, 0)).1 > per then ((per : Int), (if w0 < 0 then ((0 : Int), w0) else (w0, 0)).1 - per)
      else if w0 < 0 then (0, w0) else (w0, 0)) := by
    unfold cutWidth
    by_cases h : w0 < 0
    · simp only [if_pos h]
      rw [if_neg (by omega)]
    · simp only [if_neg h]
  rw [hcut]
  rfl

theorem cutWidth_spec (w0 : Int) (per : Nat) : 0 ≤ (cutWidth w0 per).1 ∧ (cutWidth w0 per).1 ≤ per ∧ (cutWidth w0 per).1 + (cutWidth w0 per).2 = w0 := by
  unfold cutWidth
  split_ifs <;> refine ⟨?_, ?_, ?_⟩ <;> omega

theorem noShortPulse_spec {per minp : Nat} (stretch : Bool) {p : Int × Int} (hm : 2 * minp ≤ per) (h0 : 0 ≤ p.1) (h1 : p.1 ≤ per) :
    ((noShortPulse minp stretch p).1 = 0 ∨ minp ≤ (noShortPulse minp stretch p).1) ∧ (noShortPulse minp stretch p).1 ≤ per ∧
      (noShortPulse minp stretch p).1 + (noShortPulse minp stretch p).2 = p.1 + p.2 := by
  obtain ⟨w, e⟩ := p
  dsimp only at h0 h1
  unfold noShortPulse
  split_ifs with hs ht
  · exact ⟨.inr (le_refl (minp : Int)), show (minp : Int) ≤ per by omega, show (minp : Int) + (e + w - minp) = w + e by omega⟩
  · exact ⟨.inl rfl, show (0 : Int) ≤ per by omega, show 0 + (e + w) = w + e by omega⟩
  · exact ⟨show w = 0 ∨ (minp : Int) ≤ w by dsimp only at hs; omega, h1, rfl⟩

theorem noShortGap_spec {per minp : Nat} (stretch : Bool) {p : Int × Int} (hm : 2 * minp ≤ per) (h0 : p.1 = 0 ∨ minp ≤ p.1) (h1 : p.1 ≤ per) :
    ((noShortGap per minp stretch p).1 = 0 ∨ (noShortGap per minp stretch p).1 = per ∨
      (minp ≤ (noShortGap per minp stretch p).1 ∧ (noShortGap per minp stretch p).1 ≤ per - minp)) ∧
      (noShortGap per minp stretch p).1 + (noShortGap per minp stretch p).2 = p.1 + p.2 := by
  obtain ⟨w, e⟩ := p
  dsimp only at h0 h1
  unfold noShortGap
  split_ifs with hs ht
  · exact ⟨.inr (.inr ⟨show (minp : Int) ≤ per - minp by omega, le_refl ((per : Int) - minp)⟩),
      show (per : Int) - minp + (e + w - (per - minp)) = w + e by omega⟩
  · exact ⟨.inr (.inl rfl), show (per : Int) + (e - (per - w)) = w + e by omega⟩
  · exact ⟨show w = 0 ∨ w = per ∨ ((minp : Int) ≤ w ∧ w ≤ per - minp) by dsimp only at hs; omega, rfl⟩

theorem clampCarry_width (minp : Nat) (p : Int × Int) : (clampCarry minp p).1 = p.1 := by
  unfold clampCarry
  split <;> rfl

theorem clampCarry_carry (minp : Nat) (p : Int × Int) : ((clampCarry minp p).2.2 = false → (clampCarry minp p).2.1 = p.2) ∧ absI (clampCarry minp p).2.1 ≤ minp := by
  unfold clampCarry
  split_ifs with h
  · refine ⟨nofun, ?_⟩
    unfold absI signI
    split_ifs <;> simp
  · exact ⟨fun _ => rfl, Nat.not_lt.mp h⟩

/-- Settles O17: the width is cut to the period, then neither pulse nor gap is left between 0 and MINP; each step moves what it takes from the width to the carry. -/
theorem pulseKeepsMinimumAndCarry : Obligations.PulseKeepsMinimumAndCarry := by
  unfold Obligations.PulseKeepsMinimumAndCarry
  intro w0 per minp stretch hm r
  have hr : r = clampCarry minp (noShortGap per minp stretch (noShortPulse minp stretch (cutWidth w0 per))) := pulse_eq w0 per minp stretch
  obtain ⟨hc0, hc1, hcsum⟩ := cutWidth_spec w0 per
  obtain ⟨hp0, hp1, hpsum⟩ := noShortPulse_spec stretch hm hc0 hc1
  obtain ⟨hg, hgsum⟩ := noShortGap_spec stretch hm hp0 hp1
  obtain ⟨hcarry, hclamp⟩ := clampCarry_carry minp (noShortGap per minp stretch (noShortPulse minp stretch (cutWidth w0 per)))
  rw [hr, clampCarry_width]
  refine ⟨hg, fun hf => ?_, hclamp⟩
  rw [hcarry hf, hgsum, hpsum, hcsum]

end Sys2Proof.Machine
end

section
/-! SUPPORT. Reads after updates of the strings, legs, pairs and ports, and a set that comes into force (R179, R183). -/

namespace Sys2Proof.Machine

/-! ### Reads after updates -/

theorem Dev.str_setStr_ne (d : Dev) {i j : Nat} (f : StrSt → StrSt) (h : j ≠ i) : (d.setStr i f).str j = d.str j := tget_tset_ne _ _ _ h

theorem Dev.leg_setLeg_self (d : Dev) (n y : Nat) (f : LegSt → LegSt) : (d.setLeg n y f).leg n y = f (d.leg n y) := tget_tset_self _ _ _ _

theorem Dev.leg_setLeg_ne (d : Dev) {n y m x : Nat} (f : LegSt → LegSt) (h : m * 6 + x ≠ n * 6 + y) : (d.setLeg n y f).leg m x = d.leg m x :=
  tget_tset_ne _ _ _ h

theorem Dev.auxp_setAux_self (d : Dev) (i : Nat) (f : AuxSt → AuxSt) : (d.setAux i f).auxp i = f (d.auxp i) := tget_tset_self _ _ _ _

theorem Dev.auxp_setAux_ne (d : Dev) {i j : Nat} (f : AuxSt → AuxSt) (h : j ≠ i) : (d.setAux i f).auxp j = d.auxp j := tget_tset_ne _ _ _ h

theorem Dev.port_setPort_self (d : Dev) (p : Nat) (f : PortSt → PortSt) : (d.setPort p f).port p = f (d.port p) := tget_tset_self _ _ _ _

theorem Dev.port_setPort_ne (d : Dev) {p q : Nat} (f : PortSt → PortSt) (h : q ≠ p) : (d.setPort p f).port q = d.port q := tget_tset_ne _ _ _ h

theorem gb_p_false (d : Dev) (b : Nat) {f : Fld} (hf : f.lo + f.w ≤ 32) : (d.p b f 0).gb b f = false := by
  rw [Dev.gb, Dev.g_p_self d b f 0 hf, Nat.zero_mod]
  rfl

theorem gb_p_disjoint (d : Dev) (b : Nat) {f e : Fld} (v : Nat) (ho : e.off = f.off) (hf : f.lo + f.w ≤ 32) (h : (f.lo + f.w ≤ e.lo ∧ e.lo ≤ 32) ∨ e.lo + e.w ≤ f.lo) :
    (d.p b f v).gb b e = d.gb b e := by rw [Dev.gb, Dev.g_p_disjoint d b v ho hf h, Dev.gb]

/-- A bit of a field of one bit reads as it was written. -/
theorem gb_pb (d : Dev) (b : Nat) {f : Fld} (v : Bool) (hf : f.lo + f.w ≤ 32) (hw : 0 < f.w) : (d.pb b f v).gb b f = v := by
  cases v
  · exact gb_p_false d b hf
  · exact gb_p_true d b hf hw

theorem Dev.g_fresh (d : Dev) (b : Nat) (f : Fld) : d.fresh.g b f = d.g b f := rfl

theorem Dev.gb_fresh (d : Dev) (b : Nat) (f : Fld) : d.fresh.gb b f = d.gb b f := rfl

theorem linkOn_fresh (d : Dev) : linkOn d.fresh = linkOn d := by simp only [linkOn, domOn, pwrTrans, pwrState, pwrTarget, Dev.gb_fresh, Dev.g_fresh]; rfl

/-- A field write changes the register file alone. -/
theorem Dev.p_only (d : Dev) (b : Nat) (f : Fld) (v : Nat) : d.p b f v = { d with regs := (d.p b f v).regs } := rfl

theorem Dev.p_p_only (d : Dev) (b : Nat) (f : Fld) (v c : Nat) (g : Fld) (w : Nat) : (d.p b f v).p c g w = { d with regs := ((d.p b f v).p c g w).regs } := rfl

/-! ### A set comes into force (R179, R183) -/

theorem applySet_only (set : SetV) (d : Dev) : applySet set d = { d with force := (applySet set d).force } := by
  refine each_keeps (P := fun e => e = { d with force := e.force }) (fun w _ e h => ?_) d rfl
  rw [h]
  rfl

theorem applySet_out (set : SetV) (d : Dev) {a : Nat} (h : ∀ w ∈ set, w.1 ≠ a) : (applySet set d).rdF a = d.rdF a :=
  each_field_mem set (fun w d => d.wrF w.1 w.2) (fun d => d.rdF a) (fun w hw d => Dev.rdF_wrF_ne d w.2 (h w hw).symm) d

theorem applySet_in (set : SetV) (d : Dev) {w : Nat × Word} (hw : w ∈ set) (hu : ∀ x ∈ set, x.1 = w.1 → x = w) : (applySet set d).rdF w.1 = w.2 := by
  refine each_reaches (P := fun d => d.rdF w.1 = w.2) (fun d => Dev.rdF_wrF_self d w.1 w.2) (fun x hx d h => ?_) hw d
  by_cases he : x.1 = w.1
  · rw [hu x hx he]
    exact Dev.rdF_wrF_self d w.1 w.2
  · rw [Dev.rdF_wrF_ne d x.2 (Ne.symm he), h]

/-- The set `lat` stands in force in `e`, and every other value in force is that of `d`. -/
def Forced (lat : Option SetV) (d e : Dev) : Prop :=
  (lat = none → e.force = d.force) ∧
    ∀ set, lat = some set → (∀ a, (∀ w ∈ set, w.1 ≠ a) → e.rdF a = d.rdF a) ∧ ∀ w ∈ set, (∀ x ∈ set, x.1 = w.1 → x = w) → e.rdF w.1 = w.2

/-- Bring a set into force, where there is one. -/
def forceSet (lat : Option SetV) (d : Dev) : Dev :=
  match lat with
  | none => d
  | some set => applySet set d

theorem forceSet_only (lat : Option SetV) (d : Dev) : forceSet lat d = { d with force := (forceSet lat d).force } := by
  cases lat with
  | none => rfl
  | some set => exact applySet_only set d

theorem forced_forceSet (lat : Option SetV) (d : Dev) : Forced lat d (forceSet lat d) := by
  refine ⟨fun h => by rw [h]; rfl, fun set h => ?_⟩
  rw [h]
  exact ⟨fun a ha => applySet_out set d ha, fun w hw hu => applySet_in set d hw hu⟩

theorem Forced.congr {lat : Option SetV} {d e f : Dev} (h : Forced lat d e) (hf : f.force = e.force) : Forced lat d f := by
  obtain ⟨hnone, hsome⟩ := h
  have hrd (a : Nat) : f.rdF a = e.rdF a := by simp only [Dev.rdF, hf]
  refine ⟨fun h => hf.trans (hnone h), fun set h => ?_⟩
  simp only [hrd]
  exact hsome set h

end Sys2Proof.Machine
end

section
/-! SUPPORT. Carrier events, CSYNC and the delay line (R139, R140, R192 to R194, R201). -/

namespace Sys2Proof.Machine

/-! ### Carrier events (R194, R201) -/

/-- A carrier event that its string's periods have brought is taken at a tick. -/
def eventTaken (c : Bool) (tick : Nat) (x : CarEv) (st : StrSt) : StrSt :=
  { st with evs := st.evs.filter (fun f => f != x), evS := if c then st.evS else some (tick, x.ord), evC := if c then some (tick, x.ord) else st.evC }

/-- The pulse of CSYNC_OUT that an event begins, if it does. -/
def pulseBegun (i : Nat) (c : Bool) (t : Nat) (d : Dev) : List Nat :=
  if !c && d.gb bMod F.CSYNC_CFG_OUT_EN && d.g bMod F.CSYNC_CFG_SRC == i then [placed d (t + d.g bMod F.CSYNC_DLY_DLY)] else []

/-- The modulator notes an event. -/
def eventNoted (i : Nat) (c : Bool) (t : Nat) (d : Dev) : Dev :=
  { d with ml := { d.ml with lastEvent := some (2 * i + b2n c, t), csOut := d.ml.csOut.filter (fun a => decide (t < a + 4096)) ++ pulseBegun i c t d } }

theorem carrierEvent_some {i : Nat} {c : Bool} {ft : Nat} {d : Dev} {x : CarEv}
    (h : (d.str i).evs.find? (fun e => e.centre == c && e.at_ == d.tick * 64 + ft) = some x) :
    carrierEvent i c ft d = eventNoted i c (d.tick * 64 + ft) (d.setStr i (eventTaken c d.tick x)) := by
  unfold carrierEvent
  extract_lets t
  rw [show (d.str i).evs.find? (fun e => e.centre == c && e.at_ == t) = some x from h]
  rfl

theorem carrierEvent_none {i : Nat} {c : Bool} {ft : Nat} {d : Dev} (h : ∀ x ∈ (d.str i).evs, x.centre = c → x.at_ ≠ d.tick * 64 + ft) :
    carrierEvent i c ft d = d := by
  have hnone : (d.str i).evs.find? (fun e => e.centre == c && e.at_ == d.tick * 64 + ft) = none := List.find?_eq_none.mpr fun x hx => by
    rw [Bool.and_eq_true, beq_iff_eq, beq_iff_eq]
    exact fun ⟨hc, ht⟩ => h x hx hc ht
  unfold carrierEvent
  extract_lets t
  rw [show (d.str i).evs.find? (fun e => e.centre == c && e.at_ == t) = none from hnone]

theorem pulseBegun_source {i t : Nat} {d : Dev} (hen : d.gb bMod F.CSYNC_CFG_OUT_EN = true) (hsrc : d.g bMod F.CSYNC_CFG_SRC = i)
    (hfine : d.gb bMod F.MOD_DL_STATUS_COARSE = false) : pulseBegun i false t d = [t + d.g bMod F.CSYNC_DLY_DLY] := by
  rw [pulseBegun, if_pos (by simp [hen, hsrc]), placed, hfine, if_neg Bool.false_ne_true]

theorem carrierEvent_does (i : Fin 8) (c : Bool) (ft : Fin 64) (s : State) (x : CarEv)
    (h : (s.d.str i.val).evs.find? (fun e => e.centre == c && e.at_ == s.d.tick * 64 + ft.val) = some x) :
    Does (exec (.carrierEvent i c ft) s) s (fun e =>
      e = { s.d.fresh with ml := e.ml, strs := e.strs } ∧ e.ml.lastEvent = some (2 * i.val + b2n c, s.d.tick * 64 + ft.val) ∧ e.ml.csEdge = s.d.ml.csEdge ∧ e.ml.taps = s.d.ml.taps ∧
      (e.str i.val).evs = (s.d.str i.val).evs.filter (fun f => f != x) ∧ (c = false → (e.str i.val).evS = some (s.d.tick, x.ord)) ∧ (∀ j, j ≠ i.val → e.str j = s.d.str j) ∧
      (c = false → s.d.gb bMod F.CSYNC_CFG_OUT_EN = true → s.d.g bMod F.CSYNC_CFG_SRC = i.val → s.d.gb bMod F.MOD_DL_STATUS_COARSE = false →
        s.d.tick * 64 + ft.val + s.d.g bMod F.CSYNC_DLY_DLY ∈ e.ml.csOut)) := by
  refine upd_does ?_
  rw [carrierEvent_some (d := s.d.fresh) h]
  have hown : (s.d.fresh.setStr i.val (eventTaken c s.d.tick x)).str i.val = eventTaken c s.d.tick x (s.d.str i.val) := Dev.str_setStr_self _ _ _
  have hstr (j : Nat) : (eventNoted i.val c (s.d.tick * 64 + ft.val) (s.d.fresh.setStr i.val (eventTaken c s.d.tick x))).str j =
      (s.d.fresh.setStr i.val (eventTaken c s.d.tick x)).str j := rfl
  refine ⟨rfl, rfl, rfl, rfl, ?_, fun hc => ?_, fun j hj => (hstr j).trans (Dev.str_setStr_ne _ _ hj), fun hc hen hsrc hfine => ?_⟩
  · rw [hstr, hown, eventTaken]
  · rw [hstr, hown, eventTaken, hc, if_neg Bool.false_ne_true]
  · rw [hc, eventNoted, pulseBegun_source (d := s.d.fresh.setStr i.val _) hen hsrc hfine]
    exact List.mem_append_right _ (List.mem_singleton_self _)

/-! ### CSYNC_IN (R192, R193) -/

theorem raised_cause (src kind : Nat) (b : Bool) (d : Dev) : Raised (cause src kind b d) src kind (some b) :=
  ⟨_, List.mem_append_right _ (List.mem_singleton_self _), rfl, rfl, rfl⟩

theorem raised_raise (src kind : Nat) (d : Dev) : Raised (raise src kind d) src kind none :=
  ⟨_, List.mem_append_right _ (List.mem_singleton_self _), rfl, rfl, rfl⟩

theorem cause_gb (src kind : Nat) (v : Bool) (d : Dev) (b : Nat) (f : Fld) : (cause src kind v d).gb b f = d.gb b f := rfl

/-- An edge of CSYNC_IN is stamped. -/
def edgeStamped (ft : Nat) (d : Dev) : Dev := { d with ml := { d.ml with csEdge := some (d.tick * 64 + ft) } }

theorem csyncEdge_eq (ft : Nat) (d : Dev) : csyncEdge ft d = cause 0x183 0x1103 false ((edgeStamped ft d).p bMod F.CSYNC_STATUS_IN_ACTIVE 1) := rfl

theorem csyncInEdge_does (ft : Nat) (s : State) :
    Does (exec (.csyncInEdge ft) s) s (fun e => e.ml.csEdge = some (s.d.tick * 64 + ft) ∧ e.gb bMod F.CSYNC_STATUS_IN_ACTIVE = true ∧
      Raised e 0x183 0x1103 (some false) ∧ (∀ a, a ≠ bMod + F.CSYNC_STATUS.off → e.rd a = s.d.rd a) ∧ e = { s.d.fresh with regs := e.regs, ml := e.ml, due := e.due }) := by
  refine upd_does ?_
  rw [csyncEdge_eq]
  refine ⟨rfl, ?_, raised_cause _ _ _ _, fun a ha => ?_, rfl⟩
  · rw [cause_gb, gb_p_true _ _ (by decide) (by decide)]
  · exact Dev.rd_p_ne (edgeStamped ft s.d.fresh) F.CSYNC_STATUS_IN_ACTIVE 1 ha

/-- CSYNC_STATUS once no edge has come for four periods. -/
def edgesGone (d : Dev) : Dev := (d.p bMod F.CSYNC_STATUS_IN_ACTIVE 0).p bMod F.CSYNC_STATUS_IN_LOST 1

/-- The strings of a list lose their lock. -/
def locksTaken (l : List Nat) (d : Dev) : Dev := d.each l (fun i d => d.p (bStr i) F.STR_STATUS_ANCHOR_LOCK 0)

/-- The strings that are anchored to CSYNC_IN. -/
def csyncAnchored (d : Dev) : List Nat := (upto 8).filter (fun i => d.gb (bStr i) F.STR_ANCHOR_SRC)

theorem csyncLost_silent {d : Dev} (h : csyncSilent d = true) : csyncLost d = cause 0x183 0x1103 true (locksTaken (csyncAnchored (edgesGone d)) (edgesGone d)) := by
  rw [csyncLost, h]
  rfl

theorem csyncLost_heard {d : Dev} (h : csyncSilent d = false) : csyncLost d = d := by
  rw [csyncLost, h]
  rfl

theorem edgesGone_rd (d : Dev) {a : Nat} (h : a ≠ bMod + F.CSYNC_STATUS.off) : (edgesGone d).rd a = d.rd a := by
  rw [edgesGone, Dev.rd_p_ne _ F.CSYNC_STATUS_IN_LOST 1 h, Dev.rd_p_ne _ F.CSYNC_STATUS_IN_ACTIVE 0 h]

theorem edgesGone_status (d : Dev) : (edgesGone d).gb bMod F.CSYNC_STATUS_IN_ACTIVE = false ∧ (edgesGone d).gb bMod F.CSYNC_STATUS_IN_LOST = true := by
  refine ⟨?_, gb_p_true _ bMod (by decide) (by decide)⟩
  rw [edgesGone, gb_p_disjoint _ _ _ (by decide) (by decide) (by decide), gb_p_false _ _ (by decide)]

theorem locksTaken_only (l : List Nat) (d : Dev) : locksTaken l d = { d with regs := (locksTaken l d).regs } := by
  refine each_keeps (P := fun e => e = { d with regs := e.regs }) (fun i _ e h => ?_) d rfl
  rw [h]
  rfl

theorem locksTaken_rd (l : List Nat) (d : Dev) {a : Nat} (h : ∀ i ∈ l, a ≠ bStr i + F.STR_STATUS.off) : (locksTaken l d).rd a = d.rd a :=
  each_field_mem l (fun i d => d.p (bStr i) F.STR_STATUS_ANCHOR_LOCK 0) (fun d => d.rd a) (fun i hi d => Dev.rd_p_ne d F.STR_STATUS_ANCHOR_LOCK 0 (h i hi)) d

/-- A loss of CSYNC_IN changes registers and the events. -/
theorem edgesGone_only (l : List Nat) (d : Dev) : cause 0x183 0x1103 true (locksTaken l (edgesGone d)) =
    { d with regs := (cause 0x183 0x1103 true (locksTaken l (edgesGone d))).regs, due := (cause 0x183 0x1103 true (locksTaken l (edgesGone d))).due } := by
  have hgone : edgesGone d = { d with regs := (edgesGone d).regs } := Dev.p_p_only d _ _ _ _ _ _
  generalize edgesGone d = x at *
  rw [locksTaken_only, hgone]
  rfl

theorem locksTaken_lock {l : List Nat} (d : Dev) {i : Nat} (hi : i ∈ l) : (locksTaken l d).gb (bStr i) F.STR_STATUS_ANCHOR_LOCK = false := by
  have own (d : Dev) : (d.p (bStr i) F.STR_STATUS_ANCHOR_LOCK 0).gb (bStr i) F.STR_STATUS_ANCHOR_LOCK = false := gb_p_false d (bStr i) (by decide)
  unfold locksTaken
  refine each_reaches (f := fun i d => d.p (bStr i) F.STR_STATUS_ANCHOR_LOCK 0) (x := i) (P := fun d => d.gb (bStr i) F.STR_STATUS_ANCHOR_LOCK = false) own (fun j _ d h => ?_) hi d
  by_cases hj : j = i
  · rw [hj]
    exact own d
  · rw [Dev.gb, Dev.g_p_ne d _ (by simp only [bStr]; omega)]
    exact h

theorem bStr_span {i o : Nat} (hi : i < 8) (ho : o < 0x1000) : 0x10000 ≤ bStr i + o ∧ bStr i + o < 0x18000 := by
  simp only [bStr]
  omega

theorem csyncSilent_of {d : Dev} {i : Nat} (hi : i < 8) (hs : (d.str i).started = true) (ha : d.gb (bStr i) F.STR_ANCHOR_SRC = true)
    (ht : d.ml.csEdge.getD ((d.str i).startTick * 64) + 4 * d.gF (bStr i) F.STR_PERIOD_PERIOD ≤ d.tick * 64) : csyncSilent d = true := by
  unfold csyncSilent
  refine List.any_eq_true.mpr ⟨i, mem_upto.mpr hi, ?_⟩
  rw [hs, ha, decide_eq_true ht]
  rfl

theorem csyncLost_does (s : State) (i : Nat) (hi : i < 8) (hs : (s.d.str i).started = true) (ha : s.d.gb (bStr i) F.STR_ANCHOR_SRC = true)
    (ht : s.d.ml.csEdge.getD ((s.d.str i).startTick * 64) + 4 * s.d.gF (bStr i) F.STR_PERIOD_PERIOD ≤ s.d.tick * 64) :
    Does (exec .csyncLost s) s (fun e => e.gb bMod F.CSYNC_STATUS_IN_ACTIVE = false ∧ e.gb bMod F.CSYNC_STATUS_IN_LOST = true ∧ Raised e 0x183 0x1103 (some true) ∧
      (∀ i < 8, s.d.gb (bStr i) F.STR_ANCHOR_SRC = true → e.gb (bStr i) F.STR_STATUS_ANCHOR_LOCK = false) ∧ e = { s.d.fresh with regs := e.regs, due := e.due } ∧
      (∀ a, a ≠ bMod + F.CSYNC_STATUS.off → (∀ i < 8, a ≠ bStr i + F.STR_STATUS.off) → e.rd a = s.d.rd a)) := by
  refine upd_does ?_
  rw [csyncLost_silent (csyncSilent_of (d := s.d.fresh) hi hs ha ht)]
  obtain ⟨hactive, hlost⟩ := edgesGone_status s.d.fresh
  have hin {j : Nat} (hj : j ∈ csyncAnchored (edgesGone s.d.fresh)) : j < 8 := mem_upto.mp (List.mem_filter.mp hj).1
  have hmod {f : Fld} (hf : f.off < 0x1000) : (locksTaken (csyncAnchored (edgesGone s.d.fresh)) (edgesGone s.d.fresh)).gb bMod f = (edgesGone s.d.fresh).gb bMod f := by
    rw [Dev.gb, Dev.g, locksTaken_rd _ _ (fun j hj => ?_), Dev.gb, Dev.g]
    have := bStr_span (hin hj) (o := F.STR_STATUS.off) (by decide)
    simp only [bMod]
    omega
  refine ⟨?_, ?_, raised_cause _ _ _ _, fun j hj hsrc => ?_, ?_, fun a hm hstr => ?_⟩
  · rw [cause_gb, hmod (by decide), hactive]
  · rw [cause_gb, hmod (by decide), hlost]
  · rw [cause_gb]
    refine locksTaken_lock _ (List.mem_filter.mpr ⟨mem_upto.mpr hj, ?_⟩)
    have hspan := bStr_span hj (o := F.STR_ANCHOR_SRC.off) (by decide)
    rw [Dev.gb, Dev.g, edgesGone_rd _ (by simp only [bMod]; omega)]
    exact hsrc
  · exact edgesGone_only _ s.d.fresh
  · exact (locksTaken_rd _ _ (fun j hj => hstr j (hin hj))).trans (edgesGone_rd _ hm)

theorem csyncLost_waits (s : State) (h : csyncSilent s.d = false) : Does (exec .csyncLost s) s (fun e => e = s.d.fresh) :=
  upd_does (csyncLost_heard (d := s.d.fresh) h)

/-! ### The delay line (R139, R140) -/

/-- The measured taps per tick, and whether they are out of range. -/
def tapsShown (tpt : Nat) (d : Dev) : Dev := (d.p bMod F.MOD_DL_STATUS_TPT tpt).pb bMod F.MOD_DL_STATUS_COARSE (tpt < 768 || 1536 < tpt)

/-- A delay line out of range is noted, and raised where it was in range before. -/
def rangeLost (was : Bool) (d : Dev) : Dev :=
  if was then d.p bMod F.MOD_DL_STATUS_RANGE_SEEN 1 else raise 0x182 0x1102 (d.p bMod F.MOD_DL_STATUS_RANGE_SEEN 1)

/-- The table of fine ticks. -/
def tapsBuilt (tpt : Nat) (d : Dev) : Dev := { d with ml := { d.ml with taps := (upto 64).map (fun k => roundDiv (k * tpt) 1024) } }

theorem dlCalibrate_out {tpt : Nat} {d : Dev} (hl : linkOn d = true) (h : tpt < 768 ∨ 1536 < tpt) :
    dlCalibrate tpt d = rangeLost (d.gb bMod F.MOD_DL_STATUS_COARSE) (tapsShown tpt d) := by
  have hout : (decide (tpt < 768) || decide (1536 < tpt)) = true := by simpa using h
  simp only [dlCalibrate, hl, Bool.not_true, Bool.false_eq_true, if_false, hout, if_true]
  rw [tapsShown, hout]
  rfl

theorem dlCalibrate_in {tpt : Nat} {d : Dev} (hl : linkOn d = true) (h : ¬ (tpt < 768 ∨ 1536 < tpt)) : dlCalibrate tpt d = tapsBuilt tpt (tapsShown tpt d) := by
  have hin : (decide (tpt < 768) || decide (1536 < tpt)) = false := by simpa using h
  simp only [dlCalibrate, hl, Bool.not_true, Bool.false_eq_true, if_false, hin]
  rw [tapsShown, hin]
  rfl

theorem dlCalibrate_off {tpt : Nat} {d : Dev} (hl : linkOn d = false) : dlCalibrate tpt d = d := by
  rw [dlCalibrate, hl]
  rfl

theorem tapsBuilt_spec (tpt : Nat) (d : Dev) : (tapsBuilt tpt d).regs = d.regs ∧ (tapsBuilt tpt d).ml.taps = (upto 64).map (fun k => roundDiv (k * tpt) 1024) ∧
    tapsBuilt tpt d = { d with ml := (tapsBuilt tpt d).ml } := ⟨rfl, rfl, rfl⟩

theorem tapsShown_status {tpt : Nat} (h : tpt < 2048) (d : Dev) : (tapsShown tpt d).g bMod F.MOD_DL_STATUS_TPT = tpt ∧
    ((tapsShown tpt d).gb bMod F.MOD_DL_STATUS_COARSE = true ↔ tpt < 768 ∨ 1536 < tpt) := by
  refine ⟨?_, ?_⟩
  · rw [tapsShown, Dev.pb, Dev.g_p_disjoint _ _ _ (by decide) (by decide) (by decide), Dev.g_p_self _ _ _ _ (by decide)]
    exact Nat.mod_eq_of_lt h
  · rw [tapsShown, gb_pb _ _ _ (by decide) (by decide)]
    simp

theorem tapsShown_only (tpt : Nat) (d : Dev) : tapsShown tpt d = { d with regs := (tapsShown tpt d).regs } := Dev.p_p_only d _ _ _ _ _ _

theorem tapsShown_rd (tpt : Nat) (d : Dev) {a : Nat} (h : a ≠ bMod + F.MOD_DL_STATUS.off) : (tapsShown tpt d).rd a = d.rd a := by
  rw [tapsShown, Dev.pb, Dev.rd_p_ne _ F.MOD_DL_STATUS_COARSE _ h, Dev.rd_p_ne _ F.MOD_DL_STATUS_TPT _ h]

/-- What a delay line out of range changes: RANGE_SEEN, and the events. -/
theorem rangeLost_regs (was : Bool) (d : Dev) : (rangeLost was d).regs = (d.p bMod F.MOD_DL_STATUS_RANGE_SEEN 1).regs ∧
    rangeLost was d = { d with regs := (rangeLost was d).regs, due := (rangeLost was d).due } := by
  have hp := Dev.p_only d bMod F.MOD_DL_STATUS_RANGE_SEEN 1
  unfold rangeLost
  generalize d.p bMod F.MOD_DL_STATUS_RANGE_SEEN 1 = x at *
  cases was
  · exact ⟨rfl, by rw [hp]; rfl⟩
  · rw [if_pos rfl]
    exact ⟨rfl, by rw [hp]⟩

theorem rangeLost_raised (d : Dev) : Raised (rangeLost false d) 0x182 0x1102 none := raised_raise 0x182 0x1102 _

theorem dlCalibrate_does (tpt : BitVec 16) (s : State) (h : tpt.toNat < 2048) (hl : linkOn s.d = true) :
    Does (exec (.dlCalibrate tpt) s) s (fun e =>
      e.g bMod F.MOD_DL_STATUS_TPT = tpt.toNat ∧ (e.gb bMod F.MOD_DL_STATUS_COARSE = true ↔ tpt.toNat < 768 ∨ 1536 < tpt.toNat) ∧
      (tpt.toNat < 768 ∨ 1536 < tpt.toNat → e.gb bMod F.MOD_DL_STATUS_RANGE_SEEN = true ∧ e.ml = s.d.ml ∧ (s.d.gb bMod F.MOD_DL_STATUS_COARSE = false → Raised e 0x182 0x1102 none)) ∧
      (768 ≤ tpt.toNat → tpt.toNat ≤ 1536 → e.due = s.d.due ∧ e.ml.taps.length = 64 ∧ ∀ k < 64, e.ml.taps[k]? = some (roundDiv (k * tpt.toNat) 1024)) ∧
      (∀ a, a ≠ bMod + F.MOD_DL_STATUS.off → e.rd a = s.d.rd a) ∧ e = { s.d.fresh with regs := e.regs, ml := e.ml, due := e.due }) := by
  refine upd_does ?_
  obtain ⟨htpt, hcoarse⟩ := tapsShown_status h s.d.fresh
  have hrd (a : Nat) := tapsShown_rd tpt.toNat s.d.fresh (a := a)
  have honly := tapsShown_only tpt.toNat s.d.fresh
  have hwas : s.d.fresh.gb bMod F.MOD_DL_STATUS_COARSE = s.d.gb bMod F.MOD_DL_STATUS_COARSE := Dev.gb_fresh _ _ _
  by_cases hout : tpt.toNat < 768 ∨ 1536 < tpt.toNat
  · rw [dlCalibrate_out (d := s.d.fresh) ((linkOn_fresh s.d).trans hl) hout, hwas]
    generalize tapsShown tpt.toNat s.d.fresh = d at *
    have hraised (h : s.d.gb bMod F.MOD_DL_STATUS_COARSE = false) : Raised (rangeLost (s.d.gb bMod F.MOD_DL_STATUS_COARSE) d) 0x182 0x1102 none := by
      rw [h]
      exact rangeLost_raised d
    obtain ⟨hregs, hrest⟩ := rangeLost_regs (s.d.gb bMod F.MOD_DL_STATUS_COARSE) d
    generalize rangeLost (s.d.gb bMod F.MOD_DL_STATUS_COARSE) d = e at *
    have hg (f : Fld) : e.g bMod f = (d.p bMod F.MOD_DL_STATUS_RANGE_SEEN 1).g bMod f := Dev.g_congr hregs bMod f
    refine ⟨?_, ?_, fun _ => ⟨?_, by rw [hrest, honly], hraised⟩, fun h1 h2 => by omega, fun a ha => ?_, by rw [hrest, honly]⟩
    · rw [hg, Dev.g_p_disjoint _ _ _ (by decide) (by decide) (by decide), htpt]
    · rw [Dev.gb, hg, ← Dev.gb, gb_p_disjoint _ _ _ (by decide) (by decide) (by decide), hcoarse]
    · rw [Dev.gb, hg, ← Dev.gb, gb_p_true _ _ (by decide) (by decide)]
    · exact (Dev.rd_congr hregs a).trans ((Dev.rd_p_ne d F.MOD_DL_STATUS_RANGE_SEEN 1 ha).trans (hrd a ha))
  · rw [dlCalibrate_in (d := s.d.fresh) ((linkOn_fresh s.d).trans hl) hout]
    generalize tapsShown tpt.toNat s.d.fresh = d at *
    obtain ⟨hregs, htaps, hrest⟩ := tapsBuilt_spec tpt.toNat d
    generalize tapsBuilt tpt.toNat d = e at *
    refine ⟨?_, ?_, fun h => absurd h hout, fun _ _ => ⟨by rw [hrest, honly], ?_, fun k hk => ?_⟩, fun a ha => (Dev.rd_congr hregs a).trans (hrd a ha), by rw [hrest, honly]⟩
    · rw [Dev.g_congr hregs, htpt]
    · rw [Dev.gb, Dev.g_congr hregs, ← Dev.gb, hcoarse]
    · rw [htaps]
      simp [upto]
    · rw [htaps]
      simp [upto, hk]

theorem dlCalibrate_waits (tpt : BitVec 16) (s : State) (h : linkOn s.d = false) : Does (exec (.dlCalibrate tpt) s) s (fun e => e = s.d.fresh) :=
  upd_does (dlCalibrate_off (d := s.d.fresh) ((linkOn_fresh s.d).trans h))

end Sys2Proof.Machine
end

section
/-! SUPPORT. The latch and the period start of an auxiliary pair (R196, R197). -/

namespace Sys2Proof.Machine

/-- A pair latches its pending set at a tick. -/
def auxLatched (tick : Nat) (x : AuxSt) : AuxSt := { x with latchAt := some tick, lat := x.pend, pend := none }

theorem auxLatch_takes {i : Nat} {d : Dev} (he : d.enabled (.aux i) = true) (ht : d.tick + 8 = (d.auxp i).start / 64) (hl : (d.auxp i).latchAt ≠ some d.tick) :
    auxLatch i d = d.setAux i (auxLatched d.tick) := by
  rw [auxLatch, if_pos (by simp [he, ht, hl])]
  rfl

theorem auxLatch_waits {i : Nat} {d : Dev} (ht : d.tick + 8 ≠ (d.auxp i).start / 64) : auxLatch i d = d := by
  simp [auxLatch, ht]

theorem enabled_fresh (d : Dev) (o : Obj) : d.fresh.enabled o = d.enabled o := enabled_congr rfl rfl

theorem auxLatch_does (i : Fin 8) (s : State) (he : s.d.enabled (.aux i) = true) (ht : s.d.tick + 8 = (s.d.auxp i.val).start / 64)
    (hl : (s.d.auxp i.val).latchAt ≠ some s.d.tick) : Does (exec (.auxLatch i) s) s (fun e =>
      e.auxp i.val = { s.d.auxp i.val with latchAt := some s.d.tick, lat := (s.d.auxp i.val).pend, pend := none } ∧ e = { s.d.fresh with auxs := e.auxs } ∧
      ∀ j, j ≠ i.val → e.auxp j = s.d.auxp j) := by
  refine upd_does ?_
  rw [auxLatch_takes (d := s.d.fresh) ((enabled_fresh s.d _).trans he) ht hl]
  exact ⟨Dev.auxp_setAux_self _ _ _, rfl, fun j hj => Dev.auxp_setAux_ne _ _ hj⟩

/-- The period start of a pair moves on by its period in force. -/
def auxNext (i : Nat) (start : Nat) (d : Dev) : Dev :=
  d.setAux i (fun y => { y with lat := none, start := start + d.gF (bAux i) F.AUX_PERIOD_PERIOD, reloadAt := some d.tick })

/-- At a period start the latched set comes into force; where the pair runs its outputs take their new intervals; the next period start is set. -/
theorem auxReload_cases (i : Nat) (d : Dev) :
    auxReload i d = auxNext i (d.auxp i).start (forceSet (d.auxp i).lat d) ∨
      ∃ f, auxReload i d = auxNext i (d.auxp i).start ((forceSet (d.auxp i).lat d).setAux i f) := by
  unfold auxReload
  extract_lets x e b per t next
  have he : e = forceSet (d.auxp i).lat d := rfl
  clear_value e
  subst he
  by_cases h : (!auxRuns (forceSet (d.auxp i).lat d) i) = true
  · rw [if_pos h]
    exact .inl rfl
  · rw [if_neg h]
    exact .inr ⟨_, rfl⟩

theorem auxNext_does {i start : Nat} {d m : Dev} (f : AuxSt → AuxSt) (hm : m = d ∨ m = d.setAux i f) :
    ((auxNext i start m).auxp i).lat = none ∧ ((auxNext i start m).auxp i).reloadAt = some d.tick ∧
      ((auxNext i start m).auxp i).start = start + (auxNext i start m).gF (bAux i) F.AUX_PERIOD_PERIOD ∧
      auxNext i start m = { d with auxs := (auxNext i start m).auxs } ∧ ∀ j, j ≠ i → (auxNext i start m).auxp j = d.auxp j := by
  have hown : (auxNext i start m).auxp i =
      { m.auxp i with lat := none, start := start + m.gF (bAux i) F.AUX_PERIOD_PERIOD, reloadAt := some m.tick } := Dev.auxp_setAux_self _ _ _
  have hother (j : Nat) (hj : j ≠ i) : (auxNext i start m).auxp j = m.auxp j := Dev.auxp_setAux_ne _ _ hj
  rw [hown]
  rcases hm with rfl | rfl
  · exact ⟨rfl, rfl, rfl, rfl, hother⟩
  · exact ⟨rfl, rfl, rfl, rfl, fun j hj => (hother j hj).trans (Dev.auxp_setAux_ne _ _ hj)⟩

theorem auxReload_does (i : Fin 8) (s : State) (he : s.d.enabled (.aux i) = true) (ht : s.d.tick = (s.d.auxp i.val).start / 64) :
    Does (exec (.auxReload i) s) s (fun e =>
      (e.auxp i.val).lat = none ∧ (e.auxp i.val).reloadAt = some s.d.tick ∧ (e.auxp i.val).start = (s.d.auxp i.val).start + e.gF (bAux i.val) F.AUX_PERIOD_PERIOD ∧
      ((s.d.auxp i.val).lat = none → e.force = s.d.force) ∧
      (∀ set, (s.d.auxp i.val).lat = some set → (∀ a, (∀ w ∈ set, w.1 ≠ a) → e.rdF a = s.d.rdF a) ∧ (∀ w ∈ set, (∀ x ∈ set, x.1 = w.1 → x = w) → e.rdF w.1 = w.2)) ∧
      e = { s.d.fresh with auxs := e.auxs, force := e.force } ∧ ∀ j, j ≠ i.val → e.auxp j = s.d.auxp j) := by
  refine upd_does ?_
  have hdue : auxPeriod i.val s.d.fresh = auxReload i.val s.d.fresh :=
    if_pos (by rw [(enabled_fresh s.d _).trans he, show (s.d.fresh.tick == (s.d.fresh.auxp i.val).start / 64) = true from beq_iff_eq.mpr ht]; rfl)
  rw [hdue]
  have hforce := forceSet_only (s.d.auxp i.val).lat s.d.fresh
  have hset := forced_forceSet (s.d.auxp i.val).lat s.d.fresh
  have hcases : ∃ f m, (m = forceSet (s.d.auxp i.val).lat s.d.fresh ∨ m = (forceSet (s.d.auxp i.val).lat s.d.fresh).setAux i.val f) ∧
      auxReload i.val s.d.fresh = auxNext i.val (s.d.auxp i.val).start m := by
    rcases auxReload_cases i.val s.d.fresh with h | ⟨f, h⟩
    · exact ⟨id, _, .inl rfl, h⟩
    · exact ⟨f, _, .inr rfl, h⟩
  obtain ⟨f, m, hm, h⟩ := hcases
  rw [h]
  generalize forceSet (s.d.auxp i.val).lat s.d.fresh = d at *
  obtain ⟨hlat, hat, hstart, honly, hother⟩ := auxNext_does (start := (s.d.auxp i.val).start) f hm
  generalize auxNext i.val (s.d.auxp i.val).start m = e at *
  have hf : e.force = d.force := by rw [honly]
  have hd (j : Nat) : d.auxp j = s.d.auxp j := by rw [hforce]; rfl
  obtain ⟨hnone, hsome⟩ := hset.congr hf
  exact ⟨hlat, by rw [hat, hforce], hstart, hnone, hsome, by rw [honly, hforce], fun j hj => (hother j hj).trans (hd j)⟩

theorem auxLatch_auxReload_wait (i : Fin 8) (s : State) : (s.d.tick + 8 ≠ (s.d.auxp i.val).start / 64 → Does (exec (.auxLatch i) s) s (fun e => e = s.d.fresh)) ∧
    (s.d.tick ≠ (s.d.auxp i.val).start / 64 → Does (exec (.auxReload i) s) s (fun e => e = s.d.fresh)) := by
  refine ⟨fun h => upd_does (auxLatch_waits (d := s.d.fresh) h), fun h => upd_does (if_neg ?_)⟩
  rw [show (s.d.fresh.tick == (s.d.fresh.auxp i.val).start / 64) = false from beq_false_of_ne h, Bool.and_false]
  exact Bool.false_ne_true

/-- Settles O19: a carrier event is found among those that the periods have brought; an edge and a loss of CSYNC_IN change its status and the locks; the delay line is measured within or out of its range; a pair latches and reloads at its own instants. -/
theorem carrierEventsAndPairs : Obligations.CarrierEventsAndPairs := by
  unfold Obligations.CarrierEventsAndPairs
  exact ⟨carrierEvent_does, fun i c ft s h => upd_does (carrierEvent_none (d := s.d.fresh) h), csyncInEdge_does, csyncLost_does, csyncLost_waits, dlCalibrate_does,
    dlCalibrate_waits, auxLatch_does, auxReload_does, auxLatch_auxReload_wait⟩

end Sys2Proof.Machine
end

section
/-! SUPPORT. The generation of a leg's period changes that leg alone (R135, R156, R158, R169, R184, R362). -/

namespace Sys2Proof.Machine

/-! ### What the generation of a leg may change -/

/-- `e` differs from `d` only in leg y of node n: its planned edges, its state, and what NODE_MOD_STATUS and STR_STATUS of string i show. -/
structure Dev.LegOnly (i n y : Nat) (d e : Dev) : Prop where
  only : e = { d with plan := e.plan, legs := e.legs, regs := e.regs }
  plan : e.plan.filter (fun w => !(w.1 == n && w.2.leg == y)) = d.plan.filter (fun w => !(w.1 == n && w.2.leg == y))
  leg : ∀ m x, m * 6 + x ≠ n * 6 + y → e.leg m x = d.leg m x
  rd : ∀ a, a ≠ bNode n + F.NODE_MOD_STATUS.off → a ≠ bStr i + F.STR_STATUS.off → e.rd a = d.rd a

section
variable {i n y : Nat} {d e f : Dev}

theorem Dev.LegOnly.refl (d : Dev) : Dev.LegOnly i n y d d := ⟨rfl, rfl, fun _ _ _ => rfl, fun _ _ _ => rfl⟩

theorem Dev.LegOnly.trans (h : Dev.LegOnly i n y d e) (k : Dev.LegOnly i n y e f) : Dev.LegOnly i n y d f := by
  refine ⟨?_, k.plan.trans h.plan, fun m x hx => (k.leg m x hx).trans (h.leg m x hx), fun a h1 h2 => (k.rd a h1 h2).trans (h.rd a h1 h2)⟩
  have hk := k.only
  rw [h.only] at hk
  exact hk

theorem Dev.legOnly_on (c : Bool) {g : Dev → Dev} (h : Dev.LegOnly i n y d (g d)) : Dev.LegOnly i n y d (d.on c g) := by
  cases c
  · exact Dev.LegOnly.refl d
  · exact h

theorem Dev.legOnly_each {α : Type} {l : List α} {g : α → Dev → Dev} (h : ∀ x ∈ l, ∀ d, Dev.LegOnly i n y d (g x d)) (d : Dev) : Dev.LegOnly i n y d (d.each l g) :=
  each_keeps (P := fun e => Dev.LegOnly i n y d e) (fun x hx e he => he.trans (h x hx e)) d (Dev.LegOnly.refl d)

theorem Dev.legOnly_setLeg (d : Dev) (g : LegSt → LegSt) : Dev.LegOnly i n y d (d.setLeg n y g) :=
  ⟨rfl, rfl, fun _ _ h => Dev.leg_setLeg_ne d g h, fun _ _ _ => rfl⟩

/-- A field of NODE_MOD_STATUS or of STR_STATUS is written. -/
theorem Dev.legOnly_p (d : Dev) {b : Nat} {f : Fld} (v : Nat) (h : b + f.off = bNode n + F.NODE_MOD_STATUS.off ∨ b + f.off = bStr i + F.STR_STATUS.off) :
    Dev.LegOnly i n y d (d.p b f v) := by
  refine ⟨rfl, rfl, fun _ _ _ => rfl, fun a h1 h2 => Dev.rd_p_ne d f v ?_⟩
  rcases h with h | h <;> rw [h] <;> assumption

theorem legOnly_planEdges {es : List Edge} (h : ∀ x ∈ es, x.leg = y) (d : Dev) : Dev.LegOnly i n y d (planEdges n es d) := by
  have hnone : (es.map (fun e => (n, e))).filter (fun w => !(w.1 == n && w.2.leg == y)) = [] := by
    rw [List.filter_eq_nil_iff]
    intro w hw
    obtain ⟨x, hx, rfl⟩ := List.mem_map.mp hw
    simp [h x hx]
  refine ⟨rfl, ?_, fun _ _ _ => rfl, fun _ _ _ => rfl⟩
  rw [planEdges, List.filter_append, hnone, List.append_nil]

theorem legOnly_cutLegs (t : Nat) (d : Dev) : Dev.LegOnly i n y d (cutLegs n [y] t d) := by
  refine ⟨rfl, ?_, fun _ _ _ => rfl, fun _ _ _ => rfl⟩
  rw [cutLegs, List.filter_filter]
  refine List.filter_congr fun w _ => ?_
  cases h : (w.1 == n && w.2.leg == y)
  · cases h1 : w.1 == n
    · rfl
    · rw [h1, Bool.true_and] at h
      simp [beq_eq_false_iff_ne.mp h]
  · rfl

/-! ### The edges of a change (R142) -/

theorem changeEdges_leg (s : Dev) (v : View) (t : LegState) (tref : Nat) (bs : Bool) : ∀ x ∈ changeEdges s v i n y t tref bs, x.leg = y := by
  unfold changeEdges
  extract_lets l e
  have he : e.leg = y := rfl
  clear_value e
  intro x hx
  split_ifs at hx
  · cases hx
  · rw [List.mem_singleton.mp hx, he]
  · rcases List.mem_cons.mp hx with rfl | hx
    · exact he
    · rw [List.mem_singleton.mp hx, he]

theorem legOnly_planChange (v : View) (t : LegState) (tref : Nat) (bs : Bool) (d : Dev) : Dev.LegOnly i n y d (planChange v i n y t tref bs d) :=
  (legOnly_planEdges (changeEdges_leg d v t tref bs) d).trans (Dev.legOnly_setLeg _ _)

theorem legOnly_modStatus (d : Dev) {f : Fld} (v : Nat) (h : f.off = F.NODE_MOD_STATUS.off) : Dev.LegOnly i n y d (d.p (bNode n) f v) :=
  Dev.legOnly_p d v (.inl (by rw [h]))

theorem legOnly_sat (c : Bool) (d : Dev) : Dev.LegOnly i n y d (d.on c (fun d => d.p (bStr i) F.STR_STATUS_SAT 1)) :=
  Dev.legOnly_on c (Dev.legOnly_p d 1 (.inr rfl))

/-! ### Pulse periods (R156, R169, R176) -/

theorem legOnly_serveRefresh (v : View) (on : Nat) (d : Dev) : Dev.LegOnly i n y d (serveRefresh v n y on d).2 := by
  unfold serveRefresh
  extract_lets b pend asked
  exact Dev.legOnly_on asked (g := fun d => d.p b F.NODE_MOD_STATUS_BS_PENDING (bitClr pend y)) (legOnly_modStatus d (f := F.NODE_MOD_STATUS_BS_PENDING) _ rfl)

theorem legOnly_setCarry (c : Int) (clamped : Bool) (d : Dev) : Dev.LegOnly i n y d (setCarry n y c clamped d) := by
  unfold setCarry
  exact (Dev.legOnly_on clamped (g := fun d => d.p (bNode n) F.NODE_MOD_STATUS_CARRY_CLAMP 1) (legOnly_modStatus d (f := F.NODE_MOD_STATUS_CARRY_CLAMP) 1 rfl)).trans (Dev.legOnly_setLeg _ _)

theorem legOnly_planRise (v : View) (t0 on : Nat) (bs : Bool) (d : Dev) : Dev.LegOnly i n y d (planRise v i n y t0 on bs d) := by
  unfold planRise
  split
  · exact legOnly_planChange v _ _ _ d
  · exact ((legOnly_planChange v _ _ _ d).trans (Dev.legOnly_on _ (Dev.legOnly_setLeg _ _))).trans (legOnly_planChange v _ _ _ _)

theorem legOnly_pulsePeriod (v : View) (t0 per w : Nat) (d : Dev) : Dev.LegOnly i n y d (pulsePeriod v i n y t0 per w d) := by
  unfold pulsePeriod
  extract_lets m
  split
  extract_lets wn on0 off r on s1
  have h1 : Dev.LegOnly i n y d s1 := (legOnly_serveRefresh v on0 d).trans (Dev.legOnly_setLeg _ _)
  clear_value s1
  split_ifs
  · exact ((h1.trans (legOnly_planChange v _ _ _ _)).trans (legOnly_setCarry _ _ _)).trans (Dev.legOnly_setLeg _ _)
  · exact (h1.trans (legOnly_planChange v _ _ _ _)).trans (legOnly_setCarry _ _ _)
  · exact (h1.trans (legOnly_setCarry _ _ _)).trans (legOnly_planChange v _ _ _ _)
  · exact ((h1.trans (legOnly_setCarry _ _ _)).trans (legOnly_planRise v _ _ _ _)).trans (Dev.legOnly_on _ (legOnly_planChange v _ _ _ _))

theorem legOnly_firstHalf (v : View) (t0 per w : Nat) (d : Dev) : Dev.LegOnly i n y d (firstHalf v i n y t0 per w d) := by
  unfold firstHalf
  extract_lets m h1 wn on0 r on half
  have hr : Dev.LegOnly i n y d r.2 := legOnly_serveRefresh v on0 d
  have hhalf (x : Option Nat) (d : Dev) : Dev.LegOnly i n y d (half x d) := Dev.legOnly_setLeg d _
  clear_value r half
  split
  · exact (hr.trans (legOnly_planChange v _ _ _ _)).trans (hhalf _ _)
  · exact (hr.trans (legOnly_planRise v _ _ _ _)).trans (hhalf _ _)

theorem planChange_half (v : View) (t : LegState) (tref : Nat) (bs : Bool) (d : Dev) : ((planChange v i n y t tref bs d).leg n y).half = (d.leg n y).half := by
  rw [planChange, Dev.leg_setLeg_self]
  rfl

theorem Dev.leg_p (d : Dev) (b : Nat) (f : Fld) (v : Nat) : (d.p b f v).leg n y = d.leg n y := rfl

theorem Dev.leg_on (c : Bool) {g : Dev → Dev} (h : (g d).leg n y = d.leg n y) : (d.on c g).leg n y = d.leg n y := by
  cases c
  · rfl
  · exact h

theorem setCarry_half (c : Int) (clamped : Bool) (d : Dev) : ((setCarry n y c clamped d).leg n y).half = (d.leg n y).half := by
  rw [setCarry, Dev.leg_setLeg_self, Dev.leg_on clamped (Dev.leg_p d _ _ _)]

/-- The part from the centre on: the leg's alone, and nothing is left to generate. -/
theorem secondHalf_does (v : View) (w : Nat) (h : Half) (d : Dev) :
    Dev.LegOnly i n y d (secondHalf v i n y w h d) ∧ ((secondHalf v i n y w h d).leg n y).half = none := by
  unfold secondHalf
  extract_lets m w0 c s1
  split
  have h1 : Dev.LegOnly i n y d s1 := Dev.legOnly_setLeg d _
  have hhalf : (s1.leg n y).half = none := congrArg LegSt.half (Dev.leg_setLeg_self d n y _)
  clear_value s1
  split
  · refine ⟨(h1.trans (legOnly_setCarry _ _ _)).trans (Dev.legOnly_setLeg _ _), ?_⟩
    rw [Dev.leg_setLeg_self]
    exact (setCarry_half _ _ _).trans hhalf
  · extract_lets off
    refine ⟨(h1.trans (legOnly_setCarry _ _ _)).trans (Dev.legOnly_on _ (legOnly_planChange v _ _ _ _)), ?_⟩
    cases decide (off < h.per)
    · exact (setCarry_half _ _ _).trans hhalf
    · exact (planChange_half v _ _ _ _).trans ((setCarry_half _ _ _).trans hhalf)

/-! ### DAB periods and offsets (R158, R362, R720) -/

theorem legOnly_dabPeriod (v : View) (t0 pd a : Nat) (p : Int) (stop : Nat) (d : Dev) : Dev.LegOnly i n y d (dabPeriod v i n y t0 pd a p stop d) := by
  unfold dabPeriod
  split
  extract_lets start ch s1
  have hch (o : Nat) (t : LegState) (d : Dev) : Dev.LegOnly i n y d (ch o t d) := Dev.legOnly_on _ (legOnly_planChange v _ _ _ d)
  have h1 : Dev.LegOnly i n y d s1 := hch 0 start d
  clear_value s1 ch
  split
  · exact (h1.trans (hch _ _ _)).trans (hch _ _ _)
  · exact (h1.trans (hch _ _ _)).trans (hch _ _ _)

theorem legOnly_moveOffset (t0 : Nat) (carry : Bool) (d : Dev) : Dev.LegOnly i n y d (moveOffset n y t0 carry d) := by
  unfold moveOffset
  extract_lets gone
  clear_value gone
  split
  · exact Dev.LegOnly.refl d
  · exact (legOnly_cutLegs t0 d).trans (Dev.legOnly_setLeg _ _)

/-! ### A period of a leg -/

theorem genPulse_does (k : Nat) (d : Dev) (ht : (d.str i).perStart + legOffset d i (startView d i n) k n y (d.str i).perBase < nextReload (d.str i)) :
    Dev.LegOnly i n y d (genPulse i k n y d) ∧ ((genPulse i k n y d).leg n y).genFor = some (d.str i).perStart := by
  unfold genPulse
  extract_lets st o t0 v w s1 s2 s3 s4
  rw [if_neg (Nat.not_le.mpr ht)]
  have h1 : Dev.LegOnly i n y d s1 := Dev.legOnly_on _ (legOnly_moveOffset t0 true d)
  have h2 : Dev.LegOnly i n y s1 s2 := Dev.legOnly_on _ (legOnly_modStatus s1 _ rfl)
  have h3 : Dev.LegOnly i n y s2 s3 := legOnly_sat w.2 s2
  have h4 : Dev.LegOnly i n y s3 s4 := by
    have hs4 : s4 = if s3.gb (bStr i) F.STR_CFG_RELOAD then firstHalf v i n y t0 st.perBase w.1 s3 else pulsePeriod v i n y t0 st.perBase w.1 s3 := rfl
    rw [hs4]
    split
    · exact legOnly_firstHalf v _ _ _ _
    · exact legOnly_pulsePeriod v _ _ _ _
  clear_value s4 s3 s2 s1
  exact ⟨(((h1.trans h2).trans h3).trans h4).trans (Dev.legOnly_setLeg _ _), congrArg LegSt.genFor (Dev.leg_setLeg_self _ _ _ _)⟩

theorem genSecond_does (k : Nat) (h : Half) (d : Dev) :
    Dev.LegOnly i n y d (genSecond i k n y h d) ∧ ((genSecond i k n y h d).leg n y).half = none := by
  unfold genSecond
  extract_lets v w
  obtain ⟨honly, hhalf⟩ := secondHalf_does (i := i) (n := n) (y := y) v w.1 h (d.on w.2 (fun s => s.p (bStr i) F.STR_STATUS_SAT 1))
  exact ⟨(legOnly_sat w.2 d).trans honly, hhalf⟩

theorem genDab_does (k : Nat) (rest : Bool) (d : Dev) :
    Dev.LegOnly i n y d (genDab i k n y rest d) ∧ ((genDab i k n y rest d).leg n y).genFor = some (d.str i).perStart ∧
      (rest = true → ((genDab i k n y rest d).leg n y).half = none) := by
  unfold genDab
  extract_lets st b reload centre v ratio pd o fin a f starts t0 s1 s2 s3
  have h1 : Dev.LegOnly i n y d s1 := Dev.legOnly_on _ (legOnly_moveOffset t0 false d)
  have h2 : Dev.LegOnly i n y s1 s2 := legOnly_sat f.2 s1
  have h3 : Dev.LegOnly i n y s2 s3 := Dev.legOnly_each (fun w _ d => legOnly_dabPeriod v _ _ _ _ _ d) s2
  clear_value s3 s2 s1
  refine ⟨((h1.trans h2).trans h3).trans (Dev.legOnly_setLeg _ _), congrArg LegSt.genFor (Dev.leg_setLeg_self _ _ _ _), fun hr => ?_⟩
  rw [Dev.leg_setLeg_self, hr, Bool.not_true, Bool.and_false, if_neg Bool.false_ne_true]

end

/-! ### The generation of a leg -/

section
variable {n y i k : Nat} {d : Dev} (hs : d.stringOf n = some (i, k))
include hs

/-- A period whose generation has not begun. -/
theorem legGenerate_begins (hr : patternRuns d i k n y = true) (hh : (d.leg n y).half = none) (hg : (d.leg n y).genFor ≠ some (d.str i).perStart)
    (ht : pulseLeg d i y = true → (d.str i).perStart + legOffset d i (startView d i n) k n y (d.str i).perBase < nextReload (d.str i)) :
    Dev.LegOnly i n y d (legGenerate n y d) ∧ ((legGenerate n y d).leg n y).genFor = some (d.str i).perStart := by
  have heq : legGenerate n y d = if pulseLeg d i y then genPulse i k n y d else genDab i k n y false d := by
    simp [legGenerate, hs, hr, hh, hg]
  rw [heq]
  split
  · exact genPulse_does k d (ht ‹_›)
  · obtain ⟨honly, hgen, -⟩ := genDab_does (i := i) (n := n) (y := y) k false d
    exact ⟨honly, hgen⟩

/-- The rest of a period, with the set in force at its centre. -/
theorem legGenerate_rest {h : Half} (hr : patternRuns d i k n y = true) (hh : (d.leg n y).half = some h) (ht : h.t0 + h.per / 2 < nextReload (d.str i)) :
    Dev.LegOnly i n y d (legGenerate n y d) ∧ ((legGenerate n y d).leg n y).half = none := by
  have heq : legGenerate n y d = if pulseLeg d i y then genSecond i k n y h d else genDab i k n y true d := by
    simp [legGenerate, hs, hr, hh, Nat.not_le.mpr ht]
  rw [heq]
  split
  · exact genSecond_does k h d
  · obtain ⟨honly, -, hhalf⟩ := genDab_does (i := i) (n := n) (y := y) k true d
    exact ⟨honly, hhalf rfl⟩

theorem legGenerate_done (hg : (d.leg n y).genFor = some (d.str i).perStart) (hh : ∀ h, (d.leg n y).half = some h → nextReload (d.str i) ≤ h.t0 + h.per / 2) :
    legGenerate n y d = d := by
  cases h : (d.leg n y).half with
  | none => simp [legGenerate, hs, h, hg]
  | some x => simp [legGenerate, hs, h, hh x h]

theorem legGenerate_still (hr : patternRuns d i k n y = false) : legGenerate n y d = d := by simp [legGenerate, hs, hr]

end

theorem legGenerate_unowned {n y : Nat} {d : Dev} (h : d.stringOf n = none) : legGenerate n y d = d := by simp [legGenerate, h]

end Sys2Proof.Machine
end

section
/-! SUPPORT. A leg's generation as a command (R135, R156, R184). -/

namespace Sys2Proof.Machine

/-! ### What a leg's generation reads does not rest on the datagrams sent -/

theorem stringOf_fresh (d : Dev) (n : Nat) : d.fresh.stringOf n = d.stringOf n := rfl

theorem patternRuns_fresh (d : Dev) (i k n y : Nat) : patternRuns d.fresh i k n y = patternRuns d i k n y := rfl

theorem pulseLeg_fresh (d : Dev) (i y : Nat) : pulseLeg d.fresh i y = pulseLeg d i y := rfl

theorem legOffset_fresh (d : Dev) (i k n y per : Nat) : legOffset d.fresh i (startView d.fresh i n) k n y per = legOffset d i (startView d i n) k n y per := rfl

/-! ### The command -/

section
variable (n : Fin 96) (y : Fin 6) (s : State) {i k : Nat}

/-- What a leg's generation leaves of the module. -/
theorem legOnly_fresh {i n y : Nat} {d e : Dev} (h : Dev.LegOnly i n y d.fresh e) :
    e.plan.filter (fun w => !(w.1 == n && w.2.leg == y)) = d.plan.filter (fun w => !(w.1 == n && w.2.leg == y)) ∧
    (∀ m x, m * 6 + x ≠ n * 6 + y → e.leg m x = d.leg m x) ∧
    (∀ a, a ≠ bNode n + F.NODE_MOD_STATUS.off → a ≠ bStr i + F.STR_STATUS.off → e.rd a = d.rd a) ∧
    e = { d.fresh with plan := e.plan, legs := e.legs, regs := e.regs } := ⟨h.plan, h.leg, h.rd, h.only⟩

theorem legPeriodGenerate_begins (hs : s.d.stringOf n.val = some (i, k)) (hr : patternRuns s.d i k n.val y.val = true) (hh : (s.d.leg n.val y.val).half = none)
    (hg : (s.d.leg n.val y.val).genFor ≠ some (s.d.str i).perStart)
    (ht : pulseLeg s.d i y.val = true → (s.d.str i).perStart + legOffset s.d i (startView s.d i n.val) k n.val y.val (s.d.str i).perBase < nextReload (s.d.str i)) :
    Does (exec (.legPeriodGenerate n y) s) s (fun e =>
      (e.leg n.val y.val).genFor = some (s.d.str i).perStart ∧
      e.plan.filter (fun w => !(w.1 == n.val && w.2.leg == y.val)) = s.d.plan.filter (fun w => !(w.1 == n.val && w.2.leg == y.val)) ∧
      (∀ m x, m * 6 + x ≠ n.val * 6 + y.val → e.leg m x = s.d.leg m x) ∧
      (∀ a, a ≠ bNode n.val + F.NODE_MOD_STATUS.off → a ≠ bStr i + F.STR_STATUS.off → e.rd a = s.d.rd a) ∧
      e = { s.d.fresh with plan := e.plan, legs := e.legs, regs := e.regs }) := by
  refine upd_does ?_
  rw [← stringOf_fresh] at hs
  rw [← patternRuns_fresh] at hr
  rw [← pulseLeg_fresh, ← legOffset_fresh] at ht
  obtain ⟨honly, hgen⟩ := legGenerate_begins hs hr hh hg ht
  exact ⟨hgen, legOnly_fresh honly⟩

theorem legPeriodGenerate_rest {h : Half} (hs : s.d.stringOf n.val = some (i, k)) (hr : patternRuns s.d i k n.val y.val = true)
    (hh : (s.d.leg n.val y.val).half = some h) (ht : h.t0 + h.per / 2 < nextReload (s.d.str i)) :
    Does (exec (.legPeriodGenerate n y) s) s (fun e =>
      (e.leg n.val y.val).half = none ∧
      e.plan.filter (fun w => !(w.1 == n.val && w.2.leg == y.val)) = s.d.plan.filter (fun w => !(w.1 == n.val && w.2.leg == y.val)) ∧
      (∀ m x, m * 6 + x ≠ n.val * 6 + y.val → e.leg m x = s.d.leg m x) ∧
      (∀ a, a ≠ bNode n.val + F.NODE_MOD_STATUS.off → a ≠ bStr i + F.STR_STATUS.off → e.rd a = s.d.rd a) ∧
      e = { s.d.fresh with plan := e.plan, legs := e.legs, regs := e.regs }) := by
  refine upd_does ?_
  rw [← stringOf_fresh] at hs
  rw [← patternRuns_fresh] at hr
  obtain ⟨honly, hhalf⟩ := legGenerate_rest hs hr hh ht
  exact ⟨hhalf, legOnly_fresh honly⟩

theorem legPeriodGenerate_done (hs : s.d.stringOf n.val = some (i, k)) (hg : (s.d.leg n.val y.val).genFor = some (s.d.str i).perStart)
    (hh : ∀ h, (s.d.leg n.val y.val).half = some h → nextReload (s.d.str i) ≤ h.t0 + h.per / 2) :
    Does (exec (.legPeriodGenerate n y) s) s (fun e => e = s.d.fresh) := by
  rw [← stringOf_fresh] at hs
  exact upd_does (legGenerate_done hs hg hh)

theorem legPeriodGenerate_still (hs : s.d.stringOf n.val = some (i, k)) (hr : patternRuns s.d i k n.val y.val = false) :
    Does (exec (.legPeriodGenerate n y) s) s (fun e => e = s.d.fresh) := by
  rw [← stringOf_fresh] at hs
  rw [← patternRuns_fresh] at hr
  exact upd_does (legGenerate_still hs hr)

theorem legPeriodGenerate_unowned (hs : s.d.stringOf n.val = none) : Does (exec (.legPeriodGenerate n y) s) s (fun e => e = s.d.fresh) := by
  rw [← stringOf_fresh] at hs
  exact upd_does (legGenerate_unowned hs)

end

end Sys2Proof.Machine
end

section
/-! SUPPORT. Single bits of a field, and the echo deadline of a leg (R166). -/

namespace Sys2Proof.Machine

/-! ### Single bits -/

theorem bitOf_testBit (n i : Nat) : bitOf n i = n.testBit i := by rw [bitOf, Nat.testBit_eq_decide_div_mod_eq]; rfl

theorem bitOf_bitSet (n i : Nat) : bitOf (bitSet n i) i = true := by
  rw [bitSet]
  split
  · assumption
  · rename_i h
    rw [bitOf_testBit, Nat.add_comm, Nat.testBit_two_pow_add_eq, ← bitOf_testBit, Bool.eq_false_iff.mpr h]
    rfl

theorem bitOf_bitClr (n i : Nat) : bitOf (bitClr n i) i = false := by
  rw [bitClr]
  split
  · rename_i h
    rw [bitOf_testBit] at h
    have hle : 2 ^ i ≤ n := Nat.ge_two_pow_of_testBit h
    rw [← Nat.add_sub_cancel' hle, Nat.testBit_two_pow_add_eq, Bool.not_eq_true'] at h
    rw [bitOf_testBit, h]
  · exact Bool.eq_false_iff.mpr ‹_›

/-- A field that is written shows the bits of what is written. -/
theorem bitOf_g_p (d : Dev) (b : Nat) {f : Fld} (v : Nat) {y : Nat} (hf : f.lo + f.w ≤ 32) (hy : y < f.w) : bitOf ((d.p b f v).g b f) y = bitOf v y := by
  rw [Dev.g_p_self d b f v hf, bitOf_testBit, bitOf_testBit, Nat.testBit_mod_two_pow, decide_eq_true hy, Bool.true_and]

/-! ### The echo deadline (R166) -/

theorem listSet_get {α : Type} {l : List α} {j : Nat} {x : α} (h : l[j]? = some x) (v : α) : (listSet l j v)[j]? = some v := by
  induction l generalizing j with
  | nil => cases h
  | cons a l ih =>
    cases j with
    | zero => rfl
    | succ j => exact ih h

theorem findIdx_none {α : Type} {p : α → Bool} {l : List α} (h : ∀ x ∈ l, p x = false) (j : Nat) : findIdx p l j = none := by
  induction l generalizing j with
  | nil => rfl
  | cons a l ih =>
    rw [findIdx, h a List.mem_cons_self, if_neg Bool.false_ne_true]
    exact ih (fun x hx => h x (List.mem_cons_of_mem _ hx)) (j + 1)

/-- A transition of leg y whose deadline has passed, and that has not been counted. -/
def overdue (d : Dev) (n y : Nat) (x : Sent) : Bool :=
  x.leg == y && x.adapt && !x.late && x.tgt != .off && x.tExec + (1024 + d.g (bPort (d.portOf n)) F.LNK_PCFG_DMAX) * 64 ≤ d.tick * 64

/-- The transition at place j of those sent is counted. -/
def countSent (j : Nat) (q : PortSt) : PortSt := { q with sent := match q.sent[j]? with | some x => listSet q.sent j { x with late := true } | none => q.sent }

/-- One more transition of a leg without its echo. -/
def missOne (n y : Nat) (d : Dev) : Dev := d.setLeg n y (fun l => { l with miss := l.miss + 1 })

/-- A leg falls back to its FIXED dead time. -/
def fallBack (n y : Nat) (d : Dev) : Dev :=
  (d.setLeg n y (fun l => { l with miss := 0, dtPos := d.gF (bNode n) (F.NODE_DT_FIXED.at y), dtNeg := d.gF (bNode n) (F.NODE_DT_FIXED.at y) })).p
    (bNode n) F.NODE_MOD_STATUS_FALLBACK (bitSet (d.g (bNode n) F.NODE_MOD_STATUS_FALLBACK) y)

theorem fallBack_deadTimes (n y : Nat) (d : Dev) : ((fallBack n y d).leg n y).dtPos = d.gF (bNode n) (F.NODE_DT_FIXED.at y) ∧
    ((fallBack n y d).leg n y).dtNeg = d.gF (bNode n) (F.NODE_DT_FIXED.at y) := by
  rw [fallBack, Dev.leg_p, Dev.leg_setLeg_self]
  exact ⟨rfl, rfl⟩

theorem fallBack_shown (n : Nat) {y : Nat} (hy : y < 6) (d : Dev) : bitOf ((fallBack n y d).g (bNode n) F.NODE_MOD_STATUS_FALLBACK) y = true := by
  rw [fallBack, bitOf_g_p _ _ _ (by decide) hy, bitOf_bitSet]

section
variable {n y i k j : Nat} {d : Dev}

theorem echoDeadline_early (h : findIdx (overdue d n y) (d.port (d.portOf n)).sent 0 = none) : echoDeadline n y d = d := by
  unfold echoDeadline
  extract_lets p hit
  rw [show findIdx hit (d.port p).sent 0 = none from h]

theorem echoDeadline_late (h : findIdx (overdue d n y) (d.port (d.portOf n)).sent 0 = some j) (hs : d.stringOf n = some (i, k)) (ha : adapting d i n y = true) :
    echoDeadline n y d = if (d.leg n y).miss + 1 ≥ 4 then fallBack n y (d.setPort (d.portOf n) (countSent j)) else missOne n y (d.setPort (d.portOf n) (countSent j)) := by
  have hadapt : adapting (d.setPort (d.portOf n) (countSent j)) i n y = true := ha
  unfold echoDeadline
  extract_lets p hit
  rw [show findIdx hit (d.port p).sent 0 = some j from h, hs]
  change (if (!adapting (d.setPort p (countSent j)) i n y) = true then _ else _) = _
  rw [hadapt]
  rfl

theorem countSent_late (d : Dev) {p : Nat} {x : Sent} (h : (d.port p).sent[j]? = some x) :
    ((d.setPort p (countSent j)).port p).sent[j]? = some { x with late := true } := by
  rw [Dev.port_setPort_self, countSent, h]
  exact listSet_get h _

end

theorem echoDeadline_does (n : Fin 96) (y : Fin 6) (s : State) {i k j : Nat} (hs : s.d.stringOf n.val = some (i, k)) (ha : adapting s.d i n.val y.val = true)
    (h : findIdx (overdue s.d n.val y.val) (s.d.port (s.d.portOf n.val)).sent 0 = some j) :
    Does (exec (.echoDeadline n y) s) s (fun e =>
      ((s.d.leg n.val y.val).miss < 3 → (e.leg n.val y.val) = { s.d.leg n.val y.val with miss := (s.d.leg n.val y.val).miss + 1 } ∧ e.regs = s.d.regs) ∧
      (3 ≤ (s.d.leg n.val y.val).miss → bitOf (e.g (bNode n.val) F.NODE_MOD_STATUS_FALLBACK) y.val = true ∧
        (e.leg n.val y.val).dtPos = s.d.gF (bNode n.val) (F.NODE_DT_FIXED.at y.val) ∧ (e.leg n.val y.val).dtNeg = s.d.gF (bNode n.val) (F.NODE_DT_FIXED.at y.val)) ∧
      (∀ x, (s.d.port (s.d.portOf n.val)).sent[j]? = some x → (e.port (s.d.portOf n.val)).sent[j]? = some { x with late := true }) ∧
      (∀ a, a ≠ bNode n.val + F.NODE_MOD_STATUS.off → e.rd a = s.d.rd a) ∧ e = { s.d.fresh with regs := e.regs, ports := e.ports, legs := e.legs }) := by
  refine upd_does ?_
  rw [echoDeadline_late (d := s.d.fresh) h hs ha]
  have hsent (x : Sent) (hx : (s.d.port (s.d.portOf n.val)).sent[j]? = some x) :
      ((s.d.fresh.setPort (s.d.fresh.portOf n.val) (countSent j)).port (s.d.portOf n.val)).sent[j]? = some { x with late := true } := countSent_late s.d.fresh hx
  have hleg : (s.d.fresh.setPort (s.d.fresh.portOf n.val) (countSent j)).leg n.val y.val = s.d.leg n.val y.val := rfl
  have honly : s.d.fresh.setPort (s.d.fresh.portOf n.val) (countSent j) = { s.d.fresh with ports := (s.d.fresh.setPort (s.d.fresh.portOf n.val) (countSent j)).ports } := rfl
  have hregs : (s.d.fresh.setPort (s.d.fresh.portOf n.val) (countSent j)).regs = s.d.regs := rfl
  have hfix : (s.d.fresh.setPort (s.d.fresh.portOf n.val) (countSent j)).gF (bNode n.val) (F.NODE_DT_FIXED.at y.val) = s.d.gF (bNode n.val) (F.NODE_DT_FIXED.at y.val) := rfl
  have hmiss : (s.d.fresh.leg n.val y.val).miss = (s.d.leg n.val y.val).miss := rfl
  rw [hmiss]
  generalize s.d.fresh.setPort (s.d.fresh.portOf n.val) (countSent j) = e at *
  split
  · obtain ⟨hpos, hneg⟩ := fallBack_deadTimes n.val y.val e
    refine ⟨fun hlt => absurd hlt (by omega), fun _ => ⟨fallBack_shown n.val y.isLt e, hpos.trans hfix, hneg.trans hfix⟩, hsent, fun a h => ?_, ?_⟩
    · rw [fallBack, Dev.rd_p_ne _ F.NODE_MOD_STATUS_FALLBACK _ h]
      exact Dev.rd_congr hregs a
    · rw [honly]
      rfl
  · refine ⟨fun _ => ⟨?_, hregs⟩, fun hge => absurd hge (by omega), hsent, fun a h => Dev.rd_congr hregs a, ?_⟩
    · rw [missOne, Dev.leg_setLeg_self, hleg]
    · rw [honly]
      rfl

theorem echoDeadline_waits (n : Fin 96) (y : Fin 6) (s : State)
    (h : ∀ x ∈ (s.d.port (s.d.portOf n.val)).sent, x.leg = y.val → s.d.tick * 64 < x.tExec + (1024 + s.d.g (bPort (s.d.portOf n.val)) F.LNK_PCFG_DMAX) * 64) :
    Does (exec (.echoDeadline n y) s) s (fun e => e = s.d.fresh) := by
  refine upd_does (echoDeadline_early (d := s.d.fresh) (findIdx_none (fun x hx => ?_) 0))
  have hnot : ¬ overdue s.d n.val y.val x = true := fun ho => by
    simp only [overdue, Bool.and_eq_true, beq_iff_eq, decide_eq_true_eq] at ho
    exact absurd ho.2 (Nat.not_le.mpr (h x hx ho.1.1.1.1))
  exact Bool.eq_false_iff.mpr hnot

end Sys2Proof.Machine
end

section
/-! SUPPORT. What the modulator's settings are read from: two modules that agree but for command registers have the same strings, legs and parameters. -/

namespace Sys2Proof.Machine

/-- The registers that commits and overrides write (STR_COMMIT, STR_COMMIT_STATUS, NODE_OVR, LOAD_ALL, AUX_STATUS), and those that a host access itself may move. -/
def CommandReg (a : Nat) : Prop :=
  0x508000 ≤ a ∨ (0x10000 ≤ a ∧ a < 0x18000 ∧ (a % 0x1000 = 0x8 ∨ a % 0x1000 = 0x10)) ∨ (0x100000 ≤ a ∧ a < 0x180000 ∧ a % 0x1000 = 0x170) ∨
    a = 0x300004 ∨ (0x302000 ≤ a ∧ a < 0x302200 ∧ a % 0x40 = 0x1C)

/-- Two modules agree in what the modulator's settings are read from. -/
structure Dev.Alike (d e : Dev) : Prop where
  rd : ∀ a, ¬ CommandReg a → e.rd a = d.rd a
  force : e.force = d.force
  slotVals : e.slotVals = d.slotVals
  ms : e.ms = d.ms
  flt : e.flt = d.flt
  nodes : e.nodes = d.nodes
  tick : e.tick = d.tick
  ml : e.ml = d.ml
  tb : e.tb = d.tb

theorem Dev.Alike.refl (d : Dev) : d.Alike d := ⟨fun _ _ => rfl, rfl, rfl, rfl, rfl, rfl, rfl, rfl, rfl⟩

theorem Dev.Alike.trans {d e f : Dev} (h : d.Alike e) (k : e.Alike f) : d.Alike f :=
  ⟨fun a ha => (k.rd a ha).trans (h.rd a ha), k.force.trans h.force, k.slotVals.trans h.slotVals, k.ms.trans h.ms, k.flt.trans h.flt, k.nodes.trans h.nodes,
    k.tick.trans h.tick, k.ml.trans h.ml, k.tb.trans h.tb⟩

theorem alike_found (d : Dev) : d.Alike (found d) := by
  have hr := found_rest d
  exact ⟨fun a h => found_rd_far d (.inl (by simp only [CommandReg] at h; omega)), congrArg (fun x => x.force) hr, congrArg (fun x => x.slotVals) hr, congrArg (fun x => x.ms) hr,
    congrArg (fun x => x.flt) hr, congrArg (fun x => x.nodes) hr, congrArg (fun x => x.tick) hr, congrArg (fun x => x.ml) hr, congrArg (fun x => x.tb) hr⟩

theorem alike_stored {a : Nat} (r : RegD) (v : Word) (d : Dev) (h : CommandReg a) : d.Alike (stored a r v d) :=
  ⟨fun _ hb => stored_rd_ne r v d (fun he => hb (he ▸ h)), rfl, rfl, rfl, rfl, rfl, rfl, rfl, rfl⟩

theorem Dev.g_lt (d : Dev) (b : Nat) (f : Fld) : d.g b f < 2 ^ f.w := Nat.mod_lt _ (Nat.two_pow_pos _)

theorem members_span {d : Dev} {i : Nat} {m : Nat × Nat} (h : m ∈ d.members i) : m.1 < 32 ∧ m.2 < 128 := by
  obtain ⟨k, hk, hm⟩ := List.mem_filterMap.mp h
  split at hm
  · rw [← Option.some.inj hm]
    have := mem_upto.mp hk
    exact ⟨by omega, Dev.g_lt d _ _⟩
  · cases hm

theorem findSome?_congr {α β : Type} {f g : α → Option β} {l : List α} (h : ∀ x ∈ l, f x = g x) : l.findSome? f = l.findSome? g := by
  induction l with
  | nil => rfl
  | cons a l ih => rw [List.findSome?_cons, List.findSome?_cons, h a List.mem_cons_self, ih (fun x hx => h x (List.mem_cons_of_mem _ hx))]

theorem legMap0_off : F.NODE_LEG_MAP0.off < 0x1000 ∧ F.NODE_LEG_MAP0.off ≠ 0x170 := by decide
theorem legMap1_off : F.NODE_LEG_MAP1.off < 0x1000 ∧ F.NODE_LEG_MAP1.off ≠ 0x170 := by decide
theorem profPri_off : F.NODE_PROF_PRI.off < 0x1000 ∧ F.NODE_PROF_PRI.off ≠ 0x170 := by decide
theorem profAlt_off : F.NODE_PROF_ALT.off < 0x1000 ∧ F.NODE_PROF_ALT.off ≠ 0x170 := by decide

namespace Dev.Alike
variable {d e : Dev}

/-- A register of a string, other than STR_COMMIT and STR_COMMIT_STATUS. -/
theorem rd_str (h : d.Alike e) {i o : Nat} (hi : i < 8) (ho : o < 0x1000) (h1 : o ≠ 0x8) (h2 : o ≠ 0x10) : e.rd (bStr i + o) = d.rd (bStr i + o) := by
  refine h.rd _ ?_
  simp only [CommandReg, bStr]
  omega

theorem g_str (h : d.Alike e) {i : Nat} {f : Fld} (hi : i < 8) (hf : f.off < 0x1000 ∧ f.off ≠ 0x8 ∧ f.off ≠ 0x10 := by decide) : e.g (bStr i) f = d.g (bStr i) f := by
  rw [Dev.g, h.rd_str hi hf.1 hf.2.1 hf.2.2, Dev.g]

theorem gb_str (h : d.Alike e) {i : Nat} {f : Fld} (hi : i < 8) (hf : f.off < 0x1000 ∧ f.off ≠ 0x8 ∧ f.off ≠ 0x10 := by decide) : e.gb (bStr i) f = d.gb (bStr i) f := by
  rw [Dev.gb, h.g_str hi hf, Dev.gb]

/-- A register of a node channel, other than NODE_OVR. -/
theorem rd_node (h : d.Alike e) {n o : Nat} (hn : n < 128) (ho : o < 0x1000) (h1 : o ≠ 0x170) : e.rd (bNode n + o) = d.rd (bNode n + o) := by
  refine h.rd _ ?_
  simp only [CommandReg, bNode]
  omega

theorem g_node (h : d.Alike e) {n : Nat} {f : Fld} (hn : n < 128) (hf : f.off < 0x1000 ∧ f.off ≠ 0x170 := by decide) : e.g (bNode n) f = d.g (bNode n) f := by
  rw [Dev.g, h.rd_node hn hf.1 hf.2, Dev.g]

theorem kind (h : d.Alike e) {i : Nat} (hi : i < 8) : e.kind i = d.kind i := h.g_str (f := F.STR_CFG_KIND) hi

theorem mode (h : d.Alike e) : e.mode = d.mode := by
  rw [Dev.mode, Dev.g, h.rd _ (by simp only [CommandReg, bDev, F.DEV_MODE_MODE]; omega), Dev.mode, Dev.g]

theorem members (h : d.Alike e) {i : Nat} (hi : i < 8) : e.members i = d.members i := by
  unfold Dev.members
  rw [h.g_str (f := F.STR_CFG_MEMBERS) hi]
  refine List.filterMap_congr fun k hk => ?_
  have := mem_upto.mp hk
  have hk (f : Fld) (hf : f.off = 0x80) : (f.at k).off < 0x1000 ∧ (f.at k).off ≠ 0x8 ∧ (f.at k).off ≠ 0x10 := by
    simp only [Fld.at, hf]
    omega
  rw [h.gb_str hi (hk F.STR_MEMBER_VALID rfl), h.g_str hi (hk F.STR_MEMBER_NODE rfl)]

theorem enabled_str (h : d.Alike e) {i : Nat} (hi : i < 8) : e.enabled (.string i) = d.enabled (.string i) :=
  enabled_congr (congrArg ModeSt.occ h.ms) (h.rd_str hi (o := F.STR_ENABLE.off) (by decide) (by decide) (by decide))

theorem stringOf (h : d.Alike e) (n : Nat) : e.stringOf n = d.stringOf n := by
  unfold Dev.stringOf
  refine findSome?_congr fun i hi => ?_
  rw [h.enabled_str (mem_upto.mp hi), h.members (mem_upto.mp hi)]

theorem func (h : d.Alike e) {n : Nat} (hn : n < 128) (y : Nat) : e.func n y = d.func n y := by
  unfold Dev.func
  have h0 (lo : Nat) : e.g (bNode n) ⟨F.NODE_LEG_MAP0.off, lo, 3⟩ = d.g (bNode n) ⟨F.NODE_LEG_MAP0.off, lo, 3⟩ := h.g_node hn legMap0_off
  have h1 (lo : Nat) : e.g (bNode n) ⟨F.NODE_LEG_MAP1.off, lo, 3⟩ = d.g (bNode n) ⟨F.NODE_LEG_MAP1.off, lo, 3⟩ := h.g_node hn legMap1_off
  rw [h0, h1]

theorem usedLegs (h : d.Alike e) {n : Nat} (hn : n < 128) : e.usedLegs n = d.usedLegs n := by
  unfold Dev.usedLegs
  simp only [h.g_node (f := F.NODE_CFG_CLASS) hn, h.func hn]

theorem drivenLegs (h : d.Alike e) {i n : Nat} (hi : i < 8) (hn : n < 128) : drivenLegs e i n = drivenLegs d i n := by
  unfold Machine.drivenLegs
  simp only [h.kind hi, h.func hn]

theorem rdF (h : d.Alike e) (a : Nat) : e.rdF a = d.rdF a := by rw [Dev.rdF, h.force, Dev.rdF]

theorem gF (h : d.Alike e) (b : Nat) (f : Fld) : e.gF b f = d.gF b f := by rw [Dev.gF, h.rdF, Dev.gF]

theorem node (h : d.Alike e) (n : Nat) : e.node n = d.node n := by rw [Dev.node, h.nodes, Dev.node]

theorem halted (h : d.Alike e) (i : Nat) : e.halted i = d.halted i := by rw [Dev.halted, h.flt, Dev.halted]

theorem dly (h : d.Alike e) : e.dly = d.dly := by
  rw [Dev.dly, Dev.g, h.rd _ (by simp only [CommandReg, bMod, F.MOD_CFG_EXEC_DELAY]; omega), Dev.dly, Dev.g]

theorem profImage (h : d.Alike e) {p : Nat} (hp : p < 16) : profImage e p = profImage d p := by
  refine List.flatMap_congr fun k hk => ?_
  have := mem_upto.mp hk
  rw [h.rd _ (by simp only [CommandReg, bProf]; omega)]

theorem paramPieces (h : d.Alike e) {n : Nat} (hn : n < 128) : paramPieces e n = paramPieces d n := by
  have hprof (y : Nat) : e.profOf n y = d.profOf n y := h.g_node hn profPri_off
  have himage (y : Nat) : Machine.profImage e (d.profOf n y) = Machine.profImage d (d.profOf n y) := h.profImage (Dev.g_lt d _ _)
  have halt (y : Nat) : Machine.profImage e (d.g (bNode n) ⟨F.NODE_PROF_ALT.off, 4 * y, 4⟩) = Machine.profImage d (d.g (bNode n) ⟨F.NODE_PROF_ALT.off, 4 * y, 4⟩) := h.profImage (Dev.g_lt d _ _)
  have haltg (y : Nat) : e.g (bNode n) ⟨F.NODE_PROF_ALT.off, 4 * y, 4⟩ = d.g (bNode n) ⟨F.NODE_PROF_ALT.off, 4 * y, 4⟩ := h.g_node hn profAlt_off
  unfold Machine.paramPieces
  simp only [h.usedLegs hn, h.gF, hprof, himage, haltg, halt, h.g_node (f := F.NODE_PROF_ALT_ALT_EN) hn, h.g_node (f := F.NODE_HOLD_SAFE) hn, h.g_node (f := F.NODE_HOLD_HOLD_PERIODS) hn,
    h.g_node (f := F.NODE_HOLD_SAFE_DT) hn, h.g_node (f := F.NODE_HOLD_CONTACTOR) hn]

theorem underReaction (h : d.Alike e) {n : Nat} (hn : n < 128) : underReaction e n = underReaction d n := by
  have hauto : e.gb bProt F.PROT_CFG_ST_AUTO = d.gb bProt F.PROT_CFG_ST_AUTO := by
    rw [Dev.gb, Dev.g, h.rd _ (by simp only [CommandReg, bProt, F.PROT_CFG_ST_AUTO]; omega), Dev.gb, Dev.g]
  simp only [Machine.underReaction, faulty, usedSwitches, h.node, h.usedLegs hn, hauto]

end Dev.Alike

end Sys2Proof.Machine
end

section
/-! SUPPORT. A test override of a leg (R144 to R147). -/

namespace Sys2Proof.Machine

/-! ### What fence edges leave (R147) -/

/-- `e` differs from `d` in planned edges, ports and legs alone. -/
def Dev.EdgesOnly (d e : Dev) : Prop := e = { d with plan := e.plan, ports := e.ports, legs := e.legs }

theorem Dev.EdgesOnly.trans {d e f : Dev} (h : d.EdgesOnly e) (k : e.EdgesOnly f) : d.EdgesOnly f := by
  unfold Dev.EdgesOnly at *
  rw [h] at k
  exact k

theorem edgesOnly_each {α : Type} {f : α → Dev → Dev} (h : ∀ x d, Dev.EdgesOnly d (f x d)) (l : List α) (d : Dev) : d.EdgesOnly (d.each l f) :=
  each_keeps (P := fun e => d.EdgesOnly e) (fun x _ _ he => he.trans (h x _)) d rfl

theorem edgesOnly_cutLegs (n : Nat) (ys : List Nat) (t : Nat) (d : Dev) : d.EdgesOnly (cutLegs n ys t d) := rfl

theorem edgesOnly_setLeg (n y : Nat) (f : LegSt → LegSt) (d : Dev) : d.EdgesOnly (d.setLeg n y f) := rfl

theorem Dev.EdgesOnly.due {d e : Dev} (h : d.EdgesOnly e) : e.due = d.due := by rw [h]

theorem Dev.EdgesOnly.force {d e : Dev} (h : d.EdgesOnly e) : e.force = d.force := by rw [h]

theorem edgesOnly_sendEdge (p : Nat) (e : Edge) (d : Dev) : d.EdgesOnly (sendEdge p e d) := by
  unfold sendEdge
  extract_lets x
  split_ifs <;> rfl

theorem edgesOnly_sendFencesFrom (n : Nat) (es : List Edge) (t : Nat → Nat) (d : Dev) : d.EdgesOnly (sendFencesFrom n es t d) := by
  unfold sendFencesFrom
  extract_lets p s
  have hs : d.EdgesOnly s := edgesOnly_each (fun y d => edgesOnly_cutLegs n [y] (t y) d) _ d
  exact hs.trans (edgesOnly_each (fun e d => (edgesOnly_sendEdge p e d).trans (edgesOnly_each (fun y d => edgesOnly_setLeg n y _ d) _ _)) _ _)

/-- The last of the fence edges of one leg commands it, out of its pattern. -/
theorem sendFences_last {n y : Nat} (hy : y ≠ 6) (es : List Edge) {x : Edge} (hx : x.leg = y) (d : Dev) :
    ((sendFences n (es ++ [x]) d).leg n y).blocked = true ∧ ((sendFences n (es ++ [x]) d).leg n y).cmd = x.tgt := by
  have hlegs : legsOf x.leg = [y] := by rw [hx, legsOf, if_neg hy]
  unfold sendFences sendFencesFrom
  extract_lets p s
  rw [Dev.each, List.foldl_append, List.foldl_cons, List.foldl_nil, hlegs, Dev.each, List.foldl_cons, List.foldl_nil, Dev.leg_setLeg_self]
  exact ⟨rfl, rfl⟩

/-! ### What an accepted write does (R144, R146, R147) -/

/-- The state that a write of NODE_OVR asks for. -/
def ovrTarget (v : Word) : LegState := if getBits v 4 1 = 1 then .high else if getBits v 5 1 = 1 then .low else .off

section
variable {n : Nat} {v : Word} (d : Dev) (hy : getBits v 0 3 < 6)
include hy

theorem override_takes (he : getBits v 8 1 = 1) :
    (override n v d).due = d.due ∧ (override n v d).force = d.force ∧ bitOf ((override n v d).g (bNode n) F.NODE_MOD_STATUS_OVR) (getBits v 0 3) = true ∧
      ((override n v d).leg n (getBits v 0 3)).blocked = true ∧ ((override n v d).leg n (getBits v 0 3)).cmd = ovrTarget v := by
  unfold override
  extract_lets y b ovr t at_ dt es
  have hlast : ∃ (l : List Edge) (x : Edge), es = l ++ [x] ∧ x.leg = y ∧ x.tgt = t := by
    by_cases ht : (t == .off) = true
    · exact ⟨[], fence d n y .off false at_, by simp [es, ht], rfl, (beq_iff_eq.mp ht).symm⟩
    · exact ⟨[fence d n y .off false at_], fence d n y t false (at_ + dt), by simp [es, ht], rfl, rfl⟩
  obtain ⟨l, x, hes, hleg, htgt⟩ := hlast
  obtain ⟨hblock, hcmd⟩ := sendFences_last (n := n) (Nat.ne_of_lt hy) l hleg d
  have honly : d.EdgesOnly (sendFences n es d) := edgesOnly_sendFencesFrom n es _ d
  rw [if_pos he]
  rw [← hes] at hblock hcmd
  generalize sendFences n es d = e at *
  refine ⟨honly.due, honly.force, ?_, ?_, ?_⟩
  · rw [bitOf_g_p _ _ _ (by decide) hy, bitOf_bitSet]
  · rw [Dev.leg_p, Dev.leg_setLeg_self]
    exact hblock
  · rw [Dev.leg_p, Dev.leg_setLeg_self]
    exact hcmd.trans htgt

theorem override_releases (he : getBits v 8 1 = 0) :
    (override n v d).due = d.due ∧ (override n v d).force = d.force ∧ bitOf ((override n v d).g (bNode n) F.NODE_MOD_STATUS_OVR) (getBits v 0 3) = false ∧
      (bitOf (d.g (bNode n) F.NODE_MOD_STATUS_OVR) (getBits v 0 3) = true → ((override n v d).leg n (getBits v 0 3)).release = true) := by
  unfold override
  extract_lets y b ovr t at_ dt es
  rw [if_neg (by omega)]
  split
  · refine ⟨rfl, rfl, ?_, fun _ => ?_⟩
    · rw [bitOf_g_p _ _ _ (by decide) hy, bitOf_bitClr]
    · rw [Dev.leg_p, Dev.leg_setLeg_self]
  · rename_i h
    exact ⟨rfl, rfl, Bool.eq_false_iff.mpr h, fun h' => absurd h' h⟩

end

/-! ### The test of a write -/

theorem overrideReason_both (v : Word) (d : Dev) (n : Nat) (h : getBits v 4 1 = 1) (l : getBits v 5 1 = 1) : overrideReason n v d = 0x040B := by
  rw [overrideReason, if_pos ⟨h, l⟩]

/-- A leg that an accepted write names is one of the node's six. -/
theorem overrideReason_leg {n : Nat} {v : Word} {d : Dev} (h : overrideReason n v d = 0) : getBits v 0 3 < 6 := by
  unfold overrideReason at h
  split_ifs at h
  split at h
  · cases h
  · split_ifs at h with hc
    simp only [Bool.and_eq_true, List.contains_iff_mem] at hc
    have hmem := hc.2
    unfold drivenLegs at hmem
    split_ifs at hmem
    · exact mem_upto.mp hmem
    · exact mem_upto.mp (List.mem_of_mem_filter hmem)

theorem overrideReason_congr {n : Nat} {v w : Word} {d e : Dev} (hn : n < 128) (h : d.Alike e) (h0 : getBits w 0 3 = getBits v 0 3) (h4 : getBits w 4 1 = getBits v 4 1)
    (h5 : getBits w 5 1 = getBits v 5 1) : overrideReason n w e = overrideReason n v d := by
  unfold overrideReason
  rw [h0, h4, h5, h.stringOf]
  cases hs : d.stringOf n with
  | none => rfl
  | some q =>
    obtain ⟨i, k⟩ := q
    have hi : i < 8 := by
      obtain ⟨j, hj, hq⟩ := List.exists_of_findSome?_eq_some hs
      split_ifs at hq
      obtain ⟨m, -, hm⟩ := Option.map_eq_some_iff.mp hq
      rw [← (Prod.mk.inj hm).1]
      exact mem_upto.mp hj
    simp only [h.mode, h.gb_str (f := F.STR_CFG_TEST) hi, h.underReaction hn, h.drivenLegs hi hn]

/-! ### The write as a command -/

/-- The row of NODE_OVR. -/
def nodeOvrRow : RegD := ⟨0x170, 1, 0x0, 0x137, 0x0, 0x0, 0x0, .l⟩

theorem locate_nodeOvr {n : Nat} (hn : n < 96) : locate (bNode n + F.NODE_OVR.off) = some ⟨.node, n, 0x170, some nodeOvrRow⟩ :=
  locate_numbered ⟨.node, 0x100000, 0x1000, 96, 0x1000, 0, regsNode⟩ (by simp [famTable]) (o := 0x170) (k := 0) (r := nodeOvrRow) rfl hn (by decide) (by decide) rfl

/-- What a host's write puts into NODE_OVR. -/
def ovrWord (n : Nat) (v : Word) (d : Dev) : Word := merge nodeOvrRow (d.rd (bNode n + F.NODE_OVR.off)) v 4294967295#32

theorem ovrWord_bits (n : Nat) (v : Word) (d : Dev) : getBits (ovrWord n v d) 0 3 = getBits v 0 3 ∧ getBits (ovrWord n v d) 4 1 = getBits v 4 1 ∧
    getBits (ovrWord n v d) 5 1 = getBits v 5 1 ∧ getBits (ovrWord n v d) 8 1 = getBits v 8 1 :=
  ⟨getBits_merge _ _ (by decide) (by decide), getBits_merge _ _ (by decide) (by decide), getBits_merge _ _ (by decide) (by decide),
    getBits_merge _ _ (by decide) (by decide)⟩

theorem redownload_alike {l : List Nat} {d e : Dev} (h : d.Alike e) (hl : ∀ n ∈ l, n < 128) : redownload l d e = e := by
  have hnone : l.filter (fun n => e.occupied (.node n) && paramPieces e n != paramPieces d n) = [] := by
    rw [List.filter_eq_nil_iff]
    intro n hn
    rw [h.paramPieces (hl n hn), bne_self_eq_false, Bool.and_false]
    exact Bool.false_ne_true
  rw [redownload, hnone]
  rfl

theorem hostWriteDev_nodeOvr {p : Path} {n : Nat} {v : Word} {d : Dev} (hn : n < 96) (hr : Responsive d) (ho : d.occupied (.node n) = true)
    (h : overrideReason n (ovrWord n v d) d = 0) :
    (hostWriteDev p (bNode n + F.NODE_OVR.off) v d).2 = override n (ovrWord n v d) (stored (bNode n + F.NODE_OVR.off) nodeOvrRow v d) := by
  have haddr : bNode n + F.NODE_OVR.off = 0x100000 + 0x1000 * n + 0x170 := rfl
  have hmail : mailboxReg (bNode n + F.NODE_OVR.off) = false := by
    simp [mailboxReg, haddr, F.CMD_OP, F.CMD_ARG]
  have hslot (o : Obj) (h : slotOfLoc ⟨.node, n, 0x170, some nodeOvrRow⟩ = some o) : d.occupied o = true := by
    rw [← Option.some.inj (h : some (Obj.node n) = some o)]
    exact ho
  have halike : d.Alike (stored (bNode n + F.NODE_OVR.off) nodeOvrRow v d) := alike_stored _ v d (by simp only [CommandReg]; omega)
  have hvalue : valueReason (hostWr .node n 0x170 (bNode n + F.NODE_OVR.off) nodeOvrRow v d) d = 0 := by
    have h1 : valueReason1 (hostWr .node n 0x170 (bNode n + F.NODE_OVR.off) nodeOvrRow v d) d = overrideReason n (ovrWord n v d) d := rfl
    rw [valueReason, h1, h]
    rfl
  rw [hostWriteDev_acts (locate_nodeOvr hn) (by omega) (by decide) (by decide) (by decide) (busReason_owned (locate_nodeOvr hn) hslot hmail hr) hvalue rfl]
  have heff (e : Dev) : writeEffect2 (hostWr .node n 0x170 (bNode n + F.NODE_OVR.off) nodeOvrRow v d) d
      (writeEffect1 (hostWr .node n 0x170 (bNode n + F.NODE_OVR.off) nodeOvrRow v d) d e) = override n (ovrWord n v d) (redownload [n] d e) := rfl
  rw [heff, redownload_alike halike (by simp; omega)]

theorem nodeOvr_serves (p : Path) (n : Fin 96) (v : Word) (s : State) (hp : HostReady p s) (ho : s.d.occupied (.node n.val) = true)
    (h : overrideReason n.val v s.d = 0) : Serves (exec (.nodeOvr p n v) s) s (fun _ nv e => nv = s.nv ∧ e.due = [] ∧ e.force = s.d.force ∧
      (getBits v 8 1 = 1 → bitOf (e.g (bNode n.val) F.NODE_MOD_STATUS_OVR) (getBits v 0 3) = true ∧ (e.leg n.val (getBits v 0 3)).blocked = true ∧
        (e.leg n.val (getBits v 0 3)).cmd = (if getBits v 4 1 = 1 then .high else if getBits v 5 1 = 1 then .low else .off)) ∧
      (getBits v 8 1 = 0 → bitOf (e.g (bNode n.val) F.NODE_MOD_STATUS_OVR) (getBits v 0 3) = false ∧
        (bitOf (s.d.g (bNode n.val) F.NODE_MOD_STATUS_OVR) (getBits v 0 3) = true → (e.leg n.val (getBits v 0 3)).release = true))) := by
  have hn := n.isLt
  have haddr : bNode n.val + F.NODE_OVR.off = 0x100000 + 0x1000 * n.val + 0x170 := rfl
  refine hostWrite_serves hp (by omega) (by simp only [haddr, bDev, F.CMD_OP]; omega) ?_
  have hfound := alike_found s.d
  obtain ⟨h0, h4, h5, h8⟩ := ovrWord_bits n.val v (found s.d)
  have hreason : overrideReason n.val (ovrWord n.val v (found s.d)) (found s.d) = 0 := (overrideReason_congr (by omega) hfound h0 h4 h5).trans h
  rw [hostWriteDev_nodeOvr hn ((argsOnly_found s.d).ready hp.1) ((occupied_congr (congrArg ModeSt.occ hfound.ms) _).trans ho) hreason]
  have halike := hfound.trans (alike_stored nodeOvrRow v (found s.d) (show CommandReg (bNode n.val + F.NODE_OVR.off) by simp only [CommandReg]; omega))
  have hdue : (stored (bNode n.val + F.NODE_OVR.off) nodeOvrRow v (found s.d)).due = [] := (found_quiet hp.1.1).1
  generalize stored (bNode n.val + F.NODE_OVR.off) nodeOvrRow v (found s.d) = e at *
  generalize ovrWord n.val v (found s.d) = w at *
  have hy : getBits w 0 3 < 6 := overrideReason_leg hreason
  have hg : s.d.g (bNode n.val) F.NODE_MOD_STATUS_OVR = e.g (bNode n.val) F.NODE_MOD_STATUS_OVR := (halike.g_node (by omega)).symm
  rw [hg, ← h0, ← h4, ← h5, ← h8, ← halike.force, ← hdue]
  have hbit : getBits w 8 1 < 2 := Nat.mod_lt _ (by decide)
  rcases Nat.lt_or_ge 0 (getBits w 8 1) with h1 | h1
  · have h1 : getBits w 8 1 = 1 := by omega
    obtain ⟨hd, hf, hset, hblock, hcmd⟩ := override_takes (n := n.val) e hy h1
    exact ⟨rfl, hd, hf, fun _ => ⟨hset, hblock, hcmd⟩, fun h => absurd (h1.symm.trans h) (by decide)⟩
  · have h1 : getBits w 8 1 = 0 := by omega
    obtain ⟨hd, hf, hclr, hrel⟩ := override_releases (n := n.val) e hy h1
    exact ⟨rfl, hd, hf, fun h => absurd (h1.symm.trans h) (by decide), fun _ => ⟨hclr, hrel⟩⟩

/-- Settles O18: the generation of a leg changes that leg alone; an override is its row of NODE_OVR and two fence edges; a missed echo is counted at its deadline. -/
theorem legsAreGeneratedAndOverridden : Obligations.LegsAreGeneratedAndOverridden := by
  unfold Obligations.LegsAreGeneratedAndOverridden
  exact ⟨⟨fun n y s _ _ => legPeriodGenerate_begins n y s, fun n y s _ _ _ => legPeriodGenerate_rest n y s, fun n y s _ _ => legPeriodGenerate_done n y s,
      fun n y s _ _ => legPeriodGenerate_still n y s, legPeriodGenerate_unowned⟩,
    nodeOvr_serves, overrideReason_both, echoDeadline_waits, fun n y s _ _ _ => echoDeadline_does n y s⟩

end Sys2Proof.Machine
end

section
/-! SUPPORT. The tests of a set, its capture and the reload instants rest on the settings (R148 to R162, R172, R173, R178, R180). -/

namespace Sys2Proof.Machine

theorem length_qLegs (d : Dev) (i : Nat) : (qLegs d i).length ≤ 192 := by
  have hmem : (d.members i).length ≤ 32 := by
    refine (List.length_filterMap_le _ _).trans ?_
    rw [upto, List.length_range]
    omega
  have hone (m : Nat × Nat) : ((upto 6).filterMap (fun y => if d.func m.2 y != 0 then some (m.2, y, d.func m.2 y) else none)).length ≤ 6 := List.length_filterMap_le _ _
  have hsum : ∀ l : List (Nat × Nat), (l.flatMap (fun m => (upto 6).filterMap (fun y => if d.func m.2 y != 0 then some (m.2, y, d.func m.2 y) else none))).length ≤ l.length * 6 := by
    intro l
    induction l with
    | nil => exact Nat.le_refl 0
    | cons m l ih =>
      have := hone m
      rw [List.flatMap_cons, List.length_append, List.length_cons]
      omega
  have := hsum (d.members i)
  rw [qLegs]
  omega

/-- The slots of a string lie among the modulation references. -/
theorem slotRange_span (d : Dev) (i : Nat) : (slotRange d i).1 + (slotRange d i).2 < 1024 := by
  have hbase : d.g (bStr i) F.STR_REF_BASE < 256 := Dev.g_lt d _ _
  have hnum : d.g (bStr i) F.STR_CFG_MEMBERS < 64 := Dev.g_lt d _ _
  have hlegs := length_qLegs d i
  unfold slotRange
  extract_lets b
  split <;> simp only [] <;> omega

theorem stringFlds_off : ∀ f ∈ [F.STR_PERIOD, F.STR_DAB, F.STR_DAB_ALPHA, F.STR_DAB_PHIMAX, F.STR_ACTIVE, F.STR_ANCHOR_OFS],
    f.off < 0x1000 ∧ f.off ≠ 0x8 ∧ f.off ≠ 0x10 := by decide

namespace Dev.Alike
variable {d e : Dev}

theorem symm (h : d.Alike e) : e.Alike d :=
  ⟨fun a ha => (h.rd a ha).symm, h.force.symm, h.slotVals.symm, h.ms.symm, h.flt.symm, h.nodes.symm, h.tick.symm, h.ml.symm, h.tb.symm⟩

theorem rd_slot (h : d.Alike e) {j : Nat} (hj : j < 1024) : e.rd (refAddr j) = d.rd (refAddr j) := by
  refine h.rd _ ?_
  simp only [CommandReg, refAddr, bMod, F.MOD_REF]
  omega

section
variable (h : d.Alike e) {i : Nat} (hi : i < 8)
include h hi

theorem qLegs : qLegs e i = qLegs d i := by
  unfold Machine.qLegs
  rw [h.members hi]
  refine List.flatMap_congr fun m hm => ?_
  simp only [h.func (members_span hm).2]

theorem slotRange : slotRange e i = slotRange d i := by
  simp only [Machine.slotRange, h.g_str (f := F.STR_REF_BASE) hi, h.kind hi, h.g_str (f := F.STR_CFG_MEMBERS) hi, h.qLegs hi]

theorem slotV (v : View) (j : Nat) : slotV e i v j = slotV d i v j := by rw [Machine.slotV, h.g_str (f := F.STR_REF_BASE) hi, Machine.slotV]

theorem pulseLeg (y : Nat) : pulseLeg e i y = pulseLeg d i y := by rw [Machine.pulseLeg, h.kind hi, Machine.pulseLeg]

theorem activePos (mask : Nat) : activePos e i mask = activePos d i mask := by rw [Machine.activePos, h.members hi, Machine.activePos]

theorem legDuty {n : Nat} (hn : n < 128) (v : View) (k y : Nat) : legDuty e i v k n y = legDuty d i v k n y := by
  simp only [Machine.legDuty, afeDuty, lvDuty, zseq2, h.kind hi, h.slotV hi, h.qLegs hi, h.func hn, h.g_str (f := F.STR_CFG_ZSEQ) hi]

theorem drives {n : Nat} (hn : n < 128) : Machine.drivenLegs e i n = Machine.drivenLegs d i n := h.drivenLegs hi hn

theorem testDT (v : View) (n y : Nat) : testDT e i v n y = testDT d i v n y := by rw [Machine.testDT, h.gb_str (f := F.STR_CFG_DT_ADAPT) hi, Machine.testDT]

theorem dabOffset (v : View) (k pd : Nat) : dabOffset e i v k pd = dabOffset d i v k pd := by simp only [Machine.dabOffset, h.activePos hi]

theorem legOffset {n : Nat} (hn : n < 128) (v : View) (k y per : Nat) : legOffset e i v k n y per = legOffset d i v k n y per := by
  have h0 (lo : Nat) : e.g (bNode n) ⟨F.NODE_LEG_MAP0.off, lo, 4⟩ = d.g (bNode n) ⟨F.NODE_LEG_MAP0.off, lo, 4⟩ := h.g_node hn legMap0_off
  have h1 (lo : Nat) : e.g (bNode n) ⟨F.NODE_LEG_MAP1.off, lo, 4⟩ = d.g (bNode n) ⟨F.NODE_LEG_MAP1.off, lo, 4⟩ := h.g_node hn legMap1_off
  have hilv : e.ilv n y = d.ilv n y := by rw [Dev.ilv, h0, h1, Dev.ilv]
  simp only [Machine.legOffset, h.kind hi, h.activePos hi, h.qLegs hi, h.func hn, hilv]

theorem edgeOutside {n : Nat} (hn : n < 128) (hc : ∀ y, (e.leg n y).carry = (d.leg n y).carry) (v : View) (k : Nat) : edgeOutside e i v k n = edgeOutside d i v k n := by
  simp only [Machine.edgeOutside, h.drives hi hn, h.testDT hi, h.pulseLeg hi, h.legDuty hi hn, hc]

theorem pulseShort {n : Nat} (hn : n < 128) (v : View) (k : Nat) : pulseShort e i v k n = pulseShort d i v k n := by
  simp only [Machine.pulseShort, h.g_str (f := F.STR_CFG_SRC) hi, h.drives hi hn, h.pulseLeg hi, h.legDuty hi hn]

theorem worstEdges {n : Nat} (hn : n < 128) (v : View) : worstEdges e i v n = worstEdges d i v n := by
  simp only [Machine.worstEdges, patternGroups, h.members hi, h.legOffset hi hn, h.drives hi hn, h.pulseLeg hi, h.kind hi, h.dabOffset hi]

theorem refuseNode {n : Nat} (hn : n < 128) (hc : ∀ y, (e.leg n y).carry = (d.leg n y).carry) (v : View) (k : Nat) : refuseNode e i v k n = refuseNode d i v k n := by
  simp only [Machine.refuseNode, h.kind hi, h.edgeOutside hi hn hc, h.pulseShort hi hn, h.members hi, h.worstEdges hi hn]

theorem nodeSlots (k n : Nat) : nodeSlots e i k n = nodeSlots d i k n := by simp only [Machine.nodeSlots, h.kind hi, h.qLegs hi]

end

theorem viewOf (h : d.Alike e) (set : SetV) : viewOf e set = viewOf d set := by
  unfold Machine.viewOf
  simp only [h.rdF]

theorem captureSet (h : d.Alike e) {i : Nat} (hi : i < 8) : captureSet e i = captureSet d i := by
  have hspan := slotRange_span d i
  unfold Machine.captureSet
  rw [h.slotRange hi, h.members hi]
  simp only []
  congr 1
  · refine List.map_congr_left fun a ha => ?_
    rcases List.mem_append.mp ha with ha | ha
    · obtain ⟨f, hf, rfl⟩ := List.mem_map.mp ha
      have hoff := stringFlds_off f hf
      rw [h.rd_str hi hoff.1 hoff.2.1 hoff.2.2]
    · obtain ⟨m, hm, ha⟩ := List.mem_flatMap.mp ha
      have hoff : ∃ o, a = bNode m.2 + o ∧ o < 0x1000 ∧ o ≠ 0x170 := by
        simp only [nodeAddrs, upto, List.mem_append, List.mem_map, List.mem_range, List.mem_cons, List.not_mem_nil, or_false, F.NODE_DT, F.NODE_MINP, F.NODE_DT_LIM, F.NODE_BS] at ha
        exact ⟨a - bNode m.2, by omega, by omega, by omega⟩
      obtain ⟨o, rfl, h1, h2⟩ := hoff
      rw [h.rd_node (members_span hm).2 h1 h2]
  · refine List.map_congr_left fun j hj => ?_
    have := mem_upto.mp hj
    rw [h.gb_str (f := F.STR_CFG_SRC) hi, h.rd_slot (by omega), h.slotVals]

/-- The error of a carrier against its anchor. -/
theorem anchorErr (h : d.Alike e) {i : Nat} (hi : i < 8) (v : View) (t per : Nat) : anchorErr e v i t per = anchorErr d v i t per := by
  have hact : e.gb bMod F.CSYNC_STATUS_IN_ACTIVE = d.gb bMod F.CSYNC_STATUS_IN_ACTIVE := by
    rw [Dev.gb, Dev.g, h.rd _ (by simp only [CommandReg, bMod, F.CSYNC_STATUS_IN_ACTIVE]; omega), Dev.gb, Dev.g]
  have hofs : e.g bMod F.CSYNC_IN_OFS_OFS = d.g bMod F.CSYNC_IN_OFS_OFS := by
    rw [Dev.g, h.rd _ (by simp only [CommandReg, bMod, F.CSYNC_IN_OFS_OFS]; omega), Dev.g]
  have htime : e.tFt = d.tFt := by rw [Dev.tFt, h.tb, Dev.tFt]
  simp only [Machine.anchorErr, h.gb_str (f := F.STR_ANCHOR_SRC) hi, hact, hofs, h.ml, h.tick, htime]

end Dev.Alike

theorem Dev.Alike.toAnchor {d e : Dev} (h : d.Alike e) {i : Nat} (hi : i < 8) (v : View) (t per : Nat) : toAnchor e v i t per = toAnchor d v i t per := by
  rw [Machine.toAnchor, h.anchorErr hi, Machine.toAnchor]

/-- Two states of a string that reload at the same instants: they are the same, or the first reload has come and only their sets differ. -/
def StrSt.SameReloads (x y : StrSt) : Prop :=
  y = x ∨ (x.waitFirst = false ∧ y = { x with latchAt := y.latchAt, lat := y.lat, latMv := y.latMv, pend := y.pend, pendMv := y.pendMv })

namespace Dev.Alike
variable {d e : Dev}

theorem reloadIn (h : d.Alike e) {i : Nat} (hi : i < 8) (hs : StrSt.SameReloads (d.str i) (e.str i)) (ahead : Nat) : reloadIn e i ahead = reloadIn d i ahead := by
  rcases hs with hs | ⟨hw, hs⟩
  · have hview : firstView e i = firstView d i := by rw [firstView, h.viewOf, hs, firstView]
    simp only [Machine.reloadIn, hs, h.tick, h.dly, hview, h.anchorErr hi, h.toAnchor hi]
  · have hw' : (e.str i).waitFirst = false := by rw [hs, hw]
    have hstart : (e.str i).started = (d.str i).started := by rw [hs]
    have hnext : nextReload (e.str i) = nextReload (d.str i) := by rw [hs]; rfl
    simp only [Machine.reloadIn, hw, hw', hstart, hnext, h.tick, h.dly, Bool.false_eq_true, if_false]

theorem lateNow (h : d.Alike e) {i : Nat} (hi : i < 8) (hs : StrSt.SameReloads (d.str i) (e.str i)) : lateNow e i = lateNow d i := by
  have hin : Machine.reloadIn e i = Machine.reloadIn d i := funext (h.reloadIn hi hs)
  have hst : (e.str i).started = (d.str i).started ∧ (e.str i).reloadAt = (d.str i).reloadAt := by
    rcases hs with hs | ⟨-, hs⟩ <;> rw [hs] <;> exact ⟨rfl, rfl⟩
  rw [Machine.lateNow, hin, hst.1, hst.2, h.tick, Machine.lateNow]

end Dev.Alike

end Sys2Proof.Machine
end

section
/-! SUPPORT. What the latch instant and a commit of a string change (R172 to R175, R179 to R182). -/

namespace Sys2Proof.Machine

theorem Dev.str_p (d : Dev) (b : Nat) (f : Fld) (v : Nat) (j : Nat) : (d.p b f v).str j = d.str j := rfl

/-! ### What they may change -/

/-- `e` differs from `d` in the sets of string i and its status, and in the latched dead times of legs. -/
structure Dev.Latches (i : Nat) (d e : Dev) : Prop where
  only : e = { d with strs := e.strs, legs := e.legs, regs := e.regs }
  rd : ∀ a, a ≠ bStr i + F.STR_COMMIT_STATUS.off → e.rd a = d.rd a
  others : ∀ j, j ≠ i → e.str j = d.str j
  sets : e.str i = { d.str i with latchAt := (e.str i).latchAt, lat := (e.str i).lat, latMv := (e.str i).latMv, pend := (e.str i).pend, pendMv := (e.str i).pendMv }
  carry : ∀ n y, (e.leg n y).carry = (d.leg n y).carry

namespace Dev.Latches
variable {i : Nat} {d e f : Dev}

theorem refl (d : Dev) : Dev.Latches i d d := ⟨rfl, fun _ _ => rfl, fun _ _ => rfl, rfl, fun _ _ => rfl⟩

theorem trans (h : Dev.Latches i d e) (k : Dev.Latches i e f) : Dev.Latches i d f := by
  refine ⟨?_, fun a ha => (k.rd a ha).trans (h.rd a ha), fun j hj => (k.others j hj).trans (h.others j hj), ?_, fun n y => (k.carry n y).trans (h.carry n y)⟩
  · have hk := k.only
    rw [h.only] at hk
    exact hk
  · have hk := k.sets
    rw [h.sets] at hk
    exact hk

/-- The settings are those from before. -/
theorem alike (h : Dev.Latches i d e) (hi : i < 8) : d.Alike e := by
  have ho := h.only
  refine ⟨fun a ha => h.rd a (fun heq => ha ?_), by rw [ho], by rw [ho], by rw [ho], by rw [ho], by rw [ho], by rw [ho], by rw [ho], by rw [ho]⟩
  rw [heq]
  simp only [CommandReg, bStr, F.STR_COMMIT_STATUS]
  omega

theorem on (c : Bool) {g : Dev → Dev} (h : Dev.Latches i d (g d)) : Dev.Latches i d (d.on c g) := by
  cases c
  · exact refl d
  · exact h

theorem each {α : Type} {g : α → Dev → Dev} (h : ∀ x d, Dev.Latches i d (g x d)) (l : List α) (d : Dev) : Dev.Latches i d (d.each l g) :=
  each_keeps (P := fun e => Dev.Latches i d e) (fun x _ _ he => he.trans (h x _)) d (refl d)

theorem setStr (d : Dev) {g : StrSt → StrSt} (hg : ∀ x, g x = { x with latchAt := (g x).latchAt, lat := (g x).lat, latMv := (g x).latMv, pend := (g x).pend, pendMv := (g x).pendMv }) :
    Dev.Latches i d (d.setStr i g) := by
  refine ⟨rfl, fun _ _ => rfl, fun j hj => Dev.str_setStr_ne d g hj, ?_, fun _ _ => rfl⟩
  rw [Dev.str_setStr_self]
  exact hg _

theorem status (d : Dev) {f : Fld} (v : Nat) (hf : f.off = F.STR_COMMIT_STATUS.off) : Dev.Latches i d (d.p (bStr i) f v) :=
  ⟨rfl, fun _ ha => Dev.rd_p_ne d f v (hf ▸ ha), fun _ _ => rfl, rfl, fun _ _ => rfl⟩

theorem setLeg (d : Dev) (n y : Nat) {g : LegSt → LegSt} (hg : ∀ l, (g l).carry = l.carry) : Dev.Latches i d (d.setLeg n y g) := by
  refine ⟨rfl, fun _ _ => rfl, fun _ _ => rfl, rfl, fun m x => ?_⟩
  by_cases h : m * 6 + x = n * 6 + y
  · have hleg (d : Dev) : d.leg m x = d.leg n y := congrArg (tget (fun _ => legSt0) d.legs) h
    rw [hleg, hleg, Dev.leg_setLeg_self, hg]
  · rw [Dev.leg_setLeg_ne d g h]

/-- A string whose sets alone differ reloads at the same instants, once its first reload has come. -/
theorem sameReloads (h : Dev.Latches i d e) (hw : (d.str i).waitFirst = false) : StrSt.SameReloads (d.str i) (e.str i) := .inr ⟨hw, h.sets⟩

theorem rest (h : Dev.Latches i d e) : e.rest = { d.rest with strs := e.strs, legs := e.legs } := by
  rw [h.only]
  rfl

end Dev.Latches

/-! ### The latch instant (R165, R172 to R175, R179) -/

/-- A leg latches its adapted dead times. -/
def timesLatched (l : LegSt) : LegSt := { l with latPos := l.dtPos, latNeg := l.dtNeg, latHigh := l.dirHigh, latLow := l.dirLow }

/-- The dead times of the adapting legs of a string are latched, and the instant is noted. -/
def latchTimes (i : Nat) (d : Dev) : Dev :=
  let s := d.setStr i (fun x => { x with latchAt := some d.tick })
  s.each ((s.members i).flatMap (fun m => (upto 6).map (fun y => (m.2, y)))) (fun w d =>
    d.on (adapting d i w.1 w.2) (fun d => d.setLeg w.1 w.2 timesLatched))

/-- The pending set is taken up. -/
def pendTaken (i : Nat) (d : Dev) : Dev := (d.setStr i (fun x => { x with pend := none })).p (bStr i) F.STR_COMMIT_STATUS_PENDING 0

/-- A set is latched, with what it moves. -/
def latchSet (i : Nat) (set : SetV) (d : Dev) : Dev :=
  (d.setStr i (fun x => { x with lat := some set, latMv := x.pendMv, pendMv := moves0 })).p (bStr i) F.STR_COMMIT_STATUS_LATCHED 1

/-- The members that a set fails, with the reason. -/
def badNodes (i : Nat) (v : View) (d : Dev) : List (Nat × Nat × Nat) :=
  (d.members i).filterMap (fun m => let r := refuseNode d i v m.1 m.2; if r = 0 then none else some (m.1, m.2, r))

/-- The addresses that a set loses with the members that it fails. -/
def droppedAddrs (i : Nat) (bad : List (Nat × Nat × Nat)) (d : Dev) : List Nat :=
  bad.flatMap (fun w => nodeAddrs w.2.1 ++ (nodeSlots d i w.1 w.2.1).map (fun j => refAddr ((slotRange d i).1 + j)))

/-- A set is latched, or refused whole where it is wide, or latched without what it loses with the members that it fails. -/
def latchOrRefuse (i : Nat) (bad : List (Nat × Nat × Nat)) (wide : Bool) (drop : List Nat) (set : SetV) (d : Dev) : Dev :=
  match bad.getLast? with
  | none => latchSet i set d
  | some (_, n, r) => if wide then noteRefusal i 0x7F r d else latchSet i (set.filter (fun w => !drop.contains w.1)) (noteRefusal i n r d)

/-- The judgement of a set that has been taken up. -/
def judgeSet (i : Nat) (set : SetV) (d : Dev) : Dev :=
  latchOrRefuse i (badNodes i (viewOf d set) d) ((stringAddrs i).any (fun a => viewOf d set a != d.rdF a)) (droppedAddrs i (badNodes i (viewOf d set) d) d) set d

theorem latchNow_none {i : Nat} {d : Dev} (h : (d.str i).pend = none) : latchNow i d = latchTimes i d := by
  unfold latchNow
  extract_lets b st
  rw [show st.pend = none from h]
  rfl

theorem latchNow_some {i : Nat} {d : Dev} {set : SetV} (h : (d.str i).pend = some set) : latchNow i d = judgeSet i set (pendTaken i (latchTimes i d)) := by
  unfold latchNow
  extract_lets b st
  rw [show st.pend = some set from h]
  rfl

section
variable {i : Nat} (d : Dev)

theorem latches_latchTimes : Dev.Latches i d (latchTimes i d) := by
  unfold latchTimes
  extract_lets s
  have hs : Dev.Latches i d s := Dev.Latches.setStr d (fun _ => rfl)
  exact hs.trans (Dev.Latches.each (fun w x => Dev.Latches.on _ (Dev.Latches.setLeg x w.1 w.2 (g := timesLatched) (fun _ => rfl))) _ s)

theorem latches_pendTaken : Dev.Latches i d (pendTaken i d) :=
  (Dev.Latches.setStr (i := i) d (g := fun x => { x with pend := none }) (fun _ => rfl)).trans (Dev.Latches.status _ (f := F.STR_COMMIT_STATUS_PENDING) 0 rfl)

theorem latches_latchSet (set : SetV) : Dev.Latches i d (latchSet i set d) :=
  (Dev.Latches.setStr (i := i) d (g := fun x => { x with lat := some set, latMv := x.pendMv, pendMv := moves0 }) (fun _ => rfl)).trans
    (Dev.Latches.status _ (f := F.STR_COMMIT_STATUS_LATCHED) 1 rfl)

theorem latches_noteRefusal (n r : Nat) : Dev.Latches i d (noteRefusal i n r d) :=
  ((Dev.Latches.status d (f := F.STR_COMMIT_STATUS_REFUSED) 1 rfl).trans (Dev.Latches.status _ (f := F.STR_COMMIT_STATUS_REFUSED_NODE) n rfl)).trans
    (Dev.Latches.status _ (f := F.STR_COMMIT_STATUS_REFUSED_REASON) r rfl)

theorem latches_judgeSet (set : SetV) : Dev.Latches i d (judgeSet i set d) := by
  unfold judgeSet latchOrRefuse
  split
  · exact latches_latchSet d set
  · split
    · exact latches_noteRefusal d _ _
    · exact (latches_noteRefusal d _ _).trans (latches_latchSet _ _)

theorem latches_latchNow : Dev.Latches i d (latchNow i d) := by
  cases h : (d.str i).pend with
  | none =>
    rw [latchNow_none h]
    exact latches_latchTimes d
  | some set =>
    rw [latchNow_some h]
    exact ((latches_latchTimes d).trans (latches_pendTaken _)).trans (latches_judgeSet _ set)

theorem latches_latchString : Dev.Latches i d (latchString i d) := by
  unfold latchString
  split
  · exact latches_latchNow d
  · exact Dev.Latches.refl d

theorem latches_commitString : Dev.Latches i d (commitString i d) := by
  unfold commitString
  extract_lets b latched st late merged set
  have hlate : Dev.Latches i d late := (latches_latchString d).trans (Dev.Latches.on _ (Dev.Latches.status _ 1 rfl))
  have hmerged : Dev.Latches i d merged := hlate.trans (Dev.Latches.on _ (Dev.Latches.status _ 1 rfl))
  clear_value merged set
  exact (hmerged.trans (Dev.Latches.setStr merged (fun _ => rfl))).trans (Dev.Latches.status _ (f := F.STR_COMMIT_STATUS_PENDING) 1 rfl)

end

end Sys2Proof.Machine
end

section
/-! SUPPORT. A commit of a string and LOAD_ALL as commands (R149, R180 to R182, R185). -/

namespace Sys2Proof.Machine

/-! ### A commit of a string (R180 to R182) -/

/-- COMMIT_LATE and COALESCED of a commit that completes. -/
def commitMarked (i : Nat) (d : Dev) : Dev :=
  (d.on (lateNow d i) (fun s => s.p (bStr i) F.STR_COMMIT_STATUS_COMMIT_LATE 1)).on (d.str i).pend.isSome (fun s => s.p (bStr i) F.STR_COMMIT_STATUS_COALESCED 1)

/-- A set becomes the pending set. -/
def pendSet (i : Nat) (set : SetV) (d : Dev) : Dev := (d.setStr i (fun x => { x with pend := some set })).p (bStr i) F.STR_COMMIT_STATUS_PENDING 1

theorem commitString_eq (i : Nat) (d : Dev) :
    commitString i d = pendSet i (captureSet (commitMarked i (latchString i d)) i) (commitMarked i (latchString i d)) := rfl

theorem latchString_waits {i : Nat} {d : Dev} (h : reloadIn d i 8 = false ∨ (d.str i).latchAt = some d.tick) : latchString i d = d := by
  rw [latchString, if_neg]
  rcases h with h | h <;> simp [h]

theorem latchString_takes {i : Nat} {d : Dev} (h : reloadIn d i 8 = true) (hl : (d.str i).latchAt ≠ some d.tick) : latchString i d = latchNow i d := by
  rw [latchString, if_pos]
  simp [h, hl]

section
variable {i : Nat}

theorem latches_commitMarked (d : Dev) : Dev.Latches i d (commitMarked i d) :=
  (Dev.Latches.on _ (Dev.Latches.status (i := i) d (f := F.STR_COMMIT_STATUS_COMMIT_LATE) 1 rfl)).trans
    (Dev.Latches.on (d := d.on (lateNow d i) (fun s => s.p (bStr i) F.STR_COMMIT_STATUS_COMMIT_LATE 1)) (g := fun s => s.p (bStr i) F.STR_COMMIT_STATUS_COALESCED 1) _
      (Dev.Latches.status _ (f := F.STR_COMMIT_STATUS_COALESCED) 1 rfl))

theorem commitMarked_coalesced {d : Dev} (h : (d.str i).pend ≠ none) : (commitMarked i d).gb (bStr i) F.STR_COMMIT_STATUS_COALESCED = true := by
  rw [commitMarked, Option.isSome_iff_ne_none.mpr h]
  exact gb_p_true _ _ (by decide) (by decide)

theorem commitMarked_late {d : Dev} (h : lateNow d i = true) : (commitMarked i d).gb (bStr i) F.STR_COMMIT_STATUS_COMMIT_LATE = true := by
  have hlate (d : Dev) : (d.p (bStr i) F.STR_COMMIT_STATUS_COMMIT_LATE 1).gb (bStr i) F.STR_COMMIT_STATUS_COMMIT_LATE = true := gb_p_true d _ (by decide) (by decide)
  have hcoal (d : Dev) : (d.p (bStr i) F.STR_COMMIT_STATUS_COALESCED 1).gb (bStr i) F.STR_COMMIT_STATUS_COMMIT_LATE = d.gb (bStr i) F.STR_COMMIT_STATUS_COMMIT_LATE :=
    gb_p_disjoint d _ 1 (by decide) (by decide) (by decide)
  rw [commitMarked, h]
  cases (d.str i).pend.isSome
  · exact hlate d
  · exact (hcoal _).trans (hlate d)

theorem pendSet_pend (set : SetV) (d : Dev) : ((pendSet i set d).str i).pend = some set := by
  rw [pendSet, Dev.str_p, Dev.str_setStr_self]

theorem pendSet_pending (set : SetV) (d : Dev) : (pendSet i set d).gb (bStr i) F.STR_COMMIT_STATUS_PENDING = true := gb_p_true _ _ (by decide) (by decide)

/-- The other bits of STR_COMMIT_STATUS stay when a set becomes the pending set. -/
theorem pendSet_gb (set : SetV) (d : Dev) {f : Fld} (hf : f.off = F.STR_COMMIT_STATUS.off) (hlo : 1 ≤ f.lo ∧ f.lo ≤ 32) : (pendSet i set d).gb (bStr i) f = d.gb (bStr i) f :=
  gb_p_disjoint (d.setStr i (fun x => { x with pend := some set })) (bStr i) (f := F.STR_COMMIT_STATUS_PENDING) 1 hf (by decide) (.inl hlo)

variable (hi : i < 8)
include hi

theorem commitString_pend (d : Dev) : ((commitString i d).str i).pend = some (captureSet d i) := by
  have halike : d.Alike (commitMarked i (latchString i d)) := ((latches_latchString d).trans (latches_commitMarked _)).alike hi
  rw [commitString_eq, pendSet_pend, halike.captureSet hi]

omit hi in
theorem commitString_pending (d : Dev) : (commitString i d).gb (bStr i) F.STR_COMMIT_STATUS_PENDING = true := by
  rw [commitString_eq, pendSet_pending]

omit hi in
theorem commitString_coalesced {d : Dev} (h : (d.str i).pend ≠ none) (hl : reloadIn d i 8 = false ∨ (d.str i).latchAt = some d.tick) :
    (commitString i d).gb (bStr i) F.STR_COMMIT_STATUS_COALESCED = true := by
  rw [commitString_eq, latchString_waits hl, pendSet_gb _ _ (f := F.STR_COMMIT_STATUS_COALESCED) rfl (by decide), commitMarked_coalesced h]

theorem commitString_late {d : Dev} (h : lateNow d i = true) (hl : reloadIn d i 8 = false ∨ (d.str i).waitFirst = false) :
    (commitString i d).gb (bStr i) F.STR_COMMIT_STATUS_COMMIT_LATE = true := by
  have hlatched : StrSt.SameReloads (d.str i) ((latchString i d).str i) := by
    rcases hl with hl | hl
    · rw [latchString_waits (.inl hl)]
      exact .inl rfl
    · exact (latches_latchString d).sameReloads hl
  have hlate : lateNow (latchString i d) i = true := (((latches_latchString d).alike hi).lateNow hi hlatched).trans h
  rw [commitString_eq, pendSet_gb _ _ (f := F.STR_COMMIT_STATUS_COMMIT_LATE) rfl (by decide), commitMarked_late hlate]

end

/-! ### What a capture holds (R149, R180) -/

theorem captureSet_string (d : Dev) {i a : Nat} (h : a ∈ stringAddrs i) : (a, d.rd a) ∈ captureSet d i :=
  List.mem_append_left _ (List.mem_map.mpr ⟨a, List.mem_append_left _ h, rfl⟩)

theorem captureSet_node (d : Dev) {i a : Nat} {m : Nat × Nat} (hm : m ∈ d.members i) (h : a ∈ nodeAddrs m.2) : (a, d.rd a) ∈ captureSet d i :=
  List.mem_append_left _ (List.mem_map.mpr ⟨a, List.mem_append_right _ (List.mem_flatMap.mpr ⟨m, hm, h⟩), rfl⟩)

/-! ### STR_COMMIT -/

/-- The row of STR_COMMIT. -/
def strCommitRow : RegD := ⟨0x8, 1, 0x0, 0x0, 0x0, 0x1, 0x0, .none⟩

theorem locate_strCommit {i : Nat} (hi : i < 8) : locate (bStr i + F.STR_COMMIT.off) = some ⟨.str, i, 0x8, some strCommitRow⟩ :=
  locate_numbered ⟨.str, 0x10000, 0x1000, 8, 0x1000, 0, regsStr⟩ (by simp [famTable]) (o := 0x8) (k := 0) (r := strCommitRow) rfl hi (by decide) (by decide) rfl

theorem commitReason_alike {d e : Dev} (h : d.Alike e) {l : List Nat} (hl : ∀ i ∈ l, i < 8) : commitReason e l = commitReason d l := by
  have hhalt : l.any e.halted = l.any d.halted := by rw [show e.halted = d.halted from funext h.halted]
  have hpend : l.any (fun i => e.gb (bStr i) F.STR_CELL_STATUS_PENDING) = l.any (fun i => d.gb (bStr i) F.STR_CELL_STATUS_PENDING) := by
    rw [Bool.eq_iff_iff, List.any_eq_true, List.any_eq_true]
    exact exists_congr fun i => and_congr_right fun hi => by rw [h.gb_str (hl i hi)]
  rw [commitReason, h.mode, hhalt, hpend, commitReason]

theorem stopping_alike {d e : Dev} (h : d.Alike e) : stopping e = stopping d := by rw [stopping, h.ms, stopping]

theorem and_allOnes (v : Word) : v &&& 4294967295#32 = v := by rw [show (4294967295#32 : Word) = BitVec.allOnes 32 from rfl, BitVec.and_allOnes]

theorem hostWriteDev_strCommit {p : Path} {i : Nat} {v : Word} {d : Dev} (hi : i < 8) (hr : Responsive d) (ho : d.occupied (.string i) = true)
    (hg : getBits v 0 1 = 1) (hc : commitReason d [i] = 0) (hs : stopping d = false) :
    (hostWriteDev p (bStr i + F.STR_COMMIT.off) v d).2 = commitString i (stored (bStr i + F.STR_COMMIT.off) strCommitRow v d) := by
  have haddr : bStr i + F.STR_COMMIT.off = 0x10000 + 0x1000 * i + 0x8 := rfl
  have hmail : mailboxReg (bStr i + F.STR_COMMIT.off) = false := by
    simp [mailboxReg, haddr, F.CMD_OP, F.CMD_ARG]
    omega
  have hslot (o : Obj) (h : slotOfLoc ⟨.str, i, 0x8, some strCommitRow⟩ = some o) : d.occupied o = true := by
    rw [← Option.some.inj (h : some (Obj.string i) = some o)]
    exact ho
  have hone : (hostWr .str i 0x8 (bStr i + F.STR_COMMIT.off) strCommitRow v d).one F.STR_COMMIT_GO = true := by
    simp only [Wr.one, hostWr, and_allOnes]
    exact beq_iff_eq.mpr hg
  have hvalue : valueReason (hostWr .str i 0x8 (bStr i + F.STR_COMMIT.off) strCommitRow v d) d = 0 := by
    have h1 : valueReason1 (hostWr .str i 0x8 (bStr i + F.STR_COMMIT.off) strCommitRow v d) d =
        if (hostWr .str i 0x8 (bStr i + F.STR_COMMIT.off) strCommitRow v d).one F.STR_COMMIT_GO then commitReason d [i] else 0 := rfl
    rw [valueReason, h1, hone, if_pos rfl, hc]
    rfl
  rw [hostWriteDev_acts (locate_strCommit hi) (by omega) (by decide) (by decide) (by decide) (busReason_owned (locate_strCommit hi) hslot hmail hr) hvalue rfl]
  have heff (e : Dev) : writeEffect2 (hostWr .str i 0x8 (bStr i + F.STR_COMMIT.off) strCommitRow v d) d
      (writeEffect1 (hostWr .str i 0x8 (bStr i + F.STR_COMMIT.off) strCommitRow v d) d e) =
      if (hostWr .str i 0x8 (bStr i + F.STR_COMMIT.off) strCommitRow v d).one F.STR_COMMIT_GO then goCommit i e else
        writeEffect2 (hostWr .str i 0x8 (bStr i + F.STR_COMMIT.off) strCommitRow v d) d e := by
    simp only [writeEffect1, hostWr, writeEffect2]
    rfl
  have hstop : stopping (stored (bStr i + F.STR_COMMIT.off) strCommitRow v d) = false := hs
  rw [heff, hone, if_pos rfl, goCommit, hstop, if_neg Bool.false_ne_true]

theorem strCommit_serves (p : Path) (i : Fin 8) (v : Word) (s : State) (hp : HostReady p s) (ho : s.d.occupied (.string i.val) = true) (hg : getBits v 0 1 = 1)
    (hc : commitReason s.d [i.val] = 0) (hs : stopping s.d = false) :
    Serves (exec (.strCommit p i v) s) s (fun d nv e => nv = s.nv ∧ (e.str i.val).pend = some (captureSet d i.val) ∧
      e.gb (bStr i.val) F.STR_COMMIT_STATUS_PENDING = true ∧
      ((s.d.str i.val).pend ≠ none → reloadIn s.d i.val 8 = false ∨ (s.d.str i.val).latchAt = some s.d.tick → e.gb (bStr i.val) F.STR_COMMIT_STATUS_COALESCED = true) ∧
      (lateNow s.d i.val = true → reloadIn s.d i.val 8 = false ∨ (s.d.str i.val).waitFirst = false → e.gb (bStr i.val) F.STR_COMMIT_STATUS_COMMIT_LATE = true) ∧
      (∀ a ∈ stringAddrs i.val, (a, d.rd a) ∈ captureSet d i.val) ∧ (∀ m ∈ d.members i.val, ∀ a ∈ nodeAddrs m.2, (a, d.rd a) ∈ captureSet d i.val) ∧
      (∀ j, j ≠ i.val → e.str j = d.str j) ∧ e.rest = { d.rest with strs := e.strs, legs := e.legs } ∧
      KeepsRegs d e [bStr i.val + F.STR_COMMIT.off, bStr i.val + F.STR_COMMIT_STATUS.off]) := by
  have hi := i.isLt
  have haddr : bStr i.val + F.STR_COMMIT.off = 0x10000 + 0x1000 * i.val + 0x8 := rfl
  refine hostWrite_serves hp (by omega) (by simp only [haddr, bDev, F.CMD_OP]; omega) ?_
  have hfound := alike_found s.d
  have hreason : commitReason (found s.d) [i.val] = 0 := (commitReason_alike hfound (fun j hj => by rw [List.mem_singleton.mp hj]; exact hi)).trans hc
  rw [hostWriteDev_strCommit hi ((argsOnly_found s.d).ready hp.1) ((occupied_congr (congrArg ModeSt.occ hfound.ms) _).trans ho) hg hreason ((stopping_alike hfound).trans hs)]
  have hcmd : CommandReg (bStr i.val + F.STR_COMMIT.off) := by
    simp only [CommandReg]
    omega
  have hstore := alike_stored strCommitRow v (found s.d) hcmd
  have hstr : (stored (bStr i.val + F.STR_COMMIT.off) strCommitRow v (found s.d)).strs = s.d.strs := congrArg (fun x => x.strs) (found_rest s.d)
  have hrest := stored_rest (bStr i.val + F.STR_COMMIT.off) strCommitRow v (found s.d)
  have hrd (a : Nat) (ha : a ≠ bStr i.val + F.STR_COMMIT.off) := stored_rd_ne strCommitRow v (found s.d) ha
  have hfstr : (found s.d).strs = s.d.strs := congrArg (fun x => x.strs) (found_rest s.d)
  have hcapture := hstore.captureSet hi
  have halike := hfound.trans hstore
  generalize stored (bStr i.val + F.STR_COMMIT.off) strCommitRow v (found s.d) = x at *
  have hxstr (j : Nat) : x.str j = s.d.str j := by rw [Dev.str, hstr, Dev.str]
  have hfs (j : Nat) : (found s.d).str j = s.d.str j := by rw [Dev.str, hfstr, Dev.str]
  have hsame : StrSt.SameReloads (s.d.str i.val) (x.str i.val) := .inl (hxstr i.val)
  have hreload : reloadIn x i.val 8 = reloadIn s.d i.val 8 := halike.reloadIn hi hsame 8
  have hlate : lateNow x i.val = lateNow s.d i.val := halike.lateNow hi hsame
  have hl := latches_commitString (i := i.val) x
  rw [← hreload, ← hlate, ← hxstr, ← halike.tick]
  refine ⟨rfl, (commitString_pend hi x).trans (congrArg some hcapture), commitString_pending x, commitString_coalesced, commitString_late hi,
    fun a ha => captureSet_string _ ha, fun m hm a ha => captureSet_node _ hm ha, fun j hj => ?_, ?_, fun a ha _ => ?_⟩
  · rw [hl.others j hj, hxstr, hfs]
  · rw [hl.rest, hrest]
  · rw [List.mem_cons, List.mem_singleton, not_or] at ha
    rw [hl.rd a ha.2, hrd a ha.1]

end Sys2Proof.Machine
end

section
/-! SUPPORT. LOAD_ALL as a command (R180, R185, R197). -/

namespace Sys2Proof.Machine

/-! ### Commits of auxiliary pairs (R197) -/

/-- `e` differs from `d` in the sets of pairs and in AUX_STATUS. -/
structure Dev.PairsOnly (d e : Dev) : Prop where
  only : e = { d with auxs := e.auxs, regs := e.regs }
  rd : ∀ a, (∀ i < 8, a ≠ bAux i + F.AUX_STATUS.off) → e.rd a = d.rd a

theorem Dev.PairsOnly.trans {d e f : Dev} (h : d.PairsOnly e) (k : e.PairsOnly f) : d.PairsOnly f := by
  refine ⟨?_, fun a ha => (k.rd a ha).trans (h.rd a ha)⟩
  have hk := k.only
  rw [h.only] at hk
  exact hk

theorem Dev.PairsOnly.alike {d e : Dev} (h : d.PairsOnly e) : d.Alike e := by
  have ho := h.only
  refine ⟨fun a ha => h.rd a (fun i hi heq => ha ?_), by rw [ho], by rw [ho], by rw [ho], by rw [ho], by rw [ho], by rw [ho], by rw [ho], by rw [ho]⟩
  rw [heq]
  simp only [CommandReg, bAux, F.AUX_STATUS]
  omega

theorem Dev.PairsOnly.str {d e : Dev} (h : d.PairsOnly e) (j : Nat) : e.str j = d.str j := by
  rw [h.only]
  rfl

theorem Dev.PairsOnly.status {d e : Dev} (h : d.PairsOnly e) {j : Nat} (hj : j < 8) {f : Fld} (hf : f.off < 0x1000) : e.gb (bStr j) f = d.gb (bStr j) f := by
  rw [Dev.gb, Dev.g, h.rd _ (fun i hi => by simp only [bStr, bAux]; omega), Dev.gb, Dev.g]

/-- The pair's set is taken up at its latch instant, and a late commit is noted. -/
def pairMarked (i : Nat) (d : Dev) : Dev := (auxLatch i d).on (auxLate (auxLatch i d) i) (fun s => s.p (bAux i) F.AUX_STATUS_COMMIT_LATE 1)

/-- A set becomes the pending set of a pair. -/
def pairPend (i : Nat) (set : SetV) (d : Dev) : Dev := d.setAux i (fun x => { x with pend := some set })

theorem commitAux_eq (i : Nat) (d : Dev) : commitAux i d = pairPend i (auxCapture (pairMarked i d) i) (pairMarked i d) := rfl

theorem pairsOnly_auxLatch (i : Nat) (d : Dev) : d.PairsOnly (auxLatch i d) := by
  unfold auxLatch
  extract_lets x
  split
  · exact ⟨rfl, fun _ _ => rfl⟩
  · exact ⟨rfl, fun _ _ => rfl⟩

theorem pairsOnly_pairMarked {i : Nat} (hi : i < 8) (d : Dev) : d.PairsOnly (pairMarked i d) := by
  have hp (d : Dev) : d.PairsOnly (d.p (bAux i) F.AUX_STATUS_COMMIT_LATE 1) := ⟨rfl, fun a ha => Dev.rd_p_ne d F.AUX_STATUS_COMMIT_LATE 1 (ha i hi)⟩
  refine (pairsOnly_auxLatch i d).trans ?_
  rw [pairMarked]
  generalize auxLatch i d = x
  cases auxLate x i
  · exact ⟨rfl, fun _ _ => rfl⟩
  · exact hp x

theorem pairsOnly_commitAux {i : Nat} (hi : i < 8) (d : Dev) : d.PairsOnly (commitAux i d) := by
  rw [commitAux_eq]
  exact (pairsOnly_pairMarked hi d).trans ⟨rfl, fun _ _ => rfl⟩

theorem auxFlds_off : ∀ f ∈ [F.AUX_PERIOD, F.AUX_DUTY, F.AUX_DUTY2, F.AUX_DT, F.AUX_MINP], f.off < 0x1C := by decide

theorem Dev.Alike.auxCapture {d e : Dev} (h : d.Alike e) {i : Nat} (hi : i < 8) : auxCapture e i = auxCapture d i := by
  have hrd {o : Nat} (ho : o < 0x1C) : e.rd (bAux i + o) = d.rd (bAux i + o) := by
    refine h.rd _ ?_
    simp only [CommandReg, bAux]
    omega
  have hg (f : Fld) (hf : f.off < 0x1C) : e.g (bAux i) f = d.g (bAux i) f := by rw [Dev.g, hrd hf, Dev.g]
  have hset : [F.AUX_PERIOD, F.AUX_DUTY, F.AUX_DUTY2, F.AUX_DT, F.AUX_MINP].map (fun f => (bAux i + f.off, e.rd (bAux i + f.off))) =
      [F.AUX_PERIOD, F.AUX_DUTY, F.AUX_DUTY2, F.AUX_DT, F.AUX_MINP].map (fun f => (bAux i + f.off, d.rd (bAux i + f.off))) :=
    List.map_congr_left fun f hf => by rw [hrd (auxFlds_off f hf)]
  rw [Machine.auxCapture, hset, Dev.gb, hg F.AUX_CFG_SRC (by decide), hg F.AUX_CFG_SLOT (by decide), h.slotVals]
  rfl

theorem commitAux_pend {i : Nat} (hi : i < 8) (d : Dev) : ((commitAux i d).auxp i).pend = some (auxCapture d i) := by
  rw [commitAux_eq, pairPend, Dev.auxp_setAux_self, (pairsOnly_pairMarked hi d).alike.auxCapture hi]

theorem commitAux_others {i j : Nat} (hj : j ≠ i) (d : Dev) : (commitAux i d).auxp j = d.auxp j := by
  have hmark : (pairMarked i d).auxp j = (auxLatch i d).auxp j := by
    rw [pairMarked]
    cases auxLate (auxLatch i d) i <;> rfl
  have hlatch : (auxLatch i d).auxp j = d.auxp j := by
    unfold auxLatch
    extract_lets x
    split
    · exact Dev.auxp_setAux_ne d _ hj
    · rfl
  rw [commitAux_eq, pairPend, Dev.auxp_setAux_ne _ _ hj, hmark, hlatch]

/-! ### Commits of many (R185) -/

/-- The strings, or pairs, that a mask names. -/
def named (mask : Nat) : List Nat := (upto 8).filter (bitOf mask)

theorem mem_named {mask j : Nat} : j ∈ named mask ↔ j < 8 ∧ bitOf mask j = true := by rw [named, List.mem_filter, mem_upto]

theorem named_lt {mask j : Nat} (h : j ∈ named mask) : j < 8 := (mem_named.mp h).1

/-- Commits of the strings that a mask names. -/
def commitStrings (mask : Nat) (d : Dev) : Dev := d.each (named mask) commitString

/-- Commits of the pairs that a mask names. -/
def commitPairs (mask : Nat) (d : Dev) : Dev := d.each (named mask) commitAux

theorem loadAll_eq {strs auxs : Nat} {d : Dev} (h : stopping d = false) : loadAll strs auxs d = commitPairs auxs (commitStrings strs d) := by
  rw [loadAll, h, if_neg Bool.false_ne_true]
  rfl

theorem alike_commitStrings (mask : Nat) (d : Dev) : d.Alike (commitStrings mask d) :=
  each_keeps (P := fun e => d.Alike e) (fun _ hj _ h => h.trans ((latches_commitString _).alike (named_lt hj))) d (Dev.Alike.refl d)

theorem commitStrings_auxs (mask : Nat) (d : Dev) : (commitStrings mask d).auxs = d.auxs :=
  each_field (named mask) commitString Dev.auxs (fun j d => by rw [(latches_commitString (i := j) d).only]) d

theorem pairsOnly_commitPairs (mask : Nat) (d : Dev) : d.PairsOnly (commitPairs mask d) :=
  each_keeps (P := fun e => d.PairsOnly e) (fun _ hj _ h => h.trans (pairsOnly_commitAux (named_lt hj) _)) d ⟨rfl, fun _ _ => rfl⟩

theorem commitStrings_pend (mask : Nat) (d : Dev) {j : Nat} (hj : j < 8) :
    ((commitStrings mask d).str j).pend = if bitOf mask j then some (captureSet d j) else (d.str j).pend := by
  have own (d : Dev) : ((commitString j d).str j).pend = some (captureSet (commitString j d) j) := by
    rw [commitString_pend hj, ((latches_commitString d).alike hj).captureSet hj]
  split
  · have hpend : ((commitStrings mask d).str j).pend = some (captureSet (commitStrings mask d) j) := by
      refine each_reaches (f := commitString) (x := j) (P := fun e => (e.str j).pend = some (captureSet e j)) own (fun k hk e he => ?_) (mem_named.mpr ⟨hj, ‹_›⟩) d
      by_cases h : j = k
      · rw [← h]
        exact own e
      · rw [(latches_commitString e).others j h, ((latches_commitString e).alike (named_lt hk)).captureSet hj]
        exact he
    rw [hpend, (alike_commitStrings mask d).captureSet hj]
  · rename_i hbit
    refine each_field_mem (named mask) commitString (fun e => (e.str j).pend) (fun k hk e => ?_) d
    have hne : j ≠ k := fun h => hbit (h ▸ (mem_named.mp hk).2)
    rw [(latches_commitString e).others j hne]

theorem commitStrings_pending {mask j : Nat} (hj : j < 8) (hb : bitOf mask j = true) (d : Dev) : (commitStrings mask d).gb (bStr j) F.STR_COMMIT_STATUS_PENDING = true := by
  refine each_reaches (f := commitString) (x := j) (P := fun e => e.gb (bStr j) F.STR_COMMIT_STATUS_PENDING = true) commitString_pending (fun k hk e he => ?_)
    (mem_named.mpr ⟨hj, hb⟩) d
  by_cases h : j = k
  · rw [← h]
    exact commitString_pending e
  · have hne : bStr j + F.STR_COMMIT_STATUS_PENDING.off ≠ bStr k + F.STR_COMMIT_STATUS.off := by
      simp only [bStr, F.STR_COMMIT_STATUS_PENDING, F.STR_COMMIT_STATUS]
      omega
    rw [Dev.gb, Dev.g, (latches_commitString e).rd _ hne]
    exact he

theorem commitPairs_pend (mask : Nat) (d : Dev) {j : Nat} (hj : j < 8) :
    ((commitPairs mask d).auxp j).pend = if bitOf mask j then some (auxCapture d j) else (d.auxp j).pend := by
  have own (d : Dev) : ((commitAux j d).auxp j).pend = some (auxCapture (commitAux j d) j) := by
    rw [commitAux_pend hj, (pairsOnly_commitAux hj d).alike.auxCapture hj]
  split
  · have hpend : ((commitPairs mask d).auxp j).pend = some (auxCapture (commitPairs mask d) j) := by
      refine each_reaches (f := commitAux) (x := j) (P := fun e => (e.auxp j).pend = some (auxCapture e j)) own (fun k hk e he => ?_) (mem_named.mpr ⟨hj, ‹_›⟩) d
      by_cases h : j = k
      · rw [← h]
        exact own e
      · rw [commitAux_others h, (pairsOnly_commitAux (named_lt hk) e).alike.auxCapture hj]
        exact he
    rw [hpend, (pairsOnly_commitPairs mask d).alike.auxCapture hj]
  · rename_i hbit
    refine each_field_mem (named mask) commitAux (fun e => (e.auxp j).pend) (fun k hk e => ?_) d
    have hne : j ≠ k := fun h => hbit (h ▸ (mem_named.mp hk).2)
    rw [commitAux_others hne]

/-! ### LOAD_ALL -/

/-- The row of LOAD_ALL. -/
def loadAllRow : RegD := ⟨0x4, 1, 0x0, 0x0, 0x0, 0xFFFF, 0x0, .none⟩

theorem locate_loadAll : locate (bMod + F.LOAD_ALL.off) = some ⟨.mod, 0, 0x4, some loadAllRow⟩ := by decide

theorem commitReason_none {d : Dev} (hm : d.mode ≠ .safe) {l : List Nat} (h : ∀ j ∈ l, d.halted j = false ∧ d.gb (bStr j) F.STR_CELL_STATUS_PENDING = false) : commitReason d l = 0 := by
  have hhalt : l.any d.halted = false := List.any_eq_false.mpr fun j hj => by rw [(h j hj).1]; exact Bool.false_ne_true
  have hpend : l.any (fun i => d.gb (bStr i) F.STR_CELL_STATUS_PENDING) = false := List.any_eq_false.mpr fun j hj => by rw [(h j hj).2]; exact Bool.false_ne_true
  rw [commitReason, if_neg (by simpa using hm), hhalt, hpend]
  rfl

theorem hostWriteDev_loadAll {p : Path} {v : Word} {d : Dev} (hr : Responsive d) (hc : commitReason d (named (getBits v 0 8)) = 0) :
    (hostWriteDev p (bMod + F.LOAD_ALL.off) v d).2 = loadAll (getBits v 0 8) (getBits v 8 8) (stored (bMod + F.LOAD_ALL.off) loadAllRow v d) := by
  have hact : (hostWr .mod 0 0x4 (bMod + F.LOAD_ALL.off) loadAllRow v d).act = v := and_allOnes v
  have hvalue : valueReason (hostWr .mod 0 0x4 (bMod + F.LOAD_ALL.off) loadAllRow v d) d = 0 := by
    have h1 : valueReason1 (hostWr .mod 0 0x4 (bMod + F.LOAD_ALL.off) loadAllRow v d) d =
        commitReason d (named (getBits (hostWr .mod 0 0x4 (bMod + F.LOAD_ALL.off) loadAllRow v d).act 0 8)) := rfl
    rw [valueReason, h1, hact, hc]
    rfl
  rw [hostWriteDev_acts locate_loadAll (by decide) (by decide) (by decide) (by decide) (busReason_owned locate_loadAll (fun o h => nomatch h) (by decide) hr) hvalue rfl]
  have heff (e : Dev) : writeEffect2 (hostWr .mod 0 0x4 (bMod + F.LOAD_ALL.off) loadAllRow v d) d
      (writeEffect1 (hostWr .mod 0 0x4 (bMod + F.LOAD_ALL.off) loadAllRow v d) d e) =
      loadAll (getBits (hostWr .mod 0 0x4 (bMod + F.LOAD_ALL.off) loadAllRow v d).act 0 8) (getBits (hostWr .mod 0 0x4 (bMod + F.LOAD_ALL.off) loadAllRow v d).act 8 8) e := rfl
  rw [heff, hact]

theorem loadAll_serves (p : Path) (v : Word) (s : State) (hp : HostReady p s) (hm : s.d.mode ≠ .safe) (hs : stopping s.d = false)
    (h : ∀ j < 8, s.d.halted j = false ∧ s.d.gb (bStr j) F.STR_CELL_STATUS_PENDING = false) :
    Serves (exec (.loadAll p v) s) s (fun d nv e => nv = s.nv ∧
      (∀ j < 8, (e.str j).pend = if bitOf (getBits v 0 8) j then some (captureSet d j) else (d.str j).pend) ∧
      (∀ j < 8, (e.auxp j).pend = if bitOf (getBits v 8 8) j then some (auxCapture d j) else (d.auxp j).pend) ∧
      (∀ j < 8, bitOf (getBits v 0 8) j = true → e.gb (bStr j) F.STR_COMMIT_STATUS_PENDING = true) ∧ e.force = d.force ∧ e.slotVals = d.slotVals) := by
  refine hostWrite_serves hp (by decide) (by decide) ?_
  have hfound := alike_found s.d
  have hreason : commitReason (found s.d) (named (getBits v 0 8)) = 0 :=
    (commitReason_alike hfound (fun _ hj => named_lt hj)).trans (commitReason_none hm (fun j hj => h j (named_lt hj)))
  rw [hostWriteDev_loadAll ((argsOnly_found s.d).ready hp.1) hreason]
  have hstore := alike_stored loadAllRow v (found s.d) (show CommandReg (bMod + F.LOAD_ALL.off) from .inr (.inr (.inr (.inl rfl))))
  have hstr (j : Nat) : (stored (bMod + F.LOAD_ALL.off) loadAllRow v (found s.d)).str j = (found s.d).str j := rfl
  have haux (j : Nat) : (stored (bMod + F.LOAD_ALL.off) loadAllRow v (found s.d)).auxp j = (found s.d).auxp j := rfl
  rw [loadAll_eq ((stopping_alike (hfound.trans hstore)).trans hs)]
  generalize stored (bMod + F.LOAD_ALL.off) loadAllRow v (found s.d) = x at *
  have hcs := alike_commitStrings (getBits v 0 8) x
  have hcp := pairsOnly_commitPairs (getBits v 8 8) (commitStrings (getBits v 0 8) x)
  have hall := hstore.trans (hcs.trans hcp.alike)
  have hauxs (j : Nat) : (commitStrings (getBits v 0 8) x).auxp j = x.auxp j := by rw [Dev.auxp, commitStrings_auxs, Dev.auxp]
  refine ⟨rfl, fun j hj => ?_, fun j hj => ?_, fun j hj hb => ?_, hall.force, hall.slotVals⟩
  · rw [hcp.str, commitStrings_pend _ _ hj, hstore.captureSet hj, hstr]
  · rw [commitPairs_pend _ _ hj, (hstore.trans hcs).auxCapture hj, hauxs, haux]
  · rw [hcp.status hj (f := F.STR_COMMIT_STATUS_PENDING) (by decide), commitStrings_pending hj hb]

end Sys2Proof.Machine
end

section
/-! SUPPORT. The latch instant of a string judges its pending set (R172 to R175, R179). -/

namespace Sys2Proof.Machine

/-! ### The instant -/

theorem alike_fresh (d : Dev) : d.Alike d.fresh := ⟨fun _ _ => rfl, rfl, rfl, rfl, rfl, rfl, rfl, rfl, rfl⟩

theorem reloadIn_fresh (d : Dev) {i : Nat} (hi : i < 8) (ahead : Nat) : reloadIn d.fresh i ahead = reloadIn d i ahead := (alike_fresh d).reloadIn hi (.inl rfl) ahead

theorem latchInstant_waits (i : Fin 8) (s : State) (h : reloadIn s.d i.val 8 = false ∨ (s.d.str i.val).latchAt = some s.d.tick) :
    Does (exec (.latchInstant i) s) s (fun e => e = s.d.fresh) := by
  rw [← reloadIn_fresh s.d i.isLt] at h
  exact upd_does (latchString_waits (d := s.d.fresh) h)

section
variable {i : Nat} (d : Dev)

/-- The legs' dead times are latched. -/
theorem legTimes_str (w : Nat × Nat) (c : Bool) (x : Dev) (j : Nat) : (x.on c (fun x => x.setLeg w.1 w.2 timesLatched)).str j = x.str j := by cases c <;> rfl

theorem latchTimes_str : (latchTimes i d).str i = { d.str i with latchAt := some d.tick } := by
  unfold latchTimes
  extract_lets s
  have hs : s.str i = { d.str i with latchAt := some d.tick } := Dev.str_setStr_self d i _
  clear_value s
  rw [← hs]
  exact each_field _ _ (fun x => x.str i) (fun w x => legTimes_str w _ x i) s

theorem latchTimes_only : latchTimes i d = { d with strs := (latchTimes i d).strs, legs := (latchTimes i d).legs } := by
  have hleg (w : Nat × Nat) (c : Bool) (x : Dev) : x.on c (fun x => x.setLeg w.1 w.2 timesLatched) = { x with legs := (x.on c (fun x => x.setLeg w.1 w.2 timesLatched)).legs } := by
    cases c <;> rfl
  unfold latchTimes
  extract_lets s
  refine each_keeps (P := fun e => e = { d with strs := e.strs, legs := e.legs }) (fun w _ x h => ?_) s rfl
  have hx := hleg w (adapting x i w.1 w.2) x
  generalize x.on (adapting x i w.1 w.2) (fun x => x.setLeg w.1 w.2 timesLatched) = y at hx
  rw [hx, h]

end

theorem latchInstant_idle (i : Fin 8) (s : State) (h : reloadIn s.d i.val 8 = true) (hl : (s.d.str i.val).latchAt ≠ some s.d.tick) (hp : (s.d.str i.val).pend = none) :
    Does (exec (.latchInstant i) s) s (fun e =>
      (e.str i.val).latchAt = some s.d.tick ∧ (e.str i.val).lat = (s.d.str i.val).lat ∧ e.regs = s.d.regs ∧ e = { s.d.fresh with strs := e.strs, legs := e.legs }) := by
  refine upd_does ?_
  rw [latchString_takes (d := s.d.fresh) ((reloadIn_fresh s.d i.isLt 8).trans h) hl, latchNow_none (d := s.d.fresh) hp]
  have hstr := latchTimes_str (i := i.val) s.d.fresh
  have honly := latchTimes_only (i := i.val) s.d.fresh
  generalize latchTimes i.val s.d.fresh = e at *
  exact ⟨by rw [hstr], by rw [hstr]; rfl, by rw [honly], honly⟩

/-! ### The judgement of a set (R172 to R175) -/

/-- A member fails a set. -/
def FailsSet (d : Dev) (i : Nat) (set : SetV) (m : Nat × Nat) : Prop := refuseNode d i (viewOf d set) m.1 m.2 ≠ 0

/-- A set changes a field of the whole string. -/
def WideSet (d : Dev) (i : Nat) (set : SetV) : Prop := ∃ a ∈ stringAddrs i, viewOf d set a ≠ d.rdF a

/-- A set loses the value of an address with a member that it fails. -/
def DropsAddr (d : Dev) (i : Nat) (set : SetV) (a : Nat) : Prop :=
  ∃ m ∈ d.members i, FailsSet d i set m ∧ (a ∈ nodeAddrs m.2 ∨ ∃ j ∈ nodeSlots d i m.1 m.2, a = refAddr ((slotRange d i).1 + j))

section
variable {i : Nat} {d : Dev} {set : SetV}

theorem mem_badNodes {v : View} {w : Nat × Nat × Nat} : w ∈ badNodes i v d ↔ (w.1, w.2.1) ∈ d.members i ∧ refuseNode d i v w.1 w.2.1 ≠ 0 ∧ refuseNode d i v w.1 w.2.1 = w.2.2 := by
  obtain ⟨k, n, r⟩ := w
  rw [badNodes, List.mem_filterMap]
  constructor
  · rintro ⟨m, hm, h⟩
    simp only [] at h
    split_ifs at h with hr
    cases h
    exact ⟨hm, hr, rfl⟩
  · rintro ⟨hm, hr, hw⟩
    have hcond : (if refuseNode d i v k n = 0 then none else some (k, n, refuseNode d i v k n)) = some (k, n, r) := by rw [if_neg hr, hw]
    exact ⟨(k, n), hm, hcond⟩

theorem badNodes_nil : badNodes i (viewOf d set) d = [] ↔ ∀ m ∈ d.members i, ¬ FailsSet d i set m := by
  rw [List.eq_nil_iff_forall_not_mem]
  constructor
  · exact fun h m hm hf => h (m.1, m.2, refuseNode d i (viewOf d set) m.1 m.2) (mem_badNodes.mpr ⟨hm, hf, rfl⟩)
  · intro h w hw
    obtain ⟨hm, hf, -⟩ := mem_badNodes.mp hw
    exact h _ hm hf

theorem mem_droppedAddrs {a : Nat} : a ∈ droppedAddrs i (badNodes i (viewOf d set) d) d ↔ DropsAddr d i set a := by
  rw [droppedAddrs, List.mem_flatMap]
  constructor
  · rintro ⟨w, hw, ha⟩
    obtain ⟨hm, hf, -⟩ := mem_badNodes.mp hw
    refine ⟨_, hm, hf, (List.mem_append.mp ha).imp_right fun h => ?_⟩
    obtain ⟨j, hj, rfl⟩ := List.mem_map.mp h
    exact ⟨j, hj, rfl⟩
  · rintro ⟨m, hm, hf, ha⟩
    refine ⟨(m.1, m.2, refuseNode d i (viewOf d set) m.1 m.2), mem_badNodes.mpr ⟨hm, hf, rfl⟩, List.mem_append.mpr (ha.imp_right fun h => ?_)⟩
    obtain ⟨j, hj, rfl⟩ := h
    exact List.mem_map.mpr ⟨j, hj, rfl⟩

/-- What a judgement rests on is read from the settings and the carries. -/
theorem badNodes_latches {e : Dev} (h : Dev.Latches i d e) (hi : i < 8) (v : View) : badNodes i v e = badNodes i v d := by
  have halike := h.alike hi
  rw [badNodes, halike.members hi]
  refine List.filterMap_congr fun m hm => ?_
  rw [halike.refuseNode hi (members_span hm).2 (h.carry m.2)]

theorem droppedAddrs_latches {e : Dev} (h : Dev.Latches i d e) (hi : i < 8) (bad : List (Nat × Nat × Nat)) : droppedAddrs i bad e = droppedAddrs i bad d := by
  have halike := h.alike hi
  unfold droppedAddrs
  simp only [halike.slotRange hi, halike.nodeSlots hi]

theorem judgeSet_good {e : Dev} (h : Dev.Latches i d e) (hi : i < 8) (hg : ∀ m ∈ d.members i, ¬ FailsSet d i set m) : judgeSet i set e = latchSet i set e := by
  rw [judgeSet, (h.alike hi).viewOf, badNodes_latches h hi, badNodes_nil.mpr hg]
  rfl

/-- A set that fails for a node is refused, whole or in part. -/
theorem judgeSet_bad {e : Dev} (h : Dev.Latches i d e) (hi : i < 8) (hb : ∃ m ∈ d.members i, FailsSet d i set m) :
    ∃ n r, (WideSet d i set → judgeSet i set e = noteRefusal i 0x7F r e) ∧
      (¬ WideSet d i set → judgeSet i set e =
        latchSet i (set.filter (fun w => !(droppedAddrs i (badNodes i (viewOf d set) d) d).contains w.1)) (noteRefusal i n r e)) := by
  have halike := h.alike hi
  have hne : badNodes i (viewOf d set) d ≠ [] := fun hnil => by
    obtain ⟨m, hm, hf⟩ := hb
    exact badNodes_nil.mp hnil m hm hf
  have hwide : (stringAddrs i).any (fun a => viewOf d set a != d.rdF a) = true ↔ WideSet d i set := by
    simp only [List.any_eq_true, bne_iff_ne, WideSet]
  have heq : judgeSet i set e = latchOrRefuse i (badNodes i (viewOf d set) d) ((stringAddrs i).any (fun a => viewOf d set a != d.rdF a))
      (droppedAddrs i (badNodes i (viewOf d set) d) d) set e := by
    have hrdF : (fun a => viewOf d set a != e.rdF a) = fun a => viewOf d set a != d.rdF a := funext fun a => by rw [halike.rdF]
    rw [judgeSet, halike.viewOf, badNodes_latches h hi, droppedAddrs_latches h hi, hrdF]
  obtain ⟨⟨k, n, r⟩, hlast⟩ := Option.ne_none_iff_exists'.mp (mt List.getLast?_eq_none_iff.mp hne)
  rw [latchOrRefuse, hlast] at heq
  exact ⟨n, r, fun hw => heq.trans (if_pos (hwide.mpr hw)), fun hw => heq.trans (if_neg (mt hwide.mp hw))⟩

end

/-! ### What the status shows (R175, R181) -/

section
variable {i : Nat} (d : Dev)

theorem pendTaken_str : (pendTaken i d).str i = { d.str i with pend := none } := by
  rw [pendTaken, Dev.str_p, Dev.str_setStr_self]

theorem pendTaken_pending : (pendTaken i d).gb (bStr i) F.STR_COMMIT_STATUS_PENDING = false := gb_p_false _ _ (by decide)

theorem latchSet_str (set : SetV) : (latchSet i set d).str i = { d.str i with lat := some set, latMv := (d.str i).pendMv, pendMv := moves0 } := by
  rw [latchSet, Dev.str_p, Dev.str_setStr_self]

theorem latchSet_latched (set : SetV) : (latchSet i set d).gb (bStr i) F.STR_COMMIT_STATUS_LATCHED = true := gb_p_true _ _ (by decide) (by decide)

/-- The other bits of STR_COMMIT_STATUS stay when a set is latched. -/
theorem latchSet_gb (set : SetV) {f : Fld} (hf : f.off = F.STR_COMMIT_STATUS.off) (h : (2 ≤ f.lo ∧ f.lo ≤ 32) ∨ f.lo + f.w ≤ 1) : (latchSet i set d).gb (bStr i) f = d.gb (bStr i) f :=
  gb_p_disjoint (d.setStr i (fun x => { x with lat := some set, latMv := x.pendMv, pendMv := moves0 })) (bStr i) (f := F.STR_COMMIT_STATUS_LATCHED) 1 hf (by decide) h

theorem noteRefusal_str (n r : Nat) : (noteRefusal i n r d).str i = d.str i := by
  rw [noteRefusal, Dev.str_p, Dev.str_p, Dev.str_p]

theorem noteRefusal_refused (n r : Nat) : (noteRefusal i n r d).gb (bStr i) F.STR_COMMIT_STATUS_REFUSED = true := by
  rw [noteRefusal, gb_p_disjoint _ _ _ (by decide) (by decide) (by decide), gb_p_disjoint _ _ _ (by decide) (by decide) (by decide), gb_p_true _ _ (by decide) (by decide)]

theorem noteRefusal_node {n : Nat} (hn : n < 128) (r : Nat) : (noteRefusal i n r d).g (bStr i) F.STR_COMMIT_STATUS_REFUSED_NODE = n := by
  rw [noteRefusal, Dev.g_p_disjoint _ _ _ (by decide) (by decide) (by decide), Dev.g_p_self _ _ _ _ (by decide)]
  exact Nat.mod_eq_of_lt hn

theorem noteRefusal_pending (n r : Nat) : (noteRefusal i n r d).gb (bStr i) F.STR_COMMIT_STATUS_PENDING = d.gb (bStr i) F.STR_COMMIT_STATUS_PENDING := by
  rw [noteRefusal, gb_p_disjoint _ _ _ (by decide) (by decide) (by decide), gb_p_disjoint _ _ _ (by decide) (by decide) (by decide),
    gb_p_disjoint _ _ _ (by decide) (by decide) (by decide)]

end

/-! ### A pending set at the instant -/

/-- What the judgement of a pending set leaves. -/
def SetJudged (d : Dev) (i : Nat) (set : SetV) (e : Dev) : Prop :=
  (e.str i).pend = none ∧ (e.str i).latchAt = some d.tick ∧ e.gb (bStr i) F.STR_COMMIT_STATUS_PENDING = false ∧
    ((∀ m ∈ d.members i, ¬ FailsSet d i set m) → (e.str i).lat = some set ∧ (e.str i).latMv = (d.str i).pendMv ∧ e.gb (bStr i) F.STR_COMMIT_STATUS_LATCHED = true) ∧
    ((∃ m ∈ d.members i, FailsSet d i set m) → e.gb (bStr i) F.STR_COMMIT_STATUS_REFUSED = true ∧
      (WideSet d i set → (e.str i).lat = (d.str i).lat ∧ (e.str i).pendMv = (d.str i).pendMv ∧ e.g (bStr i) F.STR_COMMIT_STATUS_REFUSED_NODE = 0x7F) ∧
      (¬ WideSet d i set → e.gb (bStr i) F.STR_COMMIT_STATUS_LATCHED = true ∧ ∃ set', (e.str i).lat = some set' ∧ ∀ w, w ∈ set' ↔ w ∈ set ∧ ¬ DropsAddr d i set w.1))

theorem setJudged {i : Nat} (hi : i < 8) (set : SetV) (d : Dev) : SetJudged d i set (judgeSet i set (pendTaken i (latchTimes i d))) := by
  have hlatch : Dev.Latches i d (pendTaken i (latchTimes i d)) := (latches_latchTimes d).trans (latches_pendTaken _)
  have hstr : (pendTaken i (latchTimes i d)).str i = { d.str i with latchAt := some d.tick, pend := none } := by rw [pendTaken_str, latchTimes_str]
  have hpend := pendTaken_pending (i := i) (latchTimes i d)
  generalize pendTaken i (latchTimes i d) = x at *
  by_cases hg : ∀ m ∈ d.members i, ¬ FailsSet d i set m
  · rw [judgeSet_good hlatch hi hg]
    refine ⟨?_, ?_, ?_, fun _ => ⟨?_, ?_, latchSet_latched x set⟩, fun ⟨m, hm, hf⟩ => absurd hf (hg m hm)⟩
    · rw [latchSet_str, hstr]
    · rw [latchSet_str, hstr]
    · rw [latchSet_gb (f := F.STR_COMMIT_STATUS_PENDING) _ _ rfl (by decide), hpend]
    · rw [latchSet_str]
    · rw [latchSet_str, hstr]
  · have hb : ∃ m ∈ d.members i, FailsSet d i set m := by
      push Not at hg
      exact hg
    obtain ⟨n, r, hwide, hpart⟩ := judgeSet_bad hlatch hi hb
    by_cases hw : WideSet d i set
    · rw [hwide hw]
      refine ⟨?_, ?_, ?_, fun h => absurd h hg, fun _ => ⟨noteRefusal_refused x _ r, fun _ => ⟨?_, ?_, noteRefusal_node x (by decide) r⟩, fun h => absurd hw h⟩⟩
      · rw [noteRefusal_str, hstr]
      · rw [noteRefusal_str, hstr]
      · rw [noteRefusal_pending, hpend]
      · rw [noteRefusal_str, hstr]
      · rw [noteRefusal_str, hstr]
    · rw [hpart hw]
      refine ⟨?_, ?_, ?_, fun h => absurd h hg, fun _ => ⟨?_, fun h => absurd h hw, fun _ => ⟨latchSet_latched _ _, _, congrArg StrSt.lat (latchSet_str _ _), fun w => ?_⟩⟩⟩
      · rw [latchSet_str, noteRefusal_str, hstr]
      · rw [latchSet_str, noteRefusal_str, hstr]
      · rw [latchSet_gb (f := F.STR_COMMIT_STATUS_PENDING) _ _ rfl (by decide), noteRefusal_pending, hpend]
      · rw [latchSet_gb (f := F.STR_COMMIT_STATUS_REFUSED) _ _ rfl (by decide), noteRefusal_refused]
      · rw [List.mem_filter, Bool.not_eq_true', ← Bool.not_eq_true, List.contains_iff_mem, mem_droppedAddrs]

theorem latchInstant_judges (i : Fin 8) (s : State) (set : SetV) (h : reloadIn s.d i.val 8 = true) (hl : (s.d.str i.val).latchAt ≠ some s.d.tick)
    (hp : (s.d.str i.val).pend = some set) : Does (exec (.latchInstant i) s) s (fun e =>
      SetJudged s.d i.val set e ∧ (∀ a, a ≠ bStr i.val + F.STR_COMMIT_STATUS.off → e.rd a = s.d.rd a) ∧ e = { s.d.fresh with strs := e.strs, legs := e.legs, regs := e.regs }) := by
  refine upd_does ?_
  have hnow : latchString i.val s.d.fresh = judgeSet i.val set (pendTaken i.val (latchTimes i.val s.d.fresh)) := by
    rw [latchString_takes (d := s.d.fresh) ((reloadIn_fresh s.d i.isLt 8).trans h) hl, latchNow_some (d := s.d.fresh) hp]
  have hlatch := latches_latchString (i := i.val) s.d.fresh
  have hjudge := setJudged i.isLt set s.d.fresh
  rw [← hnow] at hjudge
  generalize latchString i.val s.d.fresh = e at *
  exact ⟨hjudge, hlatch.rd, hlatch.only⟩

end Sys2Proof.Machine
end

section
/-! SUPPORT. What a reload does beside its set and its string: downloads, positions, self-tests and legs (R170, R290, R352, R357, R361, R407). -/

namespace Sys2Proof.Machine

/-! ### Operations beside a reload -/

/-- `e` has the strings, the values in force, the tick and the events of `d`, and what STR_COMMIT_STATUS and STR_STATUS of string i show. -/
structure Dev.Beside (i : Nat) (d e : Dev) : Prop where
  strs : e.strs = d.strs
  force : e.force = d.force
  tick : e.tick = d.tick
  due : e.due = d.due
  commit : e.rd (bStr i + F.STR_COMMIT_STATUS.off) = d.rd (bStr i + F.STR_COMMIT_STATUS.off)
  status : e.rd (bStr i + F.STR_STATUS.off) = d.rd (bStr i + F.STR_STATUS.off)

namespace Dev.Beside
variable {i : Nat} {d e f : Dev}

theorem refl (d : Dev) : Dev.Beside i d d := ⟨rfl, rfl, rfl, rfl, rfl, rfl⟩

theorem trans (h : Dev.Beside i d e) (k : Dev.Beside i e f) : Dev.Beside i d f :=
  ⟨k.strs.trans h.strs, k.force.trans h.force, k.tick.trans h.tick, k.due.trans h.due, k.commit.trans h.commit, k.status.trans h.status⟩

theorem on (c : Bool) {g : Dev → Dev} (h : Dev.Beside i d (g d)) : Dev.Beside i d (d.on c g) := by
  cases c
  · exact refl d
  · exact h

theorem each {α : Type} {g : α → Dev → Dev} (h : ∀ x d, Dev.Beside i d (g x d)) (l : List α) (d : Dev) : Dev.Beside i d (d.each l g) :=
  each_keeps (P := fun e => Dev.Beside i d e) (fun x _ _ he => he.trans (h x _)) d (refl d)

theorem setNode (d : Dev) (n : Nat) (g : NodeSt → NodeSt) : Dev.Beside i d (d.setNode n g) := ⟨rfl, rfl, rfl, rfl, rfl, rfl⟩

theorem setLeg (d : Dev) (n y : Nat) (g : LegSt → LegSt) : Dev.Beside i d (d.setLeg n y g) := ⟨rfl, rfl, rfl, rfl, rfl, rfl⟩

theorem setPort (d : Dev) (p : Nat) (g : PortSt → PortSt) : Dev.Beside i d (d.setPort p g) := ⟨rfl, rfl, rfl, rfl, rfl, rfl⟩

theorem p (d : Dev) {b : Nat} {f : Fld} (v : Nat) (h1 : bStr i + F.STR_COMMIT_STATUS.off ≠ b + f.off) (h2 : bStr i + F.STR_STATUS.off ≠ b + f.off) : Dev.Beside i d (d.p b f v) :=
  ⟨rfl, rfl, rfl, rfl, Dev.rd_p_ne d f v h1, Dev.rd_p_ne d f v h2⟩

theorem edges (h : d.EdgesOnly e) : Dev.Beside i d e := by
  have hr : e.regs = d.regs := by rw [h]
  exact ⟨by rw [h], by rw [h], by rw [h], by rw [h], Dev.rd_congr hr _, Dev.rd_congr hr _⟩

end Dev.Beside

section
variable {i : Nat}

theorem beside_setPos (k v : Nat) (d : Dev) : Dev.Beside i d (setPos i k v d) := by
  refine Dev.Beside.p d v ?_ ?_ <;> simp only [posFld, F.STR_POS_STATE, F.STR_COMMIT_STATUS, F.STR_STATUS] <;> omega

theorem beside_mgmtSend (p op addr len : Nat) (data : List Byte) (src : Option Nat) (d : Dev) : Dev.Beside i d (mgmtSend p op addr len data src d) := by
  unfold mgmtSend
  split
  · exact Dev.Beside.refl d
  · exact Dev.Beside.setPort d p _

theorem beside_sendDetect (n m : Nat) (d : Dev) : Dev.Beside i d (sendDetect n m d) := (beside_mgmtSend _ _ _ _ _ _ d).trans (Dev.Beside.setNode _ n _)

theorem beside_beginRecovery (n : Nat) (d : Dev) : Dev.Beside i d (beginRecovery n d) := by
  unfold beginRecovery
  extract_lets r
  split
  · exact Dev.Beside.refl d
  · exact (Dev.Beside.setNode d n _).trans (beside_sendDetect n 2 _)

theorem beside_runSelfTest (n sw comp : Nat) (d : Dev) : Dev.Beside i d (runSelfTest n sw comp d) := by
  unfold runSelfTest execNode
  exact (beside_mgmtSend _ _ _ _ _ _ d).trans (Dev.Beside.setNode _ n _)

theorem beside_serveSelfTests (ns : List Nat) (d : Dev) : Dev.Beside i d (serveSelfTests ns d) := by
  refine Dev.Beside.each (fun n d => ?_) _ d
  unfold serveSelfTest
  extract_lets x m
  split
  · exact beside_runSelfTest n m 15 d
  · exact Dev.Beside.refl d

theorem beside_joinPattern (n y : Nat) (centre : Bool) (d : Dev) : Dev.Beside i d (joinPattern i n y centre d) := by
  unfold joinPattern
  exact Dev.Beside.setLeg d n y _

theorem beside_leaveAt (k t : Nat) (d : Dev) : Dev.Beside i d (leaveAt i k t d) :=
  ((Dev.Beside.edges (edgesOnly_sendFencesFrom _ _ _ d)).trans (Dev.Beside.each (fun y d => Dev.Beside.setLeg d _ y _) (upto 6) _)).trans (beside_setPos k 1 _)

theorem beside_enterAt (k : Nat) (centre : Bool) (d : Dev) : Dev.Beside i d (enterAt i k centre d) := by
  unfold enterAt
  extract_lets n s
  have hs : Dev.Beside i d s := Dev.Beside.each (fun y d => beside_joinPattern n y centre d) (upto 6) d
  exact ((hs.trans (Dev.Beside.setPort s _ _)).trans (beside_setPos k 0 _)).trans (beside_beginRecovery n _)

theorem beside_movePositions (t : Nat) (centre : Bool) (mv : Moves) (d : Dev) : Dev.Beside i d (movePositions i t centre mv d) := by
  unfold movePositions
  extract_lets moved tested
  have hmoved : Dev.Beside i d moved := by
    refine Dev.Beside.each (fun k d => ?_) _ d
    split_ifs
    · exact beside_leaveAt k t d
    · exact beside_setPos k 1 d
    · exact beside_enterAt k centre d
    · exact Dev.Beside.refl d
  have htested : Dev.Beside i d tested := hmoved.trans (beside_serveSelfTests _ moved)
  clear_value tested
  refine htested.trans (Dev.Beside.on _ (Dev.Beside.p tested (f := F.STR_CELL_STATUS_N) _ ?_ ?_)) <;>
    simp only [F.STR_CELL_STATUS_N, F.STR_COMMIT_STATUS, F.STR_STATUS] <;> omega

theorem beside_releaseLegs (centre : Bool) (d : Dev) : Dev.Beside i d (releaseLegs i centre d) := by
  refine Dev.Beside.each (fun m d => Dev.Beside.each (fun y d => ?_) _ d) _ d
  split
  · exact beside_joinPattern m.2 y centre d
  · exact Dev.Beside.refl d

theorem beside_keepSlots (set : SetV) (d : Dev) : Dev.Beside i d (keepSlots i set d) := by
  refine Dev.Beside.each (fun m d => ?_) _ d
  split
  · exact Dev.Beside.setNode d m.2 _
  · exact Dev.Beside.setNode d m.2 _

theorem beside_setParamOk (n : Nat) (b : Bool) (d : Dev) : Dev.Beside i d (setParamOk n b d) := by
  refine (Dev.Beside.setNode d n _).trans (Dev.Beside.p _ (f := F.NODE_STATE_PARAM_OK) _ ?_ ?_) <;>
    simp only [bStr, bNode, F.NODE_STATE_PARAM_OK, F.STR_COMMIT_STATUS, F.STR_STATUS] <;> omega

theorem beside_download (n : Nat) (d : Dev) : Dev.Beside i d (download n d) := by
  unfold download
  extract_lets p shown cleared asked pieces
  have hshown : Dev.Beside i d shown := beside_setParamOk n false d
  have hcleared : Dev.Beside i d cleared := hshown.trans (Dev.Beside.setPort shown p _)
  have hasked : Dev.Beside i d asked := hcleared.trans (Dev.Beside.setPort cleared p _)
  have hpieces : Dev.Beside i d pieces := hasked.trans (Dev.Beside.each (fun w d => beside_mgmtSend _ _ _ _ _ _ d) _ asked)
  clear_value shown cleared asked pieces
  split_ifs
  · exact hcleared.trans (beside_mgmtSend _ _ _ _ _ _ cleared)
  · exact hpieces.trans (beside_mgmtSend _ _ _ _ _ _ pieces)
  · exact hshown

theorem beside_redownload (ns : List Nat) (old d : Dev) : Dev.Beside i d (redownload ns old d) := Dev.Beside.each (fun n d => beside_download n d) _ d

end

end Sys2Proof.Machine
end

section
/-! SUPPORT. A reload of a string, and the commit, the latch instant and the reload together (R178 to R191). -/

namespace Sys2Proof.Machine

/-! ### The latched set comes into force (R179, R183) -/

/-- The latched set of a string stands in force, and its parameters are on their way. -/
def setBrought (i : Nat) (d : Dev) : Dev :=
  match (d.str i).lat with
  | none => d
  | some set => redownload ((d.members i).map Prod.snd) d (applySet set (keepSlots i set d))

/-- A string as a reload leaves it, before its next period is formed. -/
def strReloaded (tick : Nat) (new : Bool) (x : StrSt) : StrSt := { x with lat := none, reloadAt := some tick, perNew := x.perNew || new, ready := !x.stepsOpen }

/-- A reload is noted in its string, and shown. -/
def reloadNoted (i : Nat) (new : Bool) (d : Dev) : Dev :=
  ((d.setStr i (strReloaded d.tick new)).p (bStr i) F.STR_COMMIT_STATUS_LATCHED 0).inc (bStr i) F.STR_STATUS_RELOAD_CNT

/-- A reload of a string, up to the part that its place in the period decides. -/
def reloadTaken (i : Nat) (d : Dev) : Dev := (bringIn i d).setStr i (fun x => { x with latMv := moves0 })

theorem bringIn_eq (i : Nat) (d : Dev) : ∃ new, bringIn i d = reloadNoted i new (setBrought i d) := ⟨_, rfl⟩

/-- What a reload has done once its set stands in force. -/
structure SetReloaded (i : Nat) (d e : Dev) : Prop where
  str : e.str i = { d.str i with lat := none, latMv := moves0, reloadAt := some d.tick, perNew := (e.str i).perNew, ready := !(d.str i).stepsOpen }
  others : ∀ j, j ≠ i → e.str j = d.str j
  tick : e.tick = d.tick
  due : e.due = d.due
  forced : Forced (d.str i).lat d e
  latched : e.gb (bStr i) F.STR_COMMIT_STATUS_LATCHED = false
  count : e.g (bStr i) F.STR_STATUS_RELOAD_CNT = (d.g (bStr i) F.STR_STATUS_RELOAD_CNT + 1) % 65536

section
variable {i : Nat}

theorem beside_rdF {d e : Dev} (h : Dev.Beside i d e) (a : Nat) : e.rdF a = d.rdF a := by rw [Dev.rdF, h.force, Dev.rdF]

/-- A field reads as before where its register does. -/
theorem Dev.g_of_rd {d e : Dev} {b : Nat} {f : Fld} (h : e.rd (b + f.off) = d.rd (b + f.off)) : e.g b f = d.g b f := by rw [Dev.g, h, Dev.g]

theorem forced_applySet {d e : Dev} (h : Dev.Beside i d e) (set : SetV) : Forced (some set) d (applySet set e) := by
  refine ⟨fun hn => (nomatch hn), fun s hs => ?_⟩
  rw [← Option.some.inj hs]
  exact ⟨fun a ha => (applySet_out set e ha).trans (beside_rdF h a), fun w hw hu => applySet_in set e hw hu⟩

theorem applySet_str (set : SetV) (d : Dev) (j : Nat) : (applySet set d).str j = d.str j := by
  rw [applySet_only]
  rfl

/-- A set that comes into force is no change of a register, the strings, the tick or the events. -/
theorem setBrought_does (d : Dev) : (setBrought i d).strs = d.strs ∧ (setBrought i d).tick = d.tick ∧ (setBrought i d).due = d.due ∧
    (setBrought i d).rd (bStr i + F.STR_STATUS.off) = d.rd (bStr i + F.STR_STATUS.off) ∧ Forced (d.str i).lat d (setBrought i d) := by
  unfold setBrought
  cases (d.str i).lat with
  | none => exact ⟨rfl, rfl, rfl, rfl, fun _ => rfl, fun _ h => (nomatch h)⟩
  | some set =>
    have hkeep : Dev.Beside i d (keepSlots i set d) := beside_keepSlots set d
    have hforced := forced_applySet hkeep set
    have honly := applySet_only set (keepSlots i set d)
    have hdown := beside_redownload (i := i) ((d.members i).map Prod.snd) d (applySet set (keepSlots i set d))
    simp only []
    generalize applySet set (keepSlots i set d) = x at *
    have hstrs : x.strs = d.strs := by rw [honly, ← hkeep.strs]
    have htick : x.tick = d.tick := by rw [honly, ← hkeep.tick]
    have hdue : x.due = d.due := by rw [honly, ← hkeep.due]
    have hregs : x.regs = (keepSlots i set d).regs := by rw [honly]
    exact ⟨hdown.strs.trans hstrs, hdown.tick.trans htick, hdown.due.trans hdue, hdown.status.trans ((Dev.rd_congr hregs _).trans hkeep.status), hforced.congr hdown.force⟩

theorem reloadNoted_str (new : Bool) (d : Dev) (j : Nat) : (reloadNoted i new d).str j = (d.setStr i (strReloaded d.tick new)).str j := by
  rw [reloadNoted, Dev.inc, Dev.str_p, Dev.str_p]

theorem setStr_p_p_only (d : Dev) (j : Nat) (g : StrSt → StrSt) (b : Nat) (f : Fld) (v c : Nat) (k : Fld) (w : Nat) : ((d.setStr j g).p b f v).p c k w =
    { d with strs := (d.setStr j g).strs, regs := (((d.setStr j g).p b f v).p c k w).regs } := rfl

theorem reloadNoted_only (new : Bool) (d : Dev) : ∃ strs regs, reloadNoted i new d = { d with strs := strs, regs := regs } := ⟨_, _, setStr_p_p_only d _ _ _ _ _ _ _ _⟩

theorem reloadNoted_latched (new : Bool) (d : Dev) : (reloadNoted i new d).gb (bStr i) F.STR_COMMIT_STATUS_LATCHED = false := by
  have hoff : bStr i + F.STR_COMMIT_STATUS_LATCHED.off ≠ bStr i + F.STR_STATUS_RELOAD_CNT.off := by
    simp only [F.STR_COMMIT_STATUS_LATCHED, F.STR_STATUS_RELOAD_CNT]
    omega
  rw [reloadNoted, Dev.inc, Dev.gb, Dev.g_p_ne _ _ hoff, ← Dev.gb, gb_p_false _ _ (by decide)]

theorem Dev.gb_setStr (d : Dev) (j : Nat) (f : StrSt → StrSt) (b : Nat) (x : Fld) : (d.setStr j f).gb b x = d.gb b x := rfl

theorem Dev.g_setStr (d : Dev) (j : Nat) (f : StrSt → StrSt) (b : Nat) (x : Fld) : (d.setStr j f).g b x = d.g b x := rfl

theorem reloadNoted_count (new : Bool) (d : Dev) : (reloadNoted i new d).g (bStr i) F.STR_STATUS_RELOAD_CNT = (d.g (bStr i) F.STR_STATUS_RELOAD_CNT + 1) % 65536 := by
  have hoff : bStr i + F.STR_STATUS_RELOAD_CNT.off ≠ bStr i + F.STR_COMMIT_STATUS_LATCHED.off := by
    simp only [F.STR_COMMIT_STATUS_LATCHED, F.STR_STATUS_RELOAD_CNT]
    omega
  rw [reloadNoted, Dev.inc, Dev.g_p_self _ _ _ _ (by decide), Dev.g_p_ne _ _ hoff, Dev.g_setStr]
  rfl

theorem reloadTaken_does (d : Dev) : SetReloaded i d (reloadTaken i d) := by
  obtain ⟨hstrs, htick, hdue, hstatus, hforced⟩ := setBrought_does (i := i) d
  obtain ⟨new, hbring⟩ := bringIn_eq i d
  have hstr (j : Nat) : (setBrought i d).str j = d.str j := by rw [Dev.str, hstrs, Dev.str]
  have hcnt : (setBrought i d).g (bStr i) F.STR_STATUS_RELOAD_CNT = d.g (bStr i) F.STR_STATUS_RELOAD_CNT := Dev.g_of_rd hstatus
  rw [reloadTaken, hbring]
  generalize setBrought i d = x at *
  have hnoted := reloadNoted_str (i := i) new x
  obtain ⟨strs, regs, honly⟩ := reloadNoted_only (i := i) new x
  have hlatched := reloadNoted_latched (i := i) new x
  have hcount := reloadNoted_count (i := i) new x
  generalize reloadNoted i new x = y at *
  have hyi : y.str i = strReloaded d.tick new (d.str i) := by rw [hnoted, Dev.str_setStr_self, hstr, htick]
  refine ⟨?_, fun j hj => ?_, ?_, ?_, ?_, (Dev.gb_setStr _ _ _ _ _).trans hlatched, ?_⟩
  · rw [Dev.str_setStr_self, hyi]
    rfl
  · rw [Dev.str_setStr_ne _ _ hj, hnoted, Dev.str_setStr_ne _ _ hj, hstr]
  · rw [← htick, honly]
    rfl
  · rw [← hdue, honly]
    rfl
  · refine hforced.congr ?_
    rw [honly]
    rfl
  · rw [Dev.g_setStr, hcount, hcnt]

end

/-! ### The two places of a reload (R156, R178) -/

/-- `e` differs from `d` in string i and beside it; its sets and what a reload shows stay. -/
structure Dev.PeriodOnly (i : Nat) (d e : Dev) : Prop where
  others : ∀ j, j ≠ i → e.str j = d.str j
  lat : (e.str i).lat = (d.str i).lat
  latMv : (e.str i).latMv = (d.str i).latMv
  reloadAt : (e.str i).reloadAt = (d.str i).reloadAt
  ready : (e.str i).ready = (d.str i).ready
  tick : e.tick = d.tick
  due : e.due = d.due
  force : e.force = d.force
  latched : e.gb (bStr i) F.STR_COMMIT_STATUS_LATCHED = d.gb (bStr i) F.STR_COMMIT_STATUS_LATCHED
  count : e.g (bStr i) F.STR_STATUS_RELOAD_CNT = d.g (bStr i) F.STR_STATUS_RELOAD_CNT

section
variable {i : Nat}

theorem Dev.PeriodOnly.beside {d e f : Dev} (h : Dev.PeriodOnly i d e) (k : Dev.Beside i e f) : Dev.PeriodOnly i d f := by
  have hstr (j : Nat) : f.str j = e.str j := by rw [Dev.str, k.strs, Dev.str]
  have hlatched : f.gb (bStr i) F.STR_COMMIT_STATUS_LATCHED = e.gb (bStr i) F.STR_COMMIT_STATUS_LATCHED := by
    rw [Dev.gb, Dev.g_of_rd (f := F.STR_COMMIT_STATUS_LATCHED) k.commit, Dev.gb]
  have hcount : f.g (bStr i) F.STR_STATUS_RELOAD_CNT = e.g (bStr i) F.STR_STATUS_RELOAD_CNT := Dev.g_of_rd k.status
  refine ⟨fun j hj => (hstr j).trans (h.others j hj), ?_, ?_, ?_, ?_, k.tick.trans h.tick, k.due.trans h.due, k.force.trans h.force, hlatched.trans h.latched, hcount.trans h.count⟩
  · rw [hstr, h.lat]
  · rw [hstr, h.latMv]
  · rw [hstr, h.reloadAt]
  · rw [hstr, h.ready]

theorem periodOnly_setStr (d : Dev) {g : StrSt → StrSt}
    (hg : (g (d.str i)).lat = (d.str i).lat ∧ (g (d.str i)).latMv = (d.str i).latMv ∧ (g (d.str i)).reloadAt = (d.str i).reloadAt ∧ (g (d.str i)).ready = (d.str i).ready) :
    Dev.PeriodOnly i d (d.setStr i g) := by
  obtain ⟨hlat, hmv, hat, hready⟩ := hg
  refine ⟨fun j hj => Dev.str_setStr_ne d g hj, ?_, ?_, ?_, ?_, rfl, rfl, rfl, rfl, rfl⟩
  · rw [Dev.str_setStr_self, hlat]
  · rw [Dev.str_setStr_self, hmv]
  · rw [Dev.str_setStr_self, hat]
  · rw [Dev.str_setStr_self, hready]

theorem str_beside {d e : Dev} (h : Dev.Beside i d e) (j : Nat) : e.str j = d.str j := by rw [Dev.str, h.strs, Dev.str]

theorem centreReload_does (mv : Moves) (d : Dev) : Dev.PeriodOnly i d (centreReload i mv d) ∧
    ((centreReload i mv d).str i).perStart = (d.str i).perStart ∧ ((centreReload i mv d).str i).atCentre = false := by
  unfold centreReload
  extract_lets st
  have hown : (d.setStr i (fun x => { x with atCentre := false })).str i = { d.str i with atCentre := false } := Dev.str_setStr_self d i _
  have hperiod : Dev.PeriodOnly i d (d.setStr i (fun x => { x with atCentre := false })) := periodOnly_setStr d ⟨rfl, rfl, rfl, rfl⟩
  generalize d.setStr i (fun x => { x with atCentre := false }) = x at *
  have hbeside : Dev.Beside i x (releaseLegs i true (movePositions i (st.perStart + st.perBase / 2) true mv x)) :=
    (beside_movePositions _ true mv x).trans (beside_releaseLegs true _)
  refine ⟨hperiod.beside hbeside, ?_, ?_⟩
  · rw [str_beside hbeside, hown]
  · rw [str_beside hbeside, hown]

/-- The lock of a carrier to its anchor is shown beside RELOAD_CNT. -/
theorem periodOnly_lock (lock : Bool) (d : Dev) : Dev.PeriodOnly i d (d.pb (bStr i) F.STR_STATUS_ANCHOR_LOCK lock) := by
  have hstr (j : Nat) : (d.pb (bStr i) F.STR_STATUS_ANCHOR_LOCK lock).str j = d.str j := Dev.str_p d _ _ _ j
  have hoff : bStr i + F.STR_COMMIT_STATUS_LATCHED.off ≠ bStr i + F.STR_STATUS_ANCHOR_LOCK.off := by
    simp only [F.STR_COMMIT_STATUS_LATCHED, F.STR_STATUS_ANCHOR_LOCK]
    omega
  refine ⟨fun j _ => hstr j, ?_, ?_, ?_, ?_, rfl, rfl, rfl, ?_, ?_⟩
  · rw [hstr]
  · rw [hstr]
  · rw [hstr]
  · rw [hstr]
  · rw [Dev.pb, Dev.gb, Dev.g_p_ne _ _ hoff, Dev.gb]
  · rw [Dev.pb, Dev.g_p_disjoint _ _ _ (by decide) (by decide) (by decide)]

theorem Dev.PeriodOnly.trans {d e f : Dev} (h : Dev.PeriodOnly i d e) (k : Dev.PeriodOnly i e f) : Dev.PeriodOnly i d f :=
  ⟨fun j hj => (k.others j hj).trans (h.others j hj), k.lat.trans h.lat, k.latMv.trans h.latMv, k.reloadAt.trans h.reloadAt, k.ready.trans h.ready, k.tick.trans h.tick,
    k.due.trans h.due, k.force.trans h.force, k.latched.trans h.latched, k.count.trans h.count⟩

theorem periodReload_does (mv : Moves) (d : Dev) : Dev.PeriodOnly i d (periodReload i mv d) ∧
    ((periodReload i mv d).str i).waitFirst = false ∧ ((d.str i).waitFirst = false → ((periodReload i mv d).str i).perStart = nextReload (d.str i)) := by
  unfold periodReload
  extract_lets b st v per now t err lim trim jump base len lock reload set begun kept
  have hown : (begun.str i).waitFirst = false ∧ (begun.str i).perStart = t := by
    rw [show begun.str i = _ from Dev.str_setStr_self d i _]
    exact ⟨rfl, rfl⟩
  have hbegun : Dev.PeriodOnly i d begun := periodOnly_setStr d ⟨rfl, rfl, rfl, rfl⟩
  have hkept : Dev.Beside i begun kept := Dev.Beside.each (fun (m : Nat × Nat) x => Dev.Beside.setNode x m.2 _) _ begun
  have hlock := periodOnly_lock (i := i) lock kept
  have hstr : (kept.pb (bStr i) F.STR_STATUS_ANCHOR_LOCK lock).str i = kept.str i := Dev.str_p kept _ _ _ i
  have ht : st.waitFirst = false → t = nextReload st := fun h => if_neg (by rw [h]; exact Bool.false_ne_true)
  clear_value kept begun lock t
  have hshown := (hbegun.beside hkept).trans hlock
  generalize kept.pb (bStr i) F.STR_STATUS_ANCHOR_LOCK lock = x at *
  have hbeside : Dev.Beside i x (releaseLegs i false (movePositions i t false mv x)) := (beside_movePositions t false mv x).trans (beside_releaseLegs false _)
  have hfinal : (releaseLegs i false (movePositions i t false mv x)).str i = begun.str i := (str_beside hbeside i).trans (hstr.trans (str_beside hkept i))
  refine ⟨hshown.beside hbeside, ?_, fun h => ?_⟩
  · rw [hfinal, hown.1]
  · rw [hfinal, hown.2, ht h]

end

/-! ### The reload as a command -/

theorem stringReload_idle {i : Nat} {d : Dev} (h : (d.str i).started = false ∨ reloadIn d i 0 = false ∨ (d.str i).reloadAt = some d.tick) : stringReload i d = d := by
  have hwait : (!reloadIn d i 0 || (d.str i).reloadAt == some d.tick) = true := by
    rcases h with h | h | h
    · rw [show reloadIn d i 0 = false by simp [reloadIn, h]]
      rfl
    · rw [h]
      rfl
    · rw [h, beq_self_eq_true, Bool.or_true]
  exact if_pos hwait

theorem stringReload_takes {i : Nat} {d : Dev} (h : reloadIn d i 0 = true) (hr : (d.str i).reloadAt ≠ some d.tick) :
    ∃ mv, stringReload i d = if (d.str i).atCentre then centreReload i mv (reloadTaken i d) else periodReload i mv (reloadTaken i d) := by
  have hgo : ¬ (!reloadIn d i 0 || (d.str i).reloadAt == some d.tick) = true := by simp [h, hr]
  exact ⟨_, if_neg hgo⟩

theorem stringReload_waits (i : Fin 8) (s : State) (h : (s.d.str i.val).started = false ∨ reloadIn s.d i.val 0 = false ∨ (s.d.str i.val).reloadAt = some s.d.tick) :
    Does (exec (.stringReload i) s) s (fun e => e = s.d.fresh) := by
  rw [← reloadIn_fresh s.d i.isLt] at h
  exact upd_does (stringReload_idle (d := s.d.fresh) h)

/-- What a reload leaves. -/
def ReloadDone (d : Dev) (i : Nat) (e : Dev) : Prop :=
  (e.str i).lat = none ∧ (e.str i).latMv = moves0 ∧ (e.str i).reloadAt = some d.tick ∧ e.gb (bStr i) F.STR_COMMIT_STATUS_LATCHED = false ∧
    e.g (bStr i) F.STR_STATUS_RELOAD_CNT = (d.g (bStr i) F.STR_STATUS_RELOAD_CNT + 1) % 65536 ∧
    ((d.str i).stepsOpen = false → (e.str i).ready = true) ∧ ((d.str i).atCentre = false → (e.str i).waitFirst = false) ∧
    ((d.str i).lat = none → e.force = d.force) ∧
    (∀ set, (d.str i).lat = some set → (∀ a, (∀ w ∈ set, w.1 ≠ a) → e.rdF a = d.rdF a) ∧ (∀ w ∈ set, (∀ x ∈ set, x.1 = w.1 → x = w) → e.rdF w.1 = w.2)) ∧
    ((d.str i).atCentre = true → (e.str i).perStart = (d.str i).perStart ∧ (e.str i).atCentre = false) ∧
    ((d.str i).atCentre = false → (d.str i).waitFirst = false → (e.str i).perStart = (d.str i).perStart + (d.str i).perLen) ∧
    (∀ j, j ≠ i → e.str j = d.str j) ∧ e.tick = d.tick ∧ e.due = d.due

theorem reloadDone {i : Nat} {d x e : Dev} (hx : SetReloaded i d x) (he : Dev.PeriodOnly i x e)
    (hcentre : (d.str i).atCentre = true → (e.str i).perStart = (x.str i).perStart ∧ (e.str i).atCentre = false)
    (hperiod : (d.str i).atCentre = false → (e.str i).waitFirst = false ∧ ((x.str i).waitFirst = false → (e.str i).perStart = nextReload (x.str i))) : ReloadDone d i e := by
  have hforced := hx.forced.congr he.force
  have hstr := hx.str
  refine ⟨?_, ?_, ?_, he.latched.trans hx.latched, he.count.trans hx.count, fun h => ?_, fun h => (hperiod h).1, hforced.1, hforced.2, fun h => ?_, fun h hw => ?_,
    fun j hj => (he.others j hj).trans (hx.others j hj), he.tick.trans hx.tick, he.due.trans hx.due⟩
  · rw [he.lat, hstr]
  · rw [he.latMv, hstr]
  · rw [he.reloadAt, hstr]
  · rw [he.ready, hstr]
    exact (congrArg (!·) h : (!(d.str i).stepsOpen) = !false)
  · refine ⟨(hcentre h).1.trans ?_, (hcentre h).2⟩
    rw [hstr]
  · have hw' : (x.str i).waitFirst = false := by rw [hstr, ← hw]
    have hnext : nextReload (x.str i) = (d.str i).perStart + (d.str i).perLen := by
      rw [hstr, nextReload, if_neg]
      simp only [h]
      exact Bool.false_ne_true
    exact ((hperiod h).2 hw').trans hnext

theorem stringReload_does (i : Fin 8) (s : State) (h : reloadIn s.d i.val 0 = true) (hr : (s.d.str i.val).reloadAt ≠ some s.d.tick) :
    Does (exec (.stringReload i) s) s (ReloadDone s.d i.val) := by
  refine upd_does ?_
  obtain ⟨mv, hmv⟩ := stringReload_takes (d := s.d.fresh) ((reloadIn_fresh s.d i.isLt 0).trans h) hr
  have hx := reloadTaken_does (i := i.val) s.d.fresh
  have hdone : ReloadDone s.d.fresh i.val (stringReload i.val s.d.fresh) := by
    rw [hmv]
    split
    · rename_i hc
      obtain ⟨honly, hstart, hat⟩ := centreReload_does (i := i.val) mv (reloadTaken i.val s.d.fresh)
      exact reloadDone hx honly (fun _ => ⟨hstart, hat⟩) (fun h => absurd (hc.symm.trans h) (by decide))
    · rename_i hc
      obtain ⟨honly, hwait, hstart⟩ := periodReload_does (i := i.val) mv (reloadTaken i.val s.d.fresh)
      exact reloadDone hx honly (fun h => absurd h hc) (fun _ => ⟨hwait, hstart⟩)
  generalize stringReload i.val s.d.fresh = e at *
  exact hdone

/-- Settles O16: a commit is its capture over the settings as they stand; the judgement rests on settings and carries that a latch leaves alone; nothing that follows a reload touches the values that it brings into force. -/
theorem commitsReachTheirReload : Obligations.CommitsReachTheirReload := by
  unfold Obligations.CommitsReachTheirReload
  refine ⟨⟨strCommit_serves, loadAll_serves⟩, ⟨latchInstant_waits, latchInstant_idle, fun i s set h hl hp => ?_⟩, stringReload_waits, stringReload_does⟩
  obtain ⟨e, he, ⟨hpend, hat, hpending, hgood, hbad⟩, hrd, honly⟩ := latchInstant_judges i s set h hl hp
  exact ⟨e, he, hpend, hat, hpending, hgood, hbad, hrd, honly⟩

end Sys2Proof.Machine
end
